-- ==== Sys2Proof/Word.lean ====
section
/-! DEFINITION. The words, pages and origins of the ZW1650 (spec 00, 02): the types every other file is written in. -/

namespace Sys2Proof

/-- A 32-bit register word (R28). -/
abbrev Word := BitVec 32
/-- One byte, as NVM and serial frames hold it. -/
abbrev Byte := BitVec 8
/-- A 24-bit byte address of the register map (R27). -/
abbrev Addr := BitVec 24
/-- A channel number, CH0 to CH15 (R9). -/
abbrev Ch := Fin 16
/-- A tenancy group number, TG0 to TG3 (R21). -/
abbrev Tg := Fin 4

/-- The device pages of 02 Table 1, in its row order (R27). -/
inductive DevPage where
  | dev | host | jrnl | job | nvm | clk | pwr | trim | bist | alrm | thrm
  | tk | life | cmt | cap | trig | tg | cmtw | capw | nvmw
  deriving DecidableEq, Repr

/-- The channel pages of 02 Table 2, in its row order (R27). -/
inductive ChPage where
  | ch | pcs | fec | afe | eq | an | hl | ktl | diag | rly | cnt
  deriving DecidableEq, Repr

/-- A register page: one of the device, or one of channel n (R27). -/
inductive Page where
  | dev (p : DevPage)
  | chan (n : Ch) (p : ChPage)
  deriving DecidableEq, Repr

/-- The origins of register accesses, 02 Table 18. -/
inductive Origin where
  | hsa | hsb | mdio
  | remote (n : Ch)
  | device | job | restore | jtag
  deriving DecidableEq, Repr

/-- The power-domain states of 01 Table 3; OFF < RETAIN < ON (R14). -/
inductive PState where
  | off | retain | on
  deriving DecidableEq, Repr

/-- A serial port of the host port: HSA or HSB. -/
inductive SPort where
  | hsa | hsb
  deriving DecidableEq, Repr

/-- The end of a frame field read most significant byte first. -/
def beNat : List Byte → Nat
  | [] => 0
  | b :: r => b.toNat * 256 ^ r.length + beNat r

end Sys2Proof
end

