-- ==== Sys2Proof/Syntax.lean ====
section
/-! DEFINITION. The commands the ZW1650 takes (the spec's table of operations and events) and the data they carry. -/

namespace Sys2Proof

/-- A moon-copied clock domain that posted writes go to (R36), by the register chapters' own assignment (R107, R133, R173, R175, R215, R217, R239, R276, R332). -/
inductive PDom where
  | adc (n : Ch) | dac (n : Ch) | rx (n : Ch) | tx (n : Ch) | time (n : Ch) | diag (n : Ch) | rly (n : Ch)
  | tpll | chanReg | therm
  deriving DecidableEq, Repr

/-- What a job step meets in the units it uses: one record for every job type. -/
structure StepEnv where
  /-- Measured numbers of the step, in the order the job's rule gives them: of a TDR step the powers of its 8 listen periods in 0.1 dBm, then the 9,216 samples of each of its 8 captures (R231). -/
  vals : List Int := []
  /-- Failing cells a march step found: instance, row, column (R397). -/
  cells : List (Nat × Nat × Nat) := []
  /-- LDPC units that failed: 0 engine A, 1 engine B, 2 encoder (R392). -/
  logic : List (Fin 3) := []
  /-- The step of the job's rule that this job step belongs to ends with it. -/
  last : Bool := true
  /-- A unit that the step uses has a fault, or a verify fails. -/
  fault : Bool := false
  deriving DecidableEq, Repr

/-- What a monitor of a reference has seen (R342): so many ns without an edge, or the edges of one window. -/
inductive RefSeen where
  | silent (ns : Nat) | window (edges : Nat)
  deriving DecidableEq, Repr

/-- What a side of a crossing has sampled twice (R357): request and acknowledge, a gray-coded pointer, or its own and the other pointer with the FIFO's size. -/
inductive CrossSeen where
  | phases (was now : Bool × Bool) | gray (was now : BitVec 16) | pointers (own other size : Nat)
  deriving DecidableEq, Repr

/-- The device's loops, 12 Table 2 (R335). -/
inductive Pll where
  | spll | tpll | cpll (n : Ch) | hpll (n : Ch) | opll (k : Fin 2)
  deriving DecidableEq, Repr

/-- The outputs that spread, 12 Table 9 (R353). -/
inductive SscOut where
  | line (n : Ch) | hl (n : Ch) | clkout (k : Fin 2)
  deriving DecidableEq, Repr

/-- A 65-bit block (R102): the header bit, 1 for control, and 64 payload bits, the first sent at bit 0. -/
structure Blk where
  ctrl : Bool
  payload : BitVec 64
  deriving DecidableEq, Repr

/-- Orbit types, 04 Table 6 (R84). -/
inductive OrbitTy where
  | data | eclipse | refresh | train | wake | quiet
  deriving DecidableEq, Repr

/-- The information of a KTL field, 04 Table 8 (R93). -/
structure KtlField where
  version : BitVec 4
  ty : BitVec 4
  flags : BitVec 8
  orbit : BitVec 32
  txSec : BitVec 16
  txNs : BitVec 32
  txFrac : BitVec 16
  echoSec : BitVec 16
  echoNs : BitVec 32
  echoFrac : BitVec 16
  comet0 : BitVec 96
  comet1 : BitVec 96
  oam : BitVec 16
  deriving DecidableEq, Repr

/-- The information of a KTL-lite field, 04 Table 10 (R97). -/
structure LiteField where
  ty : BitVec 4
  timeValid : Bool
  echoValid : Bool
  holdover : Bool
  ssc : Bool
  orbitLo : BitVec 16
  txNs : BitVec 32
  txFrac : BitVec 16
  echoNs : BitVec 32
  echoFrac : BitVec 16
  oam : BitVec 8
  deriving DecidableEq, Repr

/-- A received codeword as it comes to the decoder. -/
inductive CwIn where
  /-- Z modes: the equalised symbols in order, in level units (R118), and the bits of the engine's result that a fault of the engine inverts (R123). -/
  | soft (syms : List Rat) (upset : List Nat)
  /-- Standard modes: an RS codeword of the clause, with its corrected bits, or none where it is uncorrectable, and the blocks that the clause's PCS delivers from it (R76, R133); in 100BASE-T1, which has no RS-FEC, blocks of its reception. -/
  | clause (corr : Option Nat) (blks : List Blk)
  deriving DecidableEq, Repr

/-- What a Clause 98 base page says (R177, R178): the standard modes as ADV.MODES [4:0] codes them, the Next Page bit, the transmitted nonce, and the role: forced or preferred, leader or follower. (PRESUMED, notes/assumptions 151) -/
structure BasePage where
  tech : BitVec 5 := 0
  np : Bool := false
  nonce : BitVec 5 := 0
  forced : Bool := false
  lead : Bool := false
  deriving DecidableEq, Repr

/-- A Clause 98 next page (R179): the message code of a message page, none for an unformatted page, and the code field U. -/
structure NextPage where
  msg : Option (BitVec 11)
  u : Word
  deriving DecidableEq, Repr

/-- What arrives on a host lane, in order: 66-bit blocks by sync header and payload (R102), or the code groups of an 8b/10b mode as decoded: control or data, and the octet (R207). -/
inductive HostIn where
  | blocks (l : List (BitVec 2 × BitVec 64))
  | codes (l : List (Bool × Byte))
  deriving DecidableEq, Repr

/-- What a channel's receiver takes in over 1,024 µs (R135, R141): the ADC's codes in order, the last one now; where in the partner's orbit the first of them lies, once the receiver is aligned; and in a standard mode, whose line coding is the clause's, whether the clause's local receiver status is OK (R160), this channel's own transmit levels at the transmit symbol rate, and those sent before, newest first. -/
structure RxMeas where
  codes : List Byte
  place : Option Nat
  ok : Bool
  tx : List Int
  past : List Int
  deriving DecidableEq, Repr

/-- The commands of the ZW1650: one constructor for each row of the spec's table of operations and events, in its order. The operands are what the row's own words leave to the sender and to the surroundings: who writes, where, which data, and the facts of the line, the pins and the analog parts that the device observes. (DESIGN CHOICE, notes/assumptions 7 and 143) -/
inductive Instr where
  /-- REGISTER_WRITE (R20): The fabric executes a write to a register that has no row of its own, applying its access code and journaling it. -/
  | registerWrite (o : Origin) (a : Addr) (d : Word)
  /-- VAO_POWER_ON_RESET (R363): VAO falls below or first rises through the detector threshold and the whole device including the island restarts. -/
  | vaoPowerOnReset (mv : Nat)
  /-- CORE_POWER_LOSS (R364): The core detector asserts while VAO stays up, turning the system, NVM and channel domains OFF. -/
  | corePowerLoss (mv : Nat)
  /-- RESET_N (R370): A filtered low level of RESET_N takes effect and resets everything Table 5 lists for RESET_N. -/
  | resetN (low : Nat)
  /-- START_UP (R376): The system domain leaves reset, samples the straps, loads NVM, writes owed journal entries and applies the early phase. -/
  | startUp (straps : BitVec 3)
  /-- HOST_PORT_READY (R377): At SPLL gate opening or 40 ms after reset the late phase is applied and the host port becomes ready. -/
  | hostPortReady
  /-- DEV_RESET_ARM (R371): A DEV.RESET write with the first key and ARM arms the keyed reset sequence. -/
  | devResetArm (o : Origin)
  /-- DEV_RESET_GO (R371): A DEV.RESET write with the second key and GO within 1 ms from the same origin schedules the device reset. -/
  | devResetGo (o : Origin) (keep : Bool)
  /-- DEV_RESET_BEGIN (R371): 1 µs after the GO write the keyed reset takes effect, optionally keeping coefficients of live channels. -/
  | devResetBegin
  /-- DEV_RESET_LAPSE (R371): An armed sequence with no second write lapses at 1 ms and is journaled by origin 0x20. -/
  | devResetLapse
  /-- CHANNEL_RESET (R372): A keyed CHn.CH.RESET with CHANNEL resets every page of the channel, drops the link and ends its jobs. -/
  | channelReset (o : Origin) (n : Ch)
  /-- BLOCK_RESET (R372): A keyed BLOCKS bit or DEV.BLK_RESET bit resets one page or device block to reset values. -/
  | blockReset (o : Origin) (p : Page)
  /-- PAGE_FENCE_SET (R414): A keyed FENCE write with FENCE = 1 sets the page's own fence, fencing the channel for a channel page. -/
  | pageFenceSet (o : Origin) (p : Page)
  /-- PAGE_FENCE_REMOVE (R416): A keyed FENCE write with FENCE = 0 removes the page's own fence and returns the unit as after a reset. -/
  | pageFenceRemove (o : Origin) (p : Page)
  /-- PAGE_VIEW_SEL_WRITE (R32): Each field selecting a supported view takes effect for its origin; unsupported selections keep their value. -/
  | pageViewSelWrite (o : Origin) (p : Page) (d : Word)
  /-- INT_TEST_WRITE (R30): Writing 1 to INT_TEST bits sets the corresponding INT_STATUS bits as if the real event occurred. -/
  | intTestWrite (o : Origin) (p : Page) (d : Word)
  /-- POSTED_WRITE_TAKES_EFFECT (R35): A queued posted write reaches its moon-copied domain, takes effect and is journaled, freeing a queue place. -/
  | postedWriteTakesEffect (q : PDom)
  /-- SNAP_REQUEST (R37): A SNAP REQ write requests a coherent snapshot of the page or, with ALL, of all covered pages. -/
  | snapRequest (o : Origin) (p : Page) (all : Bool) (hold : Bool)
  /-- SNAP_TAKEN (R37): At the next orbit boundary or moon edge the held registers are captured, SNAP_ID increments and DONE is set. -/
  | snapTaken (p : Page)
  /-- LOCK_WRITE (R38): A LOCK write takes, renews or releases a lease, or sets CONTENDED when from a non-holder. -/
  | lockWrite (o : Origin) (p : Page) (d : Word)
  /-- LEASE_EXPIRY (R40): A page lock's lease runs out and the device breaks the lock. -/
  | leaseExpiry (p : Page)
  /-- NVMW_DATA_WRITE (R454): A DATAi write stages a word of the user area in the staging buffer, or is refused at another block. -/
  | nvmwDataWrite (o : Origin) (k : Fin 64) (d : Word)
  /-- TOKEN_ISSUE (R47): A commit token is issued at the BUDGET rate unless the bucket already holds 8. -/
  | tokenIssue
  /-- FLUSH_AGE_EXPIRY (R47): The oldest uncommitted journal entry exceeds FLUSH_AGE on the moon clock. -/
  | flushAgeExpiry
  /-- JOURNAL_FLUSH (R47): A write of COMMIT_CTRL.FLUSH requests commit of all uncommitted entries at the next token. -/
  | journalFlush (o : Origin)
  /-- JOURNAL_COMMIT (R47): With a token held and a commit condition true, the device writes one archive page in rotation. -/
  | journalCommit
  /-- JOURNAL_READ_LOAD (R49): A write to RD_SEQ or RD_CTRL loads the ENTRY words from the ring or starts an archive fetch. -/
  | journalReadLoad (o : Origin) (ctrl : Bool) (d : Word)
  /-- ARCHIVE_FETCH_DONE (R49): An archive fetch completes within 4 µs, clearing BUSY and setting VALID and the ENTRY words. -/
  | archiveFetchDone
  /-- ENTRY_W7_READ (R49): A read of ENTRY_W7 with VALID = 1 advances RD_SEQ and loads the next entry. -/
  | entryW7Read (o : Origin)
  /-- JOB_TDR_SWEEP (R230): START of a type 0x01 job begins a TDR sweep on a channel whose link is down. -/
  | jobTdrSweep (o : Origin) (slot : Fin 8) (target : Byte)
  /-- JOB_CABLE_PROFILE_LEARNING (R227): START of a type 0x02 job begins averaging 64 map refreshes into a cable profile. -/
  | jobCableProfileLearning (o : Origin) (slot : Fin 8) (target : Byte)
  /-- NVM_COMMIT_STAGING (R454): An NVM commit job with ARG0 0x0001 writes the staged words to the user area and empties the buffer. -/
  | nvmCommitStaging (slot : Fin 8)
  /-- NVM_COMMIT_PROFILE_ERASE (R226): An NVM commit job with ARG0 0x0100 + n erases profile slot n and unloads the channel's profile. -/
  | nvmCommitProfileErase (slot : Fin 8)
  /-- NVM_COMMIT_LEAP_TABLE (R322): An NVM commit job with ARG0 0x0200 writes the loaded leap-second table to NVM. -/
  | nvmCommitLeapTable (slot : Fin 8)
  /-- NVM_COMMIT_CALENDAR (R325): An NVM commit job with ARG0 0x0201 writes the calendar settings in force to NVM. -/
  | nvmCommitCalendar (slot : Fin 8)
  /-- NVM_READ_BACK_PROFILE (R226): An NVM read-back job with ARG0 0x0100 + n reloads profile slot n under its checks. -/
  | nvmReadBackProfile (slot : Fin 8)
  /-- NVM_READ_BACK_LEAP_TABLE (R322): An NVM read-back job with ARG0 0x0200 reloads the leap-second table from NVM. -/
  | nvmReadBackLeapTable (slot : Fin 8)
  /-- JOB_BIST (R395): START of a type 0x05 job tests a DSP or HL domain that is OFF or in RETAIN. -/
  | jobBist (o : Origin) (slot : Fin 8) (target : Byte)
  /-- JOB_LEDGER_UPDATE (R329): START of a type 0x06 job moves the accumulators into the next ledger record slot. -/
  | jobLedgerUpdate (o : Origin) (slot : Fin 8) (target : Byte)
  /-- JOB_TRIM_RECHECK (R50): START of a type 0x07 job re-checks a channel's trims. -/
  | jobTrimRecheck (o : Origin) (slot : Fin 8) (target : Byte)
  /-- JOB_ABORT (R54): A write of ABORT ends the slot's job at the end of its current step in ABORTED. -/
  | jobAbort (o : Origin) (slot : Fin 8)
  /-- JOB_WAIT_CLEARS (R52): A job in WAIT starts running when its unit becomes available. -/
  | jobWaitClears (slot : Fin 8)
  /-- JOB_STEP (R53): A job step attempts its units, yields to foreground work or runs for up to 8 µs. -/
  | jobStep (slot : Fin 8) (held : Bool) (env : StepEnv)
  /-- DEVICE_JOB_DISPATCH (R51): A waiting device-started job takes device slot 6 or 7 when one frees, in request order. -/
  | deviceJobDispatch
  /-- V2_NOP (R59): A 72-edge or extended NOP frame is checked and executes nothing, possibly clocking out burst words. -/
  | v2Nop (p : SPort) (edges : Nat) (m : List Byte) (low : Nat)
  /-- V2_READ (R59): A v2 READ frame is accepted, checked and queues one register read. -/
  | v2Read (p : SPort) (tag : BitVec 5) (a : Addr) (d : Word) (crc : Byte) (low : Nat)
  /-- V2_WRITE (R59): A v2 WRITE frame is accepted, checked and queues one register write. -/
  | v2Write (p : SPort) (tag : BitVec 5) (a : Addr) (d : Word) (crc : Byte) (low : Nat)
  /-- V2_BURST_READ (R64): A BURST_READ frame reads up to 64 consecutive registers into the port's buffer. -/
  | v2BurstRead (p : SPort) (tag : BitVec 5) (a : Addr) (d : Word) (crc : Byte) (low : Nat)
  /-- V2_BURST_WRITE (R63): A BURST_WRITE frame with extension groups writes consecutive registers in ascending order. -/
  | v2BurstWrite (p : SPort) (tag : BitVec 5) (a : Addr) (d : Word) (crc : Byte) (ext : List (Word × Byte)) (low : Nat)
  /-- PORT_CTRL_ABORT (R65): A PORT_CTRL ABORT frame ends the port's executing frame and reports ABORTED. -/
  | portCtrlAbort (p : SPort) (tag : BitVec 5) (crc : Byte) (low : Nat)
  /-- PORT_RESET (R66): A PORT_CTRL PORT_RESET frame resets the port's framing, buffer, results and locks. -/
  | portReset (p : SPort) (tag : BitVec 5) (crc : Byte) (low : Nat)
  /-- PORT_RESET_COMPLETE (R66): Within 1 µs the port reset completes and READY may rise again. -/
  | portResetComplete (p : SPort)
  /-- V1_NOP (R67): A six-byte v1 NOP frame is checked and executes nothing. -/
  | v1Nop (p : SPort) (m : List Byte) (low : Nat)
  /-- V1_READ (R67): A v1 READ frame reads one halfword of the mapped 24-bit address. -/
  | v1Read (p : SPort) (region : BitVec 6) (off : BitVec 16) (d : BitVec 16) (crc : Byte) (low : Nat)
  /-- V1_WRITE (R67): A v1 WRITE frame writes a halfword or loads the port's key latch for an RWK register. -/
  | v1Write (p : SPort) (region : BitVec 6) (off : BitVec 16) (d : BitVec 16) (crc : Byte) (low : Nat)
  /-- MDIO_STD_READ (R70): A Clause 45 read of an MMD 1, 3 or 7 standard register returns its counterpart field or 0. -/
  | mdioStdRead (phy : BitVec 5) (mmd : BitVec 5) (reg : BitVec 16)
  /-- MDIO_STD_WRITE (R70): A Clause 45 write to a standard register is applied to its channel-page counterpart or ignored. -/
  | mdioStdWrite (phy : BitVec 5) (mmd : BitVec 5) (reg : BitVec 16) (d : BitVec 16)
  /-- MDIO_WINDOW_REG_WRITE (R71): A write to an MMD 30 window register sets address, data or INC, or is dropped while BUSY. -/
  | mdioWindowRegWrite (phy : BitVec 5) (reg : BitVec 16) (d : BitVec 16)
  /-- MDIO_WINDOW_READ (R71): CMD 0b01 starts a 32-bit read of the window address into DATA_H and DATA_L. -/
  | mdioWindowRead (phy : BitVec 5) (inc : Bool)
  /-- MDIO_WINDOW_WRITE (R71): CMD 0b10 starts a 32-bit write of DATA_H and DATA_L to the window address. -/
  | mdioWindowWrite (phy : BitVec 5) (inc : Bool)
  /-- MDIO_WINDOW_DONE (R71): The window access completes, setting RESULT, clearing BUSY and advancing the address with INC. -/
  | mdioWindowDone (phy : BitVec 5)
  /-- BUSERR_STICKY_CLEAR (R71): A W1C of a BUSERR STICKY bit also clears its recorded address and channel. -/
  | buserrStickyClear (o : Origin) (rmt : Bool)
  /-- REMOTE_REQUEST (R72): A remote-access request message arrives and is queued or answered NOT_ACCEPTED. -/
  | remoteRequest (n : Ch)
  /-- REMOTE_REQUEST_EXECUTE (R72): The head remote request executes with origin 0x10 + n and its reply is queued. -/
  | remoteRequestExecute (n : Ch)
  /-- REMOTE_GO (R73): A write of RMT_CTRL.GO sends the mailbox request and sets STATE to WAITING. -/
  | remoteGo (o : Origin) (n : Ch) (op : BitVec 2)
  /-- REMOTE_REPLY_RECEIVE (R73): A remote-access reply arrives and sets the mailbox STATE to DONE, or is discarded after FAILED. -/
  | remoteReplyReceive (n : Ch)
  /-- REMOTE_TIMEOUT (R73): No reply within RMT_TIMEOUT sets the mailbox STATE to FAILED. -/
  | remoteTimeout
  /-- PORT_FENCE_SET (R75): A keyed PORT_FENCE write setting HSA or HSB fences that serial port. -/
  | portFenceSet (o : Origin) (p : SPort)
  /-- PORT_FENCE_REMOVE (R75): A keyed PORT_FENCE write clearing HSA or HSB unfences the port as a port reset does. -/
  | portFenceRemove (o : Origin) (p : SPort)
  /-- ORBIT_TRANSMIT (R84): At each orbit boundary the transmitter sends the mark, field, pilots and codewords of the orbit's type. -/
  | orbitTransmit (n : Ch) (late : Nat)
  /-- KTL_FIELD_RECEIVE (R96): A received field at the expected mark position is checked, decoded and handed to the time engine. -/
  | ktlFieldReceive (n : Ch) (mark : BitVec 16) (field : BitVec 448) (late : Nat) (errs : List Rat)
  /-- OAM_MESSAGE_SEND (R100): At a message slot start the highest-priority waiting message, or idle, is placed in the slot. -/
  | oamMessageSend (n : Ch) (late : Nat)
  /-- OAM_MESSAGE_RECEIVE (R101): A completed message slot is delivered by type or discarded and counted. -/
  | oamMessageReceive (n : Ch)
  /-- CODEWORD_RECEIVE (R124): A received codeword begins and takes a credit of its assigned engine, or is stalled. -/
  | codewordReceive (n : Ch) (k : Nat) (r : CwIn)
  /-- CODEWORD_RELEASE (R120): At its fixed release time a decoded codeword is checked, counted and passed on, its credit returned. -/
  | codewordRelease (n : Ch)
  /-- BER_WINDOW_END (R129): After 2^20 decoded codewords the BER estimate is published and a new window starts. -/
  | berWindowEnd (n : Ch)
  /-- ITER_MAX_WRITE (R122): A write of ITER_MAX applies at once when down or requests an eclipse on a live Z link. -/
  | iterMaxWrite (o : Origin) (n : Ch) (v : BitVec 5)
  /-- FEC_UNIT_FENCE_SET (R127): A keyed UNIT_FENCE write fences an engine or the encoder, causing renegotiation or single-engine operation. -/
  | fecUnitFenceSet (o : Origin) (n : Ch) (u : Fin 3)
  /-- FEC_UNIT_FENCE_REMOVE (R128): A keyed UNIT_FENCE write removes an engine or encoder fence. -/
  | fecUnitFenceRemove (o : Origin) (n : Ch) (u : Fin 3)
  /-- SINGLE_ENGINE_START (R127): At the orbit boundary after an engine fence in Z25 or A1 reverse, all codewords go to the other engine. -/
  | singleEngineStart (n : Ch)
  /-- SINGLE_ENGINE_END (R128): At the orbit boundary after an engine fence is removed, two-engine operation resumes. -/
  | singleEngineEnd (n : Ch)
  /-- RX_GAIN_WRITE (R138): A write to RX_GAIN applies within 1 µs when down or waits for an eclipse or QUIET orbit. -/
  | rxGainWrite (o : Origin) (n : Ch) (d : Word)
  /-- POWER_MEASUREMENT_UPDATE (R141): Every 1,024 µs RX_PWR and ECHO_PWR are updated and the gain recommendation is recomputed. -/
  | powerMeasurementUpdate (n : Ch) (m : RxMeas)
  /-- SHADOW_ADVANCE (R145): Every 1,024 µs the shadowing spare moves to the next active slice position. -/
  | shadowAdvance (n : Ch) (pairs : List (Byte × Byte))
  /-- SLICE_FAULT (R146): A slice correction leaves range, raising the slice fault and scheduling a spare or a channel fence. -/
  | sliceFault (n : Ch) (e : Fin 36)
  /-- SEGMENT_MONITOR (R148): Every 64 µs segment currents are compared and a deviating segment raises the segment fault. -/
  | segmentMonitor (n : Ch) (cur : List Nat)
  /-- DFE_TAPS_WRITE (R156): A TAPS write takes effect in the next eclipse of a live Z link or within 1 µs otherwise. -/
  | dfeTapsWrite (o : Origin) (n : Ch) (d : Word)
  /-- TIMING_MODE_WRITE (R163): A TR_CTRL.MODE write is refused under spread or pends until the next eclipse or training. -/
  | timingModeWrite (o : Origin) (n : Ch) (mode : Bool)
  /-- TIMING_BW_WRITE (R166): A TR_CTRL.BW write takes effect at the next pilot cluster or symbol. -/
  | timingBwWrite (o : Origin) (n : Ch) (bw : BitVec 2)
  /-- TIMING_LOCK_CHANGE (R167): After 64 phase estimates timing LOCK falls on excess error or rises when none persisted. -/
  | timingLockChange (n : Ch)
  /-- SSC_MODEL_LOCK (R168): After 16 modulation periods with small residual the spread model locks. -/
  | sscModelLock (n : Ch) (corner : Nat) (obs : List (Nat × Rat))
  /-- SSC_MODEL_FAIL (R169): Observed spread differs from the announcement, setting MODEL_FAIL. -/
  | sscModelFail (n : Ch) (depth rate : Rat)
  /-- ADAPT_FREEZE_END (R161): Sixteen orbits after an uncorrectable burst the adaptive loops resume. -/
  | adaptFreezeEnd (n : Ch)
  /-- NF_LISTEN_WRITE (R170): A LISTEN write suspends negotiation for noise measurement, resumes it, or is refused while up. -/
  | nfListenWrite (o : Origin) (n : Ch) (d : Word)
  /-- NOISE_FLOOR_COMPLETE (R171): After 2^AVG blocks all eight noise bands are written and VALID and COUNT update. -/
  | noiseFloorComplete (n : Ch) (blocks : List (List Byte))
  /-- AN_ENABLE (R178): A write of AN_CTRL.EN = 1 starts a negotiation. -/
  | anEnable (o : Origin) (n : Ch)
  /-- AN_DISABLE (R178): A write of AN_CTRL.EN = 0 stops negotiation and drops a live link. -/
  | anDisable (o : Origin) (n : Ch)
  /-- AN_RESTART (R180): A write of RESTART with EN = 1 drops a live link and starts a new negotiation. -/
  | anRestart (o : Origin) (n : Ch)
  /-- ADV_WRITE (R180): A write to ADV sets the advertisement for the next negotiation and restores downshifted modes. -/
  | advWrite (o : Origin) (n : Ch) (d : Word)
  /-- NEGOTIATION_COMPLETE (R181): Clause 98 negotiation ends and both ends resolve mode, codes, version, roles and spread. -/
  | negotiationComplete (n : Ch) (lp : BasePage) (np : List NextPage)
  /-- PHASE1_TIMER (R186): The fixed phase-1 timer switches the echo-learning sender and starts phase 2 at 34 ms. -/
  | phase1Timer (n : Ch)
  /-- TSW_RECEIVE (R187): A training status word is decided from its repetitions and checked for validity, phase and ABORT. -/
  | tswReceive (n : Ch) (mark : BitVec 16) (signs : BitVec 224) (errs : List Rat)
  /-- TRAINING_PHASE_ADVANCE (R188): At an orbit boundary an end whose receiver and partner are ready moves to the next phase. -/
  | trainingPhaseAdvance (n : Ch)
  /-- TRAINING_TIMEOUT (R190): A phase limit expires and the training fails. -/
  | trainingTimeout (n : Ch)
  /-- ABORT_TSW_END (R190): After 64 orbits of ABORT TSWs the end starts negotiation. -/
  | abortTswEnd (n : Ch)
  /-- FAST_HOLD_EXPIRY (R191): The partner's marks do not arrive within FAST_HOLD and the resumed training fails. -/
  | fastHoldExpiry (n : Ch)
  /-- LPI_ENTER (R195): At an orbit 64k + 63 with host LPI and drained buffer the transmitter sends REFRESH then QUIET. -/
  | lpiEnter (n : Ch)
  /-- LPI_WAKE (R197): The host ends LPI and the transmitter sends four WAKE orbits then DATA. -/
  | lpiWake (n : Ch)
  /-- ECLIPSE_REQUEST (R199): A follower with a pending change and drained buffer sends an eclipse REQUEST message. -/
  | eclipseRequest (n : Ch)
  /-- ECLIPSE_ANNOUNCE (R199): The leader announces an eclipse in the first slot in which spacing, drain and link conditions hold. -/
  | eclipseAnnounce (n : Ch)
  /-- ECLIPSE_START (R201): An end begins sending its two ECLIPSE orbits and holds host blocks in its buffer. -/
  | eclipseStart (n : Ch)
  /-- ECLIPSE_RECEIVE (R202): At position F of the first received ECLIPSE orbit pending receive-side changes take effect. -/
  | eclipseReceive (n : Ch)
  /-- ECLIPSE_MISS (R203): An announced eclipse is not received within 3 orbits, or arrives unannounced, and ECL_MISS counts it. -/
  | eclipseMiss (n : Ch) (unannounced : Bool)
  /-- ECLIPSE_DEFER (R205): Each 128-orbit interval in which a permitted request is not announced increments ECL_DEFER. -/
  | eclipseDefer (n : Ch)
  /-- ECLIPSE_STALE (R205): A request pending longer than 1 s sets ECL_STATUS.STALE. -/
  | eclipseStale (n : Ch)
  /-- HL_MODE_WRITE (R206): A host-lane MODE write restarts the host lane or, if R180 fails, negotiation. -/
  | hlModeWrite (o : Origin) (n : Ch) (d : Word)
  /-- HOST_FRAME_RECEIVE (R209): A frame from HLRXn enters the rate-matching FIFO or is dropped whole when it is full. -/
  | hostFrameReceive (n : Ch) (f : HostIn)
  /-- RM_XOFF (R208): FIFO occupancy rises above HWM and a PAUSE frame is inserted toward the host. -/
  | rmXoff (n : Ch)
  /-- RM_PAUSE_REPEAT (R208): While above LWM, a PAUSE frame is repeated each half pause time. -/
  | rmPauseRepeat (n : Ch)
  /-- RM_XON (R208): Occupancy falls below LWM and a PAUSE frame with pause_time 0 is sent. -/
  | rmXon (n : Ch)
  /-- RELAY_ENABLE (R211): A write of CH2k.RLY.CTRL.EN = 1 requests the relay pair. -/
  | relayEnable (o : Origin) (k : Fin 8)
  /-- RELAY_DISABLE (R211): A write of EN = 0 ends the relay pair. -/
  | relayDisable (o : Origin) (k : Fin 8)
  /-- RELAY_TAP_WRITE (R214): A write of CTRL.TAP starts or stops copying received frames to the host lanes. -/
  | relayTapWrite (o : Origin) (k : Fin 8) (tap : Bool)
  /-- RELAY_PAIR_ACTIVATE (R211): With EN = 1, the pair becomes active once both channels are ON, unfenced and without loopback or pattern. -/
  | relayPairActivate (k : Fin 8)
  /-- RELAY_FRAME_FORWARD (R212): A frame received on one channel of an active pair is copied to tap and forwarded through the relay FIFO. -/
  | relayFrameForward (n : Ch) (room : Bool) (sec : BitVec 48) (nsec : BitVec 32) (frac : BitVec 16)
  /-- RELAY_FORWARD_RESUME (R213): At the first orbit boundary with the partner back and up, forwarding resumes. -/
  | relayForwardResume (n : Ch)
  /-- MAP_REFRESH (R219): Every 16,384 µs the reflection map, loss estimate and health index are recomputed and published. -/
  | mapRefresh (n : Ch) (held : Bool)
  /-- DIAG_HOLD_WRITE (R223): A write of DIAG_CTRL.HOLD freezes the visible results or shows the newest refresh at once. -/
  | diagHoldWrite (o : Origin) (n : Ch) (hold : Bool)
  /-- LOOPBACK_NEAR_DIGITAL (R235): LB = 1 drops the link and trains the channel against itself through the digital loop. -/
  | loopbackNearDigital (o : Origin) (n : Ch)
  /-- LOOPBACK_NEAR_ANALOG (R235): LB = 2 drops the link and trains the channel against itself through the internal analog path. -/
  | loopbackNearAnalog (o : Origin) (n : Ch)
  /-- LOOPBACK_FAR_END (R235): LB = 3 returns received blocks to the channel's own transmit path. -/
  | loopbackFarEnd (o : Origin) (n : Ch)
  /-- LOOPBACK_OFF (R235): LB = 0 ends a loopback, restarting negotiation or restoring the host-lane path. -/
  | loopbackOff (o : Origin) (n : Ch)
  /-- TEST_PATTERN_SELECT (R236): A PATTERN write selects a continuous transmit pattern, dropping the link, or ends it with 0. -/
  | testPatternSelect (o : Origin) (n : Ch) (pat : BitVec 3)
  /-- PATTERN_SYNC_CHANGE (R236): The pattern checker gains sync after 64 correct symbols or loses it after 64 errors. -/
  | patternSyncChange (n : Ch) (syms : List Int)
  /-- CAPABILITY_MESSAGE_SEND (R250): A capability message is queued after link-up, after a change, after LPI, or every 1,024 orbits. -/
  | capabilityMessageSend (n : Ch)
  /-- INFO_EXPIRY (R250): The partner's capability message ceases to be current after 5 ms. -/
  | infoExpiry (n : Ch)
  /-- SRC_CTRL_WRITE (R253): A group's source configuration write takes effect at the next servo update. -/
  | srcCtrlWrite (o : Origin) (g : Tg) (d : Word)
  /-- SERVO_UPDATE (R255): Each update window the servo steers, steps or holds the group timescale and moves its state. -/
  | servoUpdate (g : Tg)
  /-- DISCREPANCY_TICK (R259): At each comparison tick redundant sources are compared and the run count updated. -/
  | discrepancyTick (g : Tg)
  /-- PPS_IN_PULSE (R262): An edge on PPS_IN0 or PPS_IN1 is captured and validated as a pulse offset. -/
  | ppsInPulse (k : Fin 2) (falling : Bool) (late : Nat)
  /-- PPS_IN_TIMEOUT (R262): No pulse within 1.1 s makes the PPS input invalid and counts a miss. -/
  | ppsInTimeout (k : Fin 2)
  /-- PPS_OUT_PULSE (R263): At each whole second less PPS_OUT_DLY the PPS output rises unless suppressed. -/
  | ppsOutPulse
  /-- PPS_OUT_PULSE_END (R263): WIDTH_US after the rising edge PPS_OUT falls. -/
  | ppsOutPulseEnd
  /-- PTP_INGRESS (R272): A received PTP event message is timestamped, queued and optionally stamped in its header. -/
  | ptpIngress (n : Ch) (f : List Byte) (late : Nat)
  /-- PTP_EGRESS (R273): A transmitted PTP event message is timestamped and updated in one step with checksum fix. -/
  | ptpEgress (n : Ch) (f : List Byte) (late : Nat) (ing : Option Nat)
  /-- PTP_POP (R271): A write of PTP_POP removes the oldest timestamp queue entry. -/
  | ptpPop (o : Origin) (n : Ch)
  /-- COMET_RECEIVE (R284): A comet in a decoded field slot is taken, checked for duplicates and routed. -/
  | cometReceive (n : Ch)
  /-- COMET_LOADING (R290): 250 ns before a mark, expired comets are removed and up to two are placed in the slots. -/
  | cometLoading (n : Ch)
  /-- COMET_QUEUE_EXPIRY (R291): At each moon edge held queue comets past their deadline are removed and reported. -/
  | cometQueueExpiry
  /-- COMET_FIRE (R292): At F a fire-queue comet takes its PULSE, LEVEL, WORD or ARM action, or expires. -/
  | cometFire
  /-- LATE_REPORT_RECEIVE (R295): A received late report is matched to an injection or forwarded up the source chain. -/
  | lateReportReceive (n : Ch)
  /-- ROUTE_LOAD (R288): RT_CMD LOAD copies the indexed route entry into the staging registers. -/
  | routeLoad (o : Origin) (inc : Bool)
  /-- ROUTE_COMMIT (R288): RT_CMD COMMIT writes the staged range and mask into the route entry at one instant. -/
  | routeCommit (o : Origin) (inc : Bool)
  /-- PART_WRITE (R296): A schedule partition write is refused or takes effect at the next moon edge. -/
  | partWrite (o : Origin) (g : Tg) (d : Word)
  /-- COMET_INJECT (R298): At F − LEAD a live schedule entry builds and routes a comet and advances or clears itself. -/
  | cometInject (e : Fin 131072)
  /-- SCHEDULE_LOAD (R300): CMTW CMD LOAD copies the indexed entry into the staging words. -/
  | scheduleLoad (o : Origin) (inc : Bool)
  /-- SCHEDULE_COMMIT (R300): CMTW CMD COMMIT writes all eight staging words into the entry at one instant. -/
  | scheduleCommit (o : Origin) (inc : Bool)
  /-- SCHEDULE_COMMIT_W0 (R300): CMTW CMD COMMIT_W0 writes word 0 of the entry only. -/
  | scheduleCommitW0 (o : Origin) (inc : Bool)
  /-- SCHEDULE_CLEAR (R300): CMTW CMD CLEAR writes zeros into the entry. -/
  | scheduleClear (o : Origin) (inc : Bool)
  /-- PULSE_END (R301): A PULSE interval ends and the pin returns to its base level. -/
  | pulseEnd (k : Fin 16)
  /-- ARM_WINDOW_END (R303): An armed input window ends without an edge and ARM_MISS counts it. -/
  | armWindowEnd (k : Fin 16)
  /-- TRIG_EDGE_CAPTURE (R303): An edge on an input-mode TRIG pin is timestamped and logged or queued for reporting. -/
  | trigEdgeCapture (k : Fin 16) (falling : Bool) (late : Nat)
  /-- CAPTURE_REPORT_RECEIVE (R308): A received capture report is logged and optionally forwarded upstream. -/
  | captureReportReceive (n : Ch)
  /-- CAPTURE_ACK (R306): A write to ACK_SEQ releases log entries before it. -/
  | captureAck (o : Origin) (d : Word)
  /-- CAPTURE_CLEAR (R306): A write of CAP.CTRL.CLEAR empties the capture log. -/
  | captureClear (o : Origin)
  /-- CAPTURE_READ_LOAD (R307): A write to CAPW.RD_SEQ loads copies of 16 log entries. -/
  | captureReadLoad (o : Origin) (d : Word)
  /-- CAPTURE_READ_ADVANCE (R307): A read of CAPW 0x2FC advances RD_SEQ by 16 and loads the next entries. -/
  | captureReadAdvance (o : Origin)
  /-- TIME_CAPTURE_REQUEST (R313): A write of TK.CAP_CTRL.REQ requests a capture of the four timescales. -/
  | timeCaptureRequest (o : Origin)
  /-- TIME_CAPTURE (R313): At one TPLL cycle the four timescales are captured and CAP_SEQ increments. -/
  | timeCapture
  /-- TIME_SET (R314): SET_CMD SET makes the group's time the staged value, or is refused. -/
  | timeSet (o : Origin) (g : Tg)
  /-- TIME_STEP (R314): SET_CMD STEP adds the staged signed value to group time, or is refused. -/
  | timeStep (o : Origin) (g : Tg)
  /-- TIME_SET_SEC (R314): SET_CMD SET_SEC replaces the seconds of group time, or is refused. -/
  | timeSetSec (o : Origin) (g : Tg)
  /-- TKX_JUDGE_ATTEMPT (R341): The island runs a 16-window judgment attempt of TKX against TKR, retrying after 1.024 s. -/
  | tkxJudgeAttempt (counts : List Nat)
  /-- TKX_JUDGED (R316): A passing TKX is identified and TPLL changes reference to it without a step. -/
  | tkxJudged
  /-- TKR_MEASUREMENT (R317): Every 1.024 s TKR is measured against TKX into TKR_OFS. -/
  | tkrMeasurement (ppb : BitVec 32)
  /-- TKX_FAIL (R318): The TKX monitor declares TKX failed and TPLL coasts at f_low. -/
  | tkxFail (e : RefSeen) (fLow : Nat)
  /-- COAST_MEASUREMENT (R318): Every 1 ms while coasting f_low is measured against TKR and the increment updated. -/
  | coastMeasurement (fLow : Nat)
  /-- TKX_RELOCK (R319): TKX is judged stable again and TPLL relocks and leaves coasting. -/
  | tkxRelock
  /-- TAI_UTC_WRITE (R320): A write to TAI_UTC.OFS sets the manual offset or is ignored while the table is valid. -/
  | taiUtcWrite (o : Origin) (d : Word)
  /-- LEAP_ADD (R322): LEAP_CMD ADD inserts or replaces a leap-table entry, refused at 200 entries. -/
  | leapAdd (o : Origin)
  /-- LEAP_CLEAR (R322): LEAP_CMD CLEAR empties the leap-second table. -/
  | leapClear (o : Origin)
  /-- LEAP_SET_EXPIRY (R322): LEAP_CMD SET_EXPIRY sets the table's expiry to the staged seconds. -/
  | leapSetExpiry (o : Origin)
  /-- CALENDAR_UPDATE (R323): At each whole second of the calendar group the date, time and day of year are set. -/
  | calendarUpdate
  /-- LEDGER_SECOND (R326): Each powered second of the island tick advances the ledger accumulators. -/
  | ledgerSecond
  /-- LEDGER_UPDATE_PERIOD (R330): Every PERIOD_S seconds the device requests a ledger update job. -/
  | ledgerUpdatePeriod
  /-- TREND_SAMPLE (R331): At each whole TG0 day the connector-health trend value is taken and a ledger update requested. -/
  | trendSample
  /-- TREND_SEL_WRITE (R332): A TREND_SEL write fetches the selected trend entry within 4 µs. -/
  | trendSelWrite (o : Origin) (d : Word)
  /-- XA_JUDGE_ATTEMPT (R339): An attempt counts XA over 16 windows and cross-checks XB, locking SPLL on success. -/
  | xaJudgeAttempt (xa : List Nat) (xb : List Nat) (cross : Nat)
  /-- XB_CROSS_CHECK (R339): Every 8.192 ms XB is counted against XA and XB_CROSS_OK updated. -/
  | xbCrossCheck (cross : Nat)
  /-- XB_REJUDGE (R339): Every 1.024 s an absent XB is judged again. -/
  | xbRejudge (xb : List Nat)
  /-- FALLBACK_EXPIRY (R340): FALLBACK_MS expires and SPLL locks to XA without judgment. -/
  | fallbackExpiry
  /-- FALLBACK_NO_LOCK (R340): SPLL fails to hold lock 1 ms after fall-back; the device stays on FRC and retries 1.024 s later. -/
  | fallbackNoLock
  /-- REFERENCE_FAIL (R342): A monitor declares XA, XB or FRC failed by missing edges or an out-of-range window. -/
  | referenceFail (which : Fin 3) (e : RefSeen)
  /-- SPLL_LOSS_OF_LOCK (R343): SPLL loses lock, gates its outputs and moves device domains to FRC while coasting. -/
  | spllLossOfLock (errs : List Rat)
  /-- CPLL_LOSS_OF_LOCK (R344): CPLLn loses lock and the channel is forced into safe states and drops its link. -/
  | cpllLossOfLock (n : Ch) (errs : List Rat)
  /-- HPLL_LOSS_OF_LOCK (R345): HPLLn loses lock, HLTXn is squelched and host frames are dropped. -/
  | hpllLossOfLock (n : Ch) (errs : List Rat)
  /-- PLL_LOCK_ACQUIRED (R347): A loop acquires lock after its reference becomes usable. -/
  | pllLockAcquired (p : Pll)
  /-- PLL_GATE_OPEN (R347): After 16 µs of held lock the loop's gate opens and fed logic returns to it. -/
  | pllGateOpen (p : Pll)
  /-- CLKOUT_CTRL_WRITE (R349): A CLKOUTk_CTRL write enables, holds or relocks the output for new frequency, source or group. -/
  | clkoutCtrlWrite (o : Origin) (k : Fin 2) (d : Word)
  /-- CLKOUT_RAMP_END (R349): A ramping CLKOUT reaches its target frequency. -/
  | clkoutRampEnd (k : Fin 2)
  /-- SSC_CHANGE_APPLY (R350): A new spread depth or rate takes effect at the next instant at which tri = 0. -/
  | sscChangeApply (o : SscOut)
  /-- CROSSING_RESYNC (R356): Once both sides are ready the crossing resets pointers and handshakes back to RUN. -/
  | crossingResync (p : Page)
  /-- CROSSING_FAULT (R357): An out-of-order handshake or bad pointer raises the crossing fault and drains the crossing. -/
  | crossingFault (p : Page) (e : CrossSeen) (items : Nat)
  /-- POWER_REQUEST (R365): A write to PWR.CH_REQn requests domain states, ordered and limited by the DSP state. -/
  | powerRequest (o : Origin) (n : Ch) (d : Word)
  /-- NVM_POWER_REQUEST (R16): A write to PWR.NVM_REQ requests a state of the NVM domain. -/
  | nvmPowerRequest (o : Origin) (d : Word)
  /-- SELF_TEST_OF_ENTRY (R391): A DSP or HL domain lowered from ON requests a device-started self-test job. -/
  | selfTestOfEntry (d : Fin 48)
  /-- POWER_TRANSITION_DONE (R366): A domain transition completes and the channel's functions follow the new state. -/
  | powerTransitionDone (d : Fin 49)
  /-- TRIM_EVALUATION (R384): Every 10 ms each powered channel's trims are interpolated from its temperature. -/
  | trimEvaluation (n : Ch)
  /-- TRIM_INTERVAL_EXPIRY (R386): 100 ms after the last application a pending trim change requests its eclipse. -/
  | trimIntervalExpiry (n : Ch)
  /-- TRIM_APPLICATION (R386): A pending trim change is applied at its instant and journaled. -/
  | trimApplication (n : Ch) (tx : Bool)
  /-- TRIM_STALE (R388): A trim change pending for more than 1 s sets STALE. -/
  | trimStale (n : Ch)
  /-- TRIM_APPLY_EN_WRITE (R389): A write of APPLY_EN stops or restarts trim evaluation. -/
  | trimApplyEnWrite (o : Origin) (en : Bool)
  /-- REPAIR_RECORD_WRITE (R399): Pending repair records are written to NVM once the NVM domain is ON. -/
  | repairRecordWrite
  /-- FAIL_LOG_SELECT (R401): A write to FAIL_SEL loads the selected fail-log entry. -/
  | failLogSelect (o : Origin) (d : Word)
  /-- THERMAL_SENSOR_UPDATE (R404): Every 10 ms the sensors update their readings and the warning bits. -/
  | thermalSensorUpdate (t : Vector (BitVec 16) 18)
  /-- FAULT_DETECTED (R405): A block detects a fault condition and takes the action its FAULT_ACTION selects. -/
  | faultDetected (p : Page) (bit : Fin 16) (k : Nat) (ecc1 : Bool)
  /-- ALARM_PULSE_END (R409): After PULSE_US the alarm moves to SOFTWARE and the pin follows SW_LEVEL. -/
  | alarmPulseEnd
  /-- ALARM_SW_LEVEL_WRITE (R408): A write of SW_LEVEL sets the software level of ALARM_N. -/
  | alarmSwLevelWrite (o : Origin) (level : Bool)
  /-- ALARM_REARM (R408): A REARM write in SOFTWARE returns the alarm unit to ARMED. -/
  | alarmRearm (o : Origin)
  /-- ALARM_SELF_FAULT (R411): A parity or state-check failure of the alarm unit enters the device safe state. -/
  | alarmSelfFault (parity : Bool)
  /-- SAFE_CMD (R411): A keyed SAFE_CMD write with ENTER puts the device into the safe state. -/
  | safeCmd (o : Origin)
  /-- TRIG_DRIVER_FENCE_SET (R414): A keyed DRV_FENCE write fences TRIG pin drivers. -/
  | trigDriverFenceSet (o : Origin) (k : Fin 16)
  /-- TRIG_DRIVER_FENCE_REMOVE (R416): A keyed DRV_FENCE write removes TRIG pin driver fences. -/
  | trigDriverFenceRemove (o : Origin) (k : Fin 16)
  /-- TG_CH_MAP_WRITE (R23): A write to TG.CH_MAP requests a new tenancy group for channels. -/
  | tgChMapWrite (o : Origin) (d : Word)
  /-- TG_CHANGE_TAKES_EFFECT (R23): At the next orbit boundary or within 1 µs the channel moves group, discarding its comets. -/
  | tgChangeTakesEffect (n : Ch)
  /-- JTAG_TAP_RESET (R433): TRST_N low resets the JTAG test access port. -/
  | jtagTapReset
  /-- JTAG_REG_READ (R433): Update-DR with REG_ACCESS OP 0b01 starts a register read as origin 0x30. -/
  | jtagRegRead (a : Addr)
  /-- JTAG_REG_WRITE (R433): Update-DR with REG_ACCESS OP 0b10 starts a register write as origin 0x30. -/
  | jtagRegWrite (a : Addr) (d : Word)
  /-- ORBIT_LOCK_ACQUIRED (R87): The receiver aligns to the partner's orbits and ORBIT_LOCK rises to 1. -/
  | orbitLockAcquired (n : Ch)
  /-- HOST_LANE_LOCK_CHANGE (R216): The host-lane receiver gains or loses lock on HLRXn and CHn.HL.STATUS.LOCK changes. -/
  | hostLaneLockChange (n : Ch) (lock : Bool)
  /-- OPLL_LOSS_OF_LOCK (R349): OPLLk loses lock, raising its CLK fault bit and sending CLKOUTk through relock. -/
  | opllLossOfLock (k : Fin 2) (errs : List Rat)
  /-- TREND_FETCH_DONE (R332): Within 4 µs of a TREND_SEL write the NVM fetch ends, TREND_RD.BUSY clears and VALID is set. -/
  | trendFetchDone
  /-- PARTNER_NEGOTIATION_SIGNAL (R190): Clause 98 negotiation signalling from the partner arrives during training and fails the training. -/
  | partnerNegotiationSignal (n : Ch)
  /-- STANDARD_MODE_LINK_UP (R160): In a standard mode the clause's training completes and the link comes up. -/
  | standardModeLinkUp (n : Ch)
  /-- STANDARD_MODE_LINK_DROP (R192): In a standard mode the clause's link monitoring drops the link. -/
  | standardModeLinkDrop (n : Ch) (retrain : Bool)
  /-- STANDARD_MODE_LPI_QUIET (R138): A standard-mode LPI quiet interval begins, at which pending gain and trim changes take effect and the loops freeze. -/
  | standardModeLpiQuiet (n : Ch) (partner : Bool)
  deriving DecidableEq, Repr

end Sys2Proof
end

