-- ==== Sys2Proof/Decode.lean ====
section
/-! DEFINITION. Words that spell commands. The spec's table of operations and events gives no row any bits: a command is an access, a pin's event or an event inside the device, so no word spells one. -/

namespace Sys2Proof

/-- The command that a word spells by the table's bits: none, since the table gives no bits (R20). (DESIGN CHOICE, notes/assumptions 14) -/
def decodeTableWord (_nbits _w : Nat) : Option Instr := none

end Sys2Proof
end

