-- ==== Sys2Proof/Machine/Crc.lean ====
section
/-! DEFINITION. The CRC-8 of the serial ports (R60) and the IEEE 802.3 CRC-32 (08 Table 2): reflected, initial value 0xFFFF_FFFF, complemented at the end. -/

namespace Sys2Proof.Machine

/-- One bit of the reflected CRC-32 register. -/
def crc32Bit (c : Nat) : Nat := if c % 2 = 1 then (c / 2) ^^^ 0xEDB88320 else c / 2

/-- One byte of the CRC-32. -/
def crc32Byte (c : Nat) (b : Byte) : Nat :=
  let x := c ^^^ b.toNat
  crc32Bit (crc32Bit (crc32Bit (crc32Bit (crc32Bit (crc32Bit (crc32Bit (crc32Bit x)))))))

/-- The CRC-32 of a byte sequence. -/
def crc32 (l : List Byte) : Nat := (l.foldl crc32Byte 0xFFFFFFFF) ^^^ 0xFFFFFFFF

/-- The bytes of a number, most significant first. -/
def beBytes : Nat → Nat → List Byte
  | 0, _ => []
  | k + 1, v => BitVec.ofNat 8 (v / 256 ^ k) :: beBytes k v

/-- The bytes of a number, least significant first: the order of a frame's FCS. -/
def leBytes (k v : Nat) : List Byte := (beBytes k v).reverse

/-- One bit of the CRC-8 register, polynomial 0x2F (R60). -/
def spiCrcBit (c : Nat) : Nat := if 128 ≤ c then (c * 2 % 256) ^^^ 0x2F else c * 2

/-- One byte of the CRC-8. -/
def spiCrcByte (c : Nat) (b : Byte) : Nat :=
  let x := c ^^^ b.toNat
  spiCrcBit (spiCrcBit (spiCrcBit (spiCrcBit (spiCrcBit (spiCrcBit (spiCrcBit (spiCrcBit x)))))))

/-- The CRC-8 of a byte sequence, initial value 0xFF (R60). -/
def spiCrc (l : List Byte) : Nat := l.foldl spiCrcByte 0xFF

end Sys2Proof.Machine
end

