-- ==== Sys2Proof/Config.lean ====
section
/-! DEFINITION. What the spec leaves open: free values. Each is an opaque constant, so no proof can see what it is. -/

namespace Sys2Proof.Config

/-- A random or undefined number of the model's counter: negotiation nonces (R178), and every value that the spec calls undefined. (DESIGN CHOICE, notes/assumptions 4 and 17) -/
opaque freeBits : Nat → Nat

/-- The 5-bit magnitude of a log-likelihood ratio before its bound, from the exact max-log ratio: its scale and rounding are not stated (R118). (DESIGN CHOICE, notes/assumptions 150) -/
opaque llrMag : Rat → Nat

/-- Whether the device rounds a tap that a gain change scales up to the next unit, from the half-decibel steps and the tap: the spec states no rounding (R139). (DESIGN CHOICE, notes/assumptions 19) -/
opaque tapUp : Int → Int → Bool

/-- The digital part of T_front in a standard mode, in ps (R140): fixed, and not stated. (DESIGN CHOICE, notes/assumptions 20) -/
opaque stdFront : Nat → Nat

/-- Receive and transmit latency in a standard mode with a host-lane mode, in ps (R132): fixed, only the maxima are stated. (DESIGN CHOICE, notes/assumptions 20) -/
opaque stdLatRx : Nat → Nat → Nat
/-- As stdLatRx, for transmission. (DESIGN CHOICE, notes/assumptions 20) -/
opaque stdLatTx : Nat → Nat → Nat

/-- Relay latency in ps between standard modes, or between a standard mode and a Z mode: not stated. (DESIGN CHOICE, notes/assumptions 20) -/
opaque stdLatRly : Nat → Nat → Nat

/-- Mean launch power of a standard mode's clause, in 0.1 dBm (R224). (DESIGN CHOICE, notes/assumptions 20) -/
opaque stdLaunch : Nat → Int

/-- Far-end power in 0.1 dBm where RX_PWR does not exceed ECHO_PWR, from both: the formula of R224 has no value there. (DESIGN CHOICE, notes/assumptions 22) -/
opaque noFarPower : Int → Int → Int

/-- The figure in 0.1 dB that the device shows for a power of 0, whose logarithm does not exist (R141, R153, R171, R172). (DESIGN CHOICE, notes/assumptions 98) -/
opaque zeroPower : Int

/-- Power into 100 Ω in mW of one ADC LSB squared: the ADC's full scale is not stated (R141 to R143). (DESIGN CHOICE, notes/assumptions 99) -/
opaque lsbPower : Rat

/-- Level units of one ADC LSB at the FFE's input (R155): not stated. (DESIGN CHOICE, notes/assumptions 99) -/
opaque levelScale : Rat

/-- Tap k of the fixed decimation filter of A1 reverse reception (R155): not stated. (DESIGN CHOICE, notes/assumptions 99) -/
opaque decimTap : Nat → Rat

/-- The DAC's code for a transmit level (R147): not stated. (DESIGN CHOICE, notes/assumptions 99) -/
opaque dacCode : Int → Byte

/-- UI of phase for the early and late correlation of the pilot detector, and for the decision-directed detector (R164, R165): they follow from the pulse shape, which is not stated. (DESIGN CHOICE, notes/assumptions 158) -/
opaque pilotSlope : Rat
/-- As pilotSlope, for the decision-directed detector. (DESIGN CHOICE, notes/assumptions 158) -/
opaque decisionSlope : Rat

/-- Proportional gain of the timing loop for a bandwidth in kHz and an interval between estimates in ps (R166): not stated. (DESIGN CHOICE, notes/assumptions 158) -/
opaque loopKp : Nat → Rat → Rat
/-- As loopKp, for the integral gain. (DESIGN CHOICE, notes/assumptions 158) -/
opaque loopKi : Nat → Rat → Rat

/-- Whether the part is a ZW1650-AE: GRADE of DEV.CHIP_ID is 0x02 then, 0x01 for a ZW1650-AQ (R2). (DEDUCED, notes/assumptions 16) -/
opaque gradeE : Bool

/-- MMD and number of the BASE-T1 RS-FEC uncorrected codeword counter, which the spec names without its number (R429). (DESIGN CHOICE, notes/assumptions 23) -/
opaque rsFecCounter : Nat × Nat

end Sys2Proof.Config
end

