-- ==== Sys2Proof/Machine/RegTable.lean ====
section
/-! DEFINITION. The register table of the ZW1650 (spec 16 Tables 1 to 5 with the field tables of every chapter): for each block register its offset, its reset value and which of its bits have which access code (00 Table 6). -/

namespace Sys2Proof.Machine

/-- One row of a page's register table: the register at off, or count registers each stride bytes apart (R424).
rw, w1c, w1s, wo and rwk are the bits of each access code of 00 Table 6; every other bit is RO, RO/M or reserved (R7).
held tells whether a snapshot holds the register (R37). -/
structure RegRow where
  off : Nat
  stride : Nat
  count : Nat
  reset : Word
  rw : Word
  w1c : Word
  w1s : Word
  wo : Word
  rwk : Word
  held : Bool
  deriving DecidableEq, Repr

/-- Whether the row holds the register at this offset. -/
def RegRow.has (r : RegRow) (off : Nat) : Bool :=
  if r.count ≤ 1 then off == r.off
  else r.off ≤ off && ((off - r.off) % r.stride == 0) && ((off - r.off) / r.stride < r.count)

/-- The block registers of DEV (spec 16).-/
def devDevRows : List RegRow := [
  ⟨0x100, 0x0, 1, 0x1650B000, 0x0, 0x0, 0x0, 0x0, 0x0, true⟩,  -- CHIP_ID, R2
  ⟨0x110, 0x0, 1, 0x0, 0x0, 0x0, 0x0, 0x0, 0xFFFF0007, false⟩,  -- RESET, R370
  ⟨0x114, 0x0, 1, 0x0, 0x0, 0x0, 0x0, 0x0, 0xFFFF0007, false⟩  -- BLK_RESET, R371
  ]

/-- The block registers of HOST (spec 16).-/
def devHostRows : List RegRow := [
  ⟨0x100, 0x0, 1, 0x0, 0x0, 0x0, 0x0, 0x0, 0x0, true⟩,  -- HSA_STAT, R74
  ⟨0x104, 0x0, 1, 0x0, 0x0, 0x0, 0x0, 0x0, 0x0, true⟩,  -- HSB_STAT, R74
  ⟨0x110, 0x0, 1, 0x0, 0x0, 0x0, 0x0, 0x0, 0x0, true⟩,  -- HSA_CRC_ERR, R74
  ⟨0x114, 0x0, 1, 0x0, 0x0, 0x0, 0x0, 0x0, 0x0, true⟩,  -- HSA_REFUSED, R74
  ⟨0x118, 0x0, 1, 0x0, 0x0, 0x0, 0x0, 0x0, 0x0, true⟩,  -- HSB_CRC_ERR, R74
  ⟨0x11C, 0x0, 1, 0x0, 0x0, 0x0, 0x0, 0x0, 0x0, true⟩,  -- HSB_REFUSED, R74
  ⟨0x120, 0x0, 1, 0x0, 0x0, 0x0, 0x0, 0x0, 0xFFFF0003, false⟩,  -- PORT_FENCE, R74
  ⟨0x130, 0x0, 1, 0x0, 0x0, 0x80000000, 0x0, 0x0, 0x0, false⟩,  -- BUSERR_MDIO, R75
  ⟨0x134, 0x0, 1, 0x0, 0x0, 0x80000000, 0x0, 0x0, 0x0, false⟩,  -- BUSERR_RMT, R75
  ⟨0x138, 0x0, 1, 0x0, 0x0, 0x0, 0x0, 0x0, 0x0, true⟩,  -- BUSERR_COUNT, R75
  ⟨0x13C, 0x0, 1, 0x0, 0x0, 0x0, 0x0, 0x0, 0x0, true⟩,  -- MDIO_STAT, R75
  ⟨0x180, 0x0, 1, 0x1, 0xF03, 0x0, 0x80000000, 0x0, 0x0, false⟩,  -- RMT_CTRL, R75
  ⟨0x184, 0x0, 1, 0x0, 0xFFFFFF, 0x0, 0x0, 0x0, 0x0, false⟩,  -- RMT_ADDR, R75
  ⟨0x188, 0x0, 1, 0x0, 0xFFFFFFFF, 0x0, 0x0, 0x0, 0x0, false⟩,  -- RMT_WDATA, R75
  ⟨0x18C, 0x0, 1, 0x0, 0x0, 0x0, 0x0, 0x0, 0x0, true⟩,  -- RMT_STATUS, R75
  ⟨0x190, 0x0, 1, 0x0, 0x0, 0x0, 0x0, 0x0, 0x0, true⟩,  -- RMT_RDATA, R75
  ⟨0x194, 0x0, 1, 0x3E8, 0xFFFF, 0x0, 0x0, 0x0, 0x0, false⟩,  -- RMT_TIMEOUT, R75
  ⟨0x1A0, 0x0, 1, 0x0, 0x0, 0x0, 0x0, 0x0, 0x0, true⟩,  -- RMT_SERVED, R75
  ⟨0x1A4, 0x0, 1, 0x0, 0x0, 0x0, 0x0, 0x0, 0x0, true⟩  -- RMT_DISCARD, R75
  ]

/-- The block registers of JRNL (spec 16).-/
def devJrnlRows : List RegRow := [
  ⟨0x100, 0x0, 1, 0x0, 0x0, 0x0, 0x0, 0x0, 0x0, true⟩,  -- SEQ_NEXT, R48
  ⟨0x104, 0x0, 1, 0x0, 0x0, 0x0, 0x0, 0x0, 0x0, true⟩,  -- SEQ_COMMIT, R48
  ⟨0x108, 0x0, 1, 0x0, 0x0, 0x0, 0x0, 0x0, 0x0, true⟩,  -- RING_OLDEST, R48
  ⟨0x10C, 0x0, 1, 0x0, 0x0, 0x0, 0x0, 0x0, 0x0, true⟩,  -- GAP_TOTAL, R48
  ⟨0x110, 0x0, 1, 0x0, 0x0, 0x0, 0x0, 0x0, 0x0, true⟩,  -- WRAP_COUNT, R48
  ⟨0x114, 0x0, 1, 0xA08, 0xFF3F, 0x0, 0x80000000, 0x0, 0x0, false⟩,  -- COMMIT_CTRL, R48
  ⟨0x118, 0x0, 1, 0x8000, 0x0, 0x0, 0x0, 0x0, 0x0, true⟩,  -- COMMIT_STATUS, R48
  ⟨0x11C, 0x0, 1, 0x0, 0x0, 0x0, 0x0, 0x0, 0x0, true⟩,  -- TOKENS, R48
  ⟨0x120, 0x0, 1, 0x0, 0x1, 0x0, 0x0, 0x0, 0x0, false⟩,  -- RD_CTRL, R48
  ⟨0x124, 0x0, 1, 0x0, 0xFFFFFFFF, 0x0, 0x0, 0x0, 0x0, false⟩,  -- RD_SEQ, R48
  ⟨0x128, 0x0, 1, 0x0, 0x0, 0x0, 0x0, 0x0, 0x0, false⟩,  -- RD_STATUS, R48
  ⟨0x140, 0x4, 8, 0x0, 0x0, 0x0, 0x0, 0x0, 0x0, false⟩  -- ENTRY_W (8), R48
  ]

/-- The block registers of JOB (spec 16).-/
def devJobRows : List RegRow := [
  ⟨0x100, 0x0, 1, 0x0, 0x0, 0x0, 0x0, 0x0, 0x0, true⟩,  -- SLOT_BUSY, R51
  ⟨0x104, 0x0, 1, 0x0, 0x0, 0x0, 0x0, 0x0, 0x0, true⟩,  -- DEV_PENDING, R51
  ⟨0x200, 0x20, 8, 0x0, 0xFFFF, 0x0, 0x30000, 0x0, 0x0, false⟩,  -- SLOT_CTRL (8), R51
  ⟨0x204, 0x20, 8, 0x0, 0xFFFFFFFF, 0x0, 0x0, 0x0, 0x0, false⟩,  -- SLOT_ARG0 (8), R51
  ⟨0x208, 0x20, 8, 0x0, 0xFFFFFFFF, 0x0, 0x0, 0x0, 0x0, false⟩,  -- SLOT_ARG1 (8), R51
  ⟨0x20C, 0x20, 8, 0x0, 0x0, 0x0, 0x0, 0x0, 0x0, true⟩,  -- SLOT_STATUS (8), R51
  ⟨0x210, 0x20, 8, 0x0, 0x0, 0x0, 0x0, 0x0, 0x0, true⟩,  -- SLOT_PROGRESS (8), R51
  ⟨0x214, 0x20, 8, 0x0, 0x0, 0x0, 0x0, 0x0, 0x0, true⟩,  -- SLOT_RESULT0 (8), R51
  ⟨0x218, 0x20, 8, 0x0, 0x0, 0x0, 0x0, 0x0, 0x0, true⟩,  -- SLOT_RESULT1 (8), R51
  ⟨0x21C, 0x20, 8, 0x0, 0x0, 0x0, 0x0, 0x0, 0x0, true⟩  -- SLOT_YIELDS (8), R51
  ]

/-- The block registers of NVM (spec 16).-/
def devNvmRows : List RegRow := [
  ⟨0x180, 0x4, 4, 0x0, 0x0, 0x0, 0x0, 0x0, 0x0, true⟩  -- SECT_FENCE (4), R418
  ]

/-- The block registers of CLK (spec 16).-/
def devClkRows : List RegRow := [
  ⟨0x100, 0x0, 1, 0x1000000, 0x0, 0x0, 0x0, 0x0, 0x0, true⟩,  -- CLK_STATUS, R358
  ⟨0x104, 0x0, 1, 0xFF01, 0xFF01, 0x0, 0x0, 0x0, 0x0, false⟩,  -- JUDGE_CTRL, R358
  ⟨0x108, 0x0, 1, 0x0, 0x0, 0x0, 0x0, 0x0, 0x0, true⟩,  -- JUDGE_STATUS, R358
  ⟨0x10C, 0x0, 1, 0x0, 0x3, 0x0, 0x0, 0x0, 0x0, false⟩,  -- SWITCH_CTRL, R358
  ⟨0x110, 0x0, 1, 0x0, 0x0, 0x0, 0x0, 0x0, 0x0, true⟩,  -- SWITCH_COUNT, R358
  ⟨0x114, 0x0, 1, 0x0, 0x0, 0x0, 0x0, 0x0, 0x0, true⟩,  -- SPLL_COAST_COUNT, R358
  ⟨0x120, 0x0, 1, 0x0, 0x0, 0x0, 0x0, 0x0, 0x0, true⟩,  -- CPLL_STATUS, R358
  ⟨0x124, 0x0, 1, 0x0, 0x0, 0x0, 0x0, 0x0, 0x0, true⟩,  -- HPLL_STATUS, R358
  ⟨0x130, 0x0, 1, 0x0, 0x0, 0x0, 0x0, 0x0, 0x0, true⟩,  -- XING_DISCARD, R358
  ⟨0x134, 0x0, 1, 0x0, 0x1, 0x0, 0x0, 0x0, 0x0, false⟩,  -- GATE_CTRL, R358
  ⟨0x180, 0x4, 16, 0x0, 0x0, 0x0, 0x0, 0x0, 0x0, true⟩,  -- LOSS (16), R358
  ⟨0x200, 0x10, 2, 0x3F00, 0xFFBF7F00, 0x0, 0x0, 0x0, 0x0, false⟩,  -- CLKOUT_CTRL (2), R358
  ⟨0x204, 0x10, 2, 0x2, 0x0, 0x0, 0x0, 0x0, 0x0, true⟩,  -- CLKOUT_STATUS (2), R358
  ⟨0x300, 0x4, 16, 0x3F00, 0x803F7F00, 0x0, 0x0, 0x0, 0x0, false⟩,  -- LINE_SSC (16), R358
  ⟨0x340, 0x4, 16, 0x3F00, 0x803F7F00, 0x0, 0x0, 0x0, 0x0, false⟩  -- HL_SSC (16), R358
  ]

/-- The block registers of PWR (spec 16).-/
def devPwrRows : List RegRow := [
  ⟨0x100, 0x4, 16, 0x0, 0x3F, 0x0, 0x0, 0x0, 0x0, false⟩,  -- CH_REQ (16), R369
  ⟨0x140, 0x4, 16, 0x0, 0x0, 0x0, 0x0, 0x0, 0x0, true⟩,  -- CH_STAT (16), R369
  ⟨0x180, 0x0, 1, 0x2, 0x3, 0x0, 0x0, 0x0, 0x0, false⟩,  -- NVM_REQ, R369
  ⟨0x184, 0x0, 1, 0x20000, 0x0, 0x0, 0x0, 0x0, 0x0, true⟩,  -- NVM_STAT, R369
  ⟨0x190, 0x0, 1, 0x0, 0x0, 0x0, 0x0, 0x0, 0x0, true⟩,  -- START_STATUS, R369
  ⟨0x194, 0x0, 1, 0x0, 0x0, 0x0, 0x0, 0x0, 0x0, true⟩  -- CFG_BUSERR, R369
  ]

/-- The block registers of TRIM (spec 16).-/
def devTrimRows : List RegRow := [
  ⟨0x100, 0x0, 1, 0x0, 0x0, 0x0, 0x0, 0x0, 0x0, true⟩,  -- CAL_COUNT, R402
  ⟨0x104, 0x0, 1, 0x0, 0x0, 0x0, 0x0, 0x0, 0x0, true⟩,  -- CAL_TIME_SEC_LO, R402
  ⟨0x108, 0x0, 1, 0x0, 0x0, 0x0, 0x0, 0x0, 0x0, true⟩,  -- CAL_TIME_SEC_HI, R402
  ⟨0x10C, 0x0, 1, 0x0, 0x0, 0x0, 0x0, 0x0, 0x0, true⟩,  -- CAL_TIME_NS, R402
  ⟨0x110, 0x0, 1, 0x1, 0x1, 0x0, 0x0, 0x0, 0x0, false⟩,  -- CTRL, R402
  ⟨0x114, 0x0, 1, 0x0, 0x0, 0x0, 0x0, 0x0, 0x0, true⟩,  -- GEN0_SEQ, R402
  ⟨0x118, 0x0, 1, 0x0, 0x0, 0x0, 0x0, 0x0, 0x0, true⟩,  -- GEN1_SEQ, R402
  ⟨0x120, 0x4, 16, 0x0, 0x0, 0x0, 0x0, 0x0, 0x0, true⟩,  -- CH_STATUS (16), R402
  ⟨0x160, 0x4, 16, 0x0, 0x0, 0x0, 0x0, 0x0, 0x0, true⟩  -- CH_APPLY (16), R402
  ]

/-- The block registers of BIST (spec 16).-/
def devBistRows : List RegRow := [
  ⟨0x100, 0x0, 1, 0x1, 0x1, 0x0, 0x0, 0x0, 0x0, false⟩,  -- CTRL, R402
  ⟨0x104, 0x0, 1, 0xFFFFFFFF, 0x0, 0x0, 0x0, 0x0, 0x0, true⟩,  -- PORTS, R402
  ⟨0x108, 0x0, 1, 0x0, 0x0, 0x0, 0x0, 0x0, 0x0, true⟩,  -- REC_STAT, R402
  ⟨0x10C, 0x0, 1, 0x0, 0x0, 0x0, 0x0, 0x0, 0x0, true⟩,  -- FAIL_SEQ, R402
  ⟨0x110, 0x0, 1, 0x0, 0xFFFF, 0x0, 0x0, 0x0, 0x0, false⟩,  -- FAIL_SEL, R402
  ⟨0x114, 0x0, 1, 0x0, 0x0, 0x0, 0x0, 0x0, 0x0, false⟩,  -- FAIL_STATUS, R402
  ⟨0x118, 0x4, 3, 0x0, 0x0, 0x0, 0x0, 0x0, 0x0, false⟩,  -- FAIL_W (3), R402
  ⟨0x200, 0x4, 48, 0x0, 0x0, 0x0, 0x0, 0x0, 0x0, true⟩  -- DOM_STATUS (48), R402
  ]

/-- The block registers of ALRM (spec 16).-/
def devAlrmRows : List RegRow := [
  ⟨0x100, 0x0, 1, 0x3E8, 0x80003FFF, 0x0, 0x40000000, 0x0, 0x0, false⟩,  -- CTRL, R409
  ⟨0x104, 0x0, 1, 0x0, 0x0, 0x0, 0x0, 0x0, 0x0, true⟩,  -- STATUS, R409
  ⟨0x108, 0x0, 1, 0x0, 0x0, 0x0, 0x0, 0x0, 0x0, true⟩,  -- FIRST, R409
  ⟨0x10C, 0x0, 1, 0x0, 0x0, 0x0, 0x0, 0x0, 0x0, true⟩,  -- COUNT, R409
  ⟨0x110, 0x0, 1, 0x0, 0x0, 0x0, 0x0, 0x0, 0xFFFF0001, false⟩,  -- SAFE_CMD, R409
  ⟨0x120, 0x0, 1, 0x0, 0x0, 0x0, 0x0, 0x0, 0x0, true⟩,  -- ECC1_DEV, R409
  ⟨0x140, 0x4, 16, 0x0, 0x0, 0x0, 0x0, 0x0, 0x0, true⟩,  -- ECC1_CH (16), R409
  ⟨0x180, 0x0, 1, 0x0, 0x0, 0x0, 0x0, 0x0, 0x0, true⟩,  -- IRQ_DEV_A, R407
  ⟨0x184, 0x0, 1, 0x0, 0x0, 0x0, 0x0, 0x0, 0x0, true⟩,  -- IRQ_DEV_B, R407
  ⟨0x188, 0x0, 1, 0x0, 0x0, 0x0, 0x0, 0x0, 0x0, true⟩  -- IRQ_CH, R407
  ]

/-- The block registers of THRM (spec 16).-/
def devThrmRows : List RegRow := [
  ⟨0x100, 0x0, 1, 0x47E, 0xFFFF, 0x0, 0x0, 0x0, 0x0, false⟩,  -- WARN_CTRL, R406
  ⟨0x104, 0x0, 1, 0x0, 0x0, 0x0, 0x0, 0x0, 0x0, true⟩,  -- WARN_STATUS, R406
  ⟨0x200, 0x4, 18, 0x0, 0x0, 0x0, 0x0, 0x0, 0x0, true⟩  -- TEMP (18), R406
  ]

/-- The block registers of TK (spec 16).-/
def devTkRowsA : List RegRow := [
  ⟨0x100, 0x0, 1, 0xF00, 0x0, 0x0, 0x0, 0x0, 0x0, true⟩,  -- TK_STATUS, R332
  ⟨0x104, 0x0, 1, 0x0, 0xFFFFFFFF, 0x0, 0x0, 0x0, 0x0, false⟩,  -- TKX_CORR, R332
  ⟨0x108, 0x0, 1, 0x0, 0x0, 0x0, 0x0, 0x0, 0x0, true⟩,  -- TKR_OFS, R332
  ⟨0x10C, 0x0, 1, 0x0, 0x0, 0x0, 0x0, 0x0, 0x0, true⟩,  -- COAST_S, R332
  ⟨0x110, 0x0, 1, 0x0, 0x0, 0x0, 0x0, 0x0, 0x0, true⟩,  -- COAST_COUNT, R332
  ⟨0x120, 0x0, 1, 0x0, 0x0, 0x0, 0x1, 0x0, 0x0, false⟩,  -- CAP_CTRL, R332
  ⟨0x130, 0x10, 4, 0x0, 0x0, 0x0, 0x0, 0x0, 0x0, false⟩,  -- CAP_SEC_LO (4), R332
  ⟨0x134, 0x10, 4, 0x0, 0x0, 0x0, 0x0, 0x0, 0x0, false⟩,  -- CAP_SEC_HI (4), R332
  ⟨0x138, 0x10, 4, 0x0, 0x0, 0x0, 0x0, 0x0, 0x0, false⟩,  -- CAP_NS (4), R332
  ⟨0x180, 0x0, 1, 0x0, 0xFFFFFFFF, 0x0, 0x0, 0x0, 0x0, false⟩,  -- SET_SEC_LO, R332
  ⟨0x184, 0x0, 1, 0x0, 0xFFFFFFFF, 0x0, 0x0, 0x0, 0x0, false⟩,  -- SET_SEC_HI, R332
  ⟨0x188, 0x0, 1, 0x0, 0xFFFFFFFF, 0x0, 0x0, 0x0, 0x0, false⟩,  -- SET_NS, R332
  ⟨0x18C, 0x0, 1, 0x0, 0x30, 0x0, 0x0, 0x3, 0x0, false⟩,  -- SET_CMD, R332
  ⟨0x190, 0x0, 1, 0x0, 0x0, 0x0, 0x0, 0x0, 0x0, true⟩,  -- SET_STATUS, R332
  ⟨0x200, 0x0, 1, 0x80000000, 0xFFFF, 0x0, 0x0, 0x0, 0x0, false⟩,  -- TAI_UTC, R332
  ⟨0x204, 0x0, 1, 0x0, 0x0, 0x0, 0x0, 0x0, 0x0, true⟩,  -- NEXT_LEAP_LO, R332
  ⟨0x208, 0x0, 1, 0x0, 0x0, 0x0, 0x0, 0x0, 0x0, true⟩,  -- NEXT_LEAP_HI, R332
  ⟨0x20C, 0x0, 1, 0x0, 0x0, 0x0, 0x0, 0x0, 0x0, true⟩,  -- LEAP_STATUS, R332
  ⟨0x210, 0x0, 1, 0x0, 0xFFFFFFFF, 0x0, 0x0, 0x0, 0x0, false⟩,  -- LEAP_ARG_LO, R332
  ⟨0x214, 0x0, 1, 0x0, 0xFFFFFFFF, 0x0, 0x0, 0x0, 0x0, false⟩,  -- LEAP_ARG_HI, R332
  ⟨0x218, 0x0, 1, 0x0, 0x0, 0x0, 0x0, 0x3, 0x0, false⟩,  -- LEAP_CMD, R332
  ⟨0x21C, 0x0, 1, 0x0, 0x0, 0x0, 0x0, 0x0, 0x0, true⟩,  -- EXPIRY_LO, R332
  ⟨0x220, 0x0, 1, 0x0, 0x0, 0x0, 0x0, 0x0, 0x0, true⟩,  -- EXPIRY_HI, R332
  ⟨0x240, 0x0, 1, 0x0, 0xFFFF0030, 0x0, 0x0, 0x0, 0x0, false⟩  -- CAL_CTRL, R332
  ]

/-- The block registers of TK (spec 16).-/
def devTkRowsB : List RegRow := [
  ⟨0x244, 0x0, 1, 0x0, 0x0, 0x0, 0x0, 0x0, 0x0, true⟩,  -- CAL_DATE, R332
  ⟨0x248, 0x0, 1, 0x0, 0x0, 0x0, 0x0, 0x0, 0x0, true⟩,  -- CAL_TIME, R332
  ⟨0x24C, 0x0, 1, 0x0, 0x0, 0x0, 0x0, 0x0, 0x0, true⟩,  -- CAL_DOY, R332
  ⟨0x260, 0x10, 4, 0x0, 0xFFFF0F1F, 0x0, 0x0, 0x0, 0x0, false⟩,  -- ALM_DATE (4), R332
  ⟨0x264, 0x10, 4, 0x0, 0x71F3F3F, 0x0, 0x0, 0x0, 0x0, false⟩,  -- ALM_TIME (4), R332
  ⟨0x268, 0x10, 4, 0x0, 0xC000007F, 0x0, 0x0, 0x0, 0x0, false⟩,  -- ALM_CTRL (4), R332
  ⟨0x26C, 0x10, 4, 0x0, 0x0, 0x0, 0x0, 0x0, 0x0, true⟩,  -- ALM_COUNT (4), R332
  ⟨0x400, 0x40, 4, 0x0, 0xFFF3, 0x0, 0x0, 0x0, 0x0, false⟩,  -- GRP_SRC_CTRL (4), R277
  ⟨0x404, 0x40, 4, 0xC80064, 0xFFFF3FFF, 0x0, 0x0, 0x0, 0x0, false⟩,  -- GRP_SERVO (4), R277
  ⟨0x408, 0x40, 4, 0x1F4, 0xFFFFFFFF, 0x0, 0x0, 0x0, 0x0, false⟩,  -- GRP_DISC_TH_CH (4), R277
  ⟨0x40C, 0x40, 4, 0xC350, 0xFFFFFFFF, 0x0, 0x0, 0x0, 0x0, false⟩,  -- GRP_DISC_TH_PPS (4), R277
  ⟨0x410, 0x40, 4, 0x64, 0xFFFFF, 0x0, 0x0, 0x0, 0x0, false⟩,  -- GRP_DISC_TIME (4), R277
  ⟨0x414, 0x40, 4, 0x3E8, 0xFFFFFFFF, 0x0, 0x0, 0x0, 0x0, false⟩,  -- GRP_STEP_TH (4), R277
  ⟨0x418, 0x40, 4, 0x0, 0x0, 0x0, 0x0, 0x0, 0x0, true⟩,  -- GRP_HOLD_TIME (4), R277
  ⟨0x41C, 0x40, 4, 0x7F0000, 0x0, 0x0, 0x0, 0x0, 0x0, true⟩,  -- GRP_STATE (4), R277
  ⟨0x420, 0x40, 4, 0x0, 0x0, 0x0, 0x0, 0x0, 0x0, true⟩,  -- GRP_SRC_STATUS (4), R277
  ⟨0x424, 0x40, 4, 0x0, 0xFFFFFFFF, 0x0, 0x0, 0x0, 0x0, false⟩,  -- GRP_FREQ_SET (4), R277
  ⟨0x428, 0x40, 4, 0x0, 0x0, 0x0, 0x0, 0x0, 0x0, true⟩,  -- GRP_FREQ_EFF (4), R277
  ⟨0x42C, 0x40, 4, 0x0, 0x0, 0x0, 0x0, 0x0, 0x0, true⟩,  -- GRP_OFFSET_IN (4), R277
  ⟨0x430, 0x40, 4, 0x0, 0x0, 0x0, 0x0, 0x0, 0x0, true⟩,  -- GRP_LAST_STEP (4), R277
  ⟨0x434, 0x40, 4, 0x0, 0x3FFF, 0x0, 0x0, 0x0, 0x0, false⟩,  -- GRP_DEV_ID (4), R277
  ⟨0x438, 0x40, 4, 0x0, 0x0, 0x0, 0x0, 0x0, 0x0, true⟩,  -- GRP_NEAR_MISS (4), R277
  ⟨0x43C, 0x40, 4, 0x0, 0x0, 0x0, 0x0, 0x0, 0x0, true⟩,  -- GRP_COUNTS (4), R277
  ⟨0x500, 0x4, 4, 0x0, 0x0, 0x0, 0x0, 0x0, 0x0, true⟩  -- GRP_TSTAT (4), R332
  ]

/-- The block registers of LIFE (spec 16).-/
def devLifeRows : List RegRow := [
  ⟨0x100, 0x0, 1, 0x0, 0x0, 0x0, 0x0, 0x0, 0x0, true⟩,  -- STATUS, R332
  ⟨0x104, 0x0, 1, 0x0, 0x0, 0x0, 0x0, 0x0, 0x0, true⟩,  -- REC_SEQ, R332
  ⟨0x108, 0x0, 1, 0xE10, 0xFFFF, 0x0, 0x0, 0x0, 0x0, false⟩,  -- CTRL, R332
  ⟨0x110, 0x0, 1, 0x0, 0x0, 0x0, 0x0, 0x0, 0x0, true⟩,  -- PWR_SEC_LO, R332
  ⟨0x114, 0x0, 1, 0x0, 0x0, 0x0, 0x0, 0x0, 0x0, true⟩,  -- PWR_SEC_HI, R332
  ⟨0x118, 0x0, 1, 0x0, 0x0, 0x0, 0x0, 0x0, 0x0, true⟩,  -- PWR_CYCLES, R332
  ⟨0x11C, 0x0, 1, 0x0, 0x0, 0x0, 0x0, 0x0, 0x0, true⟩,  -- RESETS, R332
  ⟨0x120, 0x0, 1, 0x0, 0x0, 0x0, 0x0, 0x0, 0x0, true⟩,  -- TREND_DAY, R332
  ⟨0x124, 0x0, 1, 0x0, 0x0, 0x0, 0x0, 0x0, 0x0, true⟩,  -- TREND_LAST, R332
  ⟨0x128, 0x0, 1, 0x0, 0x0, 0x0, 0x0, 0x0, 0x0, true⟩,  -- TREND_COUNT, R332
  ⟨0x130, 0x0, 1, 0x0, 0x1F, 0x0, 0x0, 0x0, 0x0, false⟩,  -- HIST_SEL, R332
  ⟨0x140, 0x4, 16, 0x0, 0x0, 0x0, 0x0, 0x0, 0x0, false⟩,  -- HIST (16), R332
  ⟨0x180, 0x0, 1, 0x0, 0x7F, 0x0, 0x0, 0x0, 0x0, false⟩,  -- WEAR_SEL, R332
  ⟨0x184, 0x0, 1, 0x0, 0x0, 0x0, 0x0, 0x0, 0x0, false⟩,  -- WEAR_COUNT, R332
  ⟨0x188, 0x0, 1, 0x0, 0x0, 0x0, 0x0, 0x0, 0x0, true⟩,  -- WEAR_MAX, R332
  ⟨0x18C, 0x0, 1, 0x0, 0x0, 0x0, 0x0, 0x0, 0x0, true⟩,  -- WEAR_MAX_SEC, R332
  ⟨0x190, 0x0, 1, 0x0, 0xFFF, 0x0, 0x0, 0x0, 0x0, false⟩,  -- TREND_SEL, R332
  ⟨0x194, 0x0, 1, 0x0, 0x0, 0x0, 0x0, 0x0, 0x0, false⟩,  -- TREND_VAL, R332
  ⟨0x198, 0x0, 1, 0x0, 0x0, 0x0, 0x0, 0x0, 0x0, false⟩,  -- TREND_RD, R332
  ⟨0x200, 0x10, 16, 0x0, 0x0, 0x0, 0x0, 0x0, 0x0, true⟩,  -- LINK_SEC (16), R332
  ⟨0x204, 0x10, 16, 0x0, 0x0, 0x0, 0x0, 0x0, 0x0, true⟩,  -- TRAINS (16), R332
  ⟨0x208, 0x10, 16, 0x0, 0x0, 0x0, 0x0, 0x0, 0x0, true⟩  -- STRESS_SEC (16), R332
  ]

/-- The block registers of CMT (spec 16).-/
def devCmtRowsA : List RegRow := [
  ⟨0x100, 0x0, 1, 0x0, 0x3FF, 0x0, 0x0, 0x0, 0x0, false⟩,  -- RT_INDEX, R310
  ⟨0x104, 0x0, 1, 0x0, 0x3FFF3FFF, 0x0, 0x0, 0x0, 0x0, false⟩,  -- RT_RANGE, R310
  ⟨0x108, 0x0, 1, 0x0, 0x8000FFFF, 0x0, 0x0, 0x0, 0x0, false⟩,  -- RT_MASK, R310
  ⟨0x10C, 0x0, 1, 0x0, 0x10, 0x0, 0x0, 0x3, 0x0, false⟩,  -- RT_CMD, R310
  ⟨0x110, 0x0, 1, 0x3E8, 0xFFFF, 0x0, 0x0, 0x0, 0x0, false⟩,  -- HOP_ALLOW, R310
  ⟨0x114, 0x0, 1, 0x0, 0x0, 0x0, 0x0, 0x0, 0x0, true⟩,  -- LATE_TX, R310
  ⟨0x118, 0x0, 1, 0x0, 0x0, 0x0, 0x0, 0x0, 0x0, true⟩,  -- FIRE_STATUS, R310
  ⟨0x200, 0x40, 4, 0x4, 0xFFFF0007, 0x0, 0x0, 0x0, 0x0, false⟩,  -- GRP_CTRL (4), R310
  ⟨0x204, 0x0, 1, 0x8000, 0xFF7F, 0x0, 0x0, 0x0, 0x0, false⟩,  -- GRP0_PART
  ⟨0x204, 0x40, 4, 0x0, 0xFF7F, 0x0, 0x0, 0x0, 0x0, false⟩,  -- GRP_PART (4), R310
  ⟨0x208, 0x40, 4, 0x0, 0x0, 0x0, 0x0, 0x0, 0x0, true⟩,  -- GRP_SEQ (4), R310
  ⟨0x20C, 0x40, 4, 0x0, 0x0, 0x0, 0x0, 0x0, 0x0, true⟩,  -- GRP_ADMIT (4), R310
  ⟨0x210, 0x40, 4, 0x0, 0x0, 0x0, 0x0, 0x0, 0x0, true⟩,  -- GRP_FWD (4), R310
  ⟨0x214, 0x40, 4, 0x0, 0x0, 0x0, 0x0, 0x0, 0x0, true⟩,  -- GRP_FIRED (4), R310
  ⟨0x218, 0x40, 4, 0x0, 0x0, 0x0, 0x0, 0x0, 0x0, true⟩,  -- GRP_EXPIRE (4), R310
  ⟨0x21C, 0x40, 4, 0x0, 0x0, 0x0, 0x0, 0x0, 0x0, true⟩,  -- GRP_QUEUED (4), R310
  ⟨0x220, 0x40, 4, 0x0, 0x0, 0x0, 0x0, 0x0, 0x0, true⟩,  -- GRP_INJECTED (4), R310
  ⟨0x224, 0x40, 4, 0x0, 0x0, 0x0, 0x0, 0x0, 0x0, true⟩,  -- GRP_RECEIVED (4), R310
  ⟨0x228, 0x40, 4, 0x0, 0x0, 0x0, 0x0, 0x0, 0x0, true⟩,  -- GRP_REJ (4), R310
  ⟨0x22C, 0x40, 4, 0x0, 0x0, 0x0, 0x0, 0x0, 0x0, true⟩,  -- GRP_DROP_A (4), R310
  ⟨0x230, 0x40, 4, 0x0, 0x0, 0x0, 0x0, 0x0, 0x0, true⟩,  -- GRP_DROP_B (4), R310
  ⟨0x234, 0x40, 4, 0x0, 0x0, 0x0, 0x0, 0x0, 0x0, true⟩,  -- GRP_LATE_RX (4), R310
  ⟨0x238, 0x40, 4, 0x0, 0x0, 0x0, 0x0, 0x0, 0x0, true⟩,  -- GRP_LATE_LAST (4), R310
  ⟨0x400, 0x4, 16, 0x0, 0x0, 0x0, 0x0, 0x0, 0x0, true⟩  -- QSTATUS (16), R310
  ]

/-- The block registers of CMT (spec 16).-/
def devCmtRowsB : List RegRow := [
  ⟨0x440, 0x4, 16, 0x0, 0x0, 0x0, 0x0, 0x0, 0x0, true⟩  -- REJ_PATH (16), R289
  ]

/-- The block registers of CAP (spec 16).-/
def devCapRows : List RegRow := [
  ⟨0x100, 0x0, 1, 0x4, 0xF07, 0x0, 0x8, 0x0, 0x0, false⟩,  -- CTRL, R310
  ⟨0x104, 0x0, 1, 0x0, 0x0, 0x0, 0x0, 0x0, 0x0, true⟩,  -- WR_SEQ, R310
  ⟨0x108, 0x0, 1, 0x0, 0x0, 0x0, 0x0, 0x0, 0x0, true⟩,  -- OLDEST_SEQ, R310
  ⟨0x10C, 0x0, 1, 0x0, 0xFFFFFFFF, 0x0, 0x0, 0x0, 0x0, false⟩,  -- ACK_SEQ, R310
  ⟨0x110, 0x0, 1, 0x0, 0x0, 0x0, 0x0, 0x0, 0x0, true⟩,  -- FILL, R310
  ⟨0x114, 0x0, 1, 0x0, 0x0, 0x0, 0x0, 0x0, 0x0, true⟩,  -- OVR_COUNT, R310
  ⟨0x118, 0x0, 1, 0x0, 0x0, 0x0, 0x0, 0x0, 0x0, true⟩,  -- FULL_DROP, R310
  ⟨0x11C, 0x0, 1, 0x0, 0x0, 0x0, 0x0, 0x0, 0x0, true⟩,  -- IN_DROP, R310
  ⟨0x120, 0x0, 1, 0x0, 0x0, 0x0, 0x0, 0x0, 0x0, true⟩,  -- REP_TX, R310
  ⟨0x124, 0x0, 1, 0x0, 0x0, 0x0, 0x0, 0x0, 0x0, true⟩,  -- REP_DROP, R310
  ⟨0x128, 0x0, 1, 0x0, 0x0, 0x0, 0x0, 0x0, 0x0, true⟩  -- REP_RX, R310
  ]

/-- The block registers of TRIG (spec 16).-/
def devTrigRows : List RegRow := [
  ⟨0x100, 0x10, 16, 0x4000, 0x7F73, 0x0, 0x0, 0x0, 0x0, false⟩,  -- PIN_CTRL (16), R310
  ⟨0x104, 0x10, 16, 0x0, 0xFFFFFFFF, 0x0, 0x0, 0x0, 0x0, false⟩,  -- PIN_DLY (16), R310
  ⟨0x108, 0x10, 16, 0x0, 0x0, 0x0, 0x0, 0x0, 0x0, true⟩,  -- PIN_STATUS (16), R310
  ⟨0x10C, 0x10, 16, 0x0, 0x0, 0x0, 0x0, 0x0, 0x0, true⟩,  -- PIN_COUNT (16), R310
  ⟨0x300, 0x0, 1, 0x0, 0x3303, 0x0, 0x0, 0x0, 0x0, false⟩,  -- PPS_IN_CTRL, R278
  ⟨0x304, 0x0, 1, 0x0, 0xFFFFFFFF, 0x0, 0x0, 0x0, 0x0, false⟩,  -- PPS_IN0_OFS, R278
  ⟨0x308, 0x0, 1, 0x0, 0xFFFFFFFF, 0x0, 0x0, 0x0, 0x0, false⟩,  -- PPS_IN1_OFS, R278
  ⟨0x30C, 0x0, 1, 0x0, 0x0, 0x0, 0x0, 0x0, 0x0, true⟩,  -- PPS_IN0_NS, R278
  ⟨0x310, 0x0, 1, 0x0, 0x0, 0x0, 0x0, 0x0, 0x0, true⟩,  -- PPS_IN0_FC, R278
  ⟨0x314, 0x0, 1, 0x0, 0x0, 0x0, 0x0, 0x0, 0x0, true⟩,  -- PPS_IN1_NS, R278
  ⟨0x318, 0x0, 1, 0x0, 0x0, 0x0, 0x0, 0x0, 0x0, true⟩,  -- PPS_IN1_FC, R278
  ⟨0x320, 0x0, 1, 0x186A0000, 0xFFFFF033, 0x0, 0x0, 0x0, 0x0, false⟩,  -- PPS_OUT_CTRL, R278
  ⟨0x324, 0x0, 1, 0x0, 0xFFFFFFFF, 0x0, 0x0, 0x0, 0x0, false⟩,  -- PPS_OUT_DLY, R278
  ⟨0x328, 0x0, 1, 0x0, 0x0, 0x0, 0x0, 0x0, 0x0, true⟩,  -- PPS_STATUS, R278
  ⟨0x32C, 0x0, 1, 0x0, 0x0, 0x0, 0x0, 0x0, 0x0, true⟩,  -- PPS_MISS, R278
  ⟨0x340, 0x0, 1, 0x0, 0x0, 0xFFFF, 0x0, 0x0, 0x0, false⟩,  -- DRV_FAULT, R418
  ⟨0x344, 0x0, 1, 0x0, 0x0, 0x0, 0x0, 0x0, 0xFFFFFFFF, false⟩  -- DRV_FENCE, R418
  ]

/-- The block registers of TG (spec 16).-/
def devTgRows : List RegRow := [
  ⟨0x100, 0x0, 1, 0x0, 0xFFFFFFFF, 0x0, 0x0, 0x0, 0x0, false⟩,  -- CH_MAP, R21
  ⟨0x104, 0x0, 1, 0x0, 0x0, 0x0, 0x0, 0x0, 0x0, true⟩,  -- MAP_STATUS, R21
  ⟨0x108, 0x0, 1, 0x0, 0x0, 0x0, 0x0, 0x0, 0x0, true⟩  -- CH_MAP_EFF, R21
  ]

/-- The block registers of CMTW (spec 16).-/
def devCmtwRows : List RegRow := [
  ⟨0x100, 0x0, 1, 0x0, 0x1FFFF, 0x0, 0x0, 0x0, 0x0, false⟩,  -- INDEX, R310
  ⟨0x104, 0x0, 1, 0x0, 0x10, 0x0, 0x0, 0x7, 0x0, false⟩,  -- CMD, R310
  ⟨0x108, 0x0, 1, 0x0, 0x0, 0x0, 0x0, 0x0, 0x0, true⟩,  -- STATUS, R310
  ⟨0x200, 0x4, 8, 0x0, 0xFFFFFFFF, 0x0, 0x0, 0x0, 0x0, false⟩  -- W (8), R310
  ]

/-- The block registers of CAPW (spec 16).-/
def devCapwRows : List RegRow := [
  ⟨0x100, 0x0, 1, 0x0, 0xFFFFFFFF, 0x0, 0x0, 0x0, 0x0, false⟩,  -- RD_SEQ, R310
  ⟨0x104, 0x0, 1, 0x0, 0x0, 0x0, 0x0, 0x0, 0x0, false⟩,  -- STATUS, R310
  ⟨0x200, 0x4, 64, 0x0, 0x0, 0x0, 0x0, 0x0, 0x0, false⟩  -- ENTRY_WORD (64), R310
  ]

/-- The block registers of NVMW (spec 16).-/
def devNvmwRows : List RegRow := [
  ⟨0x100, 0x0, 1, 0x0, 0x1FFFF, 0x0, 0x0, 0x0, 0x0, false⟩,  -- BASE, R29
  ⟨0x200, 0x4, 64, 0x0, 0xFFFFFFFF, 0x0, 0x0, 0x0, 0x0, false⟩  -- DATA (64), R29
  ]

/-- The block registers of CHn.CH (spec 16).-/
def chChRows : List RegRow := [
  ⟨0x140, 0x0, 1, 0x0, 0x0, 0x0, 0x0, 0x0, 0xFFFF07FF, false⟩,  -- RESET, R371
  ⟨0x180, 0x0, 1, 0x0, 0x0, 0x0, 0x0, 0x0, 0x0, true⟩  -- IRQ_PAGES, R407
  ]

/-- The block registers of CHn.PCS (spec 16).-/
def chPcsRows : List RegRow := [
  ⟨0x100, 0x0, 1, 0x0, 0x0, 0x0, 0x0, 0x0, 0x0, true⟩,  -- LINE_STATUS, R107
  ⟨0x104, 0x0, 1, 0x0, 0x0, 0x0, 0x0, 0x0, 0x0, true⟩,  -- TX_ORBIT, R107
  ⟨0x108, 0x0, 1, 0x0, 0x0, 0x0, 0x0, 0x0, 0x0, true⟩,  -- RX_ORBIT, R107
  ⟨0x110, 0x0, 1, 0x0, 0x0, 0x0, 0x0, 0x0, 0x0, true⟩,  -- MARK_MISS, R107
  ⟨0x114, 0x0, 1, 0x0, 0x0, 0x0, 0x0, 0x0, 0x0, true⟩,  -- KTL_CORR_BITS, R107
  ⟨0x118, 0x0, 1, 0x0, 0x0, 0x0, 0x0, 0x0, 0x0, true⟩,  -- KTL_FAIL, R107
  ⟨0x120, 0x0, 1, 0x0, 0x0, 0x0, 0x0, 0x0, 0x0, true⟩,  -- OAM_TX, R107
  ⟨0x124, 0x0, 1, 0x0, 0x0, 0x0, 0x0, 0x0, 0x0, true⟩,  -- OAM_RX, R107
  ⟨0x128, 0x0, 1, 0x0, 0x0, 0x0, 0x0, 0x0, 0x0, true⟩,  -- OAM_DROP, R107
  ⟨0x130, 0x0, 1, 0x0, 0x0, 0x0, 0x0, 0x0, 0x0, true⟩,  -- LIDLE_TX_LO, R107
  ⟨0x134, 0x0, 1, 0x0, 0x0, 0x0, 0x0, 0x0, 0x0, true⟩,  -- LIDLE_TX_HI, R107
  ⟨0x138, 0x0, 1, 0x0, 0x0, 0x0, 0x0, 0x0, 0x0, true⟩,  -- LIDLE_RX_LO, R107
  ⟨0x13C, 0x0, 1, 0x0, 0x0, 0x0, 0x0, 0x0, 0x0, true⟩  -- LIDLE_RX_HI, R107
  ]

/-- The block registers of CHn.FEC (spec 16).-/
def chFecRows : List RegRow := [
  ⟨0x100, 0x0, 1, 0x1C0A, 0x1F1F, 0x0, 0x0, 0x0, 0x0, false⟩,  -- CTRL, R133
  ⟨0x104, 0x0, 1, 0xA00, 0x0, 0x0, 0x0, 0x0, 0x0, true⟩,  -- STATUS, R133
  ⟨0x108, 0x0, 1, 0x0, 0x0, 0x0, 0x0, 0x0, 0xFFFF0007, false⟩,  -- UNIT_FENCE, R133
  ⟨0x110, 0x0, 1, 0x0, 0x0, 0x0, 0x0, 0x0, 0x0, true⟩,  -- CW_RX_LO, R133
  ⟨0x114, 0x0, 1, 0x0, 0x0, 0x0, 0x0, 0x0, 0x0, true⟩,  -- CW_RX_HI, R133
  ⟨0x118, 0x0, 1, 0x0, 0x0, 0x0, 0x0, 0x0, 0x0, true⟩,  -- CW_TX_LO, R133
  ⟨0x11C, 0x0, 1, 0x0, 0x0, 0x0, 0x0, 0x0, 0x0, true⟩,  -- CW_TX_HI, R133
  ⟨0x120, 0x0, 1, 0x0, 0x0, 0x0, 0x0, 0x0, 0x0, true⟩,  -- CORR_LO, R133
  ⟨0x124, 0x0, 1, 0x0, 0x0, 0x0, 0x0, 0x0, 0x0, true⟩,  -- CORR_HI, R133
  ⟨0x128, 0x0, 1, 0x0, 0x0, 0x0, 0x0, 0x0, 0x0, true⟩,  -- UNCORR, R133
  ⟨0x12C, 0x0, 1, 0x0, 0x0, 0x0, 0x0, 0x0, 0x0, true⟩,  -- ENG_LOST, R133
  ⟨0x130, 0x0, 1, 0x0, 0x0, 0x0, 0x0, 0x0, 0x0, true⟩,  -- CREDIT_STALL, R133
  ⟨0x134, 0x0, 1, 0x0, 0x0, 0x0, 0x0, 0x0, 0x0, true⟩,  -- DISCARD, R133
  ⟨0x138, 0x0, 1, 0x8000800, 0x0, 0x0, 0x0, 0x0, 0x0, true⟩,  -- CREDITS, R133
  ⟨0x13C, 0x0, 1, 0x0, 0x0, 0x0, 0x0, 0x0, 0x0, true⟩,  -- ECC1_COUNT, R133
  ⟨0x140, 0x0, 1, 0x0, 0x0, 0x0, 0x0, 0x0, 0x0, true⟩,  -- BER_EST, R133
  ⟨0x144, 0x0, 1, 0x0, 0x0, 0x0, 0x0, 0x0, 0x0, true⟩,  -- BER_WINDOWS, R133
  ⟨0x150, 0x0, 1, 0x0, 0x0, 0x0, 0x0, 0x0, 0x0, true⟩,  -- LAT_RX, R133
  ⟨0x154, 0x0, 1, 0x0, 0x0, 0x0, 0x0, 0x0, 0x0, true⟩,  -- LAT_TX, R133
  ⟨0x158, 0x0, 1, 0x0, 0x0, 0x0, 0x0, 0x0, 0x0, true⟩,  -- LAT_DEC, R133
  ⟨0x15C, 0x0, 1, 0x0, 0x0, 0x0, 0x0, 0x0, 0x0, true⟩,  -- LAT_RLY, R133
  ⟨0x200, 0x8, 17, 0x0, 0x0, 0x0, 0x0, 0x0, 0x0, true⟩,  -- HIST_LO (17), R133
  ⟨0x204, 0x8, 17, 0x0, 0x0, 0x0, 0x0, 0x0, 0x0, true⟩  -- HIST_HI (17), R133
  ]

/-- The block registers of CHn.AFE (spec 16).-/
def chAfeRows : List RegRow := [
  ⟨0x100, 0x0, 1, 0x10, 0x13F, 0x0, 0x0, 0x0, 0x0, false⟩,  -- RX_GAIN, R173
  ⟨0x104, 0x0, 1, 0x10, 0x0, 0x0, 0x0, 0x0, 0x0, true⟩,  -- GAIN_STATUS, R173
  ⟨0x108, 0x0, 1, 0x0, 0x0, 0x0, 0x0, 0x0, 0x0, true⟩,  -- RX_POWER, R173
  ⟨0x10C, 0x0, 1, 0x0, 0x0, 0x0, 0x0, 0x0, 0x0, true⟩,  -- ADC_CLIP, R173
  ⟨0x110, 0x0, 1, 0x10, 0xFFFF, 0x0, 0x0, 0x0, 0x0, false⟩,  -- CLIP_LIMIT, R173
  ⟨0x114, 0x0, 1, 0x0, 0x0, 0x0, 0x0, 0x0, 0x0, true⟩,  -- T_FRONT, R173
  ⟨0x120, 0x0, 1, 0x0, 0x0, 0x0, 0x0, 0x0, 0x0, true⟩,  -- HYB_BAL, R173
  ⟨0x124, 0x0, 1, 0x4, 0x0, 0x0, 0x0, 0x0, 0x0, true⟩,  -- ADC_STATUS, R173
  ⟨0x128, 0x0, 1, 0x0, 0x3F, 0x0, 0x0, 0x0, 0x0, false⟩,  -- SLICE_SEL, R173
  ⟨0x12C, 0x0, 1, 0x0, 0x0, 0x0, 0x0, 0x0, 0x0, false⟩,  -- SLICE_CORR, R173
  ⟨0x140, 0x4, 8, 0x0, 0x0, 0x0, 0x0, 0x0, 0x0, true⟩,  -- SLICE_MAP (8), R173
  ⟨0x160, 0x0, 1, 0x7F08, 0x0, 0x0, 0x0, 0x0, 0x0, true⟩,  -- DAC_STATUS, R173
  ⟨0x180, 0x4, 16, 0x0, 0x0, 0x0, 0x0, 0x0, 0x0, true⟩  -- SEG_MAP (16), R173
  ]

/-- The block registers of CHn.EQ (spec 16).-/
def chEqRows : List RegRow := [
  ⟨0x100, 0x0, 1, 0x0, 0x1F, 0x0, 0x0, 0x0, 0x0, false⟩,  -- ADAPT_CTRL, R175
  ⟨0x104, 0x0, 1, 0x4250A, 0xFFFFF, 0x0, 0x0, 0x0, 0x0, false⟩,  -- STEP_ACQ, R175
  ⟨0x108, 0x0, 1, 0x73DD0, 0xFFFFF, 0x0, 0x0, 0x0, 0x0, false⟩,  -- STEP_TRK, R175
  ⟨0x10C, 0x0, 1, 0x0, 0x0, 0x0, 0x0, 0x0, 0x0, true⟩,  -- ADAPT_STATUS, R175
  ⟨0x110, 0x0, 1, 0x0, 0x0, 0x0, 0x0, 0x0, 0x0, true⟩,  -- FREEZE_COUNT, R175
  ⟨0x120, 0x0, 1, 0xA, 0x3F, 0x0, 0x0, 0x0, 0x0, false⟩,  -- FFE_CTRL, R175
  ⟨0x124, 0x0, 1, 0x4, 0x7, 0x0, 0x0, 0x0, 0x0, false⟩,  -- DFE_CTRL, R175
  ⟨0x130, 0x4, 4, 0x0, 0x0, 0x0, 0x0, 0x0, 0x0, true⟩,  -- DFE_TAP (4), R175
  ⟨0x140, 0x0, 1, 0x0, 0xFFF, 0x0, 0x0, 0x0, 0x0, false⟩,  -- EC_SEL, R175
  ⟨0x144, 0x0, 1, 0x0, 0x0, 0x0, 0x0, 0x0, 0x0, false⟩,  -- EC_TAP, R175
  ⟨0x148, 0x0, 1, 0x0, 0x0, 0x0, 0x0, 0x0, 0x0, true⟩,  -- EC_RESIDUAL, R175
  ⟨0x150, 0x0, 1, 0x21, 0x31, 0x0, 0x0, 0x0, 0x0, false⟩,  -- TR_CTRL, R175
  ⟨0x154, 0x0, 1, 0x0, 0x0, 0x0, 0x0, 0x0, 0x0, true⟩,  -- TR_STATUS, R175
  ⟨0x158, 0x0, 1, 0x0, 0x0, 0x0, 0x0, 0x0, 0x0, true⟩,  -- TR_PHASE, R175
  ⟨0x15C, 0x0, 1, 0x0, 0x0, 0x20000000, 0x0, 0x0, 0x0, false⟩,  -- SSC_STATUS, R175
  ⟨0x160, 0x0, 1, 0x0, 0x0, 0x0, 0x0, 0x0, 0x0, true⟩,  -- MSE_LAST, R175
  ⟨0x164, 0x0, 1, 0x0, 0x0, 0x0, 0x0, 0x0, 0x0, true⟩,  -- MSE_AVG, R175
  ⟨0x168, 0x0, 1, 0x0, 0x0, 0x0, 0x0, 0x0, 0x0, true⟩,  -- MSE_MAX, R175
  ⟨0x170, 0x0, 1, 0x80, 0xFF1, 0x0, 0x0, 0x0, 0x0, false⟩,  -- NF_CTRL, R175
  ⟨0x174, 0x0, 1, 0x0, 0x0, 0x0, 0x0, 0x0, 0x0, true⟩,  -- NF_STATUS, R175
  ⟨0x180, 0x4, 4, 0x0, 0x0, 0x0, 0x0, 0x0, 0x0, true⟩,  -- NF_BAND (4), R175
  ⟨0x228, 0x0, 1, 0x1000, 0x0, 0x0, 0x0, 0x0, 0x0, true⟩,  -- FFE_TAP10, MAIN after reset
  ⟨0x200, 0x4, 48, 0x0, 0x0, 0x0, 0x0, 0x0, 0x0, true⟩  -- FFE_TAP (48), R175
  ]

/-- The block registers of CHn.AN (spec 16).-/
def chAnRowsA : List RegRow := [
  ⟨0x100, 0x0, 1, 0x1, 0xD, 0x0, 0x2, 0x0, 0x0, false⟩,  -- AN_CTRL, R215
  ⟨0x104, 0x0, 1, 0x100003FF, 0xF00003FF, 0x0, 0x0, 0x0, 0x0, false⟩,  -- ADV, R215
  ⟨0x108, 0x0, 1, 0x640002, 0xFFFF000F, 0x0, 0x0, 0x0, 0x0, false⟩,  -- POLICY, R215
  ⟨0x10C, 0x0, 1, 0xFF92, 0xFFFF, 0x0, 0x0, 0x0, 0x0, false⟩,  -- TRN_MSE_TH, R215
  ⟨0x110, 0x0, 1, 0x0, 0x0, 0x0, 0x0, 0x0, 0x0, true⟩,  -- LP_UP1, R215
  ⟨0x114, 0x0, 1, 0x0, 0x0, 0x0, 0x0, 0x0, 0x0, true⟩,  -- LP_UP2, R215
  ⟨0x118, 0x0, 1, 0x0, 0x0, 0x0, 0x0, 0x0, 0x0, true⟩,  -- RESOLVED, R215
  ⟨0x11C, 0x0, 1, 0x0, 0x0, 0x0, 0x0, 0x0, 0x0, true⟩,  -- TRN_STATUS, R215
  ⟨0x120, 0x0, 1, 0x0, 0x0, 0x0, 0x0, 0x0, 0x0, true⟩,  -- COLD_TRAINS, R215
  ⟨0x124, 0x0, 1, 0x0, 0x0, 0x0, 0x0, 0x0, 0x0, true⟩,  -- WARM_TRAINS, R215
  ⟨0x128, 0x0, 1, 0x0, 0x0, 0x0, 0x0, 0x0, 0x0, true⟩,  -- FAST_RETRAINS, R215
  ⟨0x12C, 0x0, 1, 0x0, 0x0, 0x0, 0x0, 0x0, 0x0, true⟩,  -- TRAIN_FAILS, R215
  ⟨0x130, 0x0, 1, 0x0, 0x0, 0x0, 0x0, 0x0, 0x0, true⟩,  -- DROP_UNCORR, R215
  ⟨0x134, 0x0, 1, 0x0, 0x0, 0x0, 0x0, 0x0, 0x0, true⟩,  -- DROP_MARK, R215
  ⟨0x138, 0x0, 1, 0x0, 0x0, 0x0, 0x0, 0x0, 0x0, true⟩,  -- DOWNSHIFTS, R215
  ⟨0x13C, 0x0, 1, 0x0, 0x0, 0x0, 0x0, 0x0, 0x0, true⟩,  -- LPI_STATUS, R215
  ⟨0x150, 0x0, 1, 0x0, 0x0, 0x0, 0x0, 0x0, 0x0, true⟩,  -- ECL_STATUS, R215
  ⟨0x154, 0x0, 1, 0x0, 0x0, 0x0, 0x0, 0x0, 0x0, true⟩,  -- ECL_START, R215
  ⟨0x158, 0x0, 1, 0x0, 0x0, 0x0, 0x0, 0x0, 0x0, true⟩,  -- ECL_COUNT, R215
  ⟨0x15C, 0x0, 1, 0x0, 0x0, 0x0, 0x0, 0x0, 0x0, true⟩,  -- ECL_DEFER, R215
  ⟨0x160, 0x0, 1, 0x0, 0x0, 0x0, 0x0, 0x0, 0x0, true⟩,  -- ECL_MISS, R215
  ⟨0x164, 0x0, 1, 0x0, 0x0, 0x0, 0x0, 0x0, 0x0, true⟩,  -- EBUF_OCC, R215
  ⟨0x168, 0x0, 1, 0x0, 0x0, 0x0, 0x0, 0x0, 0x0, true⟩,  -- EBUF_IN_LO, R215
  ⟨0x16C, 0x0, 1, 0x0, 0x0, 0x0, 0x0, 0x0, 0x0, true⟩  -- EBUF_IN_HI, R215
  ]

/-- The block registers of CHn.AN (spec 16).-/
def chAnRowsB : List RegRow := [
  ⟨0x170, 0x0, 1, 0x0, 0x0, 0x0, 0x0, 0x0, 0x0, true⟩,  -- EBUF_OUT_LO, R215
  ⟨0x174, 0x0, 1, 0x0, 0x0, 0x0, 0x0, 0x0, 0x0, true⟩,  -- EBUF_OUT_HI, R215
  ⟨0x178, 0x0, 1, 0x0, 0x0, 0x0, 0x0, 0x0, 0x0, true⟩  -- EBUF_FLUSH, R215
  ]

/-- The block registers of CHn.HL (spec 16).-/
def chHlRows : List RegRow := [
  ⟨0x100, 0x0, 1, 0x9, 0xF, 0x0, 0x0, 0x0, 0x0, false⟩,  -- MODE, R216
  ⟨0x104, 0x0, 1, 0x88000400, 0x9FFF1FFF, 0x0, 0x0, 0x0, 0x0, false⟩,  -- RM_CTRL, R216
  ⟨0x108, 0x0, 1, 0x400, 0xFFFF, 0x0, 0x0, 0x0, 0x0, false⟩,  -- PAUSE_TIME, R216
  ⟨0x10C, 0x0, 1, 0x0, 0xFFFFFFFF, 0x0, 0x0, 0x0, 0x0, false⟩,  -- PAUSE_SA_LO, R216
  ⟨0x110, 0x0, 1, 0x0, 0xFFFF, 0x0, 0x0, 0x0, 0x0, false⟩,  -- PAUSE_SA_HI, R216
  ⟨0x114, 0x0, 1, 0x0, 0x0, 0x0, 0x0, 0x0, 0x0, true⟩,  -- STATUS, R216
  ⟨0x118, 0x0, 1, 0x0, 0x0, 0x0, 0x0, 0x0, 0x0, true⟩,  -- RM_OCC, R216
  ⟨0x11C, 0x0, 1, 0x0, 0x0, 0x0, 0x0, 0x0, 0x0, true⟩,  -- RM_QUEUED, R216
  ⟨0x120, 0x0, 1, 0x0, 0x0, 0x0, 0x0, 0x0, 0x0, true⟩,  -- RM_RX_LO, R216
  ⟨0x124, 0x0, 1, 0x0, 0x0, 0x0, 0x0, 0x0, 0x0, true⟩,  -- RM_RX_HI, R216
  ⟨0x128, 0x0, 1, 0x0, 0x0, 0x0, 0x0, 0x0, 0x0, true⟩,  -- RM_SENT_LO, R216
  ⟨0x12C, 0x0, 1, 0x0, 0x0, 0x0, 0x0, 0x0, 0x0, true⟩,  -- RM_SENT_HI, R216
  ⟨0x130, 0x0, 1, 0x0, 0x0, 0x0, 0x0, 0x0, 0x0, true⟩,  -- RM_DROP_LO, R216
  ⟨0x134, 0x0, 1, 0x0, 0x0, 0x0, 0x0, 0x0, 0x0, true⟩,  -- RM_DROP_HI, R216
  ⟨0x138, 0x0, 1, 0x0, 0x0, 0x0, 0x0, 0x0, 0x0, true⟩,  -- PAUSE_TX, R216
  ⟨0x140, 0x0, 1, 0x0, 0x0, 0x0, 0x0, 0x0, 0x0, true⟩,  -- IDLE_INS_LO, R216
  ⟨0x144, 0x0, 1, 0x0, 0x0, 0x0, 0x0, 0x0, 0x0, true⟩,  -- IDLE_INS_HI, R216
  ⟨0x148, 0x0, 1, 0x0, 0x0, 0x0, 0x0, 0x0, 0x0, true⟩,  -- IDLE_DEL_LO, R216
  ⟨0x14C, 0x0, 1, 0x0, 0x0, 0x0, 0x0, 0x0, 0x0, true⟩  -- IDLE_DEL_HI, R216
  ]

/-- The block registers of CHn.KTL (spec 16).-/
def chKtlRows : List RegRow := [
  ⟨0x100, 0x0, 1, 0x6, 0x10F, 0x0, 0x0, 0x0, 0x0, false⟩,  -- CTRL, R276
  ⟨0x104, 0x0, 1, 0x0, 0x0, 0x0, 0x0, 0x0, 0x0, true⟩,  -- STATUS, R276
  ⟨0x108, 0x0, 1, 0x7F0000, 0x0, 0x0, 0x0, 0x0, 0x0, true⟩,  -- PARTNER_INFO, R276
  ⟨0x10C, 0x0, 1, 0x0, 0x0, 0x0, 0x0, 0x0, 0x0, true⟩,  -- PARTNER_ROOT, R276
  ⟨0x110, 0x0, 1, 0x0, 0x0, 0x0, 0x0, 0x0, 0x0, true⟩,  -- OFFSET_NS, R276
  ⟨0x114, 0x0, 1, 0x0, 0x0, 0x0, 0x0, 0x0, 0x0, true⟩,  -- OFFSET_FRAC, R276
  ⟨0x118, 0x0, 1, 0x0, 0x0, 0x0, 0x0, 0x0, 0x0, true⟩,  -- PATH_DELAY, R276
  ⟨0x11C, 0x0, 1, 0x64, 0xFFFF, 0x0, 0x0, 0x0, 0x0, false⟩,  -- OUTLIER_TH, R276
  ⟨0x120, 0x0, 1, 0x0, 0x0, 0x0, 0x0, 0x0, 0x0, true⟩,  -- LAT_MARK_TX, R276
  ⟨0x124, 0x0, 1, 0x0, 0x0, 0x0, 0x0, 0x0, 0x0, true⟩,  -- LAT_MARK_RX, R276
  ⟨0x128, 0x0, 1, 0x0, 0x0, 0x0, 0x0, 0x0, 0x0, true⟩,  -- EST_COUNT, R276
  ⟨0x12C, 0x0, 1, 0x0, 0x0, 0x0, 0x0, 0x0, 0x0, true⟩,  -- OUTLIERS, R276
  ⟨0x130, 0x0, 1, 0x0, 0x0, 0x0, 0x0, 0x0, 0x0, true⟩,  -- ECHO_MISS, R276
  ⟨0x134, 0x0, 1, 0x0, 0x0, 0x0, 0x0, 0x0, 0x0, true⟩,  -- FREQ_REL, R276
  ⟨0x180, 0x0, 1, 0x8F0E, 0xFF7F, 0x0, 0x0, 0x0, 0x0, false⟩,  -- PTP_CTRL, R276
  ⟨0x184, 0x0, 1, 0x0, 0x0, 0x0, 0x0, 0x0, 0x0, false⟩,  -- PTP_STATUS, R276
  ⟨0x188, 0x0, 1, 0x0, 0x0, 0x0, 0x1, 0x0, 0x0, false⟩,  -- PTP_POP, R276
  ⟨0x18C, 0x0, 1, 0x0, 0x0, 0x0, 0x0, 0x0, 0x0, true⟩,  -- PTP_TS_OVF, R276
  ⟨0x190, 0x4, 4, 0x0, 0x0, 0x0, 0x0, 0x0, 0x0, false⟩,  -- PTP_TS_W (4), R276
  ⟨0x1A0, 0x0, 1, 0x0, 0x0, 0x0, 0x0, 0x0, 0x0, true⟩,  -- PTP_TC_SKIP, R276
  ⟨0x1A4, 0x0, 1, 0x0, 0x0, 0x0, 0x0, 0x0, 0x0, true⟩  -- PTP_MOD, R276
  ]

/-- The block registers of CHn.DIAG (spec 16).-/
def chDiagRows : List RegRow := [
  ⟨0x100, 0x0, 1, 0x1, 0x3, 0x0, 0x0, 0x0, 0x0, false⟩,  -- DIAG_CTRL, R239
  ⟨0x104, 0x0, 1, 0x12C0, 0xFFFF, 0x0, 0x0, 0x0, 0x0, false⟩,  -- CABLE, R239
  ⟨0x108, 0x0, 1, 0xF2BC1C2, 0xFFFFF3FF, 0x0, 0x0, 0x0, 0x0, false⟩,  -- EVT_CTRL, R239
  ⟨0x10C, 0x0, 1, 0x0, 0x0, 0x0, 0x0, 0x0, 0x0, true⟩,  -- MAP_STATUS, R239
  ⟨0x110, 0x0, 1, 0x0, 0x0, 0x0, 0x0, 0x0, 0x0, true⟩,  -- MAP_BIN_UM, R239
  ⟨0x114, 0x0, 1, 0x0, 0x0, 0x0, 0x0, 0x0, 0x0, true⟩,  -- MAP_K0, R239
  ⟨0x118, 0x0, 1, 0x0, 0x0, 0x0, 0x0, 0x0, 0x0, true⟩,  -- MAP_SKIP, R239
  ⟨0x120, 0x0, 1, 0x0, 0x0, 0x0, 0x0, 0x0, 0x0, true⟩,  -- IL_EST, R239
  ⟨0x124, 0x0, 1, 0x0, 0x0, 0x0, 0x0, 0x0, 0x0, true⟩,  -- IL_MARGIN, R239
  ⟨0x128, 0x0, 1, 0x0, 0x0, 0x0, 0x0, 0x0, 0x0, true⟩,  -- CHI, R239
  ⟨0x12C, 0x0, 1, 0x0, 0x0, 0x0, 0x0, 0x0, 0x0, true⟩,  -- NF_RISE, R239
  ⟨0x130, 0x0, 1, 0x0, 0x0, 0x0, 0x0, 0x0, 0x0, true⟩,  -- PROFILE, R239
  ⟨0x140, 0x4, 16, 0xFFFFFFFF, 0x0, 0x0, 0x0, 0x0, 0x0, true⟩,  -- MAP_BIN (16), R239
  ⟨0x180, 0x8, 8, 0x0, 0x0, 0x0, 0x0, 0x0, 0x0, true⟩,  -- EVT_DIST (8), R239
  ⟨0x184, 0x8, 8, 0x0, 0x0, 0x0, 0x0, 0x0, 0x0, true⟩,  -- EVT_INFO (8), R239
  ⟨0x1C0, 0x0, 1, 0x33, 0x3FF, 0x0, 0x0, 0x0, 0x0, false⟩,  -- TDR_CTRL, R239
  ⟨0x1C4, 0x0, 1, 0x0, 0x0, 0x0, 0x0, 0x0, 0x0, true⟩,  -- TDR_STATUS, R239
  ⟨0x1C8, 0x0, 1, 0x0, 0x0, 0x0, 0x0, 0x0, 0x0, true⟩,  -- TDR_DISC, R239
  ⟨0x1D0, 0x8, 8, 0x0, 0x0, 0x0, 0x0, 0x0, 0x0, true⟩,  -- TDR_E_DIST (8), R239
  ⟨0x1D4, 0x8, 8, 0x0, 0x0, 0x0, 0x0, 0x0, 0x0, true⟩,  -- TDR_E_INFO (8), R239
  ⟨0x210, 0x0, 1, 0x90, 0xF3, 0x0, 0x0, 0x0, 0x0, false⟩,  -- LB_CTRL, R239
  ⟨0x214, 0x0, 1, 0x90, 0x1F7, 0x0, 0x0, 0x0, 0x0, false⟩,  -- TP_CTRL, R239
  ⟨0x218, 0x0, 1, 0x0, 0x0, 0x0, 0x0, 0x0, 0x0, true⟩,  -- PAT_ERR, R239
  ⟨0x21C, 0x0, 1, 0x0, 0x0, 0x0, 0x0, 0x0, 0x0, true⟩  -- LB_STATUS, R239
  ]

/-- The block registers of CHn.RLY (spec 16).-/
def chRlyRows : List RegRow := [
  ⟨0x100, 0x0, 1, 0x0, 0x3, 0x0, 0x0, 0x0, 0x0, false⟩,  -- CTRL, R217
  ⟨0x104, 0x0, 1, 0x0, 0x0, 0x0, 0x0, 0x0, 0x0, true⟩,  -- STATUS, R217
  ⟨0x108, 0x0, 1, 0x0, 0x0, 0x0, 0x0, 0x0, 0x0, true⟩,  -- FWD_LO, R217
  ⟨0x10C, 0x0, 1, 0x0, 0x0, 0x0, 0x0, 0x0, 0x0, true⟩,  -- FWD_HI, R217
  ⟨0x110, 0x0, 1, 0x0, 0x0, 0x0, 0x0, 0x0, 0x0, true⟩,  -- FIFO_DROP, R217
  ⟨0x114, 0x0, 1, 0x0, 0x0, 0x0, 0x0, 0x0, 0x0, true⟩,  -- DISCARD, R217
  ⟨0x118, 0x0, 1, 0x0, 0x0, 0x0, 0x0, 0x0, 0x0, true⟩,  -- TAP_LO, R217
  ⟨0x11C, 0x0, 1, 0x0, 0x0, 0x0, 0x0, 0x0, 0x0, true⟩,  -- TAP_HI, R217
  ⟨0x120, 0x0, 1, 0x0, 0x0, 0x0, 0x0, 0x0, 0x0, true⟩,  -- TAP_DROP, R217
  ⟨0x124, 0x0, 1, 0x0, 0x0, 0x0, 0x0, 0x0, 0x0, true⟩  -- FIFO_OCC, R217
  ]

/-- The block registers of CHn.CNT (spec 16).-/
def chCntRows : List RegRow := [
  ⟨0x100, 0x0, 1, 0x0, 0x0, 0x0, 0x0, 0x0, 0x0, true⟩,  -- LRX_FRAMES_LO, R425
  ⟨0x104, 0x0, 1, 0x0, 0x0, 0x0, 0x0, 0x0, 0x0, true⟩,  -- LRX_FRAMES_HI, R425
  ⟨0x108, 0x0, 1, 0x0, 0x0, 0x0, 0x0, 0x0, 0x0, true⟩,  -- LRX_OCTETS_LO, R425
  ⟨0x10C, 0x0, 1, 0x0, 0x0, 0x0, 0x0, 0x0, 0x0, true⟩,  -- LRX_OCTETS_HI, R425
  ⟨0x110, 0x0, 1, 0x0, 0x0, 0x0, 0x0, 0x0, 0x0, true⟩,  -- LRX_ERR_FRAMES, R425
  ⟨0x114, 0x0, 1, 0x0, 0x0, 0x0, 0x0, 0x0, 0x0, true⟩,  -- LRX_FCS_ERR, R425
  ⟨0x120, 0x0, 1, 0x0, 0x0, 0x0, 0x0, 0x0, 0x0, true⟩,  -- LTX_FRAMES_LO, R425
  ⟨0x124, 0x0, 1, 0x0, 0x0, 0x0, 0x0, 0x0, 0x0, true⟩,  -- LTX_FRAMES_HI, R425
  ⟨0x128, 0x0, 1, 0x0, 0x0, 0x0, 0x0, 0x0, 0x0, true⟩,  -- LTX_OCTETS_LO, R425
  ⟨0x12C, 0x0, 1, 0x0, 0x0, 0x0, 0x0, 0x0, 0x0, true⟩,  -- LTX_OCTETS_HI, R425
  ⟨0x130, 0x0, 1, 0x0, 0x0, 0x0, 0x0, 0x0, 0x0, true⟩  -- LTX_ERR_FRAMES, R425
  ]

/-- The block registers of a device page (R424). -/
def devRows : DevPage → List RegRow
  | .dev => devDevRows
  | .host => devHostRows
  | .jrnl => devJrnlRows
  | .job => devJobRows
  | .nvm => devNvmRows
  | .clk => devClkRows
  | .pwr => devPwrRows
  | .trim => devTrimRows
  | .bist => devBistRows
  | .alrm => devAlrmRows
  | .thrm => devThrmRows
  | .tk => devTkRowsA ++ devTkRowsB
  | .life => devLifeRows
  | .cmt => devCmtRowsA ++ devCmtRowsB
  | .cap => devCapRows
  | .trig => devTrigRows
  | .tg => devTgRows
  | .cmtw => devCmtwRows
  | .capw => devCapwRows
  | .nvmw => devNvmwRows

/-- The block registers of a channel page (R424). -/
def chRows : ChPage → List RegRow
  | .ch => chChRows
  | .pcs => chPcsRows
  | .fec => chFecRows
  | .afe => chAfeRows
  | .eq => chEqRows
  | .an => chAnRowsA ++ chAnRowsB
  | .hl => chHlRows
  | .ktl => chKtlRows
  | .diag => chDiagRows
  | .rly => chRlyRows
  | .cnt => chCntRows

/-- The block registers of a page. -/
def pageRows : Page → List RegRow
  | .dev p => devRows p
  | .chan _ p => chRows p

/-- Base address of a device page, 02 Table 1 (R27). -/
def devBase : DevPage → Nat
  | .dev => 0x0
  | .host => 0x1000
  | .jrnl => 0x2000
  | .job => 0x3000
  | .nvm => 0x4000
  | .clk => 0x5000
  | .pwr => 0x6000
  | .trim => 0x7000
  | .bist => 0x8000
  | .alrm => 0x9000
  | .thrm => 0xA000
  | .tk => 0x10000
  | .life => 0x11000
  | .cmt => 0x12000
  | .cap => 0x13000
  | .trig => 0x14000
  | .tg => 0x15000
  | .cmtw => 0x20000
  | .capw => 0x21000
  | .nvmw => 0x22000

/-- Offset of a channel page in its channel, 02 Table 2 (R27). -/
def chOff : ChPage → Nat
  | .ch => 0x0
  | .pcs => 0x1000
  | .fec => 0x2000
  | .afe => 0x3000
  | .eq => 0x4000
  | .an => 0x5000
  | .hl => 0x6000
  | .ktl => 0x7000
  | .diag => 0x8000
  | .rly => 0x9000
  | .cnt => 0xA000

/-- Base address of a page (R27). -/
def pageBase : Page → Nat
  | .dev p => devBase p
  | .chan n p => 0x100000 + n.val * 0x10000 + chOff p

/-- Block type code of a page, 16 Table 1 (R423). -/
def pageType : Page → Nat
  | .dev .dev => 0x1
  | .dev .host => 0x2
  | .dev .jrnl => 0x3
  | .dev .job => 0x4
  | .dev .nvm => 0x5
  | .dev .clk => 0x6
  | .dev .pwr => 0x7
  | .dev .trim => 0x8
  | .dev .bist => 0x9
  | .dev .alrm => 0xA
  | .dev .thrm => 0xB
  | .dev .tk => 0x10
  | .dev .life => 0x11
  | .dev .cmt => 0x12
  | .dev .cap => 0x13
  | .dev .trig => 0x14
  | .dev .tg => 0x15
  | .dev .cmtw => 0x20
  | .dev .capw => 0x21
  | .dev .nvmw => 0x22
  | .chan _ .ch => 0x40
  | .chan _ .pcs => 0x41
  | .chan _ .fec => 0x42
  | .chan _ .afe => 0x43
  | .chan _ .eq => 0x44
  | .chan _ .an => 0x45
  | .chan _ .hl => 0x46
  | .chan _ .ktl => 0x47
  | .chan _ .diag => 0x48
  | .chan _ .rly => 0x49
  | .chan _ .cnt => 0x4A

/-- Reset and only value of PAGE_VIEWS, 16 Table 1 (R423). -/
def pageViews : Page → Word
  | .dev .dev => 0x6
  | .dev .host => 0x6
  | .dev .jrnl => 0x4
  | .dev .job => 0x4
  | .dev .nvm => 0x4
  | .dev .clk => 0x6
  | .dev .pwr => 0x6
  | .dev .trim => 0x4
  | .dev .bist => 0x4
  | .dev .alrm => 0x4
  | .dev .thrm => 0x4
  | .dev .tk => 0x6
  | .dev .life => 0x4
  | .dev .cmt => 0x4
  | .dev .cap => 0x4
  | .dev .trig => 0x4
  | .dev .tg => 0x6
  | .dev .cmtw => 0x4
  | .dev .capw => 0x4
  | .dev .nvmw => 0x4
  | .chan _ .ch => 0x6
  | .chan _ .pcs => 0x6
  | .chan _ .fec => 0x6
  | .chan _ .afe => 0x6
  | .chan _ .eq => 0x6
  | .chan _ .an => 0x6
  | .chan _ .hl => 0x6
  | .chan _ .ktl => 0x6
  | .chan _ .diag => 0x6
  | .chan _ .rly => 0x4
  | .chan _ .cnt => 0x6

/-- Reset value of FAULT_ACTION, 16 Table 1 (R423). -/
def pageFaultAction : Page → Word
  | .dev .dev => 0x9A
  | .dev .host => 0xA9A
  | .dev .jrnl => 0x9A
  | .dev .job => 0x9A
  | .dev .nvm => 0x29A
  | .dev .clk => 0x5559A
  | .dev .pwr => 0x9A
  | .dev .trim => 0x9A
  | .dev .bist => 0x9A
  | .dev .alrm => 0x0
  | .dev .thrm => 0x19A
  | .dev .tk => 0x19A
  | .dev .life => 0x9A
  | .dev .cmt => 0x9A
  | .dev .cap => 0x9A
  | .dev .trig => 0x29A
  | .dev .tg => 0x9A
  | .dev .cmtw => 0x9A
  | .dev .capw => 0x9A
  | .dev .nvmw => 0x9A
  | .chan _ .ch => 0x598
  | .chan _ .pcs => 0x9A
  | .chan _ .fec => 0xAAA98
  | .chan _ .afe => 0x598
  | .chan _ .eq => 0x9A
  | .chan _ .an => 0x9A
  | .chan _ .hl => 0x9A
  | .chan _ .ktl => 0x9A
  | .chan _ .diag => 0x9A
  | .chan _ .rly => 0x9A
  | .chan _ .cnt => 0x9A

/-- All device pages in ascending address order. -/
def allDevPages : List DevPage :=
  [.dev, .host, .jrnl, .job, .nvm, .clk, .pwr, .trim, .bist, .alrm, .thrm,
   .tk, .life, .cmt, .cap, .trig, .tg, .cmtw, .capw, .nvmw]

/-- All pages of a channel in ascending address order. -/
def allChPages : List ChPage := [.ch, .pcs, .fec, .afe, .eq, .an, .hl, .ktl, .diag, .rly, .cnt]

/-- All channels in ascending order. -/
def allCh : List Ch := [0, 1, 2, 3, 4, 5, 6, 7, 8, 9, 10, 11, 12, 13, 14, 15]

/-- All tenancy groups in ascending order. -/
def allTg : List Tg := [0, 1, 2, 3]

/-- All pages in ascending address order (R27). -/
def allPages : List Page :=
  allDevPages.map Page.dev ++ allCh.flatMap (fun n => allChPages.map (Page.chan n))

/-- The device page at page number k (address / 0x1000), if there is one (R27). -/
def devPageAt (k : Nat) : Option DevPage :=
  allDevPages.find? (fun p => devBase p == k * 0x1000)

/-- The channel page at place j in a channel (R27). -/
def chPageAt (j : Nat) : Option ChPage := allChPages[j]?

/-- The page an address lies in; none where the address is unimplemented (R27). -/
def pageOf (a : Nat) : Option Page :=
  if 0x100000 ≤ a ∧ a < 0x200000 then
    (chPageAt (a % 0x10000 / 0x1000)).map (Page.chan (Fin.ofNat 16 ((a - 0x100000) / 0x10000)))
  else (devPageAt (a / 0x1000)).map Page.dev

/-- The row of a block register, if the offset is implemented (R424). -/
def regRow (p : Page) (off : Nat) : Option RegRow := (pageRows p).find? (fun r => r.has off)

/-- Whether every block register of the page is moon-copied (02 Tables 1 and 2). -/
def pageAllMoon : Page → Bool
  | .dev .tk | .dev .life => true
  | .dev _ => false
  | .chan _ .ch | .chan _ .hl => false
  | .chan _ _ => true

/-- Whether the register is moon-copied: all of a page marked All, THRM TEMP0 to TEMP17, TG.CH_MAP_EFF (16 Table 1). -/
def isMoon (p : Page) (off : Nat) : Bool :=
  0x100 ≤ off && (pageAllMoon p || (p == .dev .thrm && 0x200 ≤ off) || (p == .dev .tg && off == 0x108))

/-- Whether any block register of the page is moon-copied: PAGE_STATUS.MOON (02 Table 8). -/
def pageMoon (p : Page) : Bool := pageAllMoon p || p == .dev .thrm || p == .dev .tg

/-- INSTANCE of PAGE_ID: the channel number, or 0 (02 Table 5). -/
def pageInstance : Page → Nat
  | .dev _ => 0
  | .chan n _ => n.val

/-- PAGE_ID in view 2 (R423). -/
def pageIdWord (p : Page) : Word := BitVec.ofNat 32 (pageType p * 0x1000000 + pageInstance p * 0x10000 + 0x200)

/-- Reset value of a header register (R423); PAGE_STATUS and CHANGE_SEQ are formed elsewhere. (DEDUCED, notes/assumptions 16) -/
def headerReset (p : Page) (off : Nat) : Word :=
  if off == 0x000 then pageIdWord p
  else if off == 0x004 then pageViews p
  else if off == 0x008 then 0x2222
  else if off == 0x024 then pageFaultAction p
  else 0

/-- What the register at an address holds after the widest reset that reaches it (R423, R424); 0 where none is implemented.
GRADE of DEV.CHIP_ID and the values that NVM, straps or trims set are formed where they are loaded. (DESIGN CHOICE, notes/assumptions 13 and 15) -/
def resetWord (a : Nat) : Word :=
  match pageOf a with
  | none => 0
  | some p =>
    if a % 0x1000 < 0x100 then headerReset p (a % 0x1000)
    else ((regRow p (a % 0x1000)).map RegRow.reset).getD 0

/-- Whether the offset is implemented in the page: the header's registers from 0x000 to 0x034, or a block register (R424). -/
def implemented (p : Page) (off : Nat) : Bool := off ≤ 0x034 || (regRow p off).isSome

/-- Block offsets absent in view 1, 16 Table 6 (R427), as pairs of first and last offset. (DEDUCED, notes/assumptions 37) -/
def view1Absent : Page → List (Nat × Nat)
  | .dev .dev => [(0x114, 0x114)]
  | .dev .host => [(0x180, 0x1A4)]
  | .dev .clk => [(0x10C, 0x114), (0x130, 0x130), (0x300, 0x37C)]
  | .dev .pwr => [(0x120, 0x13C), (0x160, 0x17C), (0x190, 0x190), (0x194, 0x194)]
  | .dev .tk => [(0x120, 0x16C), (0x200, 0x29C), (0x500, 0x50C)]
  | .dev .tg => [(0x104, 0x104), (0x108, 0x108)]
  | .chan _ .pcs => [(0x110, 0x128)]
  | .chan _ .fec => [(0x100, 0x108), (0x12C, 0x284)]
  | .chan _ .afe => [(0x114, 0x1BC)]
  | .chan _ .eq => [(0x104, 0x110), (0x130, 0x15C), (0x170, 0x2BC)]
  | .chan _ .an => [(0x10C, 0x114), (0x138, 0x178)]
  | .chan _ .hl => [(0x118, 0x14C)]
  | .chan _ .ktl => [(0x1A0, 0x1A0)]
  | .chan _ .diag => [(0x100, 0x1BC)]
  | _ => []

/-- Whether a page has a view 1 (R427). -/
def hasView1 (p : Page) : Bool := pageViews p == 0x0006

end Sys2Proof.Machine
end

