-- ==== Sys2Proof/Machine/RegNames.lean ====
section
/-! DEFINITION. The addresses of the registers by the spec's names (spec 16): page, then register. A channel register takes its channel n, an indexed register its index k, a group register its group g. -/

namespace Sys2Proof.Machine.Reg

/-- DEV.CHIP_ID (R2). -/
abbrev devChipId : Nat := 0x100
/-- DEV.RESET (R370). -/
abbrev devReset : Nat := 0x110
/-- DEV.BLK_RESET (R371). -/
abbrev devBlkReset : Nat := 0x114
/-- HOST.HSA_STAT (R74). -/
abbrev hostHsaStat : Nat := 0x1100
/-- HOST.HSB_STAT (R74). -/
abbrev hostHsbStat : Nat := 0x1104
/-- HOST.HSA_CRC_ERR (R74). -/
abbrev hostHsaCrcErr : Nat := 0x1110
/-- HOST.HSA_REFUSED (R74). -/
abbrev hostHsaRefused : Nat := 0x1114
/-- HOST.HSB_CRC_ERR (R74). -/
abbrev hostHsbCrcErr : Nat := 0x1118
/-- HOST.HSB_REFUSED (R74). -/
abbrev hostHsbRefused : Nat := 0x111C
/-- HOST.PORT_FENCE (R74). -/
abbrev hostPortFence : Nat := 0x1120
/-- HOST.BUSERR_MDIO (R75). -/
abbrev hostBuserrMdio : Nat := 0x1130
/-- HOST.BUSERR_RMT (R75). -/
abbrev hostBuserrRmt : Nat := 0x1134
/-- HOST.BUSERR_COUNT (R75). -/
abbrev hostBuserrCount : Nat := 0x1138
/-- HOST.MDIO_STAT (R75). -/
abbrev hostMdioStat : Nat := 0x113C
/-- HOST.RMT_CTRL (R75). -/
abbrev hostRmtCtrl : Nat := 0x1180
/-- HOST.RMT_ADDR (R75). -/
abbrev hostRmtAddr : Nat := 0x1184
/-- HOST.RMT_WDATA (R75). -/
abbrev hostRmtWdata : Nat := 0x1188
/-- HOST.RMT_STATUS (R75). -/
abbrev hostRmtStatus : Nat := 0x118C
/-- HOST.RMT_RDATA (R75). -/
abbrev hostRmtRdata : Nat := 0x1190
/-- HOST.RMT_TIMEOUT (R75). -/
abbrev hostRmtTimeout : Nat := 0x1194
/-- HOST.RMT_SERVED (R75). -/
abbrev hostRmtServed : Nat := 0x11A0
/-- HOST.RMT_DISCARD (R75). -/
abbrev hostRmtDiscard : Nat := 0x11A4
/-- JRNL.SEQ_NEXT (R48). -/
abbrev jrnlSeqNext : Nat := 0x2100
/-- JRNL.SEQ_COMMIT (R48). -/
abbrev jrnlSeqCommit : Nat := 0x2104
/-- JRNL.RING_OLDEST (R48). -/
abbrev jrnlRingOldest : Nat := 0x2108
/-- JRNL.GAP_TOTAL (R48). -/
abbrev jrnlGapTotal : Nat := 0x210C
/-- JRNL.WRAP_COUNT (R48). -/
abbrev jrnlWrapCount : Nat := 0x2110
/-- JRNL.COMMIT_CTRL (R48). -/
abbrev jrnlCommitCtrl : Nat := 0x2114
/-- JRNL.COMMIT_STATUS (R48). -/
abbrev jrnlCommitStatus : Nat := 0x2118
/-- JRNL.TOKENS (R48). -/
abbrev jrnlTokens : Nat := 0x211C
/-- JRNL.RD_CTRL (R48). -/
abbrev jrnlRdCtrl : Nat := 0x2120
/-- JRNL.RD_SEQ (R48). -/
abbrev jrnlRdSeq : Nat := 0x2124
/-- JRNL.RD_STATUS (R48). -/
abbrev jrnlRdStatus : Nat := 0x2128
/-- JRNL.ENTRY_W (R48). -/
abbrev jrnlEntryW (k : Nat) : Nat := 0x2140 + 0x4 * k
/-- JOB.SLOT_BUSY (R51). -/
abbrev jobSlotBusy : Nat := 0x3100
/-- JOB.DEV_PENDING (R51). -/
abbrev jobDevPending : Nat := 0x3104
/-- JOB.SLOT_CTRL (R51). -/
abbrev jobSlotCtrl (k : Nat) : Nat := 0x3200 + 0x20 * k
/-- JOB.SLOT_ARG0 (R51). -/
abbrev jobSlotArg0 (k : Nat) : Nat := 0x3204 + 0x20 * k
/-- JOB.SLOT_ARG1 (R51). -/
abbrev jobSlotArg1 (k : Nat) : Nat := 0x3208 + 0x20 * k
/-- JOB.SLOT_STATUS (R51). -/
abbrev jobSlotStatus (k : Nat) : Nat := 0x320C + 0x20 * k
/-- JOB.SLOT_PROGRESS (R51). -/
abbrev jobSlotProgress (k : Nat) : Nat := 0x3210 + 0x20 * k
/-- JOB.SLOT_RESULT0 (R51). -/
abbrev jobSlotResult0 (k : Nat) : Nat := 0x3214 + 0x20 * k
/-- JOB.SLOT_RESULT1 (R51). -/
abbrev jobSlotResult1 (k : Nat) : Nat := 0x3218 + 0x20 * k
/-- JOB.SLOT_YIELDS (R51). -/
abbrev jobSlotYields (k : Nat) : Nat := 0x321C + 0x20 * k
/-- NVM.SECT_FENCE (R418). -/
abbrev nvmSectFence (k : Nat) : Nat := 0x4180 + 0x4 * k
/-- CLK.CLK_STATUS (R358). -/
abbrev clkClkStatus : Nat := 0x5100
/-- CLK.JUDGE_CTRL (R358). -/
abbrev clkJudgeCtrl : Nat := 0x5104
/-- CLK.JUDGE_STATUS (R358). -/
abbrev clkJudgeStatus : Nat := 0x5108
/-- CLK.SWITCH_CTRL (R358). -/
abbrev clkSwitchCtrl : Nat := 0x510C
/-- CLK.SWITCH_COUNT (R358). -/
abbrev clkSwitchCount : Nat := 0x5110
/-- CLK.SPLL_COAST_COUNT (R358). -/
abbrev clkSpllCoastCount : Nat := 0x5114
/-- CLK.CPLL_STATUS (R358). -/
abbrev clkCpllStatus : Nat := 0x5120
/-- CLK.HPLL_STATUS (R358). -/
abbrev clkHpllStatus : Nat := 0x5124
/-- CLK.XING_DISCARD (R358). -/
abbrev clkXingDiscard : Nat := 0x5130
/-- CLK.GATE_CTRL (R358). -/
abbrev clkGateCtrl : Nat := 0x5134
/-- CLK.LOSS (R358). -/
abbrev clkLoss (k : Nat) : Nat := 0x5180 + 0x4 * k
/-- CLK.CLKOUT_CTRL (R358). -/
abbrev clkClkoutCtrl (k : Nat) : Nat := 0x5200 + 0x10 * k
/-- CLK.CLKOUT_STATUS (R358). -/
abbrev clkClkoutStatus (k : Nat) : Nat := 0x5204 + 0x10 * k
/-- CLK.LINE_SSC (R358). -/
abbrev clkLineSsc (k : Nat) : Nat := 0x5300 + 0x4 * k
/-- CLK.HL_SSC (R358). -/
abbrev clkHlSsc (k : Nat) : Nat := 0x5340 + 0x4 * k
/-- PWR.CH_REQ (R369). -/
abbrev pwrChReq (k : Nat) : Nat := 0x6100 + 0x4 * k
/-- PWR.CH_STAT (R369). -/
abbrev pwrChStat (k : Nat) : Nat := 0x6140 + 0x4 * k
/-- PWR.NVM_REQ (R369). -/
abbrev pwrNvmReq : Nat := 0x6180
/-- PWR.NVM_STAT (R369). -/
abbrev pwrNvmStat : Nat := 0x6184
/-- PWR.START_STATUS (R369). -/
abbrev pwrStartStatus : Nat := 0x6190
/-- PWR.CFG_BUSERR (R369). -/
abbrev pwrCfgBuserr : Nat := 0x6194
/-- TRIM.CAL_COUNT (R402). -/
abbrev trimCalCount : Nat := 0x7100
/-- TRIM.CAL_TIME_SEC_LO (R402). -/
abbrev trimCalTimeSecLo : Nat := 0x7104
/-- TRIM.CAL_TIME_SEC_HI (R402). -/
abbrev trimCalTimeSecHi : Nat := 0x7108
/-- TRIM.CAL_TIME_NS (R402). -/
abbrev trimCalTimeNs : Nat := 0x710C
/-- TRIM.CTRL (R402). -/
abbrev trimCtrl : Nat := 0x7110
/-- TRIM.GEN0_SEQ (R402). -/
abbrev trimGen0Seq : Nat := 0x7114
/-- TRIM.GEN1_SEQ (R402). -/
abbrev trimGen1Seq : Nat := 0x7118
/-- TRIM.CH_STATUS (R402). -/
abbrev trimChStatus (k : Nat) : Nat := 0x7120 + 0x4 * k
/-- TRIM.CH_APPLY (R402). -/
abbrev trimChApply (k : Nat) : Nat := 0x7160 + 0x4 * k
/-- BIST.CTRL (R402). -/
abbrev bistCtrl : Nat := 0x8100
/-- BIST.PORTS (R402). -/
abbrev bistPorts : Nat := 0x8104
/-- BIST.REC_STAT (R402). -/
abbrev bistRecStat : Nat := 0x8108
/-- BIST.FAIL_SEQ (R402). -/
abbrev bistFailSeq : Nat := 0x810C
/-- BIST.FAIL_SEL (R402). -/
abbrev bistFailSel : Nat := 0x8110
/-- BIST.FAIL_STATUS (R402). -/
abbrev bistFailStatus : Nat := 0x8114
/-- BIST.FAIL_W (R402). -/
abbrev bistFailW (k : Nat) : Nat := 0x8118 + 0x4 * k
/-- BIST.DOM_STATUS (R402). -/
abbrev bistDomStatus (k : Nat) : Nat := 0x8200 + 0x4 * k
/-- ALRM.CTRL (R409). -/
abbrev alrmCtrl : Nat := 0x9100
/-- ALRM.STATUS (R409). -/
abbrev alrmStatus : Nat := 0x9104
/-- ALRM.FIRST (R409). -/
abbrev alrmFirst : Nat := 0x9108
/-- ALRM.COUNT (R409). -/
abbrev alrmCount : Nat := 0x910C
/-- ALRM.SAFE_CMD (R409). -/
abbrev alrmSafeCmd : Nat := 0x9110
/-- ALRM.ECC1_DEV (R409). -/
abbrev alrmEcc1Dev : Nat := 0x9120
/-- ALRM.ECC1_CH (R409). -/
abbrev alrmEcc1Ch (k : Nat) : Nat := 0x9140 + 0x4 * k
/-- ALRM.IRQ_DEV_A (R407). -/
abbrev alrmIrqDevA : Nat := 0x9180
/-- ALRM.IRQ_DEV_B (R407). -/
abbrev alrmIrqDevB : Nat := 0x9184
/-- ALRM.IRQ_CH (R407). -/
abbrev alrmIrqCh : Nat := 0x9188
/-- THRM.WARN_CTRL (R406). -/
abbrev thrmWarnCtrl : Nat := 0xA100
/-- THRM.WARN_STATUS (R406). -/
abbrev thrmWarnStatus : Nat := 0xA104
/-- THRM.TEMP (R406). -/
abbrev thrmTemp (k : Nat) : Nat := 0xA200 + 0x4 * k
/-- TK.TK_STATUS (R332). -/
abbrev tkTkStatus : Nat := 0x10100
/-- TK.TKX_CORR (R332). -/
abbrev tkTkxCorr : Nat := 0x10104
/-- TK.TKR_OFS (R332). -/
abbrev tkTkrOfs : Nat := 0x10108
/-- TK.COAST_S (R332). -/
abbrev tkCoastS : Nat := 0x1010C
/-- TK.COAST_COUNT (R332). -/
abbrev tkCoastCount : Nat := 0x10110
/-- TK.CAP_CTRL (R332). -/
abbrev tkCapCtrl : Nat := 0x10120
/-- TK.CAP_SEC_LO (R332). -/
abbrev tkCapSecLo (k : Nat) : Nat := 0x10130 + 0x10 * k
/-- TK.CAP_SEC_HI (R332). -/
abbrev tkCapSecHi (k : Nat) : Nat := 0x10134 + 0x10 * k
/-- TK.CAP_NS (R332). -/
abbrev tkCapNs (k : Nat) : Nat := 0x10138 + 0x10 * k
/-- TK.SET_SEC_LO (R332). -/
abbrev tkSetSecLo : Nat := 0x10180
/-- TK.SET_SEC_HI (R332). -/
abbrev tkSetSecHi : Nat := 0x10184
/-- TK.SET_NS (R332). -/
abbrev tkSetNs : Nat := 0x10188
/-- TK.SET_CMD (R332). -/
abbrev tkSetCmd : Nat := 0x1018C
/-- TK.SET_STATUS (R332). -/
abbrev tkSetStatus : Nat := 0x10190
/-- TK.TAI_UTC (R332). -/
abbrev tkTaiUtc : Nat := 0x10200
/-- TK.NEXT_LEAP_LO (R332). -/
abbrev tkNextLeapLo : Nat := 0x10204
/-- TK.NEXT_LEAP_HI (R332). -/
abbrev tkNextLeapHi : Nat := 0x10208
/-- TK.LEAP_STATUS (R332). -/
abbrev tkLeapStatus : Nat := 0x1020C
/-- TK.LEAP_ARG_LO (R332). -/
abbrev tkLeapArgLo : Nat := 0x10210
/-- TK.LEAP_ARG_HI (R332). -/
abbrev tkLeapArgHi : Nat := 0x10214
/-- TK.LEAP_CMD (R332). -/
abbrev tkLeapCmd : Nat := 0x10218
/-- TK.EXPIRY_LO (R332). -/
abbrev tkExpiryLo : Nat := 0x1021C
/-- TK.EXPIRY_HI (R332). -/
abbrev tkExpiryHi : Nat := 0x10220
/-- TK.CAL_CTRL (R332). -/
abbrev tkCalCtrl : Nat := 0x10240
/-- TK.CAL_DATE (R332). -/
abbrev tkCalDate : Nat := 0x10244
/-- TK.CAL_TIME (R332). -/
abbrev tkCalTime : Nat := 0x10248
/-- TK.CAL_DOY (R332). -/
abbrev tkCalDoy : Nat := 0x1024C
/-- TK.ALM_DATE (R332). -/
abbrev tkAlmDate (k : Nat) : Nat := 0x10260 + 0x10 * k
/-- TK.ALM_TIME (R332). -/
abbrev tkAlmTime (k : Nat) : Nat := 0x10264 + 0x10 * k
/-- TK.ALM_CTRL (R332). -/
abbrev tkAlmCtrl (k : Nat) : Nat := 0x10268 + 0x10 * k
/-- TK.ALM_COUNT (R332). -/
abbrev tkAlmCount (k : Nat) : Nat := 0x1026C + 0x10 * k
/-- TK.GRP_SRC_CTRL (R277). -/
abbrev tkGrpSrcCtrl (k : Nat) : Nat := 0x10400 + 0x40 * k
/-- TK.GRP_SERVO (R277). -/
abbrev tkGrpServo (k : Nat) : Nat := 0x10404 + 0x40 * k
/-- TK.GRP_DISC_TH_CH (R277). -/
abbrev tkGrpDiscThCh (k : Nat) : Nat := 0x10408 + 0x40 * k
/-- TK.GRP_DISC_TH_PPS (R277). -/
abbrev tkGrpDiscThPps (k : Nat) : Nat := 0x1040C + 0x40 * k
/-- TK.GRP_DISC_TIME (R277). -/
abbrev tkGrpDiscTime (k : Nat) : Nat := 0x10410 + 0x40 * k
/-- TK.GRP_STEP_TH (R277). -/
abbrev tkGrpStepTh (k : Nat) : Nat := 0x10414 + 0x40 * k
/-- TK.GRP_HOLD_TIME (R277). -/
abbrev tkGrpHoldTime (k : Nat) : Nat := 0x10418 + 0x40 * k
/-- TK.GRP_STATE (R277). -/
abbrev tkGrpState (k : Nat) : Nat := 0x1041C + 0x40 * k
/-- TK.GRP_SRC_STATUS (R277). -/
abbrev tkGrpSrcStatus (k : Nat) : Nat := 0x10420 + 0x40 * k
/-- TK.GRP_FREQ_SET (R277). -/
abbrev tkGrpFreqSet (k : Nat) : Nat := 0x10424 + 0x40 * k
/-- TK.GRP_FREQ_EFF (R277). -/
abbrev tkGrpFreqEff (k : Nat) : Nat := 0x10428 + 0x40 * k
/-- TK.GRP_OFFSET_IN (R277). -/
abbrev tkGrpOffsetIn (k : Nat) : Nat := 0x1042C + 0x40 * k
/-- TK.GRP_LAST_STEP (R277). -/
abbrev tkGrpLastStep (k : Nat) : Nat := 0x10430 + 0x40 * k
/-- TK.GRP_DEV_ID (R277). -/
abbrev tkGrpDevId (k : Nat) : Nat := 0x10434 + 0x40 * k
/-- TK.GRP_NEAR_MISS (R277). -/
abbrev tkGrpNearMiss (k : Nat) : Nat := 0x10438 + 0x40 * k
/-- TK.GRP_COUNTS (R277). -/
abbrev tkGrpCounts (k : Nat) : Nat := 0x1043C + 0x40 * k
/-- TK.GRP_TSTAT (R332). -/
abbrev tkGrpTstat (k : Nat) : Nat := 0x10500 + 0x4 * k
/-- LIFE.STATUS (R332). -/
abbrev lifeStatus : Nat := 0x11100
/-- LIFE.REC_SEQ (R332). -/
abbrev lifeRecSeq : Nat := 0x11104
/-- LIFE.CTRL (R332). -/
abbrev lifeCtrl : Nat := 0x11108
/-- LIFE.PWR_SEC_LO (R332). -/
abbrev lifePwrSecLo : Nat := 0x11110
/-- LIFE.PWR_SEC_HI (R332). -/
abbrev lifePwrSecHi : Nat := 0x11114
/-- LIFE.PWR_CYCLES (R332). -/
abbrev lifePwrCycles : Nat := 0x11118
/-- LIFE.RESETS (R332). -/
abbrev lifeResets : Nat := 0x1111C
/-- LIFE.TREND_DAY (R332). -/
abbrev lifeTrendDay : Nat := 0x11120
/-- LIFE.TREND_LAST (R332). -/
abbrev lifeTrendLast : Nat := 0x11124
/-- LIFE.TREND_COUNT (R332). -/
abbrev lifeTrendCount : Nat := 0x11128
/-- LIFE.HIST_SEL (R332). -/
abbrev lifeHistSel : Nat := 0x11130
/-- LIFE.HIST (R332). -/
abbrev lifeHist (k : Nat) : Nat := 0x11140 + 0x4 * k
/-- LIFE.WEAR_SEL (R332). -/
abbrev lifeWearSel : Nat := 0x11180
/-- LIFE.WEAR_COUNT (R332). -/
abbrev lifeWearCount : Nat := 0x11184
/-- LIFE.WEAR_MAX (R332). -/
abbrev lifeWearMax : Nat := 0x11188
/-- LIFE.WEAR_MAX_SEC (R332). -/
abbrev lifeWearMaxSec : Nat := 0x1118C
/-- LIFE.TREND_SEL (R332). -/
abbrev lifeTrendSel : Nat := 0x11190
/-- LIFE.TREND_VAL (R332). -/
abbrev lifeTrendVal : Nat := 0x11194
/-- LIFE.TREND_RD (R332). -/
abbrev lifeTrendRd : Nat := 0x11198
/-- LIFE.LINK_SEC (R332). -/
abbrev lifeLinkSec (k : Nat) : Nat := 0x11200 + 0x10 * k
/-- LIFE.TRAINS (R332). -/
abbrev lifeTrains (k : Nat) : Nat := 0x11204 + 0x10 * k
/-- LIFE.STRESS_SEC (R332). -/
abbrev lifeStressSec (k : Nat) : Nat := 0x11208 + 0x10 * k
/-- CMT.RT_INDEX (R310). -/
abbrev cmtRtIndex : Nat := 0x12100
/-- CMT.RT_RANGE (R310). -/
abbrev cmtRtRange : Nat := 0x12104
/-- CMT.RT_MASK (R310). -/
abbrev cmtRtMask : Nat := 0x12108
/-- CMT.RT_CMD (R310). -/
abbrev cmtRtCmd : Nat := 0x1210C
/-- CMT.HOP_ALLOW (R310). -/
abbrev cmtHopAllow : Nat := 0x12110
/-- CMT.LATE_TX (R310). -/
abbrev cmtLateTx : Nat := 0x12114
/-- CMT.FIRE_STATUS (R310). -/
abbrev cmtFireStatus : Nat := 0x12118
/-- CMT.GRP_CTRL (R310). -/
abbrev cmtGrpCtrl (k : Nat) : Nat := 0x12200 + 0x40 * k
/-- CMT.GRP_PART (R310). -/
abbrev cmtGrpPart (k : Nat) : Nat := 0x12204 + 0x40 * k
/-- CMT.GRP_SEQ (R310). -/
abbrev cmtGrpSeq (k : Nat) : Nat := 0x12208 + 0x40 * k
/-- CMT.GRP_ADMIT (R310). -/
abbrev cmtGrpAdmit (k : Nat) : Nat := 0x1220C + 0x40 * k
/-- CMT.GRP_FWD (R310). -/
abbrev cmtGrpFwd (k : Nat) : Nat := 0x12210 + 0x40 * k
/-- CMT.GRP_FIRED (R310). -/
abbrev cmtGrpFired (k : Nat) : Nat := 0x12214 + 0x40 * k
/-- CMT.GRP_EXPIRE (R310). -/
abbrev cmtGrpExpire (k : Nat) : Nat := 0x12218 + 0x40 * k
/-- CMT.GRP_QUEUED (R310). -/
abbrev cmtGrpQueued (k : Nat) : Nat := 0x1221C + 0x40 * k
/-- CMT.GRP_INJECTED (R310). -/
abbrev cmtGrpInjected (k : Nat) : Nat := 0x12220 + 0x40 * k
/-- CMT.GRP_RECEIVED (R310). -/
abbrev cmtGrpReceived (k : Nat) : Nat := 0x12224 + 0x40 * k
/-- CMT.GRP_REJ (R310). -/
abbrev cmtGrpRej (k : Nat) : Nat := 0x12228 + 0x40 * k
/-- CMT.GRP_DROP_A (R310). -/
abbrev cmtGrpDropA (k : Nat) : Nat := 0x1222C + 0x40 * k
/-- CMT.GRP_DROP_B (R310). -/
abbrev cmtGrpDropB (k : Nat) : Nat := 0x12230 + 0x40 * k
/-- CMT.GRP_LATE_RX (R310). -/
abbrev cmtGrpLateRx (k : Nat) : Nat := 0x12234 + 0x40 * k
/-- CMT.GRP_LATE_LAST (R310). -/
abbrev cmtGrpLateLast (k : Nat) : Nat := 0x12238 + 0x40 * k
/-- CMT.QSTATUS (R310). -/
abbrev cmtQstatus (k : Nat) : Nat := 0x12400 + 0x4 * k
/-- CMT.REJ_PATH (R289). -/
abbrev cmtRejPath (k : Nat) : Nat := 0x12440 + 0x4 * k
/-- CAP.CTRL (R310). -/
abbrev capCtrl : Nat := 0x13100
/-- CAP.WR_SEQ (R310). -/
abbrev capWrSeq : Nat := 0x13104
/-- CAP.OLDEST_SEQ (R310). -/
abbrev capOldestSeq : Nat := 0x13108
/-- CAP.ACK_SEQ (R310). -/
abbrev capAckSeq : Nat := 0x1310C
/-- CAP.FILL (R310). -/
abbrev capFill : Nat := 0x13110
/-- CAP.OVR_COUNT (R310). -/
abbrev capOvrCount : Nat := 0x13114
/-- CAP.FULL_DROP (R310). -/
abbrev capFullDrop : Nat := 0x13118
/-- CAP.IN_DROP (R310). -/
abbrev capInDrop : Nat := 0x1311C
/-- CAP.REP_TX (R310). -/
abbrev capRepTx : Nat := 0x13120
/-- CAP.REP_DROP (R310). -/
abbrev capRepDrop : Nat := 0x13124
/-- CAP.REP_RX (R310). -/
abbrev capRepRx : Nat := 0x13128
/-- TRIG.PIN_CTRL (R310). -/
abbrev trigPinCtrl (k : Nat) : Nat := 0x14100 + 0x10 * k
/-- TRIG.PIN_DLY (R310). -/
abbrev trigPinDly (k : Nat) : Nat := 0x14104 + 0x10 * k
/-- TRIG.PIN_STATUS (R310). -/
abbrev trigPinStatus (k : Nat) : Nat := 0x14108 + 0x10 * k
/-- TRIG.PIN_COUNT (R310). -/
abbrev trigPinCount (k : Nat) : Nat := 0x1410C + 0x10 * k
/-- TRIG.PPS_IN_CTRL (R278). -/
abbrev trigPpsInCtrl : Nat := 0x14300
/-- TRIG.PPS_IN0_OFS (R278). -/
abbrev trigPpsIn0Ofs : Nat := 0x14304
/-- TRIG.PPS_IN1_OFS (R278). -/
abbrev trigPpsIn1Ofs : Nat := 0x14308
/-- TRIG.PPS_IN0_NS (R278). -/
abbrev trigPpsIn0Ns : Nat := 0x1430C
/-- TRIG.PPS_IN0_FC (R278). -/
abbrev trigPpsIn0Fc : Nat := 0x14310
/-- TRIG.PPS_IN1_NS (R278). -/
abbrev trigPpsIn1Ns : Nat := 0x14314
/-- TRIG.PPS_IN1_FC (R278). -/
abbrev trigPpsIn1Fc : Nat := 0x14318
/-- TRIG.PPS_OUT_CTRL (R278). -/
abbrev trigPpsOutCtrl : Nat := 0x14320
/-- TRIG.PPS_OUT_DLY (R278). -/
abbrev trigPpsOutDly : Nat := 0x14324
/-- TRIG.PPS_STATUS (R278). -/
abbrev trigPpsStatus : Nat := 0x14328
/-- TRIG.PPS_MISS (R278). -/
abbrev trigPpsMiss : Nat := 0x1432C
/-- TRIG.DRV_FAULT (R418). -/
abbrev trigDrvFault : Nat := 0x14340
/-- TRIG.DRV_FENCE (R418). -/
abbrev trigDrvFence : Nat := 0x14344
/-- TG.CH_MAP (R21). -/
abbrev tgChMap : Nat := 0x15100
/-- TG.MAP_STATUS (R21). -/
abbrev tgMapStatus : Nat := 0x15104
/-- TG.CH_MAP_EFF (R21). -/
abbrev tgChMapEff : Nat := 0x15108
/-- CMTW.INDEX (R310). -/
abbrev cmtwIndex : Nat := 0x20100
/-- CMTW.CMD (R310). -/
abbrev cmtwCmd : Nat := 0x20104
/-- CMTW.STATUS (R310). -/
abbrev cmtwStatus : Nat := 0x20108
/-- CMTW.W (R310). -/
abbrev cmtwW (k : Nat) : Nat := 0x20200 + 0x4 * k
/-- CAPW.RD_SEQ (R310). -/
abbrev capwRdSeq : Nat := 0x21100
/-- CAPW.STATUS (R310). -/
abbrev capwStatus : Nat := 0x21104
/-- CAPW.ENTRY_WORD (R310). -/
abbrev capwEntryWord (k : Nat) : Nat := 0x21200 + 0x4 * k
/-- NVMW.BASE (R29). -/
abbrev nvmwBase : Nat := 0x22100
/-- NVMW.DATA (R29). -/
abbrev nvmwData (k : Nat) : Nat := 0x22200 + 0x4 * k
/-- CHn.CH.RESET (R371). -/
abbrev chReset (n : Nat) : Nat := 0x100140 + 0x10000 * n
/-- CHn.CH.IRQ_PAGES (R407). -/
abbrev chIrqPages (n : Nat) : Nat := 0x100180 + 0x10000 * n
/-- CHn.PCS.LINE_STATUS (R107). -/
abbrev pcsLineStatus (n : Nat) : Nat := 0x101100 + 0x10000 * n
/-- CHn.PCS.TX_ORBIT (R107). -/
abbrev pcsTxOrbit (n : Nat) : Nat := 0x101104 + 0x10000 * n
/-- CHn.PCS.RX_ORBIT (R107). -/
abbrev pcsRxOrbit (n : Nat) : Nat := 0x101108 + 0x10000 * n
/-- CHn.PCS.MARK_MISS (R107). -/
abbrev pcsMarkMiss (n : Nat) : Nat := 0x101110 + 0x10000 * n
/-- CHn.PCS.KTL_CORR_BITS (R107). -/
abbrev pcsKtlCorrBits (n : Nat) : Nat := 0x101114 + 0x10000 * n
/-- CHn.PCS.KTL_FAIL (R107). -/
abbrev pcsKtlFail (n : Nat) : Nat := 0x101118 + 0x10000 * n
/-- CHn.PCS.OAM_TX (R107). -/
abbrev pcsOamTx (n : Nat) : Nat := 0x101120 + 0x10000 * n
/-- CHn.PCS.OAM_RX (R107). -/
abbrev pcsOamRx (n : Nat) : Nat := 0x101124 + 0x10000 * n
/-- CHn.PCS.OAM_DROP (R107). -/
abbrev pcsOamDrop (n : Nat) : Nat := 0x101128 + 0x10000 * n
/-- CHn.PCS.LIDLE_TX_LO (R107). -/
abbrev pcsLidleTxLo (n : Nat) : Nat := 0x101130 + 0x10000 * n
/-- CHn.PCS.LIDLE_TX_HI (R107). -/
abbrev pcsLidleTxHi (n : Nat) : Nat := 0x101134 + 0x10000 * n
/-- CHn.PCS.LIDLE_RX_LO (R107). -/
abbrev pcsLidleRxLo (n : Nat) : Nat := 0x101138 + 0x10000 * n
/-- CHn.PCS.LIDLE_RX_HI (R107). -/
abbrev pcsLidleRxHi (n : Nat) : Nat := 0x10113C + 0x10000 * n
/-- CHn.FEC.CTRL (R133). -/
abbrev fecCtrl (n : Nat) : Nat := 0x102100 + 0x10000 * n
/-- CHn.FEC.STATUS (R133). -/
abbrev fecStatus (n : Nat) : Nat := 0x102104 + 0x10000 * n
/-- CHn.FEC.UNIT_FENCE (R133). -/
abbrev fecUnitFence (n : Nat) : Nat := 0x102108 + 0x10000 * n
/-- CHn.FEC.CW_RX_LO (R133). -/
abbrev fecCwRxLo (n : Nat) : Nat := 0x102110 + 0x10000 * n
/-- CHn.FEC.CW_RX_HI (R133). -/
abbrev fecCwRxHi (n : Nat) : Nat := 0x102114 + 0x10000 * n
/-- CHn.FEC.CW_TX_LO (R133). -/
abbrev fecCwTxLo (n : Nat) : Nat := 0x102118 + 0x10000 * n
/-- CHn.FEC.CW_TX_HI (R133). -/
abbrev fecCwTxHi (n : Nat) : Nat := 0x10211C + 0x10000 * n
/-- CHn.FEC.CORR_LO (R133). -/
abbrev fecCorrLo (n : Nat) : Nat := 0x102120 + 0x10000 * n
/-- CHn.FEC.CORR_HI (R133). -/
abbrev fecCorrHi (n : Nat) : Nat := 0x102124 + 0x10000 * n
/-- CHn.FEC.UNCORR (R133). -/
abbrev fecUncorr (n : Nat) : Nat := 0x102128 + 0x10000 * n
/-- CHn.FEC.ENG_LOST (R133). -/
abbrev fecEngLost (n : Nat) : Nat := 0x10212C + 0x10000 * n
/-- CHn.FEC.CREDIT_STALL (R133). -/
abbrev fecCreditStall (n : Nat) : Nat := 0x102130 + 0x10000 * n
/-- CHn.FEC.DISCARD (R133). -/
abbrev fecDiscard (n : Nat) : Nat := 0x102134 + 0x10000 * n
/-- CHn.FEC.CREDITS (R133). -/
abbrev fecCredits (n : Nat) : Nat := 0x102138 + 0x10000 * n
/-- CHn.FEC.ECC1_COUNT (R133). -/
abbrev fecEcc1Count (n : Nat) : Nat := 0x10213C + 0x10000 * n
/-- CHn.FEC.BER_EST (R133). -/
abbrev fecBerEst (n : Nat) : Nat := 0x102140 + 0x10000 * n
/-- CHn.FEC.BER_WINDOWS (R133). -/
abbrev fecBerWindows (n : Nat) : Nat := 0x102144 + 0x10000 * n
/-- CHn.FEC.LAT_RX (R133). -/
abbrev fecLatRx (n : Nat) : Nat := 0x102150 + 0x10000 * n
/-- CHn.FEC.LAT_TX (R133). -/
abbrev fecLatTx (n : Nat) : Nat := 0x102154 + 0x10000 * n
/-- CHn.FEC.LAT_DEC (R133). -/
abbrev fecLatDec (n : Nat) : Nat := 0x102158 + 0x10000 * n
/-- CHn.FEC.LAT_RLY (R133). -/
abbrev fecLatRly (n : Nat) : Nat := 0x10215C + 0x10000 * n
/-- CHn.FEC.HIST_LO (R133). -/
abbrev fecHistLo (n k : Nat) : Nat := 0x102200 + 0x10000 * n + 0x8 * k
/-- CHn.FEC.HIST_HI (R133). -/
abbrev fecHistHi (n k : Nat) : Nat := 0x102204 + 0x10000 * n + 0x8 * k
/-- CHn.AFE.RX_GAIN (R173). -/
abbrev afeRxGain (n : Nat) : Nat := 0x103100 + 0x10000 * n
/-- CHn.AFE.GAIN_STATUS (R173). -/
abbrev afeGainStatus (n : Nat) : Nat := 0x103104 + 0x10000 * n
/-- CHn.AFE.RX_POWER (R173). -/
abbrev afeRxPower (n : Nat) : Nat := 0x103108 + 0x10000 * n
/-- CHn.AFE.ADC_CLIP (R173). -/
abbrev afeAdcClip (n : Nat) : Nat := 0x10310C + 0x10000 * n
/-- CHn.AFE.CLIP_LIMIT (R173). -/
abbrev afeClipLimit (n : Nat) : Nat := 0x103110 + 0x10000 * n
/-- CHn.AFE.T_FRONT (R173). -/
abbrev afeTFront (n : Nat) : Nat := 0x103114 + 0x10000 * n
/-- CHn.AFE.HYB_BAL (R173). -/
abbrev afeHybBal (n : Nat) : Nat := 0x103120 + 0x10000 * n
/-- CHn.AFE.ADC_STATUS (R173). -/
abbrev afeAdcStatus (n : Nat) : Nat := 0x103124 + 0x10000 * n
/-- CHn.AFE.SLICE_SEL (R173). -/
abbrev afeSliceSel (n : Nat) : Nat := 0x103128 + 0x10000 * n
/-- CHn.AFE.SLICE_CORR (R173). -/
abbrev afeSliceCorr (n : Nat) : Nat := 0x10312C + 0x10000 * n
/-- CHn.AFE.SLICE_MAP (R173). -/
abbrev afeSliceMap (n k : Nat) : Nat := 0x103140 + 0x10000 * n + 0x4 * k
/-- CHn.AFE.DAC_STATUS (R173). -/
abbrev afeDacStatus (n : Nat) : Nat := 0x103160 + 0x10000 * n
/-- CHn.AFE.SEG_MAP (R173). -/
abbrev afeSegMap (n k : Nat) : Nat := 0x103180 + 0x10000 * n + 0x4 * k
/-- CHn.EQ.ADAPT_CTRL (R175). -/
abbrev eqAdaptCtrl (n : Nat) : Nat := 0x104100 + 0x10000 * n
/-- CHn.EQ.STEP_ACQ (R175). -/
abbrev eqStepAcq (n : Nat) : Nat := 0x104104 + 0x10000 * n
/-- CHn.EQ.STEP_TRK (R175). -/
abbrev eqStepTrk (n : Nat) : Nat := 0x104108 + 0x10000 * n
/-- CHn.EQ.ADAPT_STATUS (R175). -/
abbrev eqAdaptStatus (n : Nat) : Nat := 0x10410C + 0x10000 * n
/-- CHn.EQ.FREEZE_COUNT (R175). -/
abbrev eqFreezeCount (n : Nat) : Nat := 0x104110 + 0x10000 * n
/-- CHn.EQ.FFE_CTRL (R175). -/
abbrev eqFfeCtrl (n : Nat) : Nat := 0x104120 + 0x10000 * n
/-- CHn.EQ.DFE_CTRL (R175). -/
abbrev eqDfeCtrl (n : Nat) : Nat := 0x104124 + 0x10000 * n
/-- CHn.EQ.DFE_TAP (R175). -/
abbrev eqDfeTap (n k : Nat) : Nat := 0x104130 + 0x10000 * n + 0x4 * k
/-- CHn.EQ.EC_SEL (R175). -/
abbrev eqEcSel (n : Nat) : Nat := 0x104140 + 0x10000 * n
/-- CHn.EQ.EC_TAP (R175). -/
abbrev eqEcTap (n : Nat) : Nat := 0x104144 + 0x10000 * n
/-- CHn.EQ.EC_RESIDUAL (R175). -/
abbrev eqEcResidual (n : Nat) : Nat := 0x104148 + 0x10000 * n
/-- CHn.EQ.TR_CTRL (R175). -/
abbrev eqTrCtrl (n : Nat) : Nat := 0x104150 + 0x10000 * n
/-- CHn.EQ.TR_STATUS (R175). -/
abbrev eqTrStatus (n : Nat) : Nat := 0x104154 + 0x10000 * n
/-- CHn.EQ.TR_PHASE (R175). -/
abbrev eqTrPhase (n : Nat) : Nat := 0x104158 + 0x10000 * n
/-- CHn.EQ.SSC_STATUS (R175). -/
abbrev eqSscStatus (n : Nat) : Nat := 0x10415C + 0x10000 * n
/-- CHn.EQ.MSE_LAST (R175). -/
abbrev eqMseLast (n : Nat) : Nat := 0x104160 + 0x10000 * n
/-- CHn.EQ.MSE_AVG (R175). -/
abbrev eqMseAvg (n : Nat) : Nat := 0x104164 + 0x10000 * n
/-- CHn.EQ.MSE_MAX (R175). -/
abbrev eqMseMax (n : Nat) : Nat := 0x104168 + 0x10000 * n
/-- CHn.EQ.NF_CTRL (R175). -/
abbrev eqNfCtrl (n : Nat) : Nat := 0x104170 + 0x10000 * n
/-- CHn.EQ.NF_STATUS (R175). -/
abbrev eqNfStatus (n : Nat) : Nat := 0x104174 + 0x10000 * n
/-- CHn.EQ.NF_BAND (R175). -/
abbrev eqNfBand (n k : Nat) : Nat := 0x104180 + 0x10000 * n + 0x4 * k
/-- CHn.EQ.FFE_TAP (R175). -/
abbrev eqFfeTap (n k : Nat) : Nat := 0x104200 + 0x10000 * n + 0x4 * k
/-- CHn.AN.AN_CTRL (R215). -/
abbrev anAnCtrl (n : Nat) : Nat := 0x105100 + 0x10000 * n
/-- CHn.AN.ADV (R215). -/
abbrev anAdv (n : Nat) : Nat := 0x105104 + 0x10000 * n
/-- CHn.AN.POLICY (R215). -/
abbrev anPolicy (n : Nat) : Nat := 0x105108 + 0x10000 * n
/-- CHn.AN.TRN_MSE_TH (R215). -/
abbrev anTrnMseTh (n : Nat) : Nat := 0x10510C + 0x10000 * n
/-- CHn.AN.LP_UP1 (R215). -/
abbrev anLpUp1 (n : Nat) : Nat := 0x105110 + 0x10000 * n
/-- CHn.AN.LP_UP2 (R215). -/
abbrev anLpUp2 (n : Nat) : Nat := 0x105114 + 0x10000 * n
/-- CHn.AN.RESOLVED (R215). -/
abbrev anResolved (n : Nat) : Nat := 0x105118 + 0x10000 * n
/-- CHn.AN.TRN_STATUS (R215). -/
abbrev anTrnStatus (n : Nat) : Nat := 0x10511C + 0x10000 * n
/-- CHn.AN.COLD_TRAINS (R215). -/
abbrev anColdTrains (n : Nat) : Nat := 0x105120 + 0x10000 * n
/-- CHn.AN.WARM_TRAINS (R215). -/
abbrev anWarmTrains (n : Nat) : Nat := 0x105124 + 0x10000 * n
/-- CHn.AN.FAST_RETRAINS (R215). -/
abbrev anFastRetrains (n : Nat) : Nat := 0x105128 + 0x10000 * n
/-- CHn.AN.TRAIN_FAILS (R215). -/
abbrev anTrainFails (n : Nat) : Nat := 0x10512C + 0x10000 * n
/-- CHn.AN.DROP_UNCORR (R215). -/
abbrev anDropUncorr (n : Nat) : Nat := 0x105130 + 0x10000 * n
/-- CHn.AN.DROP_MARK (R215). -/
abbrev anDropMark (n : Nat) : Nat := 0x105134 + 0x10000 * n
/-- CHn.AN.DOWNSHIFTS (R215). -/
abbrev anDownshifts (n : Nat) : Nat := 0x105138 + 0x10000 * n
/-- CHn.AN.LPI_STATUS (R215). -/
abbrev anLpiStatus (n : Nat) : Nat := 0x10513C + 0x10000 * n
/-- CHn.AN.ECL_STATUS (R215). -/
abbrev anEclStatus (n : Nat) : Nat := 0x105150 + 0x10000 * n
/-- CHn.AN.ECL_START (R215). -/
abbrev anEclStart (n : Nat) : Nat := 0x105154 + 0x10000 * n
/-- CHn.AN.ECL_COUNT (R215). -/
abbrev anEclCount (n : Nat) : Nat := 0x105158 + 0x10000 * n
/-- CHn.AN.ECL_DEFER (R215). -/
abbrev anEclDefer (n : Nat) : Nat := 0x10515C + 0x10000 * n
/-- CHn.AN.ECL_MISS (R215). -/
abbrev anEclMiss (n : Nat) : Nat := 0x105160 + 0x10000 * n
/-- CHn.AN.EBUF_OCC (R215). -/
abbrev anEbufOcc (n : Nat) : Nat := 0x105164 + 0x10000 * n
/-- CHn.AN.EBUF_IN_LO (R215). -/
abbrev anEbufInLo (n : Nat) : Nat := 0x105168 + 0x10000 * n
/-- CHn.AN.EBUF_IN_HI (R215). -/
abbrev anEbufInHi (n : Nat) : Nat := 0x10516C + 0x10000 * n
/-- CHn.AN.EBUF_OUT_LO (R215). -/
abbrev anEbufOutLo (n : Nat) : Nat := 0x105170 + 0x10000 * n
/-- CHn.AN.EBUF_OUT_HI (R215). -/
abbrev anEbufOutHi (n : Nat) : Nat := 0x105174 + 0x10000 * n
/-- CHn.AN.EBUF_FLUSH (R215). -/
abbrev anEbufFlush (n : Nat) : Nat := 0x105178 + 0x10000 * n
/-- CHn.HL.MODE (R216). -/
abbrev hlMode (n : Nat) : Nat := 0x106100 + 0x10000 * n
/-- CHn.HL.RM_CTRL (R216). -/
abbrev hlRmCtrl (n : Nat) : Nat := 0x106104 + 0x10000 * n
/-- CHn.HL.PAUSE_TIME (R216). -/
abbrev hlPauseTime (n : Nat) : Nat := 0x106108 + 0x10000 * n
/-- CHn.HL.PAUSE_SA_LO (R216). -/
abbrev hlPauseSaLo (n : Nat) : Nat := 0x10610C + 0x10000 * n
/-- CHn.HL.PAUSE_SA_HI (R216). -/
abbrev hlPauseSaHi (n : Nat) : Nat := 0x106110 + 0x10000 * n
/-- CHn.HL.STATUS (R216). -/
abbrev hlStatus (n : Nat) : Nat := 0x106114 + 0x10000 * n
/-- CHn.HL.RM_OCC (R216). -/
abbrev hlRmOcc (n : Nat) : Nat := 0x106118 + 0x10000 * n
/-- CHn.HL.RM_QUEUED (R216). -/
abbrev hlRmQueued (n : Nat) : Nat := 0x10611C + 0x10000 * n
/-- CHn.HL.RM_RX_LO (R216). -/
abbrev hlRmRxLo (n : Nat) : Nat := 0x106120 + 0x10000 * n
/-- CHn.HL.RM_RX_HI (R216). -/
abbrev hlRmRxHi (n : Nat) : Nat := 0x106124 + 0x10000 * n
/-- CHn.HL.RM_SENT_LO (R216). -/
abbrev hlRmSentLo (n : Nat) : Nat := 0x106128 + 0x10000 * n
/-- CHn.HL.RM_SENT_HI (R216). -/
abbrev hlRmSentHi (n : Nat) : Nat := 0x10612C + 0x10000 * n
/-- CHn.HL.RM_DROP_LO (R216). -/
abbrev hlRmDropLo (n : Nat) : Nat := 0x106130 + 0x10000 * n
/-- CHn.HL.RM_DROP_HI (R216). -/
abbrev hlRmDropHi (n : Nat) : Nat := 0x106134 + 0x10000 * n
/-- CHn.HL.PAUSE_TX (R216). -/
abbrev hlPauseTx (n : Nat) : Nat := 0x106138 + 0x10000 * n
/-- CHn.HL.IDLE_INS_LO (R216). -/
abbrev hlIdleInsLo (n : Nat) : Nat := 0x106140 + 0x10000 * n
/-- CHn.HL.IDLE_INS_HI (R216). -/
abbrev hlIdleInsHi (n : Nat) : Nat := 0x106144 + 0x10000 * n
/-- CHn.HL.IDLE_DEL_LO (R216). -/
abbrev hlIdleDelLo (n : Nat) : Nat := 0x106148 + 0x10000 * n
/-- CHn.HL.IDLE_DEL_HI (R216). -/
abbrev hlIdleDelHi (n : Nat) : Nat := 0x10614C + 0x10000 * n
/-- CHn.KTL.CTRL (R276). -/
abbrev ktlCtrl (n : Nat) : Nat := 0x107100 + 0x10000 * n
/-- CHn.KTL.STATUS (R276). -/
abbrev ktlStatus (n : Nat) : Nat := 0x107104 + 0x10000 * n
/-- CHn.KTL.PARTNER_INFO (R276). -/
abbrev ktlPartnerInfo (n : Nat) : Nat := 0x107108 + 0x10000 * n
/-- CHn.KTL.PARTNER_ROOT (R276). -/
abbrev ktlPartnerRoot (n : Nat) : Nat := 0x10710C + 0x10000 * n
/-- CHn.KTL.OFFSET_NS (R276). -/
abbrev ktlOffsetNs (n : Nat) : Nat := 0x107110 + 0x10000 * n
/-- CHn.KTL.OFFSET_FRAC (R276). -/
abbrev ktlOffsetFrac (n : Nat) : Nat := 0x107114 + 0x10000 * n
/-- CHn.KTL.PATH_DELAY (R276). -/
abbrev ktlPathDelay (n : Nat) : Nat := 0x107118 + 0x10000 * n
/-- CHn.KTL.OUTLIER_TH (R276). -/
abbrev ktlOutlierTh (n : Nat) : Nat := 0x10711C + 0x10000 * n
/-- CHn.KTL.LAT_MARK_TX (R276). -/
abbrev ktlLatMarkTx (n : Nat) : Nat := 0x107120 + 0x10000 * n
/-- CHn.KTL.LAT_MARK_RX (R276). -/
abbrev ktlLatMarkRx (n : Nat) : Nat := 0x107124 + 0x10000 * n
/-- CHn.KTL.EST_COUNT (R276). -/
abbrev ktlEstCount (n : Nat) : Nat := 0x107128 + 0x10000 * n
/-- CHn.KTL.OUTLIERS (R276). -/
abbrev ktlOutliers (n : Nat) : Nat := 0x10712C + 0x10000 * n
/-- CHn.KTL.ECHO_MISS (R276). -/
abbrev ktlEchoMiss (n : Nat) : Nat := 0x107130 + 0x10000 * n
/-- CHn.KTL.FREQ_REL (R276). -/
abbrev ktlFreqRel (n : Nat) : Nat := 0x107134 + 0x10000 * n
/-- CHn.KTL.PTP_CTRL (R276). -/
abbrev ktlPtpCtrl (n : Nat) : Nat := 0x107180 + 0x10000 * n
/-- CHn.KTL.PTP_STATUS (R276). -/
abbrev ktlPtpStatus (n : Nat) : Nat := 0x107184 + 0x10000 * n
/-- CHn.KTL.PTP_POP (R276). -/
abbrev ktlPtpPop (n : Nat) : Nat := 0x107188 + 0x10000 * n
/-- CHn.KTL.PTP_TS_OVF (R276). -/
abbrev ktlPtpTsOvf (n : Nat) : Nat := 0x10718C + 0x10000 * n
/-- CHn.KTL.PTP_TS_W (R276). -/
abbrev ktlPtpTsW (n k : Nat) : Nat := 0x107190 + 0x10000 * n + 0x4 * k
/-- CHn.KTL.PTP_TC_SKIP (R276). -/
abbrev ktlPtpTcSkip (n : Nat) : Nat := 0x1071A0 + 0x10000 * n
/-- CHn.KTL.PTP_MOD (R276). -/
abbrev ktlPtpMod (n : Nat) : Nat := 0x1071A4 + 0x10000 * n
/-- CHn.DIAG.DIAG_CTRL (R239). -/
abbrev diagDiagCtrl (n : Nat) : Nat := 0x108100 + 0x10000 * n
/-- CHn.DIAG.CABLE (R239). -/
abbrev diagCable (n : Nat) : Nat := 0x108104 + 0x10000 * n
/-- CHn.DIAG.EVT_CTRL (R239). -/
abbrev diagEvtCtrl (n : Nat) : Nat := 0x108108 + 0x10000 * n
/-- CHn.DIAG.MAP_STATUS (R239). -/
abbrev diagMapStatus (n : Nat) : Nat := 0x10810C + 0x10000 * n
/-- CHn.DIAG.MAP_BIN_UM (R239). -/
abbrev diagMapBinUm (n : Nat) : Nat := 0x108110 + 0x10000 * n
/-- CHn.DIAG.MAP_K0 (R239). -/
abbrev diagMapK0 (n : Nat) : Nat := 0x108114 + 0x10000 * n
/-- CHn.DIAG.MAP_SKIP (R239). -/
abbrev diagMapSkip (n : Nat) : Nat := 0x108118 + 0x10000 * n
/-- CHn.DIAG.IL_EST (R239). -/
abbrev diagIlEst (n : Nat) : Nat := 0x108120 + 0x10000 * n
/-- CHn.DIAG.IL_MARGIN (R239). -/
abbrev diagIlMargin (n : Nat) : Nat := 0x108124 + 0x10000 * n
/-- CHn.DIAG.CHI (R239). -/
abbrev diagChi (n : Nat) : Nat := 0x108128 + 0x10000 * n
/-- CHn.DIAG.NF_RISE (R239). -/
abbrev diagNfRise (n : Nat) : Nat := 0x10812C + 0x10000 * n
/-- CHn.DIAG.PROFILE (R239). -/
abbrev diagProfile (n : Nat) : Nat := 0x108130 + 0x10000 * n
/-- CHn.DIAG.MAP_BIN (R239). -/
abbrev diagMapBin (n k : Nat) : Nat := 0x108140 + 0x10000 * n + 0x4 * k
/-- CHn.DIAG.EVT_DIST (R239). -/
abbrev diagEvtDist (n k : Nat) : Nat := 0x108180 + 0x10000 * n + 0x8 * k
/-- CHn.DIAG.EVT_INFO (R239). -/
abbrev diagEvtInfo (n k : Nat) : Nat := 0x108184 + 0x10000 * n + 0x8 * k
/-- CHn.DIAG.TDR_CTRL (R239). -/
abbrev diagTdrCtrl (n : Nat) : Nat := 0x1081C0 + 0x10000 * n
/-- CHn.DIAG.TDR_STATUS (R239). -/
abbrev diagTdrStatus (n : Nat) : Nat := 0x1081C4 + 0x10000 * n
/-- CHn.DIAG.TDR_DISC (R239). -/
abbrev diagTdrDisc (n : Nat) : Nat := 0x1081C8 + 0x10000 * n
/-- CHn.DIAG.TDR_E_DIST (R239). -/
abbrev diagTdrEDist (n k : Nat) : Nat := 0x1081D0 + 0x10000 * n + 0x8 * k
/-- CHn.DIAG.TDR_E_INFO (R239). -/
abbrev diagTdrEInfo (n k : Nat) : Nat := 0x1081D4 + 0x10000 * n + 0x8 * k
/-- CHn.DIAG.LB_CTRL (R239). -/
abbrev diagLbCtrl (n : Nat) : Nat := 0x108210 + 0x10000 * n
/-- CHn.DIAG.TP_CTRL (R239). -/
abbrev diagTpCtrl (n : Nat) : Nat := 0x108214 + 0x10000 * n
/-- CHn.DIAG.PAT_ERR (R239). -/
abbrev diagPatErr (n : Nat) : Nat := 0x108218 + 0x10000 * n
/-- CHn.DIAG.LB_STATUS (R239). -/
abbrev diagLbStatus (n : Nat) : Nat := 0x10821C + 0x10000 * n
/-- CHn.RLY.CTRL (R217). -/
abbrev rlyCtrl (n : Nat) : Nat := 0x109100 + 0x10000 * n
/-- CHn.RLY.STATUS (R217). -/
abbrev rlyStatus (n : Nat) : Nat := 0x109104 + 0x10000 * n
/-- CHn.RLY.FWD_LO (R217). -/
abbrev rlyFwdLo (n : Nat) : Nat := 0x109108 + 0x10000 * n
/-- CHn.RLY.FWD_HI (R217). -/
abbrev rlyFwdHi (n : Nat) : Nat := 0x10910C + 0x10000 * n
/-- CHn.RLY.FIFO_DROP (R217). -/
abbrev rlyFifoDrop (n : Nat) : Nat := 0x109110 + 0x10000 * n
/-- CHn.RLY.DISCARD (R217). -/
abbrev rlyDiscard (n : Nat) : Nat := 0x109114 + 0x10000 * n
/-- CHn.RLY.TAP_LO (R217). -/
abbrev rlyTapLo (n : Nat) : Nat := 0x109118 + 0x10000 * n
/-- CHn.RLY.TAP_HI (R217). -/
abbrev rlyTapHi (n : Nat) : Nat := 0x10911C + 0x10000 * n
/-- CHn.RLY.TAP_DROP (R217). -/
abbrev rlyTapDrop (n : Nat) : Nat := 0x109120 + 0x10000 * n
/-- CHn.RLY.FIFO_OCC (R217). -/
abbrev rlyFifoOcc (n : Nat) : Nat := 0x109124 + 0x10000 * n
/-- CHn.CNT.LRX_FRAMES_LO (R425). -/
abbrev cntLrxFramesLo (n : Nat) : Nat := 0x10A100 + 0x10000 * n
/-- CHn.CNT.LRX_FRAMES_HI (R425). -/
abbrev cntLrxFramesHi (n : Nat) : Nat := 0x10A104 + 0x10000 * n
/-- CHn.CNT.LRX_OCTETS_LO (R425). -/
abbrev cntLrxOctetsLo (n : Nat) : Nat := 0x10A108 + 0x10000 * n
/-- CHn.CNT.LRX_OCTETS_HI (R425). -/
abbrev cntLrxOctetsHi (n : Nat) : Nat := 0x10A10C + 0x10000 * n
/-- CHn.CNT.LRX_ERR_FRAMES (R425). -/
abbrev cntLrxErrFrames (n : Nat) : Nat := 0x10A110 + 0x10000 * n
/-- CHn.CNT.LRX_FCS_ERR (R425). -/
abbrev cntLrxFcsErr (n : Nat) : Nat := 0x10A114 + 0x10000 * n
/-- CHn.CNT.LTX_FRAMES_LO (R425). -/
abbrev cntLtxFramesLo (n : Nat) : Nat := 0x10A120 + 0x10000 * n
/-- CHn.CNT.LTX_FRAMES_HI (R425). -/
abbrev cntLtxFramesHi (n : Nat) : Nat := 0x10A124 + 0x10000 * n
/-- CHn.CNT.LTX_OCTETS_LO (R425). -/
abbrev cntLtxOctetsLo (n : Nat) : Nat := 0x10A128 + 0x10000 * n
/-- CHn.CNT.LTX_OCTETS_HI (R425). -/
abbrev cntLtxOctetsHi (n : Nat) : Nat := 0x10A12C + 0x10000 * n
/-- CHn.CNT.LTX_ERR_FRAMES (R425). -/
abbrev cntLtxErrFrames (n : Nat) : Nat := 0x10A130 + 0x10000 * n

end Sys2Proof.Machine.Reg
end

