-- ==== Sys2Proof/Machine/State.lean ====
section
/-! DEFINITION. The state of the ZW1650: everything the spec gives the machine, as plain data, and its value right after the VAO power-on reset. Every field's initial value is the reset value of the spec, or a value that a log entry names. -/

namespace Sys2Proof.Machine

/-- A loop's lock (R347): whether it holds lock, since when, and whether its gate is open. -/
structure Loop where
  locked : Bool := false
  since : Nat := 0
  gate : Bool := false
  deriving DecidableEq, Repr

/-- One PPS input against a group's timescale (R261, R262): the last capture as taken and with OFS subtracted, the pulse's offset θ and whether the input is valid. -/
structure PpsCap where
  raw : Rat := 0
  last : Option Rat := none
  theta : Rat := 0
  valid : Bool := false
  /-- A pulse has been accepted that no servo update has taken yet. -/
  seen : Bool := false
  /-- A pulse has been accepted that no comparison tick has taken yet (R259). -/
  cmp : Bool := false
  deriving DecidableEq, Repr

/-- Everything a tenancy group holds beyond its registers. -/
structure Group where
  /-- The timescale's time since the TAI epoch, in ns, exact (R312). -/
  ts : Rat := 0
  /-- Integrator and output of the servo (R255), and its outputs since the last entry to ACQUIRE, newest first, up to 1,024 (R258). -/
  i : Rat := 0
  y : Rat := 0
  ys : List Rat := []
  /-- Consecutive updates with the input within LOCK_TH (09 Table 3). -/
  lockRun : Nat := 0
  /-- ACQUIRE was entered from UNSET; no update has passed since its entry (R256). -/
  fromUnset : Bool := false
  fresh : Bool := false
  /-- ROOT_ID of the group (R251). -/
  root : BitVec 14 := 0
  /-- The source configuration in force (R253). -/
  src : Word := 0
  /-- Instant of entry to HOLDOVER (R258). -/
  holdFrom : Nat := 0
  /-- Consecutive ticks of agreement while a discrepancy is declared (R260). -/
  agree : Nat := 0
  /-- Group time at the last servo update and at the last comparison tick (R255, R259). -/
  updAt : Rat := 0
  tickAt : Rat := 0
  /-- A servo update put off by a time operation on its TPLL cycle: that cycle's instant and the input that the update already had (R315). -/
  owed : Option (Nat × Option Rat) := none
  pps : Vector PpsCap 2 := Vector.replicate 2 {}
  deriving DecidableEq, Repr

/-- A journal entry, 02 Table 17 (R42). -/
structure JEntry where
  sec : Word
  ns : Word
  frac : BitVec 16
  seq : Word
  origin : Byte
  flags : Byte
  addr : Addr
  old : Word
  new : Word
  deriving DecidableEq, Repr

/-- A place of the SRAM ring: the entry, the instant it took effect on the moon clock (R47), and whether an uncorrectable memory error hit it (R414). -/
structure RingEntry where
  e : JEntry
  tookAt : Nat
  bad : Bool
  deriving DecidableEq, Repr

/-- The journal (R41 to R49). The ring holds its newest entry first. -/
structure Jrnl where
  ring : List RingEntry := []
  /-- Sequence the next entry takes (SEQ_NEXT). -/
  seqNext : Word := 0
  /-- Next sequence to commit (SEQ_COMMIT). -/
  seqCommit : Word := 0
  /-- Entries lost (GAP_TOTAL). -/
  gapTotal : Word := 0
  /-- Ring wraps (WRAP_COUNT) and entries written since the ring was empty. -/
  wrapCount : Word := 0
  written : Nat := 0
  /-- Tokens held, 0 to 8, and the instant the next token may be issued. -/
  tokens : Nat := 0
  tokenAt : Nat := 0
  /-- Page the next full commit writes (NEXT_PAGE) and the entries it already holds from a partial commit. -/
  nextPage : Nat := 0
  pageFill : Nat := 0
  /-- The oldest uncommitted entry is older than FLUSH_AGE. -/
  aged : Bool := false
  /-- An archive fetch that runs: the sequence and the latest instant of its end (R49). -/
  fetch : Option (Word × Nat) := none
  deriving DecidableEq, Repr

/-- Job states, 02 Table 24 (R52). -/
inductive JState where
  | idle | wait | run | done | failed | aborted
  deriving DecidableEq, Repr

/-- A job slot (R51 to R54): the job it took at START and its progress. -/
structure JobSlot where
  st : JState := .idle
  typ : Byte := 0
  target : Byte := 0
  arg0 : Word := 0
  arg1 : Word := 0
  handle : BitVec 16 := 0
  err : Nat := 0
  steps : Nat := 0
  total : Nat := 0
  res0 : Word := 0
  res1 : Word := 0
  yields : Nat := 0
  guaranteed : Nat := 0
  /-- Yields of the step now being attempted, and the instant from which it is attempted again (R53). -/
  stepYields : Nat := 0
  tryAt : Nat := 0
  /-- Working sums and counts of the job between its steps, by key. -/
  acc : List (Nat × Int) := []
  /-- Failing cells and LDPC units that a test has found so far. -/
  cells : List (Nat × Nat × Nat) := []
  logic : List Nat := []
  /-- What step 1 of a ledger update took (R329): the accumulators and the trend sample due. -/
  copied : List (Nat × Nat) := []
  due : Option (Nat × Word) := none
  deriving DecidableEq, Repr

/-- A device-started job that waits for slot 6 or 7 (R51). -/
structure DevJob where
  typ : Byte
  target : Byte
  arg0 : Word
  deriving DecidableEq, Repr

/-- The job sequencer (R50 to R54). -/
structure Jobs where
  slots : Vector JobSlot 8 := Vector.replicate 8 {}
  waiting : List DevJob := []
  /-- The slot whose job last took a step on a unit, by unit (R50). -/
  turns : List (Nat × Nat) := []
  /-- Device-wide count of STARTs, modulo 8,192. -/
  starts : BitVec 13 := 0
  deriving DecidableEq, Repr

/-- The NVM: its 4 Mbit array as (address, byte) pairs in canonical form, unlisted bytes erased (0xFF), the permanent sector fences of the configuration row (R418), and the staging buffer of the user area (R454). -/
structure Nvm where
  mem : List Host.Cell := []
  sectFence : BitVec 128 := 0
  /-- Staged words: block offset, then (user-area byte address, word) pairs. -/
  stageBlock : Nat := 0
  staged : List (Nat × Word) := []
  deriving DecidableEq, Repr

/-- A posted write on its way to a moon-copied domain (R35). -/
structure PostedWrite where
  origin : Origin
  addr : Nat
  data : Word
  view1 : Bool
  foreign : Bool
  /-- Bits of the data that take the register's contents in their place: the RW fields of the half that a v1 frame does not write (R67). -/
  keep : Word := 0
  /-- Its origin no longer waits for it: the frame that made it was aborted (R65). -/
  orphan : Bool := false
  deriving DecidableEq, Repr

/-- The result of an accepted frame that the port has not reported yet (R61). -/
structure Report where
  tag : BitVec 5
  result : BitVec 3
  data : Word
  seq : BitVec 16
  burst : Bool
  /-- The instant its frame completed. -/
  doneAt : Nat
  deriving DecidableEq, Repr

/-- The accepted frame of a port that still executes because the fabric holds its write (R36, R61): its tag, the register writes still to be made with their CRC checks, and what has been done. -/
structure Executing where
  tag : BitVec 5
  rest : List (Nat × Word × Bool)
  made : Nat
  posted : Bool
  isBurst : Bool
  data : Word
  deriving DecidableEq, Repr

/-- What a serial port shows at an instant beside its own frames (03 Table 5, R62, R75). (DESIGN CHOICE, notes/assumptions 8) -/
structure PortView where
  deaf : Bool
  up : Bool
  irq : Bool
  note : Bool
  safe : Bool
  gap : Bool
  deriving DecidableEq, Repr

/-- One serial port (R55 to R68). -/
structure Port where
  /-- Framing version: v1 (R68). -/
  v1 : Bool := false
  unreported : Option Report := none
  executing : Option Executing := none
  /-- The frame just before on the wire was refused: what the next reply says of it (R61). -/
  refused : Option Report := none
  /-- Words 1 to N − 1 of the last burst read (R64). -/
  buf : List Word := []
  /-- Key latch of v1 frames: the halfword and the register address (R67). -/
  latch : Option (BitVec 16 × Nat) := none
  /-- A gap record was written since it was last announced (R58), and when. -/
  gap : Bool := false
  gapAt : Nat := 0
  /-- A port reset in progress, with the latest instant of its end (R66). -/
  resetBy : Option Nat := none
  lastPage : Option Page := none
  /-- The held write of an aborted burst is still to complete and to count (R64, R65). -/
  tail : Bool := false
  /-- The bytes the port shifted out in its last frame; none while its MISO is high-impedance (R75). -/
  miso : List Byte := []
  /-- The changes of what the port shows since its last frame ended, newest first, each with its instant: a frame takes what stood at its falling edge (R57). -/
  views : List (Nat × PortView) := []
  deriving DecidableEq, Repr

/-- The MMD 30 window of one PHY address (R70, R71). -/
structure MdioWin where
  addrH : Byte := 0
  addrL : BitVec 16 := 0
  dataH : BitVec 16 := 0
  dataL : BitVec 16 := 0
  /-- The started access: true for a write. -/
  busy : Option Bool := none
  /-- The fabric holds the started write (R36). -/
  stalled : Bool := false
  result : BitVec 3 := 0
  inc : Bool := false
  deriving DecidableEq, Repr

/-- A remote request or reply, 03 Table 10. -/
structure Remote where
  tag : Byte
  op : BitVec 4
  result : BitVec 3
  addr : Addr
  data : Word
  seq : BitVec 16
  deriving DecidableEq, Repr

/-- The JTAG data register of REG_ACCESS (R433): the last access's result and data, and an access that runs. -/
structure Jtag where
  result : BitVec 3 := 0
  addr : Addr := 0
  data : Word := 0
  done : Bool := false
  /-- The fabric holds the started write (R36). -/
  stalled : Bool := false
  /-- The bits last captured for shifting out. -/
  out : BitVec 58 := 0
  /-- Instruction register of the test access port (17 Table 5): IDCODE after its reset. -/
  ir : Byte := 0xFE
  deriving DecidableEq, Repr

/-- The host port (R55 to R75). -/
structure HostPort where
  hsa : Port := {}
  hsb : Port := {}
  win : Vector MdioWin 16 := Vector.replicate 16 {}
  /-- The last value an MDIO read returned; none where no PHY answered. -/
  mdioOut : Option (BitVec 16) := none
  /-- The mailbox's request that waits for its reply: the channel and the deadline (R73). -/
  mail : Option (Ch × Nat) := none
  /-- Device-wide count of mailbox tags. -/
  tagNext : Byte := 0
  jtag : Jtag := {}
  /-- Snapshot requests that wait, by page base: the instant of the REQ, and the orbit that the page's channel sends next then (R37). -/
  snapAt : List (Nat × (Nat × Word)) := []
  /-- The place in the fabric's cyclic order of the origin that it served last: HSA, HSB, MDIO, remote CH0 to CH15, JTAG (R74). -/
  served : Nat := 19
  deriving DecidableEq, Repr

/-- What a transmitter sent in its last orbit (R82 to R92, R185): the type, none in phases 2 and 3; the index; the field (KTL or KTL-lite) or the training status word; the blocks of its codewords; and all its symbols, in level units. -/
structure OrbitOut where
  ty : Option OrbitTy
  index : Word
  ktl : Option KtlField
  lite : Option LiteField
  tsw : Option (BitVec 16)
  blocks : List Blk
  syms : List Int
  /-- The codes that the DAC takes (R147). -/
  dac : List Byte := []
  deriving DecidableEq, Repr

/-- Orbits and OAM of a channel (R81 to R101). -/
structure LineSt where
  /-- The transmitter sends orbits, and of which type the next one is; none while it sends none. -/
  txTy : Option OrbitTy := none
  /-- Index of the next orbit to send. -/
  txNext : Word := 0
  lastTx : Option OrbitOut := none
  /-- What was sent in the last 1,026 orbits of time, newest first: the instant of the first symbol, and the symbols (R150). -/
  sent : List (Nat × List Int) := []
  /-- Microseconds of a test pattern that have been sent (R236). -/
  patUs : Nat := 0
  /-- OAM messages that wait, in the order in which they became ready (R100). -/
  oamQ : List (BitVec 128) := []
  /-- The message in the slot being sent, 0 for idle, and whether the slot carries one at all (R99). -/
  oamNow : BitVec 128 := 0
  /-- Pieces of the slot being received, oldest first; none for a failed field (R101). -/
  oamIn : List (Option (BitVec 16)) := []
  /-- Messages delivered that wait for the unit they are for (R101), and comets of decoded fields that wait to be taken (R284), oldest first. -/
  inbox : List (BitVec 128) := []
  cometIn : List (BitVec 96) := []
  /-- Comets placed in the slots of the next field (R290). -/
  cometOut : List (BitVec 96) := []
  /-- Blocks so far of the frame being sent and of the frame being received (R426). -/
  txFrame : List Blk := []
  rxFrame : List Blk := []
  /-- The partner's orbit being received: its full index (R97, R189), its type as last decoded, and channel time at its mark in 2^−16 ns. -/
  rxIdx : Word := 0
  rxTy : Option OrbitTy := none
  rxArr : Nat := 0
  /-- The register of the training symbols, and whether this end sends them in phase 1 (R185, R186). -/
  trainReg : BitVec 31 := 0
  p1 : Bool := false
  /-- Bits sent in a standard mode since its last RS codeword (R133). -/
  stdBits : Nat := 0
  deriving DecidableEq, Repr

/-- A received codeword on its way through the decoder (R120 to R124): its engine (true for B; none where it takes no credit), its release instant, its result and its blocks. -/
structure Flight where
  eng : Option Bool
  rel : Nat
  iters : Option Nat
  check : Bool
  corr : Nat
  blks : List Blk
  deriving DecidableEq, Repr

/-- Decoding of a channel (R117 to R129). -/
structure FecSt where
  /-- Codewords in receive order that have not been released, oldest first. -/
  flight : List Flight := []
  /-- The BER window: codewords decoded, corrected bits, and whether one was uncorrectable (R129). -/
  winCw : Nat := 0
  winBits : Nat := 0
  winUnc : Bool := false
  /-- Single-engine operation starts, or ends, at the next orbit boundary (R127, R128). -/
  startAt : Bool := false
  endAt : Bool := false
  /-- Consecutive uncorrectable codewords (R192), and those of the current received orbit (R161). -/
  uncRun : Nat := 0
  /-- RS codewords of standard modes counted in CW_RX and decoded, which no HIST counter takes (R133). -/
  rs : Nat := 0
  orbUnc : Nat := 0
  /-- The eclipse that carries the new ITER_MAX has been received: it applies at the next codeword (R122). -/
  iterArm : Bool := false
  /-- Engines out of service: fenced, or with the fence removed and no orbit boundary since (R127, R128). -/
  outA : Bool := false
  outB : Bool := false
  /-- In single-engine operation, the engine that works: true for B (R127). -/
  solo : Bool := false
  deriving DecidableEq, Repr

/-- What the receive loops follow at an instant (R160 to R165): link, training phase, type of the orbit being received, frozen loops as in ADAPT_CTRL, tracking steps of the equalisers and of the canceller, timing mode, whether timing is acquired on known pilots or only advances, and whether this end sends in phase 1. (DESIGN CHOICE, notes/assumptions 8) -/
structure RxView where
  up : Bool
  phase : Nat
  ty : Option OrbitTy
  frozen : Nat
  trkEq : Bool
  trkEc : Bool
  pilot : Bool
  acquires : Bool
  coasts : Bool
  sends : Bool
  deriving DecidableEq, Repr

/-- The receiver of a channel beyond its registers (R135 to R172). -/
structure RxSt where
  /-- Echo taps that are not 0, in the unit of EC_TAP (R152). -/
  ec : List (Nat × Int) := []
  /-- What the exact coefficients hold below the unit of their registers, where that is not 0: echo taps from key 0, FFE taps from 4,096, DFE taps from 8,192 (R159). -/
  frac : List (Nat × Rat) := []
  /-- The tail partition whose turn it is to adapt (R152). -/
  part : Nat := 0
  /-- Slice corrections that are not 0: slice, gain in 2^−16 and offset in 1/256 LSB (R145). -/
  corr : List (Nat × Rat × Rat) := []
  /-- Physical slices and segments that have failed (R146, R148). -/
  badSlices : List Nat := []
  badSegs : List Nat := []
  /-- Spares by the age of their correction, the one adapted last first (R146). -/
  fresh : List Nat := []
  /-- Element selections that wait for their instant: position, new slice or segment (R146). -/
  sliceSwap : List (Nat × Nat) := []
  segSwap : List (Nat × Nat) := []
  /-- A coefficient set exists from which a warm train or fast retrain can start. -/
  trained : Bool := false
  /-- The timing mode and the DFE length that wait (R156, R163), and the main tap that the next cold train uses (R155). -/
  dfeWait : Bool := false
  /-- TAPS in force (R156). -/
  taps : Nat := 4
  main : Nat := 10
  /-- Received orbits for which the uncorrectable freeze still holds (R161). -/
  freeze : Nat := 0
  /-- MSE_LAST values of the last orbits or blocks, newest first (R172). -/
  mse : List Int := []
  /-- The running block of a standard mode: sum of squares of slicer errors, and symbols (R172). -/
  sqSum : Rat := 0
  sqNum : Nat := 0
  /-- The timing loop (R166): recovered phase in UI and the integrator's relative frequency; magnitudes of the last phase errors, newest first; estimates in a row without a lock condition broken, and the frequency at the first of them (R167). -/
  trPhase : Rat := 0
  trFreq : Rat := 0
  trErr : List Rat := []
  trGood : Nat := 0

  /-- The spread model's phase: an instant of the triangle's upper corner, in ps (R168). -/
  sscCorner : Nat := 0
  /-- The announced modulation rate in units of 0.5 kHz (R168). -/
  sscHalf : Nat := 0
  /-- A standard mode's local receiver status was OK when the receiver last took a window (R160). -/
  rcvOk : Bool := false
  /-- What the loops followed since the last window, newest first, with the instant from which each view holds (R161). -/
  views : List (Nat × RxView) := []
  /-- Phase estimates of the last window that the timing loop has not taken yet, oldest first; none where the phase only advances (R164, R165). -/
  est : List (Option Rat) := []
  deriving DecidableEq, Repr

/-- Negotiation and training of a channel beyond its registers (R177 to R193). -/
structure LinkSt where
  /-- Clause 98 negotiation runs. -/
  neg : Bool := false
  /-- Nonces of this end and of the partner, kept with the stored resolution (R178). -/
  nonce : BitVec 5 := 0
  lpNonce : BitVec 5 := 0
  /-- The leader's spread of the stored resolution: its depth in 0.01 % and rate in 0.5 kHz as announced (R168, R183). -/
  ssc : Option (Nat × Nat) := none
  /-- The pages this end sent in the negotiation that was stored (Tables 2 and 3). -/
  up1 : Word := 0
  up2 : Word := 0
  /-- The base page and all next pages that this end sends in its negotiation, in order (R178, R179). -/
  base : BasePage := {}
  pages : List NextPage := []
  /-- Both ends of the stored resolution advertised ZLPI (R195). -/
  zlpi : Bool := false
  /-- The code of both directions of the near-end loopback that runs (R110, R235). -/
  lb : Nat := 1
  /-- Consecutive failures, the mode they count against, and the modes removed, as bits of ADV.MODES (R184). -/
  failMode : Nat := 0
  failRun : Nat := 0
  removed : BitVec 9 := 0
  /-- Start of the training and of its phase, the phase's limit, and the end of FAST_HOLD while it waits for marks. -/
  trainFrom : Nat := 0
  phaseFrom : Nat := 0
  limitAt : Option Nat := none
  holdBy : Option Nat := none
  /-- Orbits in a row that meet the receiver's criterion (R188), and that brought a valid status word with RX_READY. -/
  readyRun : Nat := 0
  tswRun : Nat := 0
  /-- The training has failed in phase 2 or 3: orbits with ABORT status words still to send (R190). -/
  abort : Option Nat := none
  /-- This end sends DATA orbits; it has decoded a DATA field (R189). -/
  sends : Bool := false
  got : Bool := false
  /-- Consecutive missing marks (R192). -/
  markRun : Nat := 0
  /-- CPLL has lost lock: the fast retrain waits for it (R344). -/
  relock : Bool := false
  /-- WAKE orbits still to send (R197). -/
  wakeLeft : Nat := 0
  /-- A RESTART, and an ADV write, that take effect when a TDR sweep ends (R230). -/
  owedRestart : Bool := false
  owedAdv : Bool := false
  deriving DecidableEq, Repr

/-- Eclipses of a channel beyond its registers (R199 to R205). -/
structure EclSt where
  /-- Reasons that wait, since when, and whether a REQUEST went out since the last eclipse. -/
  since : Option Nat := none
  asked : Bool := false
  /-- A REQUEST of the follower waits (leader only). -/
  partner : Bool := false
  /-- Announced: START, and the count for its ECL_ID. -/
  ann : Option (Word × Byte) := none
  /-- ECLIPSE orbits still to send, and orbits received of an eclipse. -/
  txLeft : Nat := 0
  rxIn : Nat := 0
  /-- START of the last eclipse, if there was one; occupancy was at most 64 at an orbit boundary since it ended. -/
  last : Option Word := none
  drained : Bool := true
  /-- START of an announced eclipse not yet received (R203). -/
  expect : Option Word := none
  /-- An ECLIPSE orbit has arrived without an announcement and has not been counted (R203). -/
  stray : Bool := false
  /-- The leader's orbit index from which the running interval of 128 orbits counts, while a request waits (R205). -/
  waitFrom : Option Word := none
  deriving DecidableEq, Repr

/-- The buffers between host lane and line (R204 to R214). -/
structure BufSt where
  /-- Eclipse buffer and rate-matching FIFO, oldest block first. -/
  ebuf : List Blk := []
  rm : List Blk := []
  /-- Part of a block that the PCS may still take, in 1/32 block. -/
  credit : Nat := 0
  /-- XOFF has been sent and not XON; the instant at which it is repeated. -/
  xoff : Option Nat := none
  /-- The frame that HLRXn brings: none between frames, true while its blocks are queued, false while they are discarded (R209). -/
  hostIn : Option Bool := none
  /-- The first block of the rate-matching FIFO continues a frame whose start has left it. -/
  cut : Bool := false
  /-- In an 8b/10b mode, the codes so far of the frame that HLRXn brings, newest first (R207). -/
  codesIn : Option (List (Bool × Byte)) := none
  /-- The host sends LPI: the index of the orbit that was sent next when it began (R195). -/
  lpiFrom : Option Word := none
  /-- The received frame in progress is discarded, since the host lane could not take all of it (R345). -/
  toSkip : Bool := false
  /-- Blocks last delivered to the host lane, in order; in an 8b/10b mode also as code groups (R207, R210). -/
  toHost : List (BitVec 2 × BitVec 64) := []
  codesOut : List (Bool × Byte) := []
  /-- The instant in ps up to which block positions toward the host have been filled (R208). -/
  hostAt : Nat := 0
  /-- The octets of the PAUSE frame last inserted toward the host (R208). -/
  pauseOut : List Byte := []
  /-- What was received while the channel is in an active relay pair and waits to be forwarded, oldest first: whole frames, and single blocks that belong to none. -/
  rlyIn : List (List Blk) := []
  /-- Relay FIFO of frames received by this channel, oldest first; copies made, and whether one was dropped since (R214). -/
  rly : List Blk := []
  tapSeq : Nat := 0
  tapDrop : Bool := false
  /-- Forwarding into this channel's partner has stopped until its next orbit boundary (R213). -/
  lost : Bool := false
  deriving DecidableEq, Repr

/-- A cable profile in use (R225). -/
structure Profile where
  mode : Nat
  events : List (Nat × Nat)
  nf : Option (Nat × List Int)
  deriving DecidableEq, Repr

/-- A visible result of a map refresh: register addresses and contents (R223). -/
abbrev DiagView := List (Nat × Word)

/-- Diagnostics of a channel beyond its registers. -/
structure DiagSt where
  profile : Option Profile := none
  /-- The newest refresh, held back while HOLD = 1. -/
  newest : Option DiagView := none
  /-- A refresh has been completed, or skipped, that a learning job has not taken (R227). -/
  fresh : Bool := false
  skipped : Bool := false
  /-- The taps of the newest refresh (R227). -/
  taps : List (Nat × Int) := []
  /-- The pattern checker (R236): symbols right in a row, and the ages in symbols of the errors among the last 1,024; its register, and a first symbol whose pair is not complete. -/
  patRun : Nat := 0
  patErrs : List Nat := []
  patReg : BitVec 31 := 0
  patHalf : Option Int := none
  deriving DecidableEq, Repr

/-- A timestamp queue entry, 09 Table 7. -/
abbrev PtpEntry := Vector Word 4

/-- The time engine of a channel beyond its registers (R241 to R276). -/
structure KtlSt where
  /-- TX times of the last 128 marks, newest first, in ns (R242). -/
  marks : List Rat := []
  /-- Arrivals of partner marks that were found and decoded, newest first, in ns (R243). -/
  arrivals : List Rat := []
  /-- Accepted delays, newest first (R247), and rejections in a row. -/
  ds : List Rat := []
  rejects : Nat := 0
  /-- Accepted offsets with their instants, newest first: the last 64 (R246). -/
  thetas : List (Rat × Rat) := []
  /-- Estimates of the running update window (R255). -/
  window : List Rat := []
  estAt : Option Nat := none
  /-- After a reset of the page the engine waits for the next accepted estimate (R276). -/
  realign : Bool := false
  /-- The TX time of the field of the first orbit of the partner's last message slot, in ns within its second, and the instant of its mark; and the partner's time that its last capability message gave, with its instant (R248). -/
  slotTx : Rat := 0
  slotAt : Nat := 0
  base : Rat := 0
  baseAt : Nat := 0
  /-- The engine re-aligns to a new group until its next orbit (R23). -/
  align : Bool := false
  /-- The partner's capability message: its payload, and the end of its currency. -/
  cap : Option (BitVec 128) := none
  capBy : Nat := 0
  /-- The capability message last sent, and orbits since. -/
  capSent : Option (BitVec 128) := none
  capAge : Nat := 0
  ptp : List PtpEntry := []
  /-- The octets of the PTP message last passed on, as modified (R272 to R275). -/
  ptpOut : List Byte := []
  deriving DecidableEq, Repr

/-- Trims of a channel beyond their registers (R380 to R389). -/
structure TrimSt where
  /-- The channel section loaded at the start: 1,984 bytes. -/
  sect : Option (List Byte) := none
  /-- The selection set, as evaluated last (R384). -/
  sel : Nat := 0
  /-- Continuous codes in force: receive (HYB_BAL, BIAS_RX, SKEW, TFRONT_A) and transmit (BIAS_TX, DRV_AMP, LAT_TX_A), in the order of 14 Table 1. -/
  rx : List Int := []
  tx : List Int := []
  /-- Selections in force: the sets that the receive and the transmit side were taken from; slices of positions 0 to 31 and comparator legs; segments of positions 0 to 63 and bias legs (R385). -/
  setRx : Nat := 0
  setTx : Nat := 0
  slices : List Nat := []
  segs : List Nat := []
  legsRx : Word := 0
  legsTx : Word := 0
  /-- The newest evaluation: receive and transmit codes and the selection set, where a change waits. -/
  newest : Option (List Int × List Int × Nat) := none
  /-- The change that waits has asked for its instants, for receive and transmit fields. -/
  rxDue : Bool := false
  txDue : Bool := false
  /-- An application whose first instant has passed: whether the transmit side is the one that waits, and the evaluation that it applies (R387). -/
  held : Option (Bool × List Int × List Int × Nat) := none
  /-- The last application, and since when a change waits. -/
  lastAt : Option Nat := none
  since : Option Nat := none
  deriving DecidableEq, Repr

/-- A comet held in a queue (R289, R292): its bits, its fire time F in 2^−16 ns since the epoch, its group, the channel it arrived on, and the schedule entry that injected it. -/
structure QComet where
  bits : BitVec 96
  f : Nat
  g : Tg
  arr : Option Ch
  entry : Option Nat
  deriving DecidableEq, Repr

/-- An injection record (R295). -/
structure InjRec where
  seq : BitVec 16
  target : BitVec 14
  fireNs : Word
  entry : Nat
  deriving DecidableEq, Repr

/-- The comet scheduler (R280 to R300). -/
structure Cmt where
  /-- Comet queues of the channels in admission order, and the fire queue in order of F, then admission. -/
  chQ : Vector (List QComet) 16 := Vector.replicate 16 []
  fire : List QComet := []
  /-- Route tables: RT_RANGE and RT_MASK of entry e of group g at key 256 g + e. -/
  routes : List (Nat × (Word × Word)) := []
  /-- Schedule table: word w of entry e at key 8 e + w. -/
  sched : List (Nat × Word) := []
  /-- Injection records, newest first (R295). -/
  inj : Vector (List InjRec) 4 := Vector.replicate 4 []
  /-- Comets taken or injected in the last 128 µs, without HOPS, with the group time (R285). -/
  recent : Vector (List (BitVec 92 × Rat)) 4 := Vector.replicate 4 []
  /-- Partition writes that take effect at the next moon edge (R296). -/
  partPend : Vector (Option Word) 4 := Vector.replicate 4 none
  /-- Instants of the last 8 injections, newest first (R298). -/
  injAt : List Nat := []
  /-- The channel that each group selected last (R284). -/
  lastSrc : Vector (Option Ch) 4 := Vector.replicate 4 none
  /-- A capture report was dropped since the last one sent (R308). -/
  repLost : Bool := false
  deriving DecidableEq, Repr

/-- A TRIG pin beyond its registers (R301 to R304): the end of a pulse, and the start and end of an armed window in group time, units of 2^−16 ns, with the arming comet's SEQ; the last captured edge; the instant of the last edge driven at the ball. -/
structure TrigPin where
  pulse : Option Nat := none
  armed : Option (Nat × Nat × BitVec 16) := none
  lastCap : Option Int := none
  edgeAt : Option Int := none
  deriving DecidableEq, Repr

/-- TRIG pins and the PPS output (R263, R301). -/
structure Trig where
  pins : Vector TrigPin 16 := Vector.replicate 16 {}
  /-- PPS_OUT is high; the instant of its last rising edge, and of the end of the pulse. -/
  ppsHigh : Bool := false
  ppsRise : Option Nat := none
  ppsEnd : Nat := 0
  deriving DecidableEq, Repr

/-- A capture as log entry or report carries it (R303, R305). -/
structure Capture where
  /-- Group time, units of 2^−16 ns. -/
  t : Nat
  g : Tg
  kind : Nat
  edge : Bool
  armed : Bool
  lost : Bool
  chan : Nat
  dev : Nat
  out : Nat
  ref : Nat
  deriving DecidableEq, Repr

/-- The capture log (R305, R306): the entries it holds, newest first, whether captures were lost before the next one, and the input buffer, oldest first. -/
structure Cap where
  log : List (BitVec 128) := []
  lost : Bool := false
  inBuf : List Capture := []
  deriving DecidableEq, Repr

/-- The timekeeper (R312 to R325) beyond its registers and the groups' timescales. -/
structure Tk where
  tpll : Loop := {}
  /-- I of R312 in ns; the TPLL gate has opened: the timescales run. -/
  inc : Rat := 8 / 5
  running : Bool := false
  /-- The instant at which a capture of the timescales was requested, while it waits (R313). -/
  capReq : Option Nat := none
  /-- The instant of the last update of the calendar (R323). -/
  calAt : Option Nat := none
  /-- The loaded leap-second table: TAI_START and offset, ascending; its EXPIRY (R321). -/
  leap : List (Nat × Int) := []
  leapExp : Nat := 0
  /-- Instant at which the next judgment attempt of TKX, and the next TKR measurement, may take place. -/
  judgeAt : Nat := 0
  tkrAt : Nat := 0
  coastAt : Nat := 0
  /-- Edges counted in the 16 windows of a passed attempt that awaits its identification (R316). -/
  passed : Option Nat := none
  /-- TKX has been judged stable again: TPLL relocks to it (R319). -/
  relock : Bool := false
  deriving DecidableEq, Repr

/-- The lifetime ledger (R326 to R331): quantities by number, 11 Table 4: 0 powered seconds, 1 power cycles, 2 resets, 3 + 16 s + b temperature bins, 291 + 3 n channel seconds, trainings and stress seconds, 339 + k program cycles of sector k. -/
structure Life where
  base : List (Nat × Nat) := []
  acc : List (Nat × Nat) := []
  /-- Full calibrations and the time of the last one, as the record holds them. -/
  cals : Nat := 0
  calTime : List Byte := List.replicate 12 0

  /-- The newest trend sample that waits to be written: day and value (R331). -/
  trendDue : Option (Nat × Word) := none
  /-- Powered seconds since the last period start (R330), and of the last tick. -/
  periodSec : Nat := 0
  tickAt : Nat := 0
  /-- The selected entry is being fetched: latest instant of its end. -/
  fetchBy : Option Nat := none
  deriving DecidableEq, Repr

/-- Self-test and repair beyond their registers (R390 to R401). -/
structure Bist where
  /-- The fail log, newest first: sequence and words. -/
  failLog : List (BitVec 16 × Word × Word × Word) := []
  /-- Repair records that wait to be written, oldest first (R399). -/
  pend : List (BitVec 128) := []
  /-- Records read at the start and in force (R400). -/
  inForce : List (BitVec 128) := []
  /-- LDPC units that records in force name, by channel and unit: 0 engine A, 1 engine B, 2 encoder (R400). -/
  units : List (Ch × Fin 3) := []
  /-- The domains under test in jobs started by a write, by slot, and whether step 1 has saved contents. -/
  saved : List Nat := []
  deriving DecidableEq, Repr

/-- The alarm unit beyond its registers (R408, R409): the end of the pulse. -/
structure Alrm where
  pulseEnd : Nat := 0
  deriving DecidableEq, Repr

/-- Clock generation beyond its registers (R339 to R349). -/
structure Clk where
  spll : Loop := {}
  opll : Vector Loop 2 := Vector.replicate 2 {}
  /-- Judgment of XA has started and no attempt has passed since (R339). -/
  judging : Bool := false
  /-- Consecutive failed attempts of the current cycle (R340). -/
  fails : Nat := 0
  /-- The instant the fall-back delay began, while it runs (R340). -/
  fallbackFrom : Option Nat := none
  /-- SPLL locked by fall-back at this instant, lock not yet held for 1 ms (R340). -/
  fallbackLock : Option Nat := none
  /-- Instant at which the next attempt or cycle may begin. -/
  attemptAt : Nat := 0
  /-- XA has failed since it last passed: step 2 is skipped for the attempt that relocks SPLL (R339). -/
  xaReturned : Bool := false
  /-- Instants at which XB is next cross-checked and next judged again. -/
  crossAt : Nat := 0
  rejudgeAt : Nat := 0
  /-- FALLBACK_MS as it stood at the start of judgment, in ms. -/
  fbMs : Nat := 255
  /-- Pages whose block's incoming crossing is in DRAIN (R355, R357). -/
  drain : List Page := []
  /-- The frequency of each CLKOUT relative to FREQ, before its spread (R348, R349). -/
  outRel : Vector Rat 2 := Vector.replicate 2 1
  /-- The spread in force on each line transmitter, host lane and CLKOUT: depth in 0.01 % and rate in 0.5 kHz (R350). -/
  lineSsc : Vector (Nat × Nat) 16 := Vector.replicate 16 (0, 63)
  hlSsc : Vector (Nat × Nat) 16 := Vector.replicate 16 (0, 63)
  outSsc : Vector (Nat × Nat) 2 := Vector.replicate 2 (0, 63)
  /-- Instants at which those spreads began, at tri = 0 (R350). -/
  lineSscAt : Vector Nat 16 := Vector.replicate 16 0
  hlSscAt : Vector Nat 16 := Vector.replicate 16 0
  outSscAt : Vector Nat 2 := Vector.replicate 2 0
  deriving DecidableEq, Repr

/-- Progress of a self-test of entry in a domain transition (R365, R391). -/
inductive TestPhase where
  | none | waiting | running
  deriving DecidableEq, Repr

/-- A switched power domain (R13, R366, R367): its effective state, the newest request it moves toward, the transition in progress with its earliest end, and its self-test of entry. (DEDUCED, notes/assumptions 85) -/
structure Dom where
  eff : PState := .off
  want : PState := .off
  moving : Option (PState × Nat) := none
  test : TestPhase := .none
  /-- The state that the transition of a self-test of entry leads to: a request that arrives meanwhile waits (R367, R392). -/
  aim : PState := .off
  deriving DecidableEq, Repr

/-- Where the system domain stands (R376): held in reset, NVM load done and early phase applied, or the host port ready. -/
inductive SysPhase where
  | inReset | started | ready
  deriving DecidableEq, Repr

/-- What the last reset was: PWR.START_STATUS.KIND. -/
inductive StartKind where
  | vao | resetN | devReset | corePower
  deriving DecidableEq, Repr

/-- Resets and start-up beyond their registers (R370 to R377). -/
structure Rst where
  phase : SysPhase := .inReset
  kind : StartKind := .vao
  /-- The reset whose entries the next start owes to the journal; .vao and .corePower lost the memories of the system domain (R46, R364, R373). -/
  owed : Option StartKind := some .vao
  /-- RESET_N events that interrupted a start which still owes entries (R373). -/
  interrupted : Nat := 0
  /-- A VAO power-on reset has not been followed by a completed start yet: TK and LIFE entries of the record apply (R375). -/
  afterVao : Bool := true
  /-- The instant the system domain left reset. -/
  leftAt : Nat := 0
  /-- DEV.RESET armed: by whom and when (R371). -/
  armed : Option (Origin × Nat) := none
  /-- A GO write was accepted: by whom, when, and KEEP_COEF (R371). -/
  go : Option (Origin × Nat × Bool) := none
  /-- Addresses and contents of LOCK before a reset, breaks owed after its event entry (R40). -/
  owedBreaks : List (Nat × Word) := []
  /-- The origin of the keys of the reset just taken: NEW of its event (02 Table 20). -/
  byOrigin : Nat := 0
  /-- STRAP2 to STRAP0 as sampled last (R431). -/
  straps : BitVec 3 := 0
  /-- The start-up configuration record read at the start: its entries, in order (R374). -/
  record : List (Nat × Bool × Word) := []
  /-- Island writes that took effect during the reset, owed to the journal after the event entry (R36, R373). -/
  owedIsland : List JEntry := []
  deriving DecidableEq, Repr

/-- Everything a channel holds beyond its registers. -/
structure Chan where
  afe : Dom := {}
  dsp : Dom := {}
  hl : Dom := {}
  /-- Retained coefficients are valid for a warm train (R368). -/
  coefKept : Bool := false
  /-- A channel reset that waits for a domain transition, with its origin (R373). -/
  resetOwed : Option Origin := none
  cpll : Loop := {}
  hpll : Loop := {}
  /-- The target of CPLLn in MHz (12 Table 4), and whether it relocks because that has changed (R347). -/
  vco : Nat := 22500
  retune : Bool := false
  /-- A change of group that has not taken effect: the instant of its write (R23). -/
  tgPend : Option Nat := none
  line : LineSt := {}
  fec : FecSt := {}
  rx : RxSt := {}
  link : LinkSt := {}
  ecl : EclSt := {}
  buf : BufSt := {}
  diag : DiagSt := {}
  ktl : KtlSt := {}
  trim : TrimSt := {}
  /-- Remote requests that wait, oldest first (R72). -/
  remQ : List Remote := []
  deriving DecidableEq, Repr

/-- The state of the ZW1650. -/
structure State where
  /-- Time since the VAO detector released, in ps: the model's own clock. -/
  now : Nat := 0
  /-- The model's own counter that a free value reads and advances. -/
  freeCtr : Nat := 0
  /-- The commands that wait, first in, first out. -/
  pending : List Instr := []
  /-- Every register that does not hold its reset value. -/
  regs : List (Nat × Word) := []
  /-- The moon copies, taken at the last moon edge (R34). -/
  moon : List (Nat × Word) := []
  /-- The copies taken at entry to RETAIN (R13). -/
  retained : List (Nat × Word) := []
  /-- The captured values of held registers (R37). -/
  snap : List (Nat × Word) := []
  /-- Posted writes in the order in which the fabric executed them (R35). -/
  posted : List PostedWrite := []
  /-- Writes the fabric holds for a full queue (R36). -/
  heldWrites : List PostedWrite := []
  /-- Deadlines of live leases, by page base (R38). -/
  leases : List (Nat × Nat) := []
  jrnl : Jrnl := {}
  jobs : Jobs := {}
  nvm : Nvm := {}
  nvmDom : Dom := { eff := .off, want := .off }
  rst : Rst := {}
  clk : Clk := {}
  cmt : Cmt := {}
  trig : Trig := {}
  cap : Cap := {}
  tk : Tk := {}
  life : Life := {}
  bist : Bist := {}
  alrm : Alrm := {}
  host : HostPort := {}
  chans : Vector Chan 16 := Vector.replicate 16 {}
  groups : Vector Group 4 := Vector.replicate 4 {}
  deriving DecidableEq, Repr

/-- The machine right after the VAO power-on reset (R363, R370): the island restarted, the system domain held in reset, every register at its reset value. (DESIGN CHOICE, notes/assumptions 15) -/
def State.reset : State := {}

/-- Why a step stops with a fault: the ZW1650 has no behaviour that the spec leaves without any effect, so there is none. -/
inductive Fault where
  deriving DecidableEq, Repr

/-- Why a command is turned away. -/
inductive Refusal where
  /-- Raised by exec's arm of a command that has no meaning yet: safe, the run stops. -/
  | notModelled (mnemonic : String)
  deriving DecidableEq, Repr

end Sys2Proof.Machine
end

