-- ==== Sys2Proof/Machine/Store.lean ====
section
/-! DEFINITION. Sparse storage by key: a list of (key, value) pairs in one canonical form, keys strictly rising and no entry equal to what an unlisted key reads as. Registers, their copies, NVM bytes and the tables are held so. -/

namespace Sys2Proof.Machine

variable {α : Type}

/-- What the store holds at a key; dflt says what an unlisted key reads as. -/
def Store.get (dflt : Nat → α) : List (Nat × α) → Nat → α
  | [], a => dflt a
  | (b, v) :: r, a => if a = b then v else Store.get dflt r a

/-- The store with one key written; writing what the unlisted key reads as removes the entry. -/
def Store.put [DecidableEq α] (dflt : Nat → α) : List (Nat × α) → Nat → α → List (Nat × α)
  | [], a, v => if v = dflt a then [] else [(a, v)]
  | (b, w) :: r, a, v =>
    if a < b then (if v = dflt a then (b, w) :: r else (a, v) :: (b, w) :: r)
    else if a = b then (if v = dflt a then r else (a, v) :: r)
    else (b, w) :: Store.put dflt r a v

/-- The store with every key that p rejects put back to what an unlisted key reads as. -/
def Store.keep (p : Nat → Bool) (m : List (Nat × α)) : List (Nat × α) := m.filter (fun c => p c.1)

/-- Several keys written in order. -/
def Store.putAll [DecidableEq α] (dflt : Nat → α) (m : List (Nat × α)) (ws : List (Nat × α)) : List (Nat × α) :=
  ws.foldl (fun m w => Store.put dflt m w.1 w.2) m

/-- The canonical form: keys strictly rising, no entry equal to what an unlisted key reads as. -/
abbrev Store.Wf (dflt : Nat → α) (m : List (Nat × α)) : Prop :=
  (m.map Prod.fst).Pairwise (· < ·) ∧ ∀ c ∈ m, c.2 ≠ dflt c.1

end Sys2Proof.Machine
end

