-- ==== Sys2Proof/Machine/Ops.lean ====
section
/-! DEFINITION. The named operations on registers, time and pages that every meaning is written in. -/

namespace Sys2Proof.Machine

/-! ### Lengths of time, in ps -/

/-- n ns. -/
abbrev ns (n : Nat) : Nat := n * 1000
/-- n µs. -/
abbrev us (n : Nat) : Nat := n * 1000000
/-- n ms. -/
abbrev ms (n : Nat) : Nat := n * 1000000000
/-- n s. -/
abbrev sec (n : Nat) : Nat := n * 1000000000000

/-- One TPLL cycle of the model's clock in ps: 1.6 ns, or I while TPLL coasts. (DESIGN CHOICE, notes/assumptions 2) -/
def State.cycle (s : State) : Nat := (s.tk.inc * 1000).floor.toNat

/-- The latest moon edge at or before now: the moon clock rises every 500 ns (R34). -/
def State.moonEdge (s : State) : Nat := s.now / ns 500 * ns 500

/-! ### Bit fields -/

/-- Bits [hi:lo] of a word, as a number. -/
def bits (w : Word) (hi lo : Nat) : Nat := w.toNat / 2 ^ lo % 2 ^ (hi + 1 - lo)

/-- Bits [hi:lo] of a word, as a signed number. -/
def sbits (w : Word) (hi lo : Nat) : Int :=
  if 2 ^ (hi - lo) ≤ bits w hi lo then (bits w hi lo : Int) - 2 ^ (hi + 1 - lo) else bits w hi lo

/-- A word with bits [hi:lo] replaced by the low bits of a number. -/
def withBits (w : Word) (hi lo v : Nat) : Word :=
  BitVec.ofNat 32 (w.toNat - bits w hi lo * 2 ^ lo + v % 2 ^ (hi + 1 - lo) * 2 ^ lo)

/-- A signed number in a field of the given width, two's complement. -/
def twos (width : Nat) (v : Int) : Nat := (v % (2 ^ width : Nat)).toNat

/-- A number held at the bounds of a signed field. -/
def clampS (width : Nat) (v : Int) : Int := max (-(2 ^ (width - 1) : Nat)) (min v ((2 ^ (width - 1) : Nat) - 1))

/-- One bit of a Bool. -/
def b2n (b : Bool) : Nat := if b then 1 else 0

/-! ### Registers -/

/-- The contents of a stored register. -/
def State.reg (s : State) (a : Nat) : Word := Store.get resetWord s.regs a

/-- The state with a register's contents replaced. -/
def State.setReg (s : State) (a : Nat) (v : Word) : State := { s with regs := Store.put resetWord s.regs a v }

/-- A field of a register. -/
def State.fld (s : State) (a hi lo : Nat) : Nat := bits (s.reg a) hi lo

/-- A signed field of a register. -/
def State.sfld (s : State) (a hi lo : Nat) : Int := sbits (s.reg a) hi lo

/-- One bit of a register. -/
def State.bit (s : State) (a i : Nat) : Bool := s.fld a i i == 1

/-- The state with a field of a register replaced. -/
def State.setFld (s : State) (a hi lo v : Nat) : State := s.setReg a (withBits (s.reg a) hi lo v)

/-- The state with one bit of a register replaced. -/
def State.setBit (s : State) (a i : Nat) (b : Bool) : State := s.setFld a i i (b2n b)

/-- A count in a field raised by k, held at the field's maximum. -/
def State.sat (s : State) (a hi lo k : Nat) : State :=
  s.setFld a hi lo (min (s.fld a hi lo + k) (2 ^ (hi + 1 - lo) - 1))

/-- A count in a field raised by k, wrapping at the field's width. -/
def State.wrap (s : State) (a hi lo k : Nat) : State := s.setFld a hi lo (s.fld a hi lo + k)

/-- A 32-bit count raised by k, held at 0xFFFF_FFFF. -/
def State.sat32 (s : State) (a k : Nat) : State := s.sat a 31 0 k

/-- A 32-bit count raised by k, wrapping to 0. -/
def State.wrap32 (s : State) (a k : Nat) : State := s.wrap a 31 0 k

/-- A count held in two registers, low half first, high half of hw bits; raised by k, wrapping. -/
def State.wide (s : State) (aLo aHi hw k : Nat) : State :=
  let v := (s.fld aLo 31 0 + s.fld aHi (hw - 1) 0 * 2 ^ 32 + k) % 2 ^ (32 + hw)
  (s.setReg aLo (BitVec.ofNat 32 v)).setFld aHi (hw - 1) 0 (v / 2 ^ 32)

/-- The value of a count held in two registers. -/
def State.wideVal (s : State) (aLo aHi hw : Nat) : Nat := s.fld aLo 31 0 + s.fld aHi (hw - 1) 0 * 2 ^ 32

/-- The state with every register that p rejects back at its reset value. -/
def State.keepRegs (s : State) (p : Nat → Bool) : State := { s with regs := Store.keep p s.regs }

/-! ### Channels, groups, slots -/

/-- Channel n. -/
def State.chan (s : State) (n : Ch) : Chan := s.chans[n]

/-- The state with channel n replaced. -/
def State.setChan (s : State) (n : Ch) (c : Chan) : State := { s with chans := s.chans.set n c }

/-- The state with channel n changed. -/
def State.mapChan (s : State) (n : Ch) (f : Chan → Chan) : State := s.setChan n (f (s.chan n))

/-- Group g. -/
def State.group (s : State) (g : Tg) : Group := s.groups[g]

/-- The state with group g replaced. -/
def State.setGroup (s : State) (g : Tg) (x : Group) : State := { s with groups := s.groups.set g x }

/-- The state with group g changed. -/
def State.mapGroup (s : State) (g : Tg) (f : Group → Group) : State := s.setGroup g (f (s.group g))

/-- The group channel n uses now: TG.CH_MAP_EFF (R21, R23). -/
def State.tgOf (s : State) (n : Ch) : Tg := Fin.ofNat 4 (s.fld Reg.tgChMapEff (2 * n.val + 1) (2 * n.val))

/-- An action for every channel in ascending order. -/
def State.forCh (s : State) (f : Ch → State → State) : State := allCh.foldl (fun t n => f n t) s

/-- An action for every group in ascending order. -/
def State.forTg (s : State) (f : Tg → State → State) : State := allTg.foldl (fun t g => f g t) s

/-- Comet state changed. -/
def State.mapCmt (s : State) (f : Cmt → Cmt) : State := { s with cmt := f s.cmt }

/-- An action taken only where a condition holds. -/
def State.when (s : State) (b : Bool) (f : State → State) : State := if b then f s else s

/-! ### Free values -/

/-- The state after a free value has been taken: the model's own counter moves on. (DESIGN CHOICE, notes/assumptions 4) -/
def State.tookFree (s : State) : State := { s with freeCtr := s.freeCtr + 1 }

/-! ### Device time -/

/-- A time in ns as device time: seconds (48 bits), nanoseconds and fraction, truncated to 2^-16 ns (R8). -/
def timeParts (t : Rat) : Nat × Nat × Nat :=
  let u := (t * 65536).floor.toNat
  (u / 65536000000000 % 2 ^ 48, u / 65536 % 1000000000, u % 65536)

/-- The device time of a group (R8, R312). -/
def State.timeOf (s : State) (g : Tg) : Nat × Nat × Nat := timeParts (s.group g).ts

/-! ### Origins -/

/-- The origin's code, 02 Table 18. -/
def originCode : Origin → Nat
  | .hsa => 0x01
  | .hsb => 0x02
  | .mdio => 0x03
  | .remote n => 0x10 + n.val
  | .device => 0x20
  | .job => 0x21
  | .restore => 0x22
  | .jtag => 0x30

/-- Whether the origin can hold locks (R38) and make foreign writes (R39): HSA, HSB, MDIO, remote and JTAG. -/
def originExternal : Origin → Bool
  | .device | .job | .restore => false
  | _ => true

/-- Place of an origin's field in PAGE_VIEW_SEL, where it has one (02 Table 7). -/
def originView : Origin → Option Nat
  | .hsa => some 0
  | .hsb => some 4
  | .mdio => some 8
  | .remote _ => some 12
  | _ => none

/-! ### The page header -/

/-- Offsets of the header registers (R30). -/
abbrev hPageId : Nat := 0x000
abbrev hPageViews : Nat := 0x004
abbrev hViewSel : Nat := 0x008
abbrev hStatus : Nat := 0x00C
abbrev hIntStatus : Nat := 0x010
abbrev hIntEnA : Nat := 0x014
abbrev hIntEnB : Nat := 0x018
abbrev hIntTest : Nat := 0x01C
abbrev hFaultStatus : Nat := 0x020
abbrev hFaultAction : Nat := 0x024
abbrev hFence : Nat := 0x028
abbrev hLock : Nat := 0x02C
abbrev hSnap : Nat := 0x030
abbrev hChangeSeq : Nat := 0x034

/-- The address of a header register of a page. -/
def hdr (p : Page) (off : Nat) : Nat := pageBase p + off

/-- The other page of a pair that shares one fence: CMT and CMTW, CAP and CAPW, NVM and NVMW (R414). -/
def pairPage : Page → Option Page
  | .dev .cmt => some (.dev .cmtw)
  | .dev .cmtw => some (.dev .cmt)
  | .dev .cap => some (.dev .capw)
  | .dev .capw => some (.dev .cap)
  | .dev .nvm => some (.dev .nvmw)
  | .dev .nvmw => some (.dev .nvm)
  | _ => none

/-- Whether a page can be fenced (R414). -/
def fenceable : Page → Bool
  | .chan _ _ => true
  | .dev .nvm | .dev .nvmw | .dev .trim | .dev .bist | .dev .job | .dev .thrm | .dev .trig
  | .dev .cmt | .dev .cmtw | .dev .cap | .dev .capw => true
  | .dev _ => false

/-- The channel pages whose own fence fences the whole channel (R414). -/
def chanFencePages : List ChPage := [.ch, .pcs, .afe, .eq, .an, .ktl, .cnt]

/-- The page's own fence (02 Table 13). -/
def State.ownFence (s : State) (p : Page) : Bool := s.bit (hdr p hFence) 0

/-- Whether the channel is fenced: CHAN of its pages (R414). -/
def State.chanFenced (s : State) (n : Ch) : Bool := chanFencePages.any (fun p => s.ownFence (.chan n p))

/-- Whether the page is fenced: FENCE or CHAN (R414). -/
def State.fenced (s : State) : Page → Bool
  | .chan n p => s.ownFence (.chan n p) || s.chanFenced n
  | .dev p => s.ownFence (.dev p)

/-- The crossing into a page's block is in DRAIN (R355). (DEDUCED, notes/assumptions 136) -/
def State.drains (s : State) (p : Page) : Bool := s.clk.drain.contains p

/-- Crossings into pages' blocks enter DRAIN (R355). -/
def State.enterDrain (s : State) (l : List Page) : State :=
  { s with clk := { s.clk with drain := l.filter (fun p => !s.clk.drain.contains p) ++ s.clk.drain } }

/-- The state of the power domain that a page's block registers lie in (01 Tables 1 and 2). -/
def State.pagePower (s : State) : Page → PState
  | .dev .nvm | .dev .nvmw => s.nvmDom.eff
  | .dev _ => .on
  | .chan _ .ch => .on
  | .chan n .afe => (s.chan n).afe.eff
  | .chan n .hl => (s.chan n).hl.eff
  | .chan n _ => (s.chan n).dsp.eff

/-- The state of the power domain of one block register: BASE of NVMW and the sector-fence registers of NVM are held in the system domain (02 Table 3, R418); DATAi of NVMW cannot be accessed while the NVM domain is not ON (R454). -/
def State.regPower (s : State) (p : Page) (off : Nat) : PState :=
  match p with
  | .dev .nvmw => if off == 0x100 || s.nvmDom.eff == .on then .on else .off
  | .dev .nvm => .on
  | p => s.pagePower p

end Sys2Proof.Machine
end

