-- ==== Sys2Proof/Machine/Journal.lean ====
section
/-! DEFINITION. The journal's entries and ring, and the device's own register changes (R41 to R45). -/

namespace Sys2Proof.Machine

/-- FLAGS of a journal entry, 02 Table 19. -/
abbrev fForeign : Nat := 1
/-- LOCK_BROKEN. -/
abbrev fBroken : Nat := 2
/-- IGNORED. -/
abbrev fIgnored : Nat := 4
/-- BUS_ERR. -/
abbrev fBusErr : Nat := 8
/-- EVENT. -/
abbrev fEvent : Nat := 16
/-- GAP. -/
abbrev fGap : Nat := 32
/-- POSTED. -/
abbrev fPosted : Nat := 64
/-- DATA. -/
abbrev fData : Nat := 128

/-- Entries the ring holds (02, "Ring, archive and reading"). -/
abbrev ringSize : Nat := 65536

/-- The base of the page an address lies in. -/
def pageAt (addr : Nat) : Nat := addr / 0x1000 * 0x1000

/-- The state after one entry has been written into the ring: it takes the next sequence, the page's CHANGE_SEQ takes it too unless IGNORED or BUS_ERR is set (02 Table 16), and a full turn of the ring counts in WRAP_COUNT, at the entry that first overwrites the turn before it (R43). (DEDUCED, notes/assumptions 24 and 164) -/
def State.jAppend (s : State) (o flags addr : Nat) (old new : Word) : State :=
  let t := s.timeOf 0
  let e : JEntry :=
    { sec := BitVec.ofNat 32 t.1
      ns := BitVec.ofNat 32 t.2.1
      frac := BitVec.ofNat 16 t.2.2
      seq := s.jrnl.seqNext
      origin := BitVec.ofNat 8 o
      flags := BitVec.ofNat 8 flags
      addr := BitVec.ofNat 24 addr
      old := old
      new := new }
  let written := s.jrnl.written + 1
  let wrapped : Bool := decide (ringSize < written) && (written % ringSize == 1)
  let j := { s.jrnl with
    ring := ({ e := e, tookAt := s.moonEdge, bad := false } :: s.jrnl.ring).take ringSize
    seqNext := s.jrnl.seqNext + 1
    written := written
    wrapCount := if wrapped then s.jrnl.wrapCount + 1 else s.jrnl.wrapCount }
  let s := { s with jrnl := j }
  let s := s.when wrapped (fun s => s.setBit (hdr (.dev .jrnl) hIntStatus) 1 true)
  s.when ((pageOf (pageAt addr)).isSome && flags &&& (fIgnored + fBusErr) == 0) (fun s => s.setReg (pageAt addr + hChangeSeq) e.seq)

/-- An event entry (R44, 02 Table 20). -/
def State.jEvent (s : State) (code addr : Nat) (new : Word) : State :=
  s.jAppend (originCode .device) fEvent addr (BitVec.ofNat 32 code) new

/-- A change the device, a job or the start-up makes itself, stored and journaled as a write by that origin (R41). (DEDUCED, notes/assumptions 138) -/
def State.ownSet (s : State) (o : Origin) (a : Nat) (v : Word) : State :=
  let old := s.reg a
  (s.setReg a v).jAppend (originCode o) 0 a old v

/-- The device's own change of a register, journaled as a write by origin 0x20 (R41). (DEDUCED, notes/assumptions 138) -/
def State.devSet (s : State) (a : Nat) (v : Word) : State := s.ownSet .device a v

/-- A register that shows what the device has brought into force: stored and journaled where it changes (R41). (DEDUCED, notes/assumptions 138) -/
def State.devShow (s : State) (a : Nat) (v : Word) : State := if v == s.reg a then s else s.devSet a v

/-- The device's own change of a field of a register, journaled. -/
def State.devFld (s : State) (a hi lo v : Nat) : State := s.devSet a (withBits (s.reg a) hi lo v)

end Sys2Proof.Machine
end

