-- ==== Sys2Proof/Machine/Flags.lean ====
section
/-! DEFINITION. Interrupt and fault flags: INT_STATUS, the interrupt pins and their summaries (R30, R407). -/

namespace Sys2Proof.Machine

/-- INT_STATUS.FAULT and its neighbours, 02 Table 9. -/
abbrev intFault : Nat := 31
/-- LOCK_EVT. -/
abbrev intLock : Nat := 30
/-- SNAP_DONE. -/
abbrev intSnap : Nat := 29

/-- A bit of a page's INT_STATUS set (R30). -/
def State.intr (s : State) (p : Page) (i : Nat) : State := s.setBit (hdr p hIntStatus) i true

/-- A bit of a channel page's INT_STATUS set. -/
def State.cint (s : State) (n : Ch) (p : ChPage) (i : Nat) : State := s.intr (.chan n p) i

/-- A bit of a channel page's INT_STATUS set where a condition holds. -/
def State.cintIf (s : State) (b : Bool) (n : Ch) (p : ChPage) (i : Nat) : State := s.when b (fun s => s.cint n p i)

/-- Whether a page contributes to IRQA_N: a bit set in both INT_STATUS and INT_ENABLE_A (R407). -/
def State.irqA (s : State) (p : Page) : Bool := (s.reg (hdr p hIntStatus) &&& s.reg (hdr p hIntEnA)) != 0

/-- Whether a page contributes to IRQB_N. -/
def State.irqB (s : State) (p : Page) : Bool := (s.reg (hdr p hIntStatus) &&& s.reg (hdr p hIntEnB)) != 0

/-- Whether IRQA_N is asserted (R407). (DEDUCED, notes/assumptions 59) -/
def State.irqaPin (s : State) : Bool := allPages.any s.irqA
/-- Whether IRQB_N is asserted (R407). (DEDUCED, notes/assumptions 59) -/
def State.irqbPin (s : State) : Bool := allPages.any s.irqB

/-- The number whose bit i is the i-th of a list. -/
def bitList : List Bool → Nat
  | [] => 0
  | b :: r => b2n b + 2 * bitList r

/-- A count in a counter register raised by k and held at its end, with the interrupt bit that its increment sets: a counter at its end does not increment. -/
def State.satInt (s : State) (a k : Nat) (p : Page) (i : Nat) : State :=
  s.when (decide (0 < k) && s.reg a != 0xFFFFFFFF) (fun s => (s.sat32 a k).intr p i)

/-- A count in a counter field raised by 1 and held at its end, with the interrupt bit that its increment sets. -/
def State.fldInt (s : State) (a hi lo : Nat) (p : Page) (i : Nat) : State :=
  s.when (s.fld a hi lo != 2 ^ (hi + 1 - lo) - 1) (fun s => (s.sat a hi lo 1).intr p i)

/-! ### Ledger quantities (R326) -/

/-- A lifetime total: the value of the record in force plus its accumulator; 40 bits for powered seconds, the others held at 0xFFFF_FFFF. -/
def State.lifeTotal (s : State) (i : Nat) : Nat :=
  min (Store.get (fun _ => 0) s.life.base i + Store.get (fun _ => 0) s.life.acc i) (if i == 0 then 2 ^ 40 - 1 else 2 ^ 32 - 1)

/-- Number of the bin total of a sensor, of a channel's quantity and of a sector's program cycles. -/
abbrev qBin (sensor bin : Nat) : Nat := 3 + 16 * sensor + bin
/-- Channel quantities: 0 link-up seconds, 1 trainings, 2 stress seconds. -/
abbrev qChan (n k : Nat) : Nat := 291 + 3 * n + k
/-- Program cycles of an NVM sector. -/
abbrev qWear (sector : Nat) : Nat := 339 + sector

/-- The LIFE register of a total shown (11 Table 8). -/
def State.showLife (s : State) (i : Nat) : State :=
  let v := s.lifeTotal i
  if i == 0 then (s.setReg Reg.lifePwrSecLo (BitVec.ofNat 32 v)).setReg Reg.lifePwrSecHi (BitVec.ofNat 32 (v / 2 ^ 32))
  else if i == 1 then s.setReg Reg.lifePwrCycles (BitVec.ofNat 32 v)
  else if i == 2 then s.setReg Reg.lifeResets (BitVec.ofNat 32 v)
  else if i < 291 then
    if (i - 3) / 16 == min (s.fld Reg.lifeHistSel 4 0) 17 then s.setReg (Reg.lifeHist ((i - 3) % 16)) (BitVec.ofNat 32 v) else s
  else if i < 339 then
    let n := (i - 291) / 3
    s.setReg (match (i - 291) % 3 with | 0 => Reg.lifeLinkSec n | 1 => Reg.lifeTrains n | _ => Reg.lifeStressSec n) (BitVec.ofNat 32 v)
  else
    let s := if i - 339 == s.fld Reg.lifeWearSel 6 0 then s.setReg Reg.lifeWearCount (BitVec.ofNat 32 v) else s
    if (s.reg Reg.lifeWearMax).toNat < v then
      (s.setReg Reg.lifeWearMax (BitVec.ofNat 32 v)).setReg Reg.lifeWearMaxSec (BitVec.ofNat 32 (i - 339))
    else s

/-- A quantity advances by k. -/
def State.lifeAdd (s : State) (i k : Nat) : State :=
  { s with life := { s.life with acc := Store.put (fun _ => 0) s.life.acc i (Store.get (fun _ => 0) s.life.acc i + k) } }.showLife i

end Sys2Proof.Machine
end

