-- ==== Sys2Proof/Machine/Line.lean ====
section
/-! DEFINITION. The signal on the pair (spec 04) as functions on bits and symbol levels: orbit layout, mark, maps, scrambler, pilots, whitening, the fields and their BCH codes, transcoding; and the CRC-8 of the serial ports (R60). -/

namespace Sys2Proof.Machine

/-- The bits of a vector, most significant first. -/
def msbBits {n : Nat} (v : BitVec n) : List Bool := (List.range n).map (fun k => v.getMsbD k)

/-- The number whose bits, most significant first, are the list. -/
def bitsVal (l : List Bool) : Nat := l.foldl (fun r b => 2 * r + (if b then 1 else 0)) 0

/-! ### CRC-8 (R60) -/

/-- One bit of the CRC-8 register: polynomial 0x2F, most significant bit first. -/
def crc8Bit (c : Nat) : Nat := if 128 ≤ c then (2 * c % 256) ^^^ 0x2F else 2 * c % 256

/-- One byte of the CRC-8. -/
def crc8Byte (c : Nat) (b : Byte) : Nat :=
  let x := c ^^^ b.toNat
  crc8Bit (crc8Bit (crc8Bit (crc8Bit (crc8Bit (crc8Bit (crc8Bit (crc8Bit x)))))))

/-- The CRC-8 of a byte sequence: initial value 0xFF, no reflection, no final XOR (R60). -/
def crc8 (l : List Byte) : Byte := BitVec.ofNat 8 (l.foldl crc8Byte 0xFF)

/-! ### Orbit layout (R82, R83) -/

/-- Directions of a Z mode, by what they transmit. -/
inductive ZDir where
  | z50 | z25 | a1
  deriving DecidableEq, Repr

/-- Orbit layout, 04 Table 4. -/
structure Layout where
  symbols : Nat
  field : Nat
  segments : Nat
  pilots : Nat
  data : Nat
  deriving DecidableEq, Repr

/-- The layout of a direction, 04 Table 4 (R82). -/
def layout : ZDir → Layout
  | .z50 => ⟨22560, 240, 10, 24, 2208⟩
  | .z25 => ⟨11376, 240, 4, 24, 2760⟩
  | .a1 => ⟨1410, 192, 6, 19, 184⟩

/-- The position in the orbit of data-stream index d (R83). -/
def dataPosition (z : ZDir) (d : Nat) : Nat :=
  let l := layout z
  l.field + d / l.data * (l.pilots + l.data) + l.pilots + (d - d / l.data * l.data)

/-- The first position of pilot cluster k (R82). -/
def pilotPosition (z : ZDir) (k : Nat) : Nat := (layout z).field + k * ((layout z).pilots + (layout z).data)

/-- Blocks per orbit, 04 Table 2 (R79). -/
def blocksPerOrbit : ZDir → Nat
  | .z50 => 800
  | .z25 => 400
  | .a1 => 16

/-! ### Levels (R86, R88, R89) -/

/-- PAM-2: a bit of 1 is +5, of 0 is −5. -/
def pam2 (b : Bool) : Int := if b then 5 else -5

/-- The orbit mark: bit 15 − k of 0xF9A8 at symbol k (R86). -/
def mark : List Int := (msbBits (0xF9A8 : BitVec 16)).map pam2

/-- A mark is found when at least 14 of the 16 signs agree (R87); a received sign is true for positive. -/
def markFound (signs : BitVec 16) : Bool :=
  14 ≤ ((msbBits (signs ^^^ 0xF9A8)).filter (fun b => !b)).length

/-- PAM-4 of a field's bit pair, first bit first (R89). -/
def pam4 : Bool → Bool → Int
  | false, false => -5
  | false, true => -1
  | true, true => 1
  | true, false => 5

/-- The level whose Gray code is a bit pair: −3, −1, +1, +3 for 00, 01, 11, 10 (R88). -/
def grayLevel : Bool → Bool → Int
  | false, false => -3
  | false, true => -1
  | true, true => 1
  | true, false => 3

/-- The PAM-6 pair (x, y) of a 5-bit group b4 b3 b2 b1 b0 (R88). -/
def pam6 (b4 b3 b2 b1 b0 : Bool) : Int × Int :=
  if b4 then
    match b3, b2 with
    | false, false => (-5, grayLevel b1 b0)
    | true, false => (5, grayLevel b1 b0)
    | false, true => (grayLevel b1 b0, -5)
    | true, true => (grayLevel b1 b0, 5)
  else (grayLevel b3 b2, grayLevel b1 b0)

/-- PAM-4 symbols of a field's bits. -/
def pam4All : List Bool → List Int
  | a :: b :: r => pam4 a b :: pam4All r
  | _ => []

/-- PAM-6 symbols of a codeword's bits, in groups of 5 (R88). -/
def pam6All : List Bool → List Int
  | a :: b :: c :: d :: e :: r => (pam6 a b c d e).1 :: (pam6 a b c d e).2 :: pam6All r
  | _ => []

/-! ### Scrambler (R90) -/

/-- The register's seed at the first information bit of an orbit. -/
def scrSeed (orbit : BitVec 32) : BitVec 31 :=
  let s := (orbit.truncate 31) ^^^ (0x2B3C4D5E : BitVec 31)
  if s = 0 then 1 else s

/-- Information bits combined with the side stream, in order; descrambling is the same. -/
def scramble (t : BitVec 31) : List Bool → List Bool
  | [] => []
  | u :: r =>
    let o := t.getLsbD 30 ^^ t.getLsbD 27
    (u ^^ o) :: scramble ((t <<< 1) ||| (if o then 1 else 0)) r

/-! ### Pilots and whitening (R91, R92) -/

/-- The first n outputs of the 15-bit register x^15 + x^14 + 1 from a seed. -/
def lfsr15 (p : BitVec 15) : Nat → List Bool
  | 0 => []
  | n + 1 => p.getLsbD 14 :: lfsr15 ((p <<< 1) ||| (if p.getLsbD 14 ^^ p.getLsbD 13 then 1 else 0)) n

/-- The pilots of one orbit, in order of position (R91). -/
def pilotLevels (z : ZDir) : List Int :=
  (lfsr15 0x5A5A ((layout z).segments * (layout z).pilots)).map pam2

/-- Field bits with the whitening sequence applied or removed (R92). -/
def whiten (l : List Bool) : List Bool := List.zipWith (fun a b => a ^^ b) l (lfsr15 0x2F71 l.length)

/-! ### The fields (R93, R97) -/

/-- Type code of an orbit, 04 Table 6; a quiet orbit has no field. -/
def orbitCode : OrbitTy → BitVec 4
  | .data => 0 | .eclipse => 1 | .refresh => 2 | .train => 3 | .wake => 4 | .quiet => 15

/-- The orbit type of an assigned code (R84). -/
def orbitOfCode (c : BitVec 4) : Option OrbitTy :=
  if c = 0 then some .data else if c = 1 then some .eclipse else if c = 2 then some .refresh
  else if c = 3 then some .train else if c = 4 then some .wake else none

/-- The 384 information bits of a KTL field (04 Table 8). -/
def ktlBits (f : KtlField) : BitVec 384 :=
  f.version ++ f.ty ++ f.flags ++ f.orbit ++ f.txSec ++ f.txNs ++ f.txFrac ++ f.echoSec ++ f.echoNs ++ f.echoFrac
    ++ f.comet0 ++ f.comet1 ++ f.oam

/-- The KTL field of 384 information bits (04 Table 8). -/
def ktlOfBits (b : BitVec 384) : KtlField where
  version := b.extractLsb' 380 4
  ty := b.extractLsb' 376 4
  flags := b.extractLsb' 368 8
  orbit := b.extractLsb' 336 32
  txSec := b.extractLsb' 320 16
  txNs := b.extractLsb' 288 32
  txFrac := b.extractLsb' 272 16
  echoSec := b.extractLsb' 256 16
  echoNs := b.extractLsb' 224 32
  echoFrac := b.extractLsb' 208 16
  comet0 := b.extractLsb' 112 96
  comet1 := b.extractLsb' 16 96
  oam := b.extractLsb' 0 16

/-- The 128 information bits of a KTL-lite field (04 Table 10). -/
def liteBits (f : LiteField) : BitVec 128 :=
  f.ty ++ BitVec.ofBool f.timeValid ++ BitVec.ofBool f.echoValid ++ BitVec.ofBool f.holdover ++ BitVec.ofBool f.ssc
    ++ f.orbitLo ++ f.txNs ++ f.txFrac ++ f.echoNs ++ f.echoFrac ++ f.oam

/-- The KTL-lite field of 128 information bits (04 Table 10). -/
def liteOfBits (b : BitVec 128) : LiteField where
  ty := b.extractLsb' 124 4
  timeValid := b.getLsbD 123
  echoValid := b.getLsbD 122
  holdover := b.getLsbD 121
  ssc := b.getLsbD 120
  orbitLo := b.extractLsb' 104 16
  txNs := b.extractLsb' 72 32
  txFrac := b.extractLsb' 56 16
  echoNs := b.extractLsb' 24 32
  echoFrac := b.extractLsb' 8 16
  oam := b.extractLsb' 0 8

/-! ### BCH codes of the fields (R95, R98) -/

/-- A binary BCH code: its field polynomial and degree, its generator and degree, how many errors it corrects, and its length. -/
structure Bch where
  prim : Nat
  m : Nat
  gen : Nat
  deg : Nat
  t : Nat
  n : Nat
  deriving DecidableEq, Repr

/-- The KTL code: length 511 shortened by 63, generator M1 M3 M5 M7 M9 M11 M13 over x^9 + x^4 + 1 (R95). -/
def bchKtl : Bch := ⟨0x211, 9, 0x870A4DF3A3E92805, 63, 7, 448⟩

/-- The KTL-lite code: length 255 shortened by 79, generator M1 M3 M5 M7 M9 M11 over x^8 + x^4 + x^3 + x^2 + 1 (R98). -/
def bchLite : Bch := ⟨0x11D, 8, 0x1C7EB85DF3C97, 48, 6, 176⟩

/-- The remainder of a bit sequence, highest power first, divided by the generator. -/
def bchRem (c : Bch) (l : List Bool) : Nat :=
  l.foldl (fun r b =>
    let x := 2 * r + (if b then 1 else 0)
    if x.testBit c.deg then x ^^^ c.gen else x) 0

/-- The parity bits of a message, highest power first. -/
def bchParity (c : Bch) (msg : List Bool) : List Bool :=
  let r := bchRem c (msg ++ List.replicate c.deg false)
  (List.range c.deg).map (fun k => r.testBit (c.deg - 1 - k))

/-- A message with its parity: the codeword, highest power first. -/
def bchEncode (c : Bch) (msg : List Bool) : List Bool := msg ++ bchParity c msg

/-- Product in the code's field. -/
def gfMul (c : Bch) (a b : Nat) : Nat :=
  ((List.range c.m).reverse.foldl (fun r k =>
    let x := if (2 * r).testBit c.m then (2 * r) ^^^ c.prim else 2 * r
    if b.testBit k then x ^^^ a else x) 0)

/-- Power in the code's field. -/
def gfPow (c : Bch) (a : Nat) : Nat → Nat
  | 0 => 1
  | k + 1 => gfMul c (gfPow c a k) a

/-- Inverse in the code's field: a to the power 2^m − 2, as the product of its repeated squares. -/
def gfInv (c : Bch) (a : Nat) : Nat :=
  ((List.range (c.m - 1)).foldl (fun (acc : Nat × Nat) _ =>
    let q := gfMul c acc.1 acc.1
    (q, gfMul c acc.2 q)) (a, 1)).2

/-- The received word's value at a field element, highest power first. -/
def gfEval (c : Bch) (l : List Bool) (x : Nat) : Nat :=
  l.foldl (fun r b => gfMul c r x ^^^ (if b then 1 else 0)) 0

/-- The 2t syndromes at alpha^1 to alpha^2t. -/
def bchSyndromes (c : Bch) (l : List Bool) : List Nat :=
  (List.range (2 * c.t)).map (fun k => gfEval c l (gfPow c 2 (k + 1)))

/-- A coefficient of a locator polynomial; 0 beyond its end. -/
def coef (l : List Nat) (k : Nat) : Nat := l.getD k 0

/-- The working values of the search for the error locator: locator, its last copy, degree, gap and last discrepancy. -/
structure Bm where
  loc : List Nat
  prev : List Nat
  len : Nat
  gap : Nat
  b : Nat
  deriving DecidableEq, Repr

/-- One syndrome of the search for the shortest locator. -/
def bmStep (c : Bch) (syn : List Nat) (x : Bm) (k : Nat) : Bm :=
  let d := (List.range (x.len + 1)).foldl (fun r i => r ^^^ gfMul c (coef x.loc i) (coef syn (k - i))) 0
  if d = 0 then { x with gap := x.gap + 1 }
  else
    let f := gfMul c d (gfInv c x.b)
    let loc := (List.range (2 * c.t + 1)).map (fun i =>
      coef x.loc i ^^^ (if x.gap ≤ i then gfMul c f (coef x.prev (i - x.gap)) else 0))
    if 2 * x.len ≤ k then { loc := loc, prev := x.loc, len := k + 1 - x.len, gap := 1, b := d }
    else { x with loc := loc, gap := x.gap + 1 }

/-- The powers j < n at which the locator vanishes at alpha^−j. -/
def chien (c : Bch) (loc : List Nat) : List Nat :=
  let ai := gfInv c 2
  ((List.range c.n).foldl (fun (acc : Nat × List Nat) j =>
    let v := loc.reverse.foldl (fun r q => gfMul c r acc.1 ^^^ q) 0
    (gfMul c acc.1 ai, if v = 0 then j :: acc.2 else acc.2)) (1, [])).2

/-- The decoded codeword and its corrected bits: the codeword within the code's correction limit, or none (R96). -/
def bchDecode (c : Bch) (l : List Bool) : Option (List Bool × Nat) :=
  let syn := bchSyndromes c l
  if syn.all (· == 0) then some (l, 0)
  else
    let x := (List.range (2 * c.t)).foldl (bmStep c syn) ⟨[1], [1], 0, 1, 1⟩
    let errs := chien c x.loc
    if x.len ≤ c.t ∧ errs.length = x.len then
      some ((List.range l.length).map (fun k => (l.getD k false) ^^ errs.contains (c.n - 1 - k)), errs.length)
    else none

/-- The 448 bits of a KTL field as sent: pad, information, parity, whitened (R92, R95). -/
def ktlSent (f : KtlField) : List Bool := whiten (bchEncode bchKtl (false :: msbBits (ktlBits f)))

/-- The 176 bits of a KTL-lite field as sent (R92, R98). -/
def liteSent (f : LiteField) : List Bool := whiten (bchEncode bchLite (msbBits (liteBits f)))

/-- A received KTL field, whitening removed and decoded: its information and corrected bits, unless the decoder or the pad fails (R96). -/
def ktlDecode (r : List Bool) : Option (KtlField × Nat) :=
  match bchDecode bchKtl (whiten r) with
  | some (false :: w, k) => some (ktlOfBits (BitVec.ofNat 384 (bitsVal (w.take 384))), k)
  | _ => none

/-- A received KTL-lite field (R98). -/
def liteDecode (r : List Bool) : Option (LiteField × Nat) :=
  (bchDecode bchLite (whiten r)).map (fun x => (liteOfBits (BitVec.ofNat 128 (bitsVal (x.1.take 128))), x.2))

/-- Field symbols after the mark of the Z25 and Z50 directions, and of A1 reverse (R89). -/
def ktlSymbols (f : KtlField) : List Int := mark ++ pam4All (ktlSent f)
/-- As ktlSymbols, for KTL-lite. -/
def liteSymbols (f : LiteField) : List Int := mark ++ (liteSent f).map pam2

/-- The segments of an orbit: pilots then data, in turn (R82). -/
def segmentsOf (p d : Nat) : Nat → List Int → List Int → List Int
  | 0, _, _ => []
  | k + 1, pil, dat => pil.take p ++ dat.take d ++ segmentsOf p d k (pil.drop p) (dat.drop d)

/-- All symbols of an orbit with a field: field, pilots, data (R82, R84). -/
def orbitSymbols (z : ZDir) (fieldSyms dataSyms : List Int) : List Int :=
  fieldSyms ++ segmentsOf (layout z).pilots (layout z).data (layout z).segments (pilotLevels z) dataSyms

/-- Data positions without content: level 0 (R84). -/
def quietData (z : ZDir) : List Int := List.replicate ((layout z).segments * (layout z).data) 0

/-- The symbols of an orbit of a type with its field and data symbols, 04 Table 6 (R84): a quiet orbit is all level 0; ECLIPSE and REFRESH have no data. -/
def typeSymbols (z : ZDir) (ty : OrbitTy) (fieldSyms dataSyms : List Int) : List Int :=
  match ty with
  | .quiet => List.replicate (layout z).symbols 0
  | .eclipse | .refresh => orbitSymbols z fieldSyms (quietData z)
  | .data | .train | .wake => orbitSymbols z fieldSyms dataSyms

/-! ### Training symbols and the training status word (R185, R187) -/

/-- One step of the register of R90. -/
def scrStep (t : BitVec 31) : BitVec 31 := (t <<< 1) ||| (if t.getLsbD 30 ^^ t.getLsbD 27 then 1 else 0)

/-- The next k bits of the side stream, and the register after them (R90). -/
def scrRun (t : BitVec 31) : Nat → List Bool × BitVec 31
  | 0 => ([], t)
  | k + 1 => let x := scrRun (scrStep t) k; ((t.getLsbD 30 ^^ t.getLsbD 27) :: x.1, x.2)

/-- The register at the start of phase 1 and of a resumed phase 2 (R185). -/
def trainSeed : BitVec 31 := 0x2B3C4D5E

/-- Bits that a direction draws for k training symbols: 5 for a pair, or 1 for each in A1 reverse (R185). -/
def trainBits (z : ZDir) (k : Nat) : Nat := match z with | .a1 => k | _ => k / 2 * 5

/-- Training symbols of drawn bits (R88, R89). -/
def trainLevels (z : ZDir) (l : List Bool) : List Int := match z with | .a1 => l.map pam2 | _ => pam6All l


/-- Symbol k of a test pattern without orbits (08 Table 4): 2 levels, 3 alternating, 4 low frequency, 6 quiet. -/
def patternLevel (p k : Nat) : Int :=
  match p with
  | 2 => [-5, -3, -1, 1, 3, 5].getD (k / 32 % 6) 0
  | 3 => if k % 2 == 0 then 5 else -5
  | 4 => if k % 128 < 64 then 5 else -5
  | _ => 0

/-- Repetitions of the status word in the field positions (R187). -/
def tswRepeats : ZDir → Nat
  | .a1 => 11
  | _ => 14

/-- Mark and repeated status word (R187). -/
def tswSymbols (z : ZDir) (w : BitVec 16) : List Int :=
  mark ++ ((List.replicate (tswRepeats z) (msbBits w)).flatten).map pam2

/-- The data symbols of a training orbit from a register, and the register after them: in phase 2 even segments hold training symbols and odd ones level 0; in phase 3 all do (07 Table 4). (DEDUCED, notes/assumptions 149) -/
def trainData (z : ZDir) (ph : Nat) : Nat → Nat → BitVec 31 → List Int × BitVec 31
  | 0, _, t => ([], t)
  | k + 1, i, t =>
    let d := (layout z).data
    if ph == 2 && i % 2 == 1 then
      let y := trainData z ph k (i + 1) t
      (List.replicate d 0 ++ y.1, y.2)
    else
      let x := scrRun t (trainBits z d)
      let y := trainData z ph k (i + 1) x.2
      (trainLevels z x.1 ++ y.1, y.2)

/-! ### Transcoding and line idle blocks (R102 to R104) -/

/-- The error block: type 0x1E and eight control codes 0x1E. -/
def errorBlk : Blk := ⟨true, 0x3C78F1E3C78F1E1E⟩

/-- The line idle block: header bit 1, payload 0 (R103). -/
def lineIdle : Blk := ⟨true, 0⟩

/-- A 66-bit block, by its sync header, as a 65-bit block (R102). (PRESUMED, notes/assumptions 90) -/
def transcode (sync : BitVec 2) (payload : BitVec 64) : Blk :=
  if sync = 1 then ⟨false, payload⟩ else if sync = 2 then ⟨true, payload⟩ else errorBlk

/-- The sync header that the receive PCS forms (R102). (PRESUMED, notes/assumptions 90) -/
def syncOf (b : Blk) : BitVec 2 := if b.ctrl then 2 else 1

/-- The bits of a block as sent: header, then payload from bit 0. -/
def blkBits (b : Blk) : List Bool := b.ctrl :: (List.range 64).map (fun k => b.payload.getLsbD k)

/-- Block type of a control block: its first payload byte. (PRESUMED, notes/assumptions 90) -/
def blkType (b : Blk) : Nat := b.payload.toNat % 256

/-- A control block that begins a frame. -/
def isStart (b : Blk) : Bool := b.ctrl && (blkType b == 0x78 || blkType b == 0x33 || blkType b == 0x66)

/-- A control block that ends a frame, with the data bytes it carries. (PRESUMED, notes/assumptions 90) -/
def termBytes (b : Blk) : Option Nat :=
  if !b.ctrl then none
  else match blkType b with
    | 0x87 => some 0 | 0x99 => some 1 | 0xAA => some 2 | 0xB4 => some 3
    | 0xCC => some 4 | 0xD2 => some 5 | 0xE1 => some 6 | 0xFF => some 7
    | _ => none

/-- The 66-bit block of idle or LPI control characters that a code names: 0x00 idle, 0x06 LPI. -/
def ctrlBlk (code : Nat) : Blk := ⟨true, BitVec.ofNat 64 (0x1E + (List.range 8).foldl (fun r k => r + code * 2 ^ (8 + 7 * k)) 0)⟩

/-- The block of eight idle characters. -/
def idleBlk : Blk := ctrlBlk 0
/-- The block of eight LPI characters. -/
def lpiBlk : Blk := ctrlBlk 6

/-- Byte i of a block's payload, in transmission order. -/
def blkByte (b : Blk) (i : Nat) : Byte := BitVec.ofNat 8 (b.payload.toNat / 256 ^ i)

/-- Whether a block is an error block: one of its eight control codes is 0x1E. -/
def isError (b : Blk) : Bool := b.ctrl && blkType b == 0x1E && (List.range 8).any (fun k => b.payload.toNat / 2 ^ (8 + 7 * k) % 128 == 0x1E)

/-- The number whose octets, first octet lowest, are a list. -/
def octVal (l : List Byte) : Nat := l.foldr (fun b r => r * 256 + b.toNat) 0

/-- Type of the terminate block that carries k octets. -/
def termType (k : Nat) : Nat := [0x87, 0x99, 0xAA, 0xB4, 0xCC, 0xD2, 0xE1, 0xFF].getD k 0x87

/-- Data octets of a frame after its start block, none for an octet received in error, cut into blocks, with the terminate block: a group with an octet in error is an error block (R207). -/
def bodyBlocks : Nat → List (Option Byte) → List Blk
  | 0, _ => []
  | k + 1, l =>
    let g := l.take 8
    if g.length < 8 then
      let t : Blk := ⟨true, BitVec.ofNat 64 (termType g.length + 256 * octVal (g.filterMap id))⟩
      if g.all Option.isSome then [t] else [errorBlk, ⟨true, BitVec.ofNat 64 (termType 0)⟩]
    else (if g.all Option.isSome then ⟨false, BitVec.ofNat 64 (octVal (g.filterMap id))⟩ else errorBlk) :: bodyBlocks k (l.drop 8)

/-- The blocks of a frame with its start in lane 0: the seven octets that follow the start character, then the others (R207). -/
def formFrame (pre : List Byte) (body : List (Option Byte)) : List Blk :=
  ⟨true, BitVec.ofNat 64 (0x78 + 256 * octVal (pre.take 7))⟩ :: bodyBlocks (body.length / 8 + 1) body

/-- The octets of a block of a frame after its start block: eight that are unknown for an error block. -/
def blkOctetsErr (b : Blk) : List (Option Byte) :=
  if !b.ctrl then (List.range 8).map (fun i => some (blkByte b i))
  else match termBytes b with
    | some k => (List.range k).map (fun i => some (blkByte b (i + 1)))
    | none => List.replicate 8 none

/-! ### 8b/10b host lanes (R207, R210) -/

/-- Code groups of 1000BASE-X: comma K28.5, start K27.7, end K29.7, carrier extend K23.7, error K30.7. -/
abbrev kComma : Byte := 0xBC
/-- Start of packet. -/
abbrev kStart : Byte := 0xFB
/-- End of packet. -/
abbrev kEnd : Byte := 0xFD
/-- Carrier extend. -/
abbrev kExt : Byte := 0xF7
/-- Error propagation. -/
abbrev kErr : Byte := 0xFE

/-- Octets between a start and an end: a control code among them is an octet in error. -/
def codeOctet (c : Bool × Byte) : Option Byte := if c.1 then none else some c.2

/-- The seven octets before the frame proper that the start block carries: those up to the first SFD, short preambles filled in front with 0x55; the others follow. -/
def splitPreamble (l : List (Bool × Byte)) : List Byte × List (Option Byte) :=
  match (l.take 8).findIdx? (fun c => !c.1 && c.2 == 0xD5) with
  | some i =>
    let p := (l.take (i + 1)).map (·.2)
    ((List.replicate (7 - p.length) 0x55 ++ p).drop ((List.replicate (7 - p.length) (0x55 : Byte) ++ p).length - 7), (l.drop (i + 1)).map codeOctet)
  | none => ((l.take 7).map (·.2), (l.drop 7).map codeOctet)

/-- SGMII at 100 Mb/s sends each octet of a frame ten times: one of each ten is taken (07 Table 9). -/
def every10 {α : Type} : Nat → List α → List α
  | _, [] => []
  | 0, a :: r => a :: every10 9 r
  | k + 1, _ :: r => every10 k r

/-- The blocks that the code groups of an 8b/10b host lane are re-formed into (R207): each frame with its start in lane 0 and followed by idle; an idle ordered set outside a frame is an idle block, an LPI one (D6.5 or D26.4 after the comma) an LPI block. The second argument holds the codes of the frame in progress, newest first; ten tells that octets come ten times. -/
def reform (ten : Bool) : Option (List (Bool × Byte)) → List (Bool × Byte) → List Blk × Option (List (Bool × Byte))
  | cur, [] => ([], cur)
  | some f, c :: r =>
    if c.1 && c.2 == kEnd then
      let p := splitPreamble (if ten then every10 9 f.reverse else f.reverse)
      let x := reform ten none r
      (formFrame p.1 p.2 ++ idleBlk :: x.1, x.2)
    else reform ten (some (c :: f)) r
  | none, c :: r =>
    if c.1 && c.2 == kStart then reform ten (some []) r
    else if !c.1 && (c.2 == 0xA6 || c.2 == 0x9A) then let x := reform ten none r; (lpiBlk :: x.1, x.2)
    else if !c.1 && (c.2 == 0xC5 || c.2 == 0x50) then let x := reform ten none r; (idleBlk :: x.1, x.2)
    else reform ten none r

/-- One idle ordered set. -/
def idleSet : List (Bool × Byte) := [(true, kComma), (false, 0x50)]

/-- The code groups that an 8b/10b host lane sends for a block (R207, R210): start, data, the end with the clause's minimum gap of 12 octets, error propagation for an error block. With ten, SGMII at 100 Mb/s, each octet of a frame and each error code comes ten times, the start once with nine octets of preamble (07 Table 9). -/
def codesOf (ten : Bool) (b : Blk) : List (Bool × Byte) :=
  let rep (c : Bool × Byte) : List (Bool × Byte) := List.replicate (if ten then 10 else 1) c
  let d (l : List Nat) : List (Bool × Byte) := l.flatMap (fun i => rep (false, blkByte b i))
  let start : List (Bool × Byte) := (true, kStart) :: List.replicate (if ten then 9 else 0) (false, 0x55)
  if !b.ctrl then d [0, 1, 2, 3, 4, 5, 6, 7]
  else match blkType b, termBytes b with
    | 0x78, _ => start ++ d [1, 2, 3, 4, 5, 6, 7]
    | 0x33, _ | 0x66, _ => idleSet ++ idleSet ++ start ++ d [5, 6, 7]
    | _, some k => d ((List.range k).map (· + 1)) ++ [(true, kEnd), (true, kExt)] ++ (List.replicate 5 idleSet).flatten
    | _, none =>
      if b == lpiBlk then (List.replicate 4 [(true, kComma), (false, (0xA6 : Byte))]).flatten
      else if isError b then (List.replicate 8 (rep (true, kErr))).flatten
      else (List.replicate 4 idleSet).flatten

/-- The code groups of a run of blocks toward the host. (PRESUMED, notes/assumptions 90) -/
def hostCodes (ten : Bool) (l : List Blk) : List (Bool × Byte) := l.flatMap (codesOf ten)

end Sys2Proof.Machine
end

