-- ==== Sys2Proof/Machine/Ldpc.lean ====
section
/-! DEFINITION. The quasi-cyclic LDPC codes (R109 to R116): base matrices, encoder, syndrome; and the fixed latencies of the data path (R126, R131). -/

namespace Sys2Proof.Machine

/-- The codes of 05 Table 1. -/
inductive Code where
  | long | short | reverse
  deriving DecidableEq, Repr

/-- Parameters of a code, 05 Table 1: length, information bits, blocks, circulant size, rows and information columns. -/
structure CodePar where
  n : Nat
  k : Nat
  blocks : Nat
  z : Nat
  m : Nat
  kb : Nat
  deriving DecidableEq, Repr

/-- The parameters of a code (R109). -/
def codePar : Code → CodePar
  | .long => ⟨5520, 5200, 80, 40, 8, 130⟩
  | .short => ⟨2760, 2600, 40, 40, 4, 65⟩
  | .reverse => ⟨1104, 1040, 16, 16, 4, 65⟩

/-- Row set A of a code, 05 Table 2. -/
def maskSet : Code → List Nat
  | .long => [0, 2, 5]
  | _ => [0, 1, 2]

/-- Term c of a code, 05 Table 2. -/
def maskC : Code → Nat
  | .long => 2
  | _ => 1

/-- The exceptions, 05 Table 3 (R113): row, column, final entry. -/
def exceptions : Code → List (Nat × Nat × Nat)
  | .long => [(3, 17, 31), (6, 88, 3)]
  | .short => [(1, 33, 26), (2, 51, 22)]
  | .reverse => [(0, 64, 9), (1, 64, 13), (2, 64, 6)]

/-- mask(i, j) of R112. -/
def maskAt (c : Code) (i j : Nat) : Bool :=
  let p := codePar c
  (maskSet c).contains (((i : Int) - j - maskC c * (j / p.z : Nat)) % p.m).toNat

/-- shift(i, j) of R112. -/
def shiftAt (c : Code) (i j : Nat) : Nat := (i * (j + 7) ^ 2 + 3 * j) % (codePar c).z

/-- The entry E(i, j) of the base matrix; none for −1 (R111 to R114). -/
def baseEntry (c : Code) (i j : Nat) : Option Nat :=
  let p := codePar c
  if j < p.kb then
    match (exceptions c).find? (fun e => e.1 == i && e.2.1 == j) with
    | some e => some e.2.2
    | none => if maskAt c i j then some (shiftAt c i j) else none
  else if j = p.kb then
    if i = 0 ∨ i = p.m - 1 then some 1 else if i = p.m / 2 then some 0 else none
  else if i = j - p.kb - 1 ∨ i = j - p.kb then some 0 else none

/-- rot(v, s): bit r of the result is bit (r + s) mod Z (R111). -/
def rot {α : Type} (v : List α) (s : Nat) : List α := v.drop (s % v.length) ++ v.take (s % v.length)

/-- Two blocks combined by xor. -/
def xorB (a b : List Bool) : List Bool := List.zipWith (fun x y => x ^^ y) a b

/-- A sequence cut into blocks of z. -/
def chunks {α : Type} (z : Nat) : Nat → List α → List (List α)
  | 0, _ => []
  | k + 1, l => l.take z :: chunks z k (l.drop z)

/-- The block of zeros. -/
def zeroB (c : Code) : List Bool := List.replicate (codePar c).z false

/-- One block row of H applied to blocks of columns 0 onward. -/
def rowSum (c : Code) (i : Nat) (u : List (List Bool)) : List Bool :=
  (u.zipIdx).foldl (fun acc x => match baseEntry c i x.2 with
    | some s => xorB acc (rot x.1 s)
    | none => acc) (zeroB c)

/-- The parity blocks p_0 to p_(m−1) of the information blocks (R116). -/
def parityBlocks (c : Code) (u : List (List Bool)) : List (List Bool) :=
  let p := codePar c
  let lam := (List.range p.m).map (fun i => rowSum c i u)
  let p0 := lam.foldl xorB (zeroB c)
  let p1 := xorB (lam.getD 0 []) (rot p0 1)
  p0 :: ((List.range (p.m - 2)).foldl (fun (acc : List (List Bool)) t =>
    let i := t + 1
    let x := xorB (lam.getD i []) (acc.getLastD [])
    acc ++ [if i = p.m / 2 then xorB x p0 else x]) [p1])

/-- The codeword of k information bits (R115). -/
def ldpcEncode (c : Code) (info : List Bool) : List Bool :=
  info ++ (parityBlocks c (chunks (codePar c).z (codePar c).kb info)).flatten

/-- Whether H c = 0. -/
def ldpcCheck (c : Code) (w : List Bool) : Bool :=
  let p := codePar c
  let u := chunks p.z (p.kb + p.m) w
  (List.range p.m).all (fun i => (rowSum c i u).all (fun b => !b))

/-- The information bits of the codeword number k of an orbit: its blocks, scrambled in the orbit's stream (R90, R115). -/
def codewordInfo (c : Code) (orbit : BitVec 32) (k : Nat) (blks : List Blk) : List Bool :=
  ((scramble (scrSeed orbit) (blks.flatMap blkBits)).drop (k * (codePar c).k)).take (codePar c).k

/-- Codewords per orbit of a direction, 04 Table 5. -/
def codewordsPerOrbit (z : ZDir) (c : Code) : Nat := blocksPerOrbit z / (codePar c).blocks

/-- The codewords of an orbit whose blocks are given, in order (R83, R115). -/
def orbitCodewords (z : ZDir) (c : Code) (orbit : BitVec 32) (blks : List Blk) : List (List Bool) :=
  (List.range (codewordsPerOrbit z c)).map (fun k => ldpcEncode c (codewordInfo c orbit k blks))

/-- Data symbols of a codeword (R88, R89). -/
def codewordSymbols (z : ZDir) (w : List Bool) : List Int :=
  match z with
  | .a1 => w.map pam2
  | _ => pam6All w

/-- The symbols of an orbit that carries a field, by its type (R82 to R84, R115). -/
def sentSymbols (z : ZDir) (c : Code) (ty : OrbitTy) (orbit : BitVec 32) (fieldSyms : List Int) (blks : List Blk) : List Int :=
  typeSymbols z ty fieldSyms ((orbitCodewords z c orbit blks).flatMap (codewordSymbols z))

/-! ### Engine clock and latency (R126, R131) -/

/-- f_N in MHz, 05 Table 6: the engine clock in two-engine operation. -/
def engineMHz : ZDir → Rat
  | .z25 => 711
  | _ => 1410

/-- Cycles to decode a codeword (R126). -/
def decodeCycles (c : Code) (iterMax : Nat) : Nat := 12 + 2 * (codePar c).m * iterMax

/-- T_dec in ps (R131). -/
def tDec (z : ZDir) (c : Code) (iterMax : Nat) : Rat := decodeCycles c iterMax * 1000000 / engineMHz z

/-- Symbol rate in MHz, 04 Table 2. -/
def symbolMHz : ZDir → Rat
  | .z50 => 22560
  | .z25 => 11376
  | .a1 => 1410

/-- The largest span of a codeword in symbols, 05 Table 8. -/
def fillSymbols : ZDir → Code → Nat
  | .z50, .long => 2208
  | .z50, _ => 1104
  | .z25, .long => 2232
  | .z25, _ => 1128
  | .a1, _ => 1199

/-- T_fill in ps (R131). -/
def tFill (z : ZDir) (c : Code) : Rat := fillSymbols z c * 1000000 / symbolMHz z

/-- T_prx in ps, 05 Table 8. -/
def tPrx : ZDir → Nat
  | .z25 => 14000
  | _ => 8000

/-- T_ptx in ps, 05 Table 8. -/
def tPtx : ZDir → Nat
  | .z25 => 20000
  | _ => 12000

/-- T_enc in ps, 05 Table 8. -/
def tEnc : ZDir → Code → Nat
  | .a1, _ => 40000
  | .z50, .long => 44000
  | .z50, _ => 30000
  | .z25, .long => 72000
  | .z25, _ => 48000

/-- T_out in ps, 05 Table 8. -/
def tOut : ZDir → Nat
  | .z50 => 22000
  | .z25 => 30000
  | .a1 => 60000

/-- T_rly in ps, 05 Table 8. -/
abbrev tRly : Nat := 6000

/-- T_hlo and T_hli in ps of a host-lane mode, 05 Table 9. -/
def tHostLane : Nat → Nat × Nat
  | 0xA => (61000, 52000)
  | 0x9 => (83000, 158000)
  | 0x7 => (74000, 66000)
  | 0x8 => (96000, 278000)
  | 0x5 | 0x6 => (118000, 104000)
  | 0x4 => (190000, 176000)
  | 0x3 => (330000, 310000)
  | 0x1 | 0x2 => (760000, 720000)
  | _ => (0, 0)

/-- A number rounded to the nearest integer, halves up. -/
def roundR (x : Rat) : Int := (x + 1 / 2).floor

/-- Receive latency in ps (R131). -/
def latRx (z : ZDir) (c : Code) (iterMax tFront hlMode : Nat) : Nat :=
  (roundR (tFront + tFill z c + tDec z c iterMax + tPrx z + (tHostLane hlMode).1)).toNat

/-- Transmit latency in ps (R131). -/
def latTx (z : ZDir) (c : Code) (hlMode : Nat) : Nat := (tHostLane hlMode).2 + tPtx z + tEnc z c + tOut z

/-- Relay latency in ps: receive part of one channel, transmit part of the other (R131). -/
def latRly (z : ZDir) (c : Code) (iterMax tFront : Nat) (zo : ZDir) (co : Code) : Nat :=
  (roundR (tFront + tFill z c + tDec z c iterMax + tPrx z + tRly + tPtx zo + tEnc zo co + tOut zo)).toNat

end Sys2Proof.Machine
end

