-- ==== Sys2Proof/Machine/Chan.lean ====
section
/-! DEFINITION. What a channel is doing: its mode, directions, codes, roles and readiness, and the registers that show its fixed latencies. -/

namespace Sys2Proof.Machine

/-! ### Mode, roles and codes -/

/-- Whether a mode code of LINE_STATUS is a Z mode (04 Table 13). -/
def isZ (m : Nat) : Bool := 8 ≤ m && m ≤ 0xB

/-- The direction transmitted in a Z mode. -/
def txDirOf : Nat → ZDir
  | 8 => .z25
  | 0xB => .a1
  | _ => .z50

/-- The direction received in a Z mode. -/
def rxDirOf : Nat → ZDir
  | 8 => .z25
  | 0xA => .a1
  | _ => .z50

/-- The code of a 2-bit code field. -/
def codeOf : Nat → Code
  | 2 => .short
  | 3 => .reverse
  | _ => .long

/-- LB of a channel's DIAG page: 0 while its DIAG page is fenced (R417). -/
def State.lb (s : State) (n : Ch) : Nat := if s.fenced (.chan n .diag) then 0 else s.fld (Reg.diagLbCtrl n) 1 0

/-- PATTERN of a channel: 7 acts as 0, and a fenced DIAG page reads 0. -/
def State.pattern (s : State) (n : Ch) : Nat :=
  if s.fenced (.chan n .diag) then 0 else if s.fld (Reg.diagTpCtrl n) 2 0 == 7 then 0 else s.fld (Reg.diagTpCtrl n) 2 0

/-- A near-end loopback is selected (R235). -/
def State.nearLb (s : State) (n : Ch) : Bool := s.lb n == 1 || s.lb n == 2

/-- LB_MODE or TP_MODE as it acts: values outside 0x1 to 0x9 act as 0x9. -/
def lbMode (m : Nat) : Nat := if 1 ≤ m ∧ m ≤ 9 then m else 9

/-- The mode the channel trains for or runs: that of the pattern, of the loopback, or of the stored resolution; 0 without one (R235, R236). -/
def State.lineMode (s : State) (n : Ch) : Nat :=
  if s.pattern n != 0 then lbMode (s.fld (Reg.diagTpCtrl n) 7 4)
  else if s.nearLb n then lbMode (s.fld (Reg.diagLbCtrl n) 7 4)
  else if s.bit (Reg.anResolved n) 31 then s.fld (Reg.anResolved n) 27 24 else 0

/-- Whether this end acts as leader: by the resolution, and in a near-end loopback (R177, R235). -/
def State.leader (s : State) (n : Ch) : Bool := s.nearLb n || s.bit (Reg.anResolved n) 30

/-- The code of a near-end loopback: fixed at its start (R110). -/
def State.lbCode (s : State) (n : Ch) : Nat := (s.chan n).link.lb

/-- Codes received and transmitted, as coded in LINE_STATUS (R110). -/
def State.rxCode (s : State) (n : Ch) : Nat := if s.nearLb n then s.lbCode n else s.fld (Reg.anResolved n) 21 20
/-- As rxCode, for the transmit direction. -/
def State.txCode (s : State) (n : Ch) : Nat := if s.nearLb n then s.lbCode n else s.fld (Reg.anResolved n) 23 22

/-- KTL version for which the channel trains or runs (R264). -/
def State.ktlVer (s : State) (n : Ch) : Nat := if s.nearLb n then 3 else s.fld (Reg.anResolved n) 19 16

/-- Directions of the mode in training or in force. -/
def State.rxDir (s : State) (n : Ch) : ZDir := rxDirOf (s.lineMode n)
/-- As rxDir, for transmission. -/
def State.txDir (s : State) (n : Ch) : ZDir := txDirOf (s.lineMode n)

/-- TRN_STATUS.LINK_UP (R189). -/
def State.linkUp (s : State) (n : Ch) : Bool := s.bit (Reg.anTrnStatus n) 31
/-- The phase of TRN_STATUS, 07 Table 4. -/
def State.phase (s : State) (n : Ch) : Nat := s.fld (Reg.anTrnStatus n) 27 24
/-- The kind of training: 1 cold, 2 warm, 3 fast. -/
def State.kind (s : State) (n : Ch) : Nat := s.fld (Reg.anTrnStatus n) 30 28
/-- A Z-mode link that is up. -/
def State.zUp (s : State) (n : Ch) : Bool := s.linkUp n && isZ (s.lineMode n)
/-- A standard-mode link that is up. -/
def State.stdUp (s : State) (n : Ch) : Bool := s.linkUp n && !isZ (s.lineMode n)
/-- The far-end loopback acts: link up in a mode other than Z50/A1 (R235). -/
def State.farLb (s : State) (n : Ch) : Bool := s.lb n == 3 && s.linkUp n && s.lineMode n != 0xA && s.lineMode n != 0xB
/-- LINE_STATUS.ORBIT_LOCK. -/
def State.orbitLock (s : State) (n : Ch) : Bool := s.bit (Reg.pcsLineStatus n) 8
/-- The received and the transmitted direction in LPI. -/
def State.rxLpi (s : State) (n : Ch) : Bool := s.bit (Reg.anLpiStatus n) 0
/-- As rxLpi, for transmission. -/
def State.txLpi (s : State) (n : Ch) : Bool := s.bit (Reg.anLpiStatus n) 1

/-! ### Relay pairs (R211) -/

/-- The other channel of a relay pair: CH2k and CH2k+1. -/
def partnerCh (n : Ch) : Ch := if n.val % 2 = 0 then Fin.ofNat 16 (n.val + 1) else Fin.ofNat 16 (n.val - 1)

/-- The even channel of a channel's pair. -/
def pairEven (n : Ch) : Ch := Fin.ofNat 16 (n.val / 2 * 2)

/-- RLY.STATUS.ACTIVE: the channel belongs to an active relay pair. -/
def State.rlyActive (s : State) (n : Ch) : Bool := s.bit (Reg.rlyStatus n) 0

/-- An active pair with tap. -/
def State.tapOn (s : State) (n : Ch) : Bool := s.rlyActive n && s.bit (Reg.rlyCtrl (pairEven n)) 1

/-! ### Readiness -/

/-- The device safe state (R411): ALRM.STATUS.STATE = 3. -/
def State.safeState (s : State) : Bool := s.fld Reg.alrmStatus 31 30 == 3

/-- Whether a channel lost its relay partner under R12: fenced, CPLL lock lost and not yet back (R347), or DSP not ON. (DEDUCED, notes/assumptions 58) -/
def State.chanGone (s : State) (n : Ch) : Bool :=
  s.chanFenced n || !((s.chan n).cpll.gate || (s.chan n).retune) || (s.chan n).dsp.eff != .on

/-- A domain that is ON and neither on its way down nor under test (R365, R390). -/
def Dom.live (d : Dom) : Bool := d.eff == .on && d.moving.isNone && d.test != .running

/-- Nothing but its clock keeps a channel's line from working: domains ON, not fenced, not in the safe state (R368, R378, R412, R415). -/
def State.lineAlive (s : State) (n : Ch) : Bool :=
  (s.chan n).dsp.live && (s.chan n).afe.live && !s.chanFenced n && !s.safeState

/-- The channel's line can work at all: CPLL gate open too (R344). -/
def State.lineReady (s : State) (n : Ch) : Bool := s.lineAlive n && (s.chan n).cpll.gate

/-- VCO of CPLL in MHz for a line mode; 22.5 GHz during negotiation (12 Table 4). -/
def vcoOf (mode : Nat) : Nat :=
  match mode with
  | 8 => 22752
  | 9 | 0xA | 0xB => 22560
  | 1 => 22400
  | _ => 22500

/-- The host lane lets a live link stay: HL in service, or an active relay pair (R345, R368, R417). -/
def State.hlHolds (s : State) (n : Ch) : Bool := s.rlyActive n || ((s.chan n).hl.live && !s.ownFence (.chan n .hl))

/-- The host lane allows the link: HL ON, its page unfenced, HPLL locked once; or an active relay pair (R368, R417). -/
def State.hlReady (s : State) (n : Ch) : Bool :=
  s.rlyActive n || ((s.chan n).hl.live && !s.ownFence (.chan n .hl) && (s.chan n).hpll.gate)

/-- A TDR sweep of the channel is in RUN (R230). -/
def State.tdrRuns (s : State) (n : Ch) : Bool :=
  s.jobs.slots.toList.any (fun j => j.typ == 1 && j.target == BitVec.ofNat 8 n.val && j.st == .run)

/-- A TDR sweep targets the channel (R230, R237). -/
def State.tdrOn (s : State) (n : Ch) : Bool :=
  s.jobs.slots.toList.any (fun j => j.typ == 1 && j.target == BitVec.ofNat 8 n.val && (j.st == .run || j.st == .wait))

/-- Whether negotiation may run: enabled, not suspended by LISTEN, a loopback, a pattern or a TDR sweep, and line and host lane ready. -/
def State.mayNegotiate (s : State) (n : Ch) : Bool :=
  s.bit (Reg.anAnCtrl n) 0 && s.lineReady n && s.hlReady n && !s.bit (Reg.eqNfCtrl n) 0 && !s.nearLb n
    && s.pattern n == 0 && !s.tdrOn n

/-! ### Gain, front-end delay and latencies -/

/-- Gain in force in half decibels (R136). -/
def State.gain2 (s : State) (n : Ch) : Int :=
  (min (s.fld (Reg.afeGainStatus n) 5 0) 48 : Nat) - 12 * (s.fld (Reg.afeGainStatus n) 8 8 : Nat)

/-- Entry of TFRONT_A for the gain in force (14 Table 1). -/
def State.gainEntry (s : State) (n : Ch) : Nat :=
  min (s.fld (Reg.afeGainStatus n) 5 0) 48 + 49 * s.fld (Reg.afeGainStatus n) 8 8

/-- Index of TFRONT_A in the receive codes: after HYB_BAL, BIAS_RX and SKEW. -/
abbrev iTfront : Nat := 38

/-- Digital part of T_front in ps (R140). -/
def frontDigital : ZDir → Nat
  | .z50 => 29500
  | .z25 => 49500
  | .a1 => 143500

/-- T_front in force in ps for a mode (R140). -/
def State.tFront (s : State) (n : Ch) : Nat :=
  let analog := 3000 + ((s.chan n).trim.rx.getD (iTfront + s.gainEntry n) 0).toNat
  if isZ (s.lineMode n) then frontDigital (s.rxDir n) + analog else Config.stdFront (s.lineMode n) + analog

/-- ITER_MAX in force (FEC.STATUS.ITER_EFF). -/
def State.iterEff (s : State) (n : Ch) : Nat := s.fld (Reg.fecStatus n) 12 8

/-- Host-lane mode as it acts (07 Table 9): other values act as 0. -/
def State.hlMode (s : State) (n : Ch) : Nat := if s.fld (Reg.hlMode n) 3 0 ≤ 0xA then s.fld (Reg.hlMode n) 3 0 else 0

/-- Digital part of LAT_MARK_TX and the index of its analog part (R249). -/
def markTxDigital : ZDir → Nat × Nat
  | .z50 => (14500, 2)
  | .z25 => (22500, 3)
  | .a1 => (52000, 4)

/-- LAT_MARK_TX in ps (R249). -/
def State.markTx (s : State) (n : Ch) : Nat :=
  let d := markTxDigital (s.txDir n)
  d.1 + ((s.chan n).trim.tx.getD d.2 0).toNat

/-- Digital mark pipeline of the received mode (R249). -/
def markRxDigital : ZDir → Nat
  | .z50 => 11250
  | .z25 => 21500
  | .a1 => 46000

/-- LAT_MARK_RX in ps (R249). -/
def State.markRx (s : State) (n : Ch) : Nat := s.tFront n + markRxDigital (s.rxDir n)

/-- The channel runs or trains orbits: phase 2 or later (R186). -/
def State.orbits (s : State) (n : Ch) : Bool := 2 ≤ s.phase n && isZ (s.lineMode n)

/-- The maxima in ps of receive and transmit latency in a standard mode with the host lane that the table names (R132). -/
def stdLatMax : Nat → Nat → Option (Nat × Nat)
  | 1, 0x1 => some (1200000, 800000)
  | 2, 0x1 => some (2400000, 900000)
  | 3, 0x3 => some (2600000, 1000000)
  | 4, 0x4 => some (1700000, 700000)
  | 5, 0x5 => some (1100000, 500000)
  | _, _ => none

/-- Receive latency in ps in a standard mode (R132). (DESIGN CHOICE, notes/assumptions 20) -/
def stdRx (mode hl : Nat) : Nat :=
  match stdLatMax mode hl with | some m => min (Config.stdLatRx mode hl) m.1 | none => Config.stdLatRx mode hl
/-- As stdRx, for transmission. (DESIGN CHOICE, notes/assumptions 20) -/
def stdTx (mode hl : Nat) : Nat :=
  match stdLatMax mode hl with | some m => min (Config.stdLatTx mode hl) m.2 | none => Config.stdLatTx mode hl

/-- The registers that show fixed latencies, brought to what is in force: T_FRONT, LAT_RX, LAT_TX, LAT_DEC, LAT_RLY, LAT_MARK_RX and LAT_MARK_TX (R133, R140, R249). (DEDUCED, notes/assumptions 169) -/
def State.showLatency (s : State) (n : Ch) : State :=
  let up := s.linkUp n
  let z := isZ (s.lineMode n)
  let w (b : Bool) (v : Nat) : Word := if b then BitVec.ofNat 32 v else 0
  let rc := codeOf (s.rxCode n)
  let o := partnerCh n
  let rly := if z && isZ (s.lineMode o) then latRly (s.rxDir n) rc (s.iterEff n) (s.tFront n) (s.txDir o) (codeOf (s.txCode o))
    else Config.stdLatRly (s.lineMode n) (s.lineMode o)
  ((((((s.setReg (Reg.afeTFront n) (w up (s.tFront n))).setReg (Reg.fecLatRx n)
    (w up (if z then latRx (s.rxDir n) rc (s.iterEff n) (s.tFront n) (s.hlMode n) else stdRx (s.lineMode n) (s.hlMode n)))).setReg
    (Reg.fecLatTx n) (w up (if z then latTx (s.txDir n) (codeOf (s.txCode n)) (s.hlMode n) else stdTx (s.lineMode n) (s.hlMode n)))).setReg
    (Reg.fecLatDec n) (w (up && z) (roundR (tDec (s.rxDir n) rc (s.iterEff n))).toNat)).setReg
    (Reg.fecLatRly n) (w (up && s.rlyActive n) rly)).setReg
    (Reg.ktlLatMarkRx n) (w z (s.markRx n))).setReg
    (Reg.ktlLatMarkTx n) (w z (s.markTx n))

/-- Whether a channel's time engine is valid (R241). -/
def State.engineOk (s : State) (n : Ch) : Bool :=
  (s.chan n).dsp.eff == .on && (s.chan n).cpll.gate && !s.chanFenced n
    && s.fld (Reg.tkGrpState (s.tgOf n)) 2 0 != 0 && !(s.chan n).ktl.realign && !(s.chan n).ktl.align

/-- KTL.STATUS.ENGINE_VALID brought to what holds, with its interrupt on a change (R241, R279). -/
def State.showEngine (s : State) (n : Ch) : State :=
  let v := s.engineOk n
  s.when (v != s.bit (Reg.ktlStatus n) 29) (fun s => (s.setBit (Reg.ktlStatus n) 29 v).cint n .ktl 0)

/-- CPLLn's target for what the channel begins; where it changes, the loop relocks, its gate closed until it holds the new lock (R336, R347). Nothing is lost by it: no loss is counted, and what the channel has begun goes on with the gate. (DEDUCED, notes/assumptions 105) -/
def State.retarget (s : State) (n : Ch) : State :=
  let t := if (s.chan n).link.neg then vcoOf 0 else vcoOf (s.lineMode n)
  if t == (s.chan n).vco then s
  else
    let s := s.mapChan n (fun c => { c with vco := t, cpll := {}, retune := c.cpll.gate || c.retune })
    (s.setBit Reg.clkCpllStatus n.val false).showEngine n

/-- The latencies of a channel whose link or mode has changed, and the relay latency of its partner in an active pair, which depends on both (R131, R133). -/
def State.showLatencies (s : State) (n : Ch) : State :=
  (s.showLatency n).when (s.rlyActive n) (fun s => s.showLatency (partnerCh n))

end Sys2Proof.Machine
end

