-- ==== Sys2Proof/Machine/Group.lean ====
section
/-! DEFINITION. Tenancy groups: their sources, states, steps of their timescales and selection of a source (R246, R251 to R260, R315). -/

namespace Sys2Proof.Machine

/-! ### Numbers -/

/-- Nearest whole number, halves upward. (DESIGN CHOICE, notes/assumptions 98) -/
def roundInt (x : Rat) : Int := (x + 1 / 2).floor

/-- Absolute value. -/
def absR (x : Rat) : Rat := if x < 0 then -x else x

/-- Mean of a list; 0 for none. -/
def meanR (l : List Rat) : Rat := if l.isEmpty then 0 else l.sum / (l.length : Rat)

/-- 2π to 40 digits. (DESIGN CHOICE, notes/assumptions 21) -/
def twoPi : Rat := 62831853071795864769252867665590057683943 / 10 ^ 40

/-- A signed field of 10^−12. -/
def pico (v : Int) : Rat := (v : Rat) / 1000000000000

/-- The time of a group, truncated to 2^−16 ns. -/
def State.time16 (s : State) (g : Tg) : Nat := ((s.group g).ts * 65536).floor.toNat

/-- A signed number of ps in 2^−16 ns, to the nearest. -/
def ps16 (p : Int) : Int := roundInt ((p : Rat) * 65536 / 1000)

/-- The time of a group a number of ps ago, in ns. (DESIGN CHOICE, notes/assumptions 7) -/
def State.timeAgo (s : State) (g : Tg) (late : Nat) : Rat := (s.group g).ts - (late : Rat) / 1000

/-- Slope of values over instants by least squares; 0 for fewer than two instants (R246). (DESIGN CHOICE, notes/assumptions 119) -/
def slopeOf (l : List (Rat × Rat)) : Rat :=
  let mt := meanR (l.map (·.2))
  let mv := meanR (l.map (·.1))
  let den := (l.map (fun x => (x.2 - mt) * (x.2 - mt))).sum
  if den = 0 then 0 else (l.map (fun x => (x.2 - mt) * (x.1 - mv))).sum / den

/-- TRIG pin k. -/
def State.pin (s : State) (k : Fin 16) : TrigPin := s.trig.pins[k]

/-- The state with a pin changed. -/
def State.mapPin (s : State) (k : Fin 16) (f : TrigPin → TrigPin) : State :=
  { s with trig := { s.trig with pins := s.trig.pins.set k (f (s.pin k)) } }

/-- The group whose time a pin uses. -/
def State.pinGroup (s : State) (k : Fin 16) : Tg := Fin.ofNat 4 (s.fld (Reg.trigPinCtrl k) 9 8)

/-- A pin's records of edges, which are times of its group, moved with its group's time by d in 2^−16 ns. (DESIGN CHOICE, notes/assumptions 115) -/
def State.shiftPin (s : State) (k : Fin 16) (d : Int) : State :=
  s.mapPin k (fun p => { p with edgeAt := p.edgeAt.map (· + d), lastCap := p.lastCap.map (· + d) })

/-- Time engine of a channel changed. -/
def State.mapKtl (s : State) (n : Ch) (f : KtlSt → KtlSt) : State := s.mapChan n (fun c => { c with ktl := f c.ktl })

/-! ### Roles and validity (R241, R250 to R254) -/

/-- The state of a group, 09 Table 3. -/
def State.grpState (s : State) (g : Tg) : Nat := s.fld (Reg.tkGrpState g.val) 2 0

/-- KIND of the source configuration in force; 3 acts as 0 (R253). -/
def State.srcKind (s : State) (g : Tg) : Nat := let k := bits (s.group g).src 1 0; if k == 3 then 0 else k

/-- The primary and, with SEC_EN, the secondary source channel of a group with a channel source (R253). -/
def State.srcChans (s : State) (g : Tg) : Option (Ch × Option Ch) :=
  let w := (s.group g).src
  if s.srcKind g == 1 then
    let p : Ch := Fin.ofNat 16 (bits w 7 4)
    let q : Ch := Fin.ofNat 16 (bits w 11 8)
    some (p, if w.getLsbD 12 && p != q then some q else none)
  else none

/-- Whether a group names a channel as a source: TAKES of its capability message (09 Table 1). -/
def State.takes (s : State) (n : Ch) : Bool :=
  match s.srcChans (s.tgOf n) with
  | some (p, q) => p == n || q == some n
  | none => false

/-- Whether a channel's engine can measure (R241, R245, R254): valid but for a group in UNSET, and then only where that group names the channel as a source, so that a group can leave UNSET by a channel. (DEDUCED, notes/assumptions 114) -/
def State.measures (s : State) (n : Ch) : Bool :=
  (s.chan n).dsp.eff == .on && (s.chan n).cpll.gate && !s.chanFenced n && !(s.chan n).ktl.align
    && (s.grpState (s.tgOf n) != 0 || s.takes n)

/-- Whether a channel is the selected source of its group (R246, R254). -/
def State.selected (s : State) (n : Ch) : Bool :=
  match s.srcChans (s.tgOf n), s.fld (Reg.tkGrpState (s.tgOf n).val) 5 4 with
  | some (p, _), 1 => p == n
  | some (_, q), 2 => q == some n
  | _, _ => false

/-- INFO_VALID of a channel (R250). -/
def State.infoValid (s : State) (n : Ch) : Bool := s.bit (Reg.ktlStatus n) 28

/-- LOOP shown: both ends name each other as source (R252). -/
def State.showLoop (s : State) (n : Ch) : State :=
  let v := s.takes n && s.bit (Reg.ktlStatus n) 23 && s.infoValid n
  let was := s.bit (Reg.ktlStatus n) 22
  (s.setBit (Reg.ktlStatus n) 22 v).cintIf (v && !was) n .ktl 2

/-- Whether a group's state sends TIME_VALID (09 Table 3). -/
def sendsTime (st : Nat) : Bool := st == 1 || st == 3 || st == 4

/-- Whether the source that a group has selected announces HOLDOVER (R258). -/
def State.srcHolds (s : State) (g : Tg) : Bool :=
  match s.srcChans g, s.fld (Reg.tkGrpState g.val) 5 4 with
  | some (p, _), 1 => s.bit (Reg.ktlStatus p) 26
  | some (_, some q), 2 => s.bit (Reg.ktlStatus q) 26
  | _, _ => false

/-- HOLDOVER of a group's channels (R258). -/
def State.grpHolds (s : State) (g : Tg) : Bool := s.grpState g == 4 || s.srcHolds g

/-! ### Usable sources (R252, R262) -/

/-- An estimate was accepted within a time in ps. -/
def State.estWithin (s : State) (n : Ch) (t : Nat) : Bool :=
  match (s.chan n).ktl.estAt with
  | some a => s.now ≤ a + t
  | none => false

/-- HOP of the partner's capability message. -/
def State.partnerHop (s : State) (n : Ch) : Nat := s.fld (Reg.ktlPartnerInfo n) 22 16

/-- Whether a channel is usable as a source of a group (R252). -/
def State.chUsable (s : State) (g : Tg) (n : Ch) : Bool :=
  s.zUp n && s.measures n && s.tgOf n == g && s.infoValid n && s.partnerHop n ≤ 63 && !s.bit (Reg.ktlStatus n) 23
    && s.estWithin n (us (if s.rxLpi n then 68 else 4))

/-- The PPS inputs that serve as primary and, with SEC_EN, as secondary (09 Table 2). -/
def State.srcPps (s : State) (g : Tg) : Option (Fin 2 × Option (Fin 2)) :=
  let w := (s.group g).src
  if s.srcKind g == 2 then
    let p : Fin 2 := Fin.ofNat 2 (bits w 4 4)
    some (p, if w.getLsbD 12 && bits w 7 4 != bits w 11 8 then some (Fin.ofNat 2 (p.val + 1)) else none)
  else none

/-- An input usable as a source: valid, and its page not fenced (R262, 15 Table 7). -/
def State.ppsUsable (s : State) (g : Tg) (k : Fin 2) : Bool := (s.group g).pps[k].valid && !s.fenced (.dev .trig)

/-- Whether the primary and the secondary are usable. -/
def State.usable (s : State) (g : Tg) : Bool × Bool :=
  match s.srcChans g, s.srcPps g with
  | some (p, q), _ => (s.chUsable g p, (q.map (s.chUsable g)).getD false)
  | none, some (p, q) => (s.ppsUsable g p, (q.map (s.ppsUsable g)).getD false)
  | none, none => (false, false)

/-- The latest accepted estimate of a channel, or 0. -/
def State.lastTheta (s : State) (n : Ch) : Rat := ((s.chan n).ktl.thetas.head?.map (·.1)).getD 0

/-- θ of the primary and of the secondary, in ns (R259). -/
def State.thetas (s : State) (g : Tg) : Rat × Rat :=
  match s.srcChans g, s.srcPps g with
  | some (p, q), _ => (s.lastTheta p, (q.map s.lastTheta).getD 0)
  | none, some (p, q) => ((s.group g).pps[p].theta, (q.map (fun k => (s.group g).pps[k].theta)).getD 0)
  | none, none => (0, 0)

/-! ### States (R254 to R258) -/

/-- FREQ_REL of a channel brought to ν (R246): the servo's frequency in force while the channel is the selected source of its group, else the slope of its last 64 accepted offsets. (DESIGN CHOICE, notes/assumptions 119) -/
def State.showNu (s : State) (n : Ch) : State :=
  s.setReg (Reg.ktlFreqRel n) (if s.selected n then s.reg (Reg.tkGrpFreqEff (s.tgOf n).val)
    else BitVec.ofInt 32 (max (-(2 ^ 31)) (min (roundInt (slopeOf (s.chan n).ktl.thetas * 1000000000000)) (2 ^ 31 - 1))))

/-- FREQ_REL of a group's channels brought to ν. -/
def State.showNus (s : State) (g : Tg) : State := s.forCh (fun n s => if s.tgOf n == g then s.showNu n else s)

/-- The rate of a group shown in FREQ_EFF, in 10^−12, and as ν of its selected source (R246, R255). -/
def State.showRate (s : State) (g : Tg) : State :=
  (s.setReg (Reg.tkGrpFreqEff g.val) (BitVec.ofInt 32 (roundInt ((s.group g).y * 1000000000000)))).forCh
    (fun n s => if s.tgOf n == g && s.selected n then s.showNu n else s)

/-- FREQ_SET as it acts: at most ±200 ppm (R257). (DEDUCED, notes/assumptions 139) -/
def State.freqSet (s : State) (g : Tg) : Rat :=
  pico (max (-200000000) (min (s.sfld (Reg.tkGrpFreqSet g.val) 31 0) 200000000))

/-- The STATE register replaced: a change of anything but HOP is journaled by origin 0x20, and a change of STATE or SEL, or of DISC, sets its interrupt (R254, R260, R279). -/
def State.setGrp (s : State) (g : Tg) (w : Word) : State :=
  let a := Reg.tkGrpState g.val
  let old := s.reg a
  let d := old ^^^ w
  let s := if d &&& 0xF37 != 0 then s.devSet a w else s.setReg a w
  let s := s.when (d &&& 0x37 != 0) (fun s => s.intr (.dev .tk) (12 + 4 * g.val))
  s.when (d &&& 0x100 != 0) (fun s => s.intr (.dev .tk) (13 + 4 * g.val))

/-- ENGINE_VALID of a group's channels brought to what holds (R241). -/
def State.showEngines4 (s : State) (g : Tg) : State := s.forCh (fun n s => if s.tgOf n == g then s.showEngine n else s)

/-- What the entry to a state does to the servo (R257, R258). (DEDUCED, notes/assumptions 118) -/
def State.onEnter (s : State) (g : Tg) (old new : Nat) : State :=
  let s := match new with
    | 1 => s.mapGroup g (fun x => { x with y := s.freqSet g })
    | 2 => s.mapGroup g (fun x => { x with i := if old == 3 then x.i else x.y, ys := [], lockRun := 0, fresh := true, fromUnset := old == 0 })
    | 4 => (s.mapGroup g (fun x => { x with y := if x.ys.isEmpty then x.y else meanR x.ys, holdFrom := s.now })).setReg
        (Reg.tkGrpHoldTime g.val) 0
    | _ => s
  s.showRate g

/-- HOP and ROOT_ID of a group that has a state and a selection (R251): 127 in UNSET, 0 as a root, the partner's with a channel, kept in HOLDOVER. -/
def State.groupHop (s : State) (g : Tg) (st sel : Nat) : Nat × BitVec 14 :=
  let id := BitVec.ofNat 14 (s.fld (Reg.tkGrpDevId g.val) 13 0)
  let keep := (s.fld (Reg.tkGrpState g.val) 22 16, (s.group g).root)
  if st == 0 then (127, id)
  else if st == 4 then keep
  else match s.srcChans g with
    | none => (0, id)
    | some (p, q) =>
      match (if sel == 1 then some p else if sel == 2 then q else none) with
      | some n => (min (s.partnerHop n + 1) 127, BitVec.ofNat 14 (s.fld (Reg.ktlPartnerRoot n) 13 0))
      | none => if st == 1 then (0, id) else keep

/-- Whether PPS_OUT may be high: enabled, its group sends TIME_VALID or FREE_OK, no safe state, no fence (R263). -/
def State.ppsOn (s : State) : Bool :=
  let g : Tg := Fin.ofNat 4 (s.fld Reg.trigPpsOutCtrl 5 4)
  s.bit Reg.trigPpsOutCtrl 0 && (sendsTime (s.grpState g) || s.bit Reg.trigPpsOutCtrl 1) && !s.safeState && !s.fenced (.dev .trig)

/-- An output that may not be high is low, and produces no pulses (R263, 09 Table 10). (DESIGN CHOICE, notes/assumptions 121) -/
def State.showPpsOut (s : State) : State :=
  if s.ppsOn then s else { s with trig := { s.trig with ppsHigh := false } }.setBit Reg.trigPpsStatus 2 false

/-- A group in a state with a selection: entered where it is new, and shown. Each change of the selection counts (R260). (DEDUCED, notes/assumptions 117) -/
def State.enterGrp (s : State) (g : Tg) (st sel : Nat) : State :=
  let a := Reg.tkGrpState g.val
  let old := s.grpState g
  let was := s.fld a 5 4
  let s := if old == st then s else s.onEnter g old st
  let s := s.when (was != sel) (fun s => s.sat (Reg.tkGrpCounts g.val) 19 8 1)
  let hr := s.groupHop g st sel
  let s := s.mapGroup g (fun x => { x with root := hr.2 })
  let s := s.setGrp g (withBits (withBits (withBits (s.reg a) 22 16 hr.1) 5 4 sel) 2 0 st)
  let s := match s.srcChans g, sel with
    | some (p, _), 1 => { s with cmt := { s.cmt with lastSrc := s.cmt.lastSrc.set g (some p) } }
    | some (_, some q), 2 => { s with cmt := { s.cmt with lastSrc := s.cmt.lastSrc.set g (some q) } }
    | none, _ => if sel == 0 then s else { s with cmt := { s.cmt with lastSrc := s.cmt.lastSrc.set g none } }
    | _, _ => s
  let s := (s.when (was != sel) (fun s => s.showNus g)).showPpsOut
  if old == 0 && st != 0 then s.showEngines4 g else s

/-- Whether a source of a group announces HOLDOVER (R260). -/
def State.announces (s : State) (g : Tg) (second : Bool) : Bool :=
  match s.srcChans g with
  | some (p, q) => if second then (q.map (fun n => s.bit (Reg.ktlStatus n) 26)).getD false else s.bit (Reg.ktlStatus p) 26
  | none => false

/-- The selection of R260: a suspect source is not selected; the secondary stays while REVERT = 0; a source in HOLDOVER is passed over for one that is not. (DEDUCED, notes/assumptions 117) -/
def State.choose (s : State) (g : Tg) : Nat :=
  let a := Reg.tkGrpState g.val
  let u := s.usable g
  let p := u.1 && !s.bit a 10
  let q := u.2 && !s.bit a 11
  if p && q then
    let hp := s.announces g false
    let hq := s.announces g true
    if hp != hq then (if hp then 2 else 1)
    else if s.fld a 5 4 == 2 && !((s.group g).src.getLsbD 13) then 2 else 1
  else if p then 1 else if q then 2 else 0

/-- A discrepancy cleared: DISC, DISC_BOTH and SUSPECT 0 (R260). (DEDUCED, notes/assumptions 116) -/
def State.clearDisc (s : State) (g : Tg) : State :=
  (s.setGrp g (withBits (s.reg (Reg.tkGrpState g.val)) 11 8 0)).mapGroup g (fun x => { x with agree := 0 })

/-- Selection and state of a group brought to what its sources allow (R254, R258, R260), and SRC_STATUS. A discrepancy of a configuration that no longer names two sources clears at once. (DEDUCED, notes/assumptions 114; DESIGN CHOICE, notes/assumptions 160) -/
def State.settleGroup (s : State) (g : Tg) : State :=
  let u := s.usable g
  let s := s.setFld (Reg.tkGrpSrcStatus g.val) 1 0 (b2n u.2 * 2 + b2n u.1)
  let two := match s.srcChans g, s.srcPps g with
    | some (_, some _), _ => true
    | _, some (_, some _) => true
    | _, _ => false
  let s := if !two && s.bit (Reg.tkGrpState g.val) 8 then s.clearDisc g else s
  let st := s.grpState g
  if s.srcKind g == 0 then
    if st == 0 then (if s.bit (Reg.tkGrpTstat g.val) 0 then s.enterGrp g 1 0 else s) else s.enterGrp g 1 0
  else
    let sel := s.choose g
    if sel != 0 then s.enterGrp g (if st == 0 || st == 1 || st == 4 then 2 else st) sel
    else if st == 2 || st == 3 then s.enterGrp g 4 0
    else s.enterGrp g st 0

/-! ### Steps of a timescale (R256, R314, R315) -/

/-- Nearest whole ns with halves away from zero, held at ±(2^31 − 1) (R256). -/
def stepNs (d : Rat) : Int :=
  let m := (absR d + 1 / 2).floor
  max (-(2 ^ 31 - 1)) (min (if d < 0 then -m else m) (2 ^ 31 - 1))

/-- The timescale of a group stepped by d ns: LAST_STEP written by origin 0x20 and the step counted; the records of its channels, inputs and pins, which are group times, move with it, and its grids of updates and ticks go on from the new time. (DESIGN CHOICE, notes/assumptions 115) -/
def State.stepTime (s : State) (g : Tg) (d : Rat) : State :=
  let s := s.mapGroup g (fun x => { x with ts := x.ts + d, updAt := x.ts + d, tickAt := x.ts + d, pps := x.pps.map (fun p => { p with raw := p.raw + d, last := p.last.map (· + d) }) })
  let s := s.forCh (fun n s => if s.tgOf n == g then s.mapKtl n (fun k => { k with
    marks := k.marks.map (· + d)
    arrivals := k.arrivals.map (· + d)
    thetas := k.thetas.map (fun x => (x.1 + d, x.2 + d))
    window := k.window.map (· + d) }) else s)
  let s := s.forCh (fun k s => if s.pinGroup k == g then s.shiftPin k (roundInt (d * 65536)) else s)
  let s := s.devSet (Reg.tkGrpLastStep g.val) (BitVec.ofInt 32 (stepNs d))
  s.fldInt (Reg.tkGrpCounts g.val) 7 0 (.dev .tk) (15 + 4 * g.val)

end Sys2Proof.Machine
end

