-- ==== Sys2Proof/Machine/Lock.lean ====
section
/-! DEFINITION. Advisory page locks (R38 to R40). -/

namespace Sys2Proof.Machine

/-- The LOCK contents of a page now: the stored bits with the lease's remaining time in ms, rounded up (02 Table 15). -/
def State.lockWord (s : State) (p : Page) : Word :=
  let w := s.reg (hdr p hLock)
  if w.getLsbD 31 then
    withBits w 13 0 ((Store.get (fun _ => 0) s.leases (pageBase p) - s.now + (ms 1 - 1)) / ms 1)
  else withBits w 13 0 0

/-- Whether a lease is live (R38). -/
def State.lockHeld (s : State) (p : Page) : Bool := s.bit (hdr p hLock) 31

/-- The holder's origin code. -/
def State.lockHolder (s : State) (p : Page) : Nat := s.fld (hdr p hLock) 23 16

/-- The state with a page's lease deadline set; 0 for none. (DESIGN CHOICE, notes/assumptions 11) -/
def State.setLease (s : State) (p : Page) (t : Nat) : State :=
  { s with leases := Store.put (fun _ => 0) s.leases (pageBase p) t }

/-- The LOCK contents after the lock has gone: HELD, HOLDER and LEASE_MS 0. -/
def lockGone (w : Word) : Word := w &&& 0x60000000

/-- The state after the lock of a page has gone, without a journal entry. -/
def State.lockClear (s : State) (p : Page) : State :=
  (s.setReg (hdr p hLock) (lockGone (s.reg (hdr p hLock)))).setLease p 0

/-- BROKEN and LOCK_EVT of a page set (R40). (DEDUCED, notes/assumptions 25) -/
def State.lockBroken (s : State) (p : Page) : State := (s.setBit (hdr p hLock) 29 true).intr p intLock

/-- The device breaks the lock of a held page (R40): an entry with LOCK_BROKEN, then BROKEN and LOCK_EVT. (DEDUCED, notes/assumptions 25) -/
def State.breakLock (s : State) (p : Page) : State :=
  if s.lockHeld p then
    let old := s.lockWord p
    ((s.lockClear p).jAppend (originCode .device) fBroken (hdr p hLock) old (lockGone old)).lockBroken p
  else s

/-- The device breaks every lock that an origin holds, in ascending page address order (R40). -/
def State.breakLocksOf (s : State) (o : Origin) : State :=
  allPages.foldl (fun s p => if s.lockHeld p && s.lockHolder p == originCode o then s.breakLock p else s) s

end Sys2Proof.Machine
end

