-- ==== Sys2Proof/Machine/Link.lean ====
section
/-! DEFINITION. Links: dropping, negotiating, training and coming up (R177 to R194), and what pending changes do when a link goes down. -/

namespace Sys2Proof.Machine

/-! ### OAM queue (R100) -/

/-- Type code of an OAM message. -/
def oamType (m : BitVec 128) : Nat := (m >>> 120).toNat

/-- A message put in the channel's queue, behind those that became ready before it. -/
def State.oamPush (s : State) (n : Ch) (m : BitVec 128) : State :=
  s.mapChan n (fun c => { c with line := { c.line with oamQ := c.line.oamQ ++ [m] } })

/-! ### Adaptation freezes (R160, R161) -/

/-- A quiet interval of a standard mode's LPI in either direction (R161). -/
def State.stdQuiet (s : State) (n : Ch) : Bool := s.stdUp n && (s.rxLpi n || s.txLpi n)

/-- The orbits received now are QUIET (R161). -/
def State.rxQuiet (s : State) (n : Ch) : Bool := s.rxLpi n && (s.chan n).line.rxTy == some .quiet

/-- The received orbit is ECLIPSE, REFRESH or QUIET (R161). -/
def State.rxPauses (s : State) (n : Ch) : Bool := (s.zUp n && s.rxLpi n) || 0 < (s.chan n).ecl.rxIn

/-- The loops that do not update now, a bit each as in ADAPT_CTRL: echo head, echo tail, FFE, DFE, slice correction; by the freezes of Table 6 and the training phases of Table 5 (R160, R161). -/
def State.frozen (s : State) (n : Ch) : Nat :=
  let any := 0 < (s.chan n).rx.freeze || (s.zUp n && !s.orbitLock n) || s.rxPauses n || s.stdQuiet n
  let ph := if isZ (s.lineMode n) && !s.linkUp n then s.phase n else 0
  (if any then 0xF else 0) ||| (if s.rxQuiet n || s.stdQuiet n then 0x10 else 0)
    ||| (if ph == 1 then 0xC else if ph == 2 then 8 else 0) ||| s.fld (Reg.eqAdaptCtrl n) 4 0

/-- Whether tracking steps are in use (R160): in a Z mode from phase 4 on, in a standard mode once the clause's local receiver status is OK. -/
def State.tracks (s : State) (n : Ch) : Bool := if isZ (s.lineMode n) then decide (4 ≤ s.phase n) else (s.chan n).rx.rcvOk

/-- Pilot-tracking mode is in force. -/
def State.pilotMode (s : State) (n : Ch) : Bool := s.bit (Reg.eqTrStatus n) 30

/-- The phase only advances at the last frequency: in QUIET, in tolerance mode in any orbit of an eclipse or of LPI, in a standard mode's quiet intervals (R161), and in phase 1 (R160). -/
def State.coasts (s : State) (n : Ch) : Bool :=
  s.stdQuiet n || s.rxQuiet n || (!s.pilotMode n && s.rxPauses n) || (isZ (s.lineMode n) && !s.linkUp n && s.phase n == 1)

/-- What the receive loops follow now. -/
def State.rxView (s : State) (n : Ch) : RxView :=
  let z := isZ (s.lineMode n)
  let c := s.chan n
  { up := s.linkUp n
    phase := s.phase n
    ty := if 0 < c.ecl.rxIn then some .eclipse else c.line.rxTy
    frozen := s.frozen n
    trkEq := s.tracks n
    trkEc := if z then decide (3 ≤ s.phase n) || s.linkUp n else s.tracks n
    pilot := s.pilotMode n
    acquires := z && ((!s.linkUp n && s.phase n == 2) || (s.zUp n && !s.orbitLock n))
    coasts := s.coasts n
    sends := c.line.p1 }

/-- The instant that ends enters a channel's record where its loops follow something new from now on. -/
def State.noteRx (s : State) (n : Ch) : State :=
  let v := s.rxView n
  if (s.chan n).rx.views.head?.any (fun x => x.2 == v) then s
  else s.mapChan n (fun c => { c with rx := { c.rx with views := (s.now, v) :: c.rx.views } })

/-- ADAPT_STATUS brought to what holds (06 Table 12). -/
def State.showAdapt (s : State) (n : Ch) : State :=
  let c := s.chan n
  s.setReg (Reg.eqAdaptStatus n) (BitVec.ofNat 32 (b2n (s.tracks n) * 2 ^ 20 + b2n (s.zUp n && !s.orbitLock n) * 2 ^ 19
    + b2n (decide (0 < c.rx.freeze)) * 2 ^ 18 + b2n (s.rxLpi n || s.stdQuiet n) * 2 ^ 17
    + b2n (decide (0 < c.ecl.rxIn) || (s.zUp n && c.line.rxTy == some .refresh)) * 2 ^ 16 + s.frozen n))

/-! ### Fields of LINE_STATUS and TRN_STATUS -/

/-- ORBIT_LOCK set, with its interrupt on a change (R108). (DEDUCED, notes/assumptions 93) -/
def State.setOrbitLock (s : State) (n : Ch) (b : Bool) : State :=
  s.when (b != s.orbitLock n) (fun s => ((s.setBit (Reg.pcsLineStatus n) 8 b).cint n .pcs 4).showAdapt n)

/-- Mode, codes and version shown in LINE_STATUS, journaled (R41), with the interrupt MODE on a change (R108). (DEDUCED, notes/assumptions 89) -/
def State.setLine (s : State) (n : Ch) (mode ver rx tx : Nat) : State :=
  let a := Reg.pcsLineStatus n
  let w := withBits (withBits (withBits (withBits (s.reg a) 3 0 mode) 23 20 ver) 19 18 rx) 17 16 tx
  let s := s.when (w != s.reg a) (fun s => (s.devSet a w).cint n .pcs 3)
  s.setFld (Reg.ktlStatus n) 19 16 ver

/-- LINK_UP set, with its interrupt on a change (R218). -/
def State.setLinkUp (s : State) (n : Ch) (b : Bool) : State :=
  s.when (b != s.linkUp n) (fun s => ((s.setBit (Reg.anTrnStatus n) 31 b).cint n .an 0).showAdapt n)

/-- Whether noise can be measured (R170): LISTEN with the link down; on a Z link QUIET orbits in both directions; on a standard link quiet intervals in both. -/
def State.nfMay (s : State) (n : Ch) : Bool :=
  (s.chan n).afe.eff == .on && (s.chan n).dsp.eff == .on && !s.chanFenced n
    && ((!s.linkUp n && s.bit (Reg.eqNfCtrl n) 0) || (s.linkUp n && s.rxLpi n && s.txLpi n
      && (!isZ (s.lineMode n) || ((s.chan n).line.rxTy == some .quiet && (s.chan n).line.lastTx.any (fun o => o.ty == some .quiet)))))

/-- NF_STATUS.RUNNING: blocks are collected while noise can be measured (06 Table 12). -/
def State.showNf (s : State) (n : Ch) : State := s.setBit (Reg.eqNfStatus n) 30 (s.nfMay n)

/-- LPI of either direction set, with its interrupt on a change and the count of transmit entries (07 Table 11); a transmitter that leaves it owes a capability message (R250). -/
def State.setLpi (s : State) (n : Ch) (tx : Bool) (b : Bool) : State :=
  let i := if tx then 1 else 0
  s.when (b != s.bit (Reg.anLpiStatus n) i) (fun s =>
    let s := s.when (tx && b) (fun s => s.wrap (Reg.anLpiStatus n) 31 16 1)
    let s := s.when (tx && !b) (fun s => s.mapKtl n (fun k => { k with capSent := none }))
    (((s.setBit (Reg.anLpiStatus n) i b).cint n .an 5).showNf n).showAdapt n)

/-- The frames that lie, whole or in part, in a run of blocks. -/
def framesIn (l : List Blk) : Nat :=
  let open' := l.foldl (fun (o : Bool) b => if isStart b then true else if (termBytes b).isSome then false else o || !b.ctrl) false
  (l.filter (fun b => (termBytes b).isSome)).length + b2n open'

/-- The host lane's LF_TX: Local Fault while the link is down, HL ON and HPLL locked (R193, R344). -/
def State.showLf (s : State) (n : Ch) : State :=
  s.setBit (Reg.hlStatus n) 1 ((!s.linkUp n || s.safeState) && (s.chan n).hl.eff == .on && (s.chan n).hpll.gate)

/-- PARTNER_OK of a channel: pair active, partner present with its link up (07 Table 13); a lost partner stops forwarding until it is back (R213). -/
def State.showPartner (s : State) (n : Ch) : State :=
  let o := partnerCh n
  let v := s.rlyActive n && !s.chanGone o && s.linkUp o
  let s := s.when (s.rlyActive n && s.chanGone o) (fun s => s.mapChan n (fun c => { c with buf := { c.buf with lost := true } }))
  s.when (v != s.bit (Reg.rlyStatus n) 2) (fun s => (s.setBit (Reg.rlyStatus n) 2 v).cint n .rly 0)

/-! ### Pending changes (R138, R156, R163, R122, R386) -/

/-- The largest f below 2^b + start whose k-th power times den is at most num. -/
def rootBits (k num den : Nat) : Nat → Nat → Nat
  | 0, f => f
  | b + 1, f => rootBits k num den b (if (f + 2 ^ b) ^ k * den ≤ num then f + 2 ^ b else f)

/-- A tap multiplied by 10^(k/40), k half-decibel steps of gain (R139): its magnitude is exact to the whole unit below, and the step to the unit above is the device's rounding, which is not stated. (DESIGN CHOICE, notes/assumptions 19) -/
def scaledTap (k c : Int) : Int :=
  let num := c.natAbs ^ 40 * (if 0 ≤ k then 10 ^ k.toNat else 1)
  let den := if 0 ≤ k then 1 else 10 ^ (-k).toNat
  let f := rootBits 40 num den 24 0
  let m := if f ^ 40 * den == num then f else f + b2n (Config.tapUp k c)
  if c < 0 then -(m : Int) else m

/-- LOW_SIGNAL brought to what RX_PWR and the gain in force say: more than 9.0 dB below the target of −4.0 dBm; 0 without a valid RX_PWR (R143). -/
def State.showLow (s : State) (n : Ch) : State :=
  let v := s.bit (Reg.afeRxPower n) 31 && decide (s.sfld (Reg.afeRxPower n) 11 0 + 5 * s.gain2 n < -130)
  s.when (v != s.bit (Reg.afeGainStatus n) 30) (fun s => (s.setBit (Reg.afeGainStatus n) 30 v).cint n .afe 1)

/-- A coefficient as its register shows it, in whole units, held at the ends of 16 bits, and what lies below the unit. (DESIGN CHOICE, notes/assumptions 99) -/
def splitCoef (v : Rat) : Int × Rat := let i := clampS 16 v.floor; (i, if i == v.floor then v - i else 0)

/-- An exact coefficient multiplied by 10^(k/40), to 2^−16 of its unit (R139). (DESIGN CHOICE, notes/assumptions 19) -/
def scaledCoef (k : Int) (v : Rat) : Rat := if v = 0 then 0 else (scaledTap k (v * 65536).floor : Rat) / 65536

/-- What the exact coefficient with this key holds below the unit of its register: echo taps from key 0, FFE taps from 4,096, DFE taps from 8,192. -/
def State.coefFrac (s : State) (n : Ch) (k : Nat) : Rat := Store.get (fun _ => 0) (s.chan n).rx.frac k

/-- Gain in force becomes what RX_GAIN holds: taps scaled, what they hold below their unit too, PEND cleared, delays shown (R138 to R140). (DESIGN CHOICE, notes/assumptions 19) -/
def State.applyGain (s : State) (n : Ch) : State :=
  let code := min (s.fld (Reg.afeRxGain n) 5 0) 48
  let pad := s.fld (Reg.afeRxGain n) 8 8
  let dg : Int := ((code : Int) - 12 * pad) - s.gain2 n
  let st := withBits (withBits (withBits (s.reg (Reg.afeGainStatus n)) 5 0 code) 8 8 pad) 29 29 0
  let s := s.setReg (Reg.afeGainStatus n) st
  let r := (s.chan n).rx
  let keys := r.ec.map (·.1) ++ (r.frac.map (·.1)).filter (· < 4096)
  let h : List (Nat × Int × Rat) := keys.map (fun k => (k, splitCoef (scaledCoef dg ((Store.get (fun _ => (0 : Int)) r.ec k : Int) + s.coefFrac n k))))
  let c : List (Nat × Int × Rat) := (List.range 48).map (fun k => (k, splitCoef (scaledCoef (-dg) (s.sfld (Reg.eqFfeTap n k) 15 0 + s.coefFrac n (4096 + k)))))
  let s := s.mapChan n (fun ch => { ch with rx := { r with
    ec := Store.putAll (fun _ => 0) [] (h.map (fun t => (t.1, t.2.1)))
    frac := Store.putAll (fun _ => 0) (r.frac.filter (fun t => 8192 ≤ t.1)) (h.map (fun t => (t.1, t.2.2)) ++ c.map (fun t => (4096 + t.1, t.2.2))) } })
  let s := c.foldl (fun s t => s.setFld (Reg.eqFfeTap n t.1) 15 0 (twos 16 t.2.1)) s
  ((s.cint n .afe 2).showLow n).showLatency n

/-- TAPS as it acts: 5 to 7 act as 4 (07 Table 12 of spec 06). -/
def State.dfeTaps (s : State) (n : Ch) : Nat := min (s.fld (Reg.eqDfeCtrl n) 2 0) 4

/-- TAPS takes effect; DFE taps removed by the change are set to 0 (R156). -/
def State.applyTaps (s : State) (n : Ch) : State :=
  let t := s.dfeTaps n
  let s := (List.range 4).foldl (fun s k => if t ≤ k then s.setFld (Reg.eqDfeTap n k) 11 0 0 else s) s
  s.mapChan n (fun c => { c with rx := { c.rx with dfeWait := false, taps := t, frac := c.rx.frac.filter (fun x => x.1 < 8192 + t) } })

/-- The timing mode in force becomes MODE in a Z mode, tolerance in a standard mode (R163). -/
def State.applyTiming (s : State) (n : Ch) : State :=
  let pend := s.bit (Reg.eqTrStatus n) 29
  let m := isZ (s.lineMode n) && s.bit (Reg.eqTrCtrl n) 0
  ((s.setBit (Reg.eqTrStatus n) 30 m).setBit (Reg.eqTrStatus n) 29 false).cintIf pend n .eq 4

/-- ITER_MAX as it acts: 0 acts as 1, values above 16 as 16 (05 Table 11). -/
def iterActs (v : Nat) : Nat := max 1 (min v 16)

/-- ITER_MAX takes effect, with the latencies (R122). -/
def State.applyIter (s : State) (n : Ch) : State :=
  let pend := s.bit (Reg.fecStatus n) 4
  let st := withBits (withBits (s.reg (Reg.fecStatus n)) 12 8 (iterActs (s.fld (Reg.fecCtrl n) 4 0))) 4 4 0
  let s := (s.devShow (Reg.fecStatus n) st).mapChan n (fun c => { c with fec := { c.fec with iterArm := false } })
  (s.showLatency n).cintIf pend n .fec 6

/-- Every change that waits for an eclipse, but for trims, takes effect as on a link that is down; the timing mode waits for the next training (R193). (DEDUCED, notes/assumptions 100) -/
def State.applyPendingDown (s : State) (n : Ch) : State :=
  let s := s.when (s.bit (Reg.afeGainStatus n) 29) (fun s => s.applyGain n)
  let s := s.when (s.bit (Reg.fecStatus n) 4) (fun s => s.applyIter n)
  s.when (s.chan n).rx.dfeWait (fun s => s.applyTaps n)

/-! ### Eclipse requests (R199) -/

/-- Pending reasons at this end, 07 Table 8: gain, trim or element, iterations, DFE taps, timing mode. No job type of 02 Table 22 names a step that needs an eclipse, so bit 5 stays 0. (DEDUCED, notes/assumptions 83) -/
def State.eclReasons (s : State) (n : Ch) : Nat :=
  let c := s.chan n
  bitList [s.bit (Reg.afeGainStatus n) 29,
    c.trim.rxDue || c.trim.txDue || c.trim.held.isSome || !c.rx.sliceSwap.isEmpty || !c.rx.segSwap.isEmpty,
    s.bit (Reg.fecStatus n) 4, c.rx.dfeWait, s.bit (Reg.eqTrStatus n) 29]

/-- The leader's orbit index as this end knows it: its own next one at the leader, the received one at the follower. -/
def State.leadIdx (s : State) (n : Ch) : Word := if s.leader n then (s.chan n).line.txNext else (s.chan n).line.rxIdx

/-- ECL_STATUS.PEND and REASONS brought to what waits on a Z-mode link that is up; the request ages from its first reason, and STALE ends with it (R199, R205). -/
def State.showEcl (s : State) (n : Ch) : State :=
  let r := if s.zUp n then s.eclReasons n else 0
  let a := Reg.anEclStatus n
  let w := withBits (withBits (s.reg a) 7 0 r) 31 31 (b2n (r != 0))
  let s := s.setReg a (if r == 0 then withBits w 30 30 0 else w)
  let i := s.leadIdx n
  s.mapChan n (fun c => { c with ecl := { c.ecl with
    since := if r == 0 then none else some (c.ecl.since.getD s.now)
    waitFrom := if r == 0 && !c.ecl.partner then none else some (c.ecl.waitFrom.getD i) } })

/-- Single-engine operation and engine clock (R126, R127, R134): SINGLE and ENG_FAST, with the interrupt on a change, and the engine that works. -/
def State.setSingle (s : State) (n : Ch) (b : Bool) : State :=
  let s := s.when (b != s.bit (Reg.fecStatus n) 2) (fun s => s.cint n .fec 5)
  (s.devShow (Reg.fecStatus n) (withBits (s.reg (Reg.fecStatus n)) 3 2 (b2n (b && s.rxDir n == .z25) * 2 + b2n b))).mapChan n (fun c => { c with fec := { c.fec with startAt := false, endAt := false } })

/-! ### Dropping a link (R193) -/

/-- The eclipse buffer flushed: its blocks leave, its frames count in EBUF_FLUSH (R193). -/
def State.flushEbuf (s : State) (n : Ch) : State :=
  let l := (s.chan n).buf.ebuf
  let s := (s.wide (Reg.anEbufOutLo n) (Reg.anEbufOutHi n) 32 l.length).sat32 (Reg.anEbufFlush n) (framesIn l)
  (s.setFld (Reg.anEbufOcc n) 10 0 0).mapChan n (fun c => { c with buf := { c.buf with ebuf := [] } })

/-- The mailbox's request has failed (R73). -/
def State.mailFailed (s : State) : State :=
  ({ s with host := { s.host with mail := none } }.setFld Reg.hostRmtStatus 31 30 3).intr (.dev .host) 2

/-- Remote requests not yet executed and replies not yet sent are discarded and counted; a mailbox request on the channel fails and the channel's remote locks break (R40, R72, R73). (DEDUCED, notes/assumptions 57 and 72 and 74) -/
def State.dropRemote (s : State) (n : Ch) : State :=
  let c := s.chan n
  let k := c.remQ.length + (c.line.oamQ.filter (fun m => oamType m == 2)).length
  let s := s.sat32 Reg.hostRmtDiscard k
  let s := { s with heldWrites := s.heldWrites.filter (fun w => w.origin != Origin.remote n) }
  let s := s.mapChan n (fun c => { c with remQ := [], line := { c.line with oamQ := c.line.oamQ.filter (fun m => oamType m != 2) } })
  let s := match s.host.mail with | some (m, _) => if m == n then s.mailFailed else s | none => s
  s.breakLocksOf (.remote n)

/-- A message whose slot had not completed is discarded and counted (R101); an announcement that has not gone out is cancelled with its eclipse (R193). (DEDUCED, notes/assumptions 167) -/
def State.dropOam (s : State) (n : Ch) : State :=
  let part := !(s.chan n).line.oamIn.isEmpty
  let s := s.when part (fun s => s.satInt (Reg.pcsOamDrop n) 1 (.chan n .pcs) 2)
  s.mapChan n (fun c => { c with line := { c.line with oamIn := [], oamNow := 0, oamQ := c.line.oamQ.filter (fun m => oamType m != 4) } })

/-- The partner's capability message stays current for 5 ms after its direction leaves LPI (R250). -/
def State.capGrace (s : State) (n : Ch) : State :=
  s.when (s.rxLpi n) (fun s => s.mapChan n (fun c => { c with ktl := { c.ktl with capBy := s.now + ms 5 } }))

/-- RM_OCC and RM_QUEUED brought to the FIFO's contents: a frame that is still arriving counts (R209). -/
def State.showRm (s : State) (n : Ch) : State :=
  let b := (s.chan n).buf
  (s.setFld (Reg.hlRmOcc n) 12 0 b.rm.length).setFld (Reg.hlRmQueued n) 15 0
    ((b.rm.filter (fun x => (termBytes x).isSome)).length + b2n (b.hostIn == some true))

/-- The rate-matching FIFO without the frames that a link that goes down cuts, and how many those are: the rest of a frame whose start has been taken from it, and a frame that is still arriving. -/
def cutRm (b : BufSt) : List Blk × Nat :=
  let rest := if b.cut then (match b.rm.findIdx? (fun x => (termBytes x).isSome) with | some i => b.rm.drop (i + 1) | none => []) else b.rm
  let part := b.hostIn == some true
  let same := b.cut && part && !(b.rm.any (fun x => (termBytes x).isSome))
  (if part then ((rest.reverse.dropWhile (fun x => !isStart x)).drop 1).reverse else rest, if same then 1 else b2n b.cut + b2n part)

/-- Frames counted in RM_DROP (R209). -/
def State.rmDrops (s : State) (n : Ch) (k : Nat) : State :=
  s.when (decide (0 < k)) (fun s => (s.wide (Reg.hlRmDropLo n) (Reg.hlRmDropHi n) 16 k).cint n .hl 0)

/-- Frames from the host lane that have not left for the line are discarded: what cutRm removes counts as dropped (R193, R209, R235). -/
def State.cutHost (s : State) (n : Ch) : State :=
  let x := cutRm (s.chan n).buf
  let s := s.mapChan n (fun c => { c with
    buf := { c.buf with rm := x.1, cut := false, hostIn := if c.buf.hostIn == some true then some false else c.buf.hostIn, lpiFrom := none } })
  (s.rmDrops n x.2).showRm n

/-- Frames between host lane and line that a link that goes down cuts: those of the host lane, and what waits in the partner's relay FIFO of an active pair, which counts there (R193, R212). (DEDUCED, notes/assumptions 92) -/
def State.cutFrames (s : State) (n : Ch) : State :=
  let s := (s.cutHost n).mapChan n (fun c => { c with line := { c.line with txFrame := [], rxFrame := [] } })
  if s.rlyActive n then
    let o := partnerCh n
    let l := (s.chan o).buf.rly
    let s := (s.sat32 (Reg.rlyDiscard o) (framesIn l)).mapChan o (fun c => { c with buf := { c.buf with rly := [] } })
    s.setFld (Reg.rlyFifoOcc o) 11 0 0
  else s

/-- What a channel forgets of a link that goes down: an announced or running eclipse, runs of codewords, words and marks, the orbits sent and received, freezes (R193, R223). -/
def Chan.linkGone (c : Chan) : Chan :=
  { c with
    ecl := { c.ecl with ann := none, txLeft := 0, rxIn := 0, expect := none, asked := false, partner := false, last := none, stray := false, waitFrom := none }
    fec := { c.fec with uncRun := 0, orbUnc := 0 }
    link := { c.link with sends := false, got := false, markRun := 0, readyRun := 0, tswRun := 0, wakeLeft := 0 }
    line := { c.line with txTy := none, txNext := 0, rxTy := none }
    rx := { c.rx with freeze := 0, rcvOk := false }
    diag := { c.diag with skipped := true } }

/-- A channel is no group's last source any more (R284). -/
def State.noSource (s : State) (n : Ch) : State :=
  s.mapCmt (fun m => { m with lastSrc := m.lastSrc.map (fun (c : Option Ch) => c.filter (· != n)) })

/-- What ends with a link: LINK_UP, mode and orbit lock, buffers, OAM, remote requests, LPI; a group's last source is the channel no more (R193, R284). -/
def State.linkEnds (s : State) (n : Ch) : State :=
  let s := s.setLinkUp n false
  let s := ((s.setLine n 0 0 0 0).setOrbitLock n false).noSource n
  let s := ((s.cutFrames n).flushEbuf n).dropOam n
  let s := (s.dropRemote n).capGrace n
  (s.setLpi n true false).setLpi n false false

/-- Everything a link leaves when it goes down (R193, R223): pending changes take effect, level and delay registers show a link that is down, and a group that it steered acts on the loss (R254, R260). (DEDUCED, notes/assumptions 57 and 89 and 92 and 97) -/
def State.linkDown (s : State) (n : Ch) : State :=
  let s := ((s.linkEnds n).setBit (Reg.anEclStatus n) 29 false).mapChan n Chan.linkGone
  let s := (s.applyPendingDown n).showAdapt n
  let s := ((s.setBit (Reg.afeRxPower n) 31 false).setBit (Reg.afeGainStatus n) 31 false).showLow n
  let s := (s.setBit (Reg.diagMapStatus n) 31 false).setFld (Reg.diagChi n) 31 30 0
  let s := (s.showLatencies n).showEcl n
  let s := ((s.showLf n).showPartner (partnerCh n)).showEngine n
  s.when (s.takes n) (fun s => s.settleGroup (s.tgOf n))

/-- A live link drops; a link that is down stays as it is. -/
def State.dropLink (s : State) (n : Ch) : State := if s.linkUp n then s.linkDown n else s

/-! ### Advertising (R180) -/

/-- Rate in Mb/s that a host-lane mode carries, 07 Table 9. -/
def hlRate : Nat → Nat
  | 0x1 | 0x2 => 1000
  | 0x3 => 2500
  | 0x4 => 5000
  | 0x5 | 0x6 => 10000
  | 0x7 | 0x8 => 25000
  | 0x9 | 0xA => 50000
  | _ => 0

/-- Receive MAC rate in Mb/s of the mode behind bit i of ADV.MODES (07 Table 11; 04 Table 2). -/
def modeRate : Nat → Nat
  | 8 => 50000 | 7 => 25000 | 6 => 1000 | 5 => 50000 | 4 => 10000 | 3 => 5000 | 2 => 2500 | 1 => 1000 | _ => 100

/-- Fences of engine A, engine B and the encoder; a fence of the FEC page acts as all three (R127). -/
def State.engFenced (s : State) (n : Ch) (b : Bool) : Bool :=
  s.bit (Reg.fecUnitFence n) (if b then 1 else 0) || s.ownFence (.chan n .fec)
/-- As engFenced, for the encoder. -/
def State.encFenced (s : State) (n : Ch) : Bool := s.bit (Reg.fecUnitFence n) 2 || s.ownFence (.chan n .fec)

/-- Whether single-engine operation is due: exactly one engine fenced, received direction Z25 or A1 reverse (05 Table 7). (DEDUCED, notes/assumptions 94) -/
def State.singleDue (s : State) (n : Ch) : Bool :=
  isZ (s.lineMode n) && s.rxDir n != .z50 && (s.engFenced n false != s.engFenced n true)

/-- Whether the units' fences end the Z mode of a channel: the encoder, both engines, or one engine with Z50 received (05 Table 7). (DEDUCED, notes/assumptions 94) -/
def State.fencesForbid (s : State) (n : Ch) : Bool :=
  let a := s.engFenced n false
  let b := s.engFenced n true
  isZ (s.lineMode n) && (s.encFenced n || (a && b) || ((a || b) && s.rxDir n == .z50))

/-- Engines of a channel whose mode or training begins: those that are fenced are out of service, and in Z25 or A1 reverse reception with one fenced the other works alone (R127, R128). (DEDUCED, notes/assumptions 94) -/
def State.settleEngines (s : State) (n : Ch) : State :=
  let a := s.engFenced n false
  let b := s.engFenced n true
  (s.setSingle n (s.singleDue n)).mapChan n (fun c => { c with fec := { c.fec with outA := a, outB := b, solo := a } })

/-- Whether the units' fences leave the mode of bit i: with one engine fenced in Z operation Z25 and A1_FWD stay; a fenced FEC page leaves 100BASE-T1 only (R127, R180, R417). -/
def State.fenceLeaves (s : State) (n : Ch) (i : Nat) : Bool :=
  if s.ownFence (.chan n .fec) then i == 0
  else if i < 5 then true
  else
    let a := s.engFenced n false
    let b := s.engFenced n true
    if s.encFenced n || (a && b) then false
    else if a || b then isZ (s.fld (Reg.anResolved n) 27 24) && (i == 7 || i == 6)
    else true

/-- Whether the channel advertises the mode of bit i of ADV.MODES (R180). -/
def State.advertises (s : State) (n : Ch) (i : Nat) : Bool :=
  s.bit (Reg.anAdv n) i && !(s.chan n).link.removed.getLsbD i && s.fenceLeaves n i
    && ((s.rlyActive n && !s.tapOn n) || modeRate i ≤ hlRate (s.hlMode n))

/-- Bit of ADV.MODES of a line mode. -/
def modeBit : Nat → Nat
  | 9 => 8 | 8 => 7 | 0xA => 6 | 0xB => 5 | m => m - 1

/-- Unformatted page 1 as this end sends it (07 Table 2). -/
def State.ownUp1 (s : State) (n : Ch) : Word :=
  let codes : Bool := s.advertises n 8 || s.advertises n 7 || s.advertises n 6 || s.advertises n 5
  let oneEng := s.engFenced n false != s.engFenced n true
  let pref := if oneEng && s.fld (Reg.anResolved n) 21 20 != 3 && s.fld (Reg.anResolved n) 21 20 != 0
    then s.fld (Reg.anResolved n) 21 20 else s.fld (Reg.anAdv n) 29 28
  BitVec.ofNat 32 (3 * 2 ^ 28 + b2n (s.advertises n 7) * 2 ^ 27 + b2n (s.advertises n 8) * 2 ^ 26
    + b2n (s.advertises n 6) * 2 ^ 25 + b2n (s.advertises n 5) * 2 ^ 24 + b2n codes * 0xF00000 + pref % 4 * 2 ^ 18
    + s.fld (Reg.eqTrCtrl n) 0 0 * 2 ^ 17 + s.fld (Reg.anAdv n) 9 9 * 2 ^ 16)

/-- Spread settings in force on the line transmitter: depth and rate (R350). -/
def State.lineSpread (s : State) (n : Ch) : Nat × Nat := s.clk.lineSsc[n]

/-- Depth and rate of a spread register as they act: the depth at most dmax, the rate between 60 and rmax, in 0.01 % and 0.5 kHz (12 Table 9). -/
def sscActs (w : Word) (dmax rmax : Nat) : Nat × Nat := (min (bits w 21 16) dmax, max 60 (min (bits w 14 8) rmax))

/-- The spread in force on a line transmitter replaced. -/
def State.setSpread (s : State) (n : Ch) (v : Nat × Nat) : State := 
  { s with clk := { s.clk with lineSsc := s.clk.lineSsc.set n v, lineSscAt := s.clk.lineSscAt.set n s.now } }

/-- The end transmits A1 reverse wherever Z50/A1 is resolved: it asks for that, or it can do nothing else and takes either (R182). -/
def State.wantsReverse (s : State) (n : Ch) : Bool :=
  let r := s.fld (Reg.anAdv n) 31 30
  s.advertises n 5 && (r == 2 || (r == 3 && !s.advertises n 6))

/-- Unformatted page 2 as this end sends it (07 Table 3): an end that is to transmit A1 reverse sends SSC_TX = 0 (R351). (DEDUCED, notes/assumptions 106) -/
def State.ownUp2 (s : State) (n : Ch) : Word :=
  BitVec.ofNat 32 (s.fld (Reg.anAdv n) 31 30 * 2 ^ 30 + b2n (s.rlyActive n) * 2 ^ 29 + b2n (s.tapOn n) * 2 ^ 28
    + b2n (s.bit (Reg.clkLineSsc n.val) 31 && !s.wantsReverse n) * 2 ^ 27 + (sscActs (s.reg (Reg.clkLineSsc n.val)) 30 126).1 * 2 ^ 21
    + (sscActs (s.reg (Reg.clkLineSsc n.val)) 30 126).2 * 2 ^ 13)

/-- The base page as this end sends it: its standard modes, the Next Page bit with any Z mode, the nonce, and MS_CFG (R177, R178). -/
def State.ownBase (s : State) (n : Ch) (nonce : BitVec 5) : BasePage :=
  let cfg := s.fld (Reg.anAnCtrl n) 3 2
  { tech := BitVec.ofNat 5 (bitList ((List.range 5).map (s.advertises n)))
    np := s.advertises n 8 || s.advertises n 7 || s.advertises n 6 || s.advertises n 5
    nonce := nonce
    forced := 2 ≤ cfg
    lead := cfg % 2 == 1 }

/-- The message page of the Tageoc sequence: code 5, FORMAT 0x01 and company identifier (07 Table 1). -/
def tageocPage : NextPage := { msg := some 5, u := 0x01DA7C41 }

/-- The null message page of Clause 98. (PRESUMED, notes/assumptions 151) -/
def nullPage : NextPage := { msg := some 1, u := 0 }

/-- The next pages as this end sends them with the Next Page bit: the Tageoc sequence, then the null message page (R178, R179); none without it. The standard options need no next pages of their own. (PRESUMED, notes/assumptions 151) -/
def ownNext (np : Bool) (up1 up2 : Word) : List NextPage :=
  if np then [tageocPage, { msg := none, u := up1 }, { msg := none, u := up2 }, nullPage] else []

/-- The two unformatted pages of a partner's Tageoc sequence: those after a message page of code 5 with this company identifier and format; none where it sends none (R179). -/
def tageocOf : List NextPage → Option (Word × Word)
  | m :: a :: b :: r =>
    if m.msg == some 5 && m.u == 0x01DA7C41 && a.msg.isNone && b.msg.isNone then some (a.u, b.u) else tageocOf (a :: b :: r)
  | _ => none

/-- The master-slave resolution of Clause 98 (R177): whether this end leads; none for a configuration fault. A forced role goes before a preferred one; of equal preferences the larger nonce leads. (PRESUMED, notes/assumptions 151) -/
def msResolve (own lp : BasePage) : Option Bool :=
  if own.forced && lp.forced then (if own.lead == lp.lead then none else some own.lead)
  else if own.forced then some own.lead
  else if lp.forced then some (!lp.lead)
  else if own.lead != lp.lead then some own.lead
  else if own.nonce == lp.nonce then none
  else some (decide (lp.nonce < own.nonce))

/-! ### Negotiating and training -/

/-- TRN_STATUS shows a kind and a phase. -/
def State.setTrain (s : State) (n : Ch) (kind ph : Nat) : State :=
  (s.setReg (Reg.anTrnStatus n) (withBits (withBits (s.reg (Reg.anTrnStatus n)) 30 28 kind) 27 24 ph)).showAdapt n

/-- No negotiation and no training (R178, R170). -/
def State.linkIdle (s : State) (n : Ch) : State :=
  (s.setTrain n 0 0).mapChan n (fun c => { c with
    link := { c.link with
      neg := false, limitAt := none, holdBy := none, abort := none, readyRun := 0, tswRun := 0, sends := false, got := false }
    line := { c.line with txTy := none, p1 := false } })

/-- A negotiation starts, where it may run: a new nonce is drawn and the pages are formed (R178, R180). (DESIGN CHOICE, notes/assumptions 17) -/
def State.startNeg (s : State) (n : Ch) : State :=
  let s := ((s.linkIdle n).setOrbitLock n false).setSpread n (0, 63)
  if s.mayNegotiate n then
    let nonce := BitVec.ofNat 5 (Config.freeBits s.freeCtr)
    let up1 := s.ownUp1 n
    let up2 := s.ownUp2 n
    let base := s.ownBase n nonce
    (s.tookFree.mapChan n (fun c => { c with link := { c.link with
      neg := true, nonce := nonce, up1 := up1, up2 := up2, base := base, pages := ownNext base.np up1 up2 } })).retarget n
  else s

/-- Phase 2 or a later phase begins now, with its limit (R186, R190). -/
def State.enterPhase (s : State) (n : Ch) (ph : Nat) (limit : Option Nat) : State :=
  ((s.setFld (Reg.anTrnStatus n) 27 24 ph).showAdapt n).mapChan n (fun c => { c with
    link := { c.link with
      phaseFrom := s.now, limitAt := limit.map (· + s.now), readyRun := 0, tswRun := 0 }
    rx := { c.rx with mse := if ph == 3 then [] else c.rx.mse } })

/-- The announcement that belongs to the stored resolution, shown anew where RETAIN or a reset has cleared SSC_STATUS (R168, R351). -/
def State.showAnn (s : State) (n : Ch) : State :=
  match (s.chan n).link.ssc with
  | some (d, h) =>
    (s.setReg (Reg.eqSscStatus n) (withBits (withBits (withBits (s.reg (Reg.eqSscStatus n)) 31 31 1) 15 8 (h / 2)) 5 0 d)).mapChan n
      (fun c => { c with rx := { c.rx with sscHalf := h } })
  | none => s

/-- A resumed training starts in phase 2: a warm train (kind 2) or a fast retrain (kind 3) waits for the partner's marks up to FAST_HOLD (R191). -/
def State.startResume (s : State) (n : Ch) (kind : Nat) : State :=
  let s := (s.sat32 (if kind == 2 then Reg.anWarmTrains n else Reg.anFastRetrains n) 1).lifeAdd (qChan n.val 1) 1
  let s := ((s.setOrbitLock n false).setTrain n kind 2).enterPhase n 2 none
  let s := s.mapChan n (fun c => { c with
    link := { c.link with neg := false, trainFrom := s.now, holdBy := some (s.now + ms (s.fld (Reg.anPolicy n) 31 16)), abort := none }
    line := { c.line with trainReg := trainSeed, p1 := false } })
  ((((s.settleEngines n).applyTiming n).retarget n)).showAnn n

/-- A fast retrain starts (R191); without coefficients, which a reset of EQ has cleared, the next train is cold, after negotiation (R162); so it is where fenced units end the mode (R127). -/
def State.startFast (s : State) (n : Ch) : State :=
  if (s.chan n).rx.trained && !s.fencesForbid n then s.startResume n 3 else s.startNeg n

/-- The mode against which a failed training counts: Z50/A1 in either role is one mode (R184). -/
def failKey (m : Nat) : Nat := if m == 0xB then 0xA else m

/-- The bits of ADV.MODES that downshift from a mode takes away: Z50/A1 falls back to Z25, so its removal takes both of its roles and Z50 (R184). (DEDUCED, notes/assumptions 152) -/
def downBits (m : Nat) : BitVec 9 :=
  if m == 0xA || m == 0xB then 0x160 else BitVec.ofNat 9 (2 ^ modeBit m)

/-- A training fails with a cause of LAST_FAIL (R190): the failure counts, against its mode in a cold train (R184), and negotiation follows, after 64 orbits of ABORT words in phase 2 or 3. A failed near-end loopback stays idle, since negotiation is suspended (R235). (DEDUCED, notes/assumptions 152) -/
def State.failTrain (s : State) (n : Ch) (cause : Nat) : State :=
  let m := failKey (s.lineMode n)
  let cold := s.kind n == 1 && !s.nearLb n
  let ph := s.phase n
  let s := (s.satInt (Reg.anTrainFails n) 1 (.chan n .an) 1).setFld (Reg.anTrnStatus n) 23 20 cause
  let lk := (s.chan n).link
  let run := if lk.failMode == m then lk.failRun + 1 else 1
  let lim := s.fld (Reg.anPolicy n) 3 0
  let remove := cold && decide (0 < lim ∧ lim ≤ run)
  let s := s.when cold (fun s => s.mapChan n (fun c => { c with link := { c.link with
    failMode := m, failRun := if remove then 0 else run
    removed := if remove then c.link.removed ||| downBits m else c.link.removed } }))
  let s := s.when remove (fun s =>
    (s.devShow (Reg.anResolved n) (withBits (s.reg (Reg.anResolved n)) 29 29 1)).satInt (Reg.anDownshifts n) 1 (.chan n .an) 2)
  let s := s.setOrbitLock n false
  if ph == 2 || ph == 3 then
    s.mapChan n (fun c => { c with link := { c.link with abort := some 64, limitAt := none, holdBy := none } })
  else s.startNeg n

/-- The link comes up (R189): mode and codes shown, the duration recorded, consecutive failures forgotten, a new message exchange begins; in a standard mode the orbit indices read 0 (R107). -/
def State.comeUp (s : State) (n : Ch) : State :=
  let m := s.lineMode n
  let z := isZ m
  let dur := min ((s.now - (s.chan n).link.trainFrom) / us 10) 65535
  let s := ((s.setFld (Reg.anTrnStatus n) 27 24 5).setFld (Reg.anTrnStatus n) 15 0 dur).setLinkUp n true
  let s := s.setLine n m (if z then s.ktlVer n else 0) (if z then s.rxCode n else 0) (if z then s.txCode n else 0)
  let info := s.bit (Reg.ktlStatus n) 28
  let s := s.mapChan n (fun c => { c with
    link := { c.link with neg := false, limitAt := none, holdBy := none, failRun := 0, markRun := 0 }
    fec := { c.fec with uncRun := 0, orbUnc := 0 }
    rx := { c.rx with trained := true }
    ecl := { c.ecl with drained := true }
    ktl := { c.ktl with cap := none, capSent := none, capAge := 0 }
    buf := { c.buf with hostAt := s.now } })
  let s := if z then s else (s.setReg (Reg.pcsTxOrbit n) 0).setReg (Reg.pcsRxOrbit n) 0
  let s := (((s.settleEngines n).setBit (Reg.ktlStatus n) 28 false).cintIf info n .ktl 1).showLoop n
  let s := (s.showLatencies n).showEcl n
  (s.showLf n).showPartner (partnerCh n)

/-- The link goes down for a reason that ends in negotiation: at once where it may run (R178, R180, R193). -/
def State.renegotiate (s : State) (n : Ch) : State := (s.dropLink n).startNeg n

/-- Link, training and negotiation brought in line with what the channel may do now: a line that is not ready, a host lane that is not in service, or a suspension ends them; otherwise an idle channel negotiates once HPLL has locked (R170, R178, R344, R345, R368, R412, R415). -/
def State.settleLink (s : State) (n : Ch) : State :=
  if (s.nearLb n || s.pattern n != 0) && s.lineReady n then s
  else if s.lineReady n && s.hlHolds n && s.bit (Reg.anAnCtrl n) 0 then
    if s.hlReady n && !s.linkUp n && !(s.chan n).link.neg && s.phase n == 0 && (s.chan n).link.abort.isNone then s.startNeg n else s
  else if s.lineAlive n && (s.chan n).retune && ((s.nearLb n || s.pattern n != 0) || (s.hlHolds n && s.bit (Reg.anAnCtrl n) 0)) then s
  else ((s.dropLink n).linkIdle n).setOrbitLock n false

/-- PAT_SYNC set, with its interrupt on a change (R240). -/
def State.setPatSync (s : State) (n : Ch) (b : Bool) : State :=
  s.when (b != s.bit (Reg.diagLbStatus n) 29) (fun s => (s.setBit (Reg.diagLbStatus n) 29 b).cint n .diag 5)

/-- Removed modes return (R184). -/
def State.modesReturn (s : State) (n : Ch) : State :=
  (s.mapChan n (fun c => { c with link := { c.link with removed := 0, failRun := 0, owedAdv := false } })).setBit (Reg.anResolved n) 29 false

/-- RESTART with EN = 1 (R180, R184): removed modes return, a live link drops, and negotiation starts; during a TDR sweep it waits for the sweep's end (R230). -/
def State.anRestart (s : State) (n : Ch) : State :=
  if s.tdrRuns n then s.mapChan n (fun c => { c with link := { c.link with owedRestart := true } })
  else ((s.modesReturn n).mapChan n (fun c => { c with link := { c.link with owedRestart := false } })).renegotiate n

/-- A write to ADV: removed modes return; it takes effect at the next negotiation (R180, R184), and during a TDR sweep not before the sweep's end (R230). -/
def State.advWritten (s : State) (n : Ch) : State :=
  if s.tdrRuns n then s.mapChan n (fun c => { c with link := { c.link with owedAdv := true } }) else s.modesReturn n

/-- A TDR sweep has ended: what waited takes effect, and negotiation resumes (R230). -/
def State.sweepEnded (s : State) (n : Ch) : State :=
  if s.tdrRuns n then s
  else
    let l := (s.chan n).link
    let s := s.when l.owedAdv (fun s => s.modesReturn n)
    if l.owedRestart then s.anRestart n else s.settleLink n

end Sys2Proof.Machine
end

