-- ==== Sys2Proof/Machine/Buffers.lean ====
section
/-! DEFINITION. Frames between line, host lane and relay: delivery, frame counters, rate matching and relay FIFO (R104, R204 to R214, R425, R426). Block types are those of the 64b/66b PCS of IEEE 802.3, to which R102 refers. -/

namespace Sys2Proof.Machine

/-- Buffers of a channel changed. -/
def State.mapBuf (s : State) (n : Ch) (f : BufSt → BufSt) : State := s.mapChan n (fun c => { c with buf := f c.buf })

/-- The octets a block of a frame carries after its start block. -/
def blkOctets (b : Blk) : List Byte :=
  if !b.ctrl then (List.range 8).map (blkByte b)
  else (List.range ((termBytes b).getD 0)).map (fun i => blkByte b (i + 1))

/-- The octets of a frame, destination address through FCS; a start in lane 4 leaves four octets of preamble in the next block. -/
def frameOctets : List Blk → List Byte
  | [] => []
  | st :: r => (r.flatMap blkOctets).drop (if blkType st == 0x78 then 0 else 4)

/-- Whether a frame's FCS fails. -/
def fcsBad (f : List Blk) : Bool :=
  let o := frameOctets f
  let body := o.take (o.length - 4)
  o.drop (o.length - 4) != leBytes 4 (crc32 body)

/-- A frame that its terminate block ends. -/
def isWhole (f : List Blk) : Bool := f.head?.any isStart && f.getLast?.any (fun b => (termBytes b).isSome)

/-- One block added to a frame in progress: the frame so far, and what it completes: the frame that it ends, a frame that a new start cuts short, or the block itself where it belongs to no frame. (DEDUCED, notes/assumptions 107) -/
def frameStep (part : List Blk) (b : Blk) : List Blk × List (List Blk) :=
  if isStart b then ([b], if part.isEmpty then [] else [part])
  else if part.isEmpty then ([], [[b]])
  else if (termBytes b).isSome then ([], [part ++ [b]])
  else (part ++ [b], [])

/-- What a run of blocks completes, in order, and the frame left unfinished. -/
def framesOf (part : List Blk) : List Blk → List Blk × List (List Blk)
  | [] => (part, [])
  | b :: r =>
    let x := frameStep part b
    let y := framesOf x.1 r
    (y.1, x.2 ++ y.2)

/-- Whole frames received from the line counted (R425, R426). -/
def State.countLrx (s : State) (n : Ch) (fs : List (List Blk)) : State :=
  fs.foldl (fun s f =>
    let s := (s.wide (Reg.cntLrxFramesLo n) (Reg.cntLrxFramesHi n) 16 1).wide (Reg.cntLrxOctetsLo n) (Reg.cntLrxOctetsHi n) 32 (frameOctets f).length
    let s := s.when (f.any isError) (fun s => s.sat32 (Reg.cntLrxErrFrames n) 1)
    s.when (fcsBad f) (fun s => s.sat32 (Reg.cntLrxFcsErr n) 1)) s

/-- Whole frames sent to the line counted (R425, R426). -/
def State.countLtx (s : State) (n : Ch) (fs : List (List Blk)) : State :=
  fs.foldl (fun s f =>
    let s := (s.wide (Reg.cntLtxFramesLo n) (Reg.cntLtxFramesHi n) 16 1).wide (Reg.cntLtxOctetsLo n) (Reg.cntLtxOctetsHi n) 32 (frameOctets f).length
    s.when (f.any isError) (fun s => s.sat32 (Reg.cntLtxErrFrames n) 1)) s

/-- Blocks entering the eclipse buffer (R204). -/
def State.ebufIn (s : State) (n : Ch) (l : List Blk) : State :=
  let s := (s.wide (Reg.anEbufInLo n) (Reg.anEbufInHi n) 32 l.length).mapBuf n (fun b => { b with ebuf := b.ebuf ++ l })
  s.setFld (Reg.anEbufOcc n) 10 0 (s.chan n).buf.ebuf.length

/-- Blocks the eclipse buffer holds at most (R204). -/
abbrev ebufSize : Nat := 2016
/-- Blocks the rate-matching FIFO holds at most (R208). -/
abbrev rmSize : Nat := 4096
/-- Blocks the relay FIFO holds at most (R212). -/
abbrev rlySize : Nat := 2048

/-- Rate in Mb/s of the host lane now: SGMII and USXGMII follow the line mode (07 Table 9). -/
def State.hostRate (s : State) (n : Ch) : Nat :=
  let line := modeRate (modeBit (s.lineMode n))
  match s.hlMode n with
  | 0x1 => if s.lineMode n == 1 then 100 else 1000
  | 0x6 => min line 10000
  | m => hlRate m

/-- The host lane runs an 8b/10b mode (R207). -/
def State.host8b (s : State) (n : Ch) : Bool := 1 ≤ s.hlMode n && s.hlMode n ≤ 3

/-- The host lane works: its HPLL's gate open and its crossing not in DRAIN (R345, R356). -/
def State.laneOpen (s : State) (n : Ch) : Bool := (s.chan n).hpll.gate && !s.drains (.chan n .hl)

/-- Blocks go to the host lane: as 66-bit blocks (R102), and in an 8b/10b mode as code groups; the block positions since the last ones that they do not fill carry idle that the device inserts and counts (R207, R208, R210). (DEDUCED, notes/assumptions 153) -/
def State.hostSend (s : State) (n : Ch) (l : List Blk) : State :=
  if !s.laneOpen n then s
  else
  let r := s.hostRate n
  let span := if r == 0 then 1 else 64000000 / r
  let cap := if r == 0 then 0 else (s.now - (s.chan n).buf.hostAt) / span
  let s := s.wide (Reg.hlIdleInsLo n) (Reg.hlIdleInsHi n) 32 (if s.rxLpi n then 0 else cap - l.length)
  s.mapBuf n (fun b => { b with
    toHost := l.map (fun b => (syncOf b, b.payload))
    codesOut := if s.host8b n then hostCodes (r == 100) l else []
    hostAt := b.hostAt + span * max cap l.length })

/-- Received frames discarded whole for want of the host lane (R345): counted in RM_DROP, and in RM_RX so that R209's identity stays exact. (DEDUCED, notes/assumptions 105) -/
def State.rxDrop (s : State) (n : Ch) (k : Nat) : State :=
  ((s.wide (Reg.hlRmRxLo n) (Reg.hlRmRxHi n) 16 k).wide (Reg.hlRmDropLo n) (Reg.hlRmDropHi n) 16 k).cintIf (decide (0 < k)) n .hl 0

/-- Blocks for the host lane, with the frame they leave unfinished and those they complete: while the lane does not work they are discarded, and with them the rest of a frame of which some was discarded (R345). -/
def State.hostTake (s : State) (n : Ch) (l : List Blk) (x : List Blk × List (List Blk)) : State :=
  let skip := (s.chan n).buf.toSkip
  if !s.laneOpen n then
    (s.rxDrop n (x.2.filter (fun f => f.head?.any isStart)).length).mapBuf n (fun b => { b with toSkip := !x.1.isEmpty })
  else if skip then
    let r := l.dropWhile (fun b => (termBytes b).isNone)
    ((s.rxDrop n (b2n (!r.isEmpty))).mapBuf n (fun b => { b with toSkip := r.isEmpty })).hostSend n (r.drop 1)
  else s.hostSend n l

/-- Decoded blocks leave the receive PCS (R104, R121): whole frames are counted; outside a relay pair the blocks go to the host lane, in far-end loopback also to the channel's own eclipse buffer; in a relay pair frames, and blocks that belong to none, wait to be forwarded. -/
def State.deliver (s : State) (n : Ch) (l : List Blk) : State :=
  let x := framesOf (s.chan n).line.rxFrame l
  let s := (s.countLrx n (x.2.filter isWhole)).mapChan n (fun c => { c with line := { c.line with rxFrame := x.1 } })
  if !s.linkUp n then s
  else if s.rlyActive n then s.mapBuf n (fun b => { b with rlyIn := b.rlyIn ++ x.2 })
  else
    let s := s.hostTake n l x
    s.when (s.farLb n) (fun s => s.ebufIn n (l.take (ebufSize - (s.chan n).buf.ebuf.length)))

/-! ### Rate matching (R208, R209) -/

/-- HWM and LWM as they act (07 Table 12); HWM = 0, which the table leaves out, acts as 1. (DESIGN CHOICE, notes/assumptions 154) -/
def State.hwm (s : State) (n : Ch) : Nat := max 1 (min (s.fld (Reg.hlRmCtrl n) 28 16) rmSize)
/-- As hwm, for LWM. -/
def State.lwm (s : State) (n : Ch) : Nat := min (s.fld (Reg.hlRmCtrl n) 12 0) (s.hwm n - 1)

/-- A frame from the host lane dropped whole (R209). -/
def State.rmDrop (s : State) (n : Ch) : State := (s.wide (Reg.hlRmDropLo n) (Reg.hlRmDropHi n) 16 1).cint n .hl 0

/-- A block enters the rate-matching FIFO, with the interrupt where that crosses HWM upward (R208, R218). -/
def State.rmPush (s : State) (n : Ch) (b : Blk) : State :=
  let occ := (s.chan n).buf.rm.length
  ((s.mapBuf n (fun x => { x with rm := x.rm ++ [b] })).showRm n).cintIf (decide (occ = s.hwm n)) n .hl 1

/-- The frame that HLRXn is bringing leaves the FIFO and counts as dropped; its later blocks are discarded (R209). -/
def State.rmCancel (s : State) (n : Ch) : State :=
  ((s.mapBuf n (fun b => { b with
    rm := ((b.rm.reverse.dropWhile (fun x => !isStart x)).drop 1).reverse
    cut := b.cut && b.rm.any (fun x => (termBytes x).isSome)
    hostIn := some false })).showRm n).rmDrop n

/-- Whether frames from the host lane can be sent: link up, HPLL locked, no far-end loopback (R193, R235, R345). -/
def State.hostOk (s : State) (n : Ch) : Bool := s.linkUp n && s.laneOpen n && !s.farLb n

/-- One block from HLRXn (R103, R195, R197, R208, R209). A frame counts when its start arrives, and is queued block by block, or dropped whole once a block of it finds the FIFO full; between frames LPI is noted, idle is deleted and counted while the FIFO holds anything or WAKE orbits are sent, and every other block is queued where there is room. -/
def State.hostBlock (s : State) (n : Ch) (b : Blk) : State :=
  let x := (s.chan n).buf
  let full := decide (rmSize ≤ x.rm.length)
  let fin := (termBytes b).isSome
  let s := s.mapBuf n (fun x => { x with lpiFrom := if b == lpiBlk then some (x.lpiFrom.getD (s.chan n).line.txNext) else none })
  match x.hostIn with
  | some keep =>
    let s := if !keep then s
      else if full || !s.hostOk n then s.rmCancel n
      else s.rmPush n b
    (s.mapBuf n (fun x => { x with hostIn := if fin then none else x.hostIn })).showRm n
  | none =>
    if isStart b then
      let s := s.wide (Reg.hlRmRxLo n) (Reg.hlRmRxHi n) 16 1
      if full || !s.hostOk n then (s.mapBuf n (fun x => { x with hostIn := some false })).rmDrop n
      else (s.mapBuf n (fun x => { x with hostIn := some true })).rmPush n b
    else if b == lpiBlk then s
    else if b == idleBlk && (!x.rm.isEmpty || (s.chan n).line.txTy == some .wake) then
      s.wide (Reg.hlIdleDelLo n) (Reg.hlIdleDelHi n) 32 1
    else if full || !s.hostOk n then s
    else s.rmPush n b

/-- What arrives on HLRXn as the 65-bit blocks that the transmit PCS forms (R102, R207): transcoded 66-bit blocks, or in an 8b/10b mode the blocks its code groups are re-formed into. Code groups in a 64b/66b mode, or blocks in an 8b/10b mode, are none. -/
def State.hostBlocks (s : State) (n : Ch) (f : HostIn) : List Blk × Option (List (Bool × Byte)) :=
  match f, s.host8b n with
  | .blocks l, false => (l.map (fun x => transcode x.1 x.2), none)
  | .codes l, true => reform (s.hostRate n == 100) (s.chan n).buf.codesIn l
  | _, _ => ([], none)

/-- What HLRXn brings, while the HL domain is ON in a mode and the channel is in no active relay pair (R19). (DEDUCED, notes/assumptions 92) -/
def State.hostFrame (s : State) (n : Ch) (f : HostIn) : State :=
  if (s.chan n).hl.eff != .on || s.hlMode n == 0 || s.rlyActive n then s
  else
    let x := s.hostBlocks n f
    x.1.foldl (fun s b => s.hostBlock n b) (s.mapBuf n (fun b => { b with codesIn := x.2 }))

/-- HOST_FRAME_RECEIVE (R209). -/
def execHostFrameReceive (n : Ch) (f : HostIn) (s : State) : Host.Outcome State Fault Refusal := .next (s.hostFrame n f)

/-- The octets of a PAUSE frame (R208): control address, source, type 0x8808, opcode 0x0001, pause_time, padding, FCS. -/
def pauseFrame (sa time : Nat) : List Byte :=
  let body := beBytes 6 0x0180C2000001 ++ beBytes 6 sa ++ beBytes 2 0x8808 ++ beBytes 2 1 ++ beBytes 2 time ++ List.replicate 42 0
  body ++ leBytes 4 (crc32 body)

/-- A PAUSE frame inserted toward the host (R208). -/
def State.sendPause (s : State) (n : Ch) (time : Nat) : State :=
  let sa := s.fld (Reg.hlPauseSaHi n) 15 0 * 2 ^ 32 + s.fld (Reg.hlPauseSaLo n) 31 0
  (s.wrap32 (Reg.hlPauseTx n) 1).mapBuf n (fun b => { b with pauseOut := pauseFrame sa time })

/-- Half the pause time in ps, at the host-lane rate now: quanta of 512 bit times (R208). -/
def State.halfPause (s : State) (n : Ch) : Nat :=
  s.fld (Reg.hlPauseTime n) 15 0 * 256 * 1000000 / max 1 (s.hostRate n)

/-- PAUSE_EN. -/
def State.pauseEn (s : State) (n : Ch) : Bool := s.bit (Reg.hlRmCtrl n) 31

/-- The XOFF frame goes out, and its repetition is timed. -/
def State.xoff (s : State) (n : Ch) : State :=
  (s.sendPause n (s.fld (Reg.hlPauseTime n) 15 0)).mapBuf n (fun b => { b with xoff := some (s.now + s.halfPause n) })

/-- RM_XOFF (R208): occupancy above HWM with PAUSE_EN = 1. -/
def execRmXoff (n : Ch) (s : State) : Host.Outcome State Fault Refusal :=
  let b := (s.chan n).buf
  if s.pauseEn n && decide (s.hwm n < b.rm.length) && b.xoff.isNone then .next (s.xoff n) else .next s

/-- RM_PAUSE_REPEAT (R208): half the pause time has elapsed while occupancy stays above LWM. -/
def execRmPauseRepeat (n : Ch) (s : State) : Host.Outcome State Fault Refusal :=
  let b := (s.chan n).buf
  match b.xoff with
  | some t => if t ≤ s.now && s.pauseEn n && decide (s.lwm n < b.rm.length) then .next (s.xoff n) else .next s
  | none => .next s

/-- RM_XON (R208): occupancy below LWM after an XOFF. -/
def execRmXon (n : Ch) (s : State) : Host.Outcome State Fault Refusal :=
  let b := (s.chan n).buf
  if b.xoff.isSome && decide (b.rm.length < s.lwm n) then
    .next ((s.sendPause n 0).mapBuf n (fun b => { b with xoff := none }))
  else .next s

/-- Host blocks that the PCS takes in one µs, in 1/32 block: the MAC rate of the transmitted direction (worked examples of R103, R204, R209). (DEDUCED, notes/assumptions 91) -/
def State.takeRate (s : State) (n : Ch) : Nat :=
  if isZ (s.lineMode n) then (match s.txDir n with | .z50 => 25000 | .z25 => 12500 | .a1 => 500)
  else modeRate (modeBit (s.lineMode n)) / 2

/-- Whether a frame is left unfinished after a run of blocks. -/
def openAfter (o : Bool) (l : List Blk) : Bool :=
  l.foldl (fun o b => if isStart b then true else if (termBytes b).isSome then false else o) o

/-- The PCS takes one µs of blocks from the rate-matching FIFO, or from the partner's relay FIFO in an active pair, as far as the eclipse buffer has room (R204, R212). (DEDUCED, notes/assumptions 91) -/
def State.takeBlocks (s : State) (n : Ch) : State :=
  let b := (s.chan n).buf
  let quota := b.credit + s.takeRate n
  let room := ebufSize - b.ebuf.length
  let k := min (quota / 32) room
  if s.drains (.chan n .an) then s
  else if s.rlyActive n then
    let o := partnerCh n
    let l := if b.lost then [] else (s.chan o).buf.rly.take k
    let s := (s.ebufIn n l).mapBuf o (fun b => { b with rly := b.rly.drop l.length })
    (s.setFld (Reg.rlyFifoOcc o) 11 0 (s.chan o).buf.rly.length).mapBuf n (fun b => { b with credit := quota % 32 })
  else
    let l := b.rm.take k
    let sent := (l.filter (fun x => (termBytes x).isSome)).length
    let s := (s.ebufIn n l).mapBuf n (fun b => { b with rm := b.rm.drop l.length, credit := quota % 32, cut := openAfter b.cut l })
    (s.wide (Reg.hlRmSentLo n) (Reg.hlRmSentHi n) 16 sent).showRm n

/-- The oldest k blocks of the eclipse buffer leave it to the line; their frames count as sent (R204, R426). -/
def State.ebufOut (s : State) (n : Ch) (k : Nat) : State × List Blk :=
  let l := (s.chan n).buf.ebuf.take k
  let x := framesOf (s.chan n).line.txFrame l
  let s := s.wide (Reg.anEbufOutLo n) (Reg.anEbufOutHi n) 32 l.length
  let s := (s.countLtx n (x.2.filter isWhole)).mapChan n (fun c => { c with
    line := { c.line with txFrame := x.1 }
    buf := { c.buf with ebuf := c.buf.ebuf.drop k } })
  (s.setFld (Reg.anEbufOcc n) 10 0 (s.chan n).buf.ebuf.length, l)

/-- The blocks of one DATA orbit's codewords: the oldest of the eclipse buffer, then line idle blocks, counted (R103, R204). (DEDUCED, notes/assumptions 91) -/
def State.fillOrbit (s : State) (n : Ch) : State × List Blk :=
  let k := blocksPerOrbit (s.txDir n)
  let x := s.ebufOut n k
  let idle := k - x.2.length
  (x.1.wide (Reg.pcsLidleTxLo n) (Reg.pcsLidleTxHi n) 32 idle, x.2 ++ List.replicate idle lineIdle)

/-- MAC bits that one RS codeword of a standard mode's clause carries; none in 100BASE-T1. (PRESUMED, notes/assumptions 163) -/
def rsBits : Nat → Option Nat
  | 2 => some 3600
  | 3 | 4 | 5 => some 3200
  | _ => none

/-- One µs of a standard mode's transmission: the blocks of the MAC rate go to the clause's PCS, and the RS codewords that it fills are counted unless the FEC page is fenced (R127, R133, R426). (DESIGN CHOICE, notes/assumptions 155) -/
def State.sendStd (s : State) (n : Ch) : State :=
  let m := s.lineMode n
  let s := s.takeBlocks n
  let s := (s.ebufOut n (s.chan n).buf.ebuf.length).1
  match rsBits m with
  | none => s
  | some k =>
    let q := (s.chan n).line.stdBits + modeRate (modeBit m)
    let s := s.mapChan n (fun c => { c with line := { c.line with stdBits := q % k } })
    if s.ownFence (.chan n .fec) then s else s.wide (Reg.fecCwTxLo n) (Reg.fecCwTxHi n) 16 (q / k)

/-! ### Relay and tap (R212 to R214) -/

/-- The tap preamble field (07 Table 10): direction, error, drop, sequence and time of the frame's start block. -/
def tapPreamble (odd err drop : Bool) (seq : Nat) (t : Nat × Nat × Nat) : Nat :=
  0xFB * 2 ^ 56 + b2n odd * 2 ^ 55 + b2n err * 2 ^ 54 + b2n drop * 2 ^ 53 + seq % 32 * 2 ^ 48 + t.1 % 256 * 2 ^ 40
    + t.2.1 * 2 ^ 8 + t.2.2 / 256

/-- The frame with its preamble and SFD replaced by the tap field: a start block of type 0x78 whose seven octets are the field's bits [55:0], most significant first; a frame that started in lane 4 is aligned anew, since four octets of its preamble stand in the next block. -/
def tapCopy (field : Nat) (f : List Blk) : List Blk :=
  let p := beBytes 7 (field % 2 ^ 56)
  match f with
  | [] => []
  | st :: r =>
    if blkType st == 0x78 then ⟨true, BitVec.ofNat 64 (octVal p * 256 + 0x78)⟩ :: r
    else formFrame p ((r.flatMap blkOctetsErr).drop 4)

/-- A tap copy of a received frame toward the channel's own host lane, or its drop where the host lane cannot take it (R214). -/
def State.tapFrame (s : State) (n : Ch) (f : List Blk) (room : Bool) (t : Nat × Nat × Nat) : State :=
  if !s.tapOn n || !f.head?.any isStart then s
  else if room && (s.chan n).hl.eff == .on && s.laneOpen n && !s.fenced (.chan n .hl) then
    let b := (s.chan n).buf
    let fld := tapPreamble (n.val % 2 == 1) (f.any isError) b.tapDrop b.tapSeq t
    ((s.wide (Reg.rlyTapLo n) (Reg.rlyTapHi n) 16 1).hostSend n (tapCopy fld f)).mapBuf n (fun b =>
      { b with tapSeq := (b.tapSeq + 1) % 32, tapDrop := false })
  else (s.satInt (Reg.rlyTapDrop n) 1 (.chan n .rly) 1).mapBuf n (fun b => { b with tapDrop := true })

/-- A received frame, or a block that belongs to none, enters the relay FIFO; or it is discarded: block by block while the partner is lost (R213), whole frames while its link is down (R212); or dropped at a full FIFO (R212). Idle between frames is not forwarded while the FIFO holds anything. (DEDUCED, notes/assumptions 107) -/
def State.relayFrame (s : State) (n : Ch) (f : List Blk) : State :=
  let o := partnerCh n
  let frame := f.head?.any isStart
  let rly := (s.chan n).buf.rly
  if (s.chan n).buf.lost || s.chanGone o then s.sat32 (Reg.rlyDiscard n) f.length
  else if !s.linkUp o then s.sat32 (Reg.rlyDiscard n) (b2n frame)
  else if rlySize < rly.length + f.length || s.drains (.chan n .rly) then s.satInt (Reg.rlyFifoDrop n) (b2n frame) (.chan n .rly) 1
  else if f == [idleBlk] && !rly.isEmpty then s
  else
    let s := (s.wide (Reg.rlyFwdLo n) (Reg.rlyFwdHi n) 16 (b2n frame)).mapBuf n (fun b => { b with rly := b.rly ++ f })
    s.setFld (Reg.rlyFifoOcc n) 11 0 (s.chan n).buf.rly.length

/-- RELAY_FRAME_FORWARD (R212, R214): the oldest received frame of a channel of an active pair, or block that belongs to none, is copied to the tap, with its arrival time, and goes to the relay FIFO; room tells whether the host lane can take the copy. -/
def execRelayFrameForward (n : Ch) (room : Bool) (sec : BitVec 48) (nsec : BitVec 32) (frac : BitVec 16) (s : State) :
    Host.Outcome State Fault Refusal :=
  match s.rlyActive n, (s.chan n).buf.rlyIn with
  | true, f :: r =>
    let s := s.mapBuf n (fun b => { b with rlyIn := r })
    .next ((s.tapFrame n f room (sec.toNat, nsec.toNat, frac.toNat)).relayFrame n f)
  | _, _ => .next s

/-- RELAY_FORWARD_RESUME (R213): the first orbit boundary with the partner back and its link up. -/
def execRelayForwardResume (n : Ch) (s : State) : Host.Outcome State Fault Refusal :=
  let o := partnerCh n
  if s.rlyActive n && (s.chan n).buf.lost && !s.chanGone o && s.linkUp o then
    .next ((s.mapBuf n (fun b => { b with lost := false })).showPartner n)
  else .next s

end Sys2Proof.Machine
end

