-- ==== Sys2Proof/Machine/Flight.lean ====
section
/-! DEFINITION. Codewords in flight through the decoder of a channel: engines and credits as shown, error delivery, discarding (R121, R124, R125). -/

namespace Sys2Proof.Machine

/-- FEC state of a channel changed. -/
def State.mapFec (s : State) (n : Ch) (f : FecSt → FecSt) : State := s.mapChan n (fun c => { c with fec := f c.fec })

/-- Credits and activity of the engines shown in CREDITS and STATUS (R124). -/
def State.showEngines (s : State) (n : Ch) : State :=
  let f := (s.chan n).fec.flight
  let a := (f.filter (fun x => x.eng == some false)).length
  let b := (f.filter (fun x => x.eng == some true)).length
  let s := s.setReg (Reg.fecCredits n) (BitVec.ofNat 32 ((8 - b) * 2 ^ 24 + b * 2 ^ 16 + (8 - a) * 2 ^ 8 + a))
  (s.setBit (Reg.fecStatus n) 0 (0 < a)).setBit (Reg.fecStatus n) 1 (0 < b)

/-- A codeword that is delivered as error blocks (R121): the uncorrectable run, the adaptation freeze at the second of one orbit (R161), the readiness of phase 4 (R188), and the drop after eight (R192). -/
def State.badCodeword (s : State) (n : Ch) : State :=
  let c := s.chan n
  let run := c.fec.uncRun + 1
  let orb := c.fec.orbUnc + 1
  let s := s.mapChan n (fun c => { c with
    fec := { c.fec with uncRun := run, orbUnc := orb }
    link := { c.link with readyRun := if s.phase n == 4 then 0 else c.link.readyRun } })
  let s := s.deliver n (List.replicate (codePar (codeOf (s.rxCode n))).blocks errorBlk)
  let s := s.when (orb == 2) (fun s =>
    (((s.wrap32 (Reg.eqFreezeCount n) 1).cint n .eq 3).mapChan n (fun c => { c with rx := { c.rx with freeze := 18 } })).showAdapt n)
  if s.linkUp n && 8 ≤ run then
    ((s.sat32 (Reg.anDropUncorr n) 1).dropLink n).startFast n
  else s

/-- Codewords in flight are discarded: those that hold a credit return it and count in DISCARD, and each is delivered as error blocks (R121, R125). -/
def State.discardFlight (s : State) (n : Ch) : State :=
  let l := (s.chan n).fec.flight
  let k := (l.filter (fun x => x.eng.isSome)).length
  let s := ((s.satInt (Reg.fecDiscard n) k (.chan n .fec) 3).mapFec n (fun f => { f with flight := [] })).showEngines n
  l.foldl (fun s _ => s.badCodeword n) s

end Sys2Proof.Machine
end

