-- ==== Sys2Proof/Machine/Jobs.lean ====
section
/-! DEFINITION. Job slots, device-started jobs, power domains as data, and what a job that ends leaves behind (R50 to R54, R230, R365, R394, R395). -/

namespace Sys2Proof.Machine

/-! ### Power domains of a channel (R13, R365, R366) -/

/-- A channel's domain: 0 DSP, 1 AFE, 2 HL, as its number 3n + k counts. -/
def Chan.dom (c : Chan) (k : Fin 3) : Dom := match k with | 0 => c.dsp | 1 => c.afe | 2 => c.hl

/-- A channel's domain replaced. -/
def Chan.setDom (c : Chan) (k : Fin 3) (d : Dom) : Chan :=
  match k with | 0 => { c with dsp := d } | 1 => { c with afe := d } | 2 => { c with hl := d }

/-- Code of a domain state (13 Table 4). -/
def pcode : PState → Nat
  | .off => 0 | .retain => 1 | .on => 2

/-- The lower of two states (R14). -/
def pmin (a b : PState) : PState := if pcode a ≤ pcode b then a else b

/-- The highest state a domain allows another to hold: the least of its request, its state and the target of a transition (R14). -/
def Dom.ceil (d : Dom) : PState :=
  let m := pmin d.want d.eff
  match d.moving with
  | some (t, _) => pmin m t
  | none => m

/-- The state a channel's domain moves toward: its request, for AFE and HL no higher than DSP; RETAIN is entered from ON only (R14, R366). -/
def Chan.goal (c : Chan) (k : Fin 3) : PState :=
  let d := c.dom k
  let g := if k == 0 then d.want else pmin d.want c.dsp.ceil
  if g == .retain && d.eff == .off then .off else g

/-- A transition or a self-test of entry of the domain is in progress. -/
def Dom.busy (d : Dom) : Bool := d.moving.isSome || d.test != .none

/-- CH_STATn brought to what holds (13 Table 4). (DEDUCED, notes/assumptions 84) -/
def State.showPwr (s : State) (n : Ch) : State :=
  let c := s.chan n
  let pend (d : Dom) : Nat := b2n (d.want == .on && c.dsp.eff != .on)
  s.setReg (Reg.pwrChStat n.val) (BitVec.ofNat 32 (pcode c.dsp.eff * 2 ^ 20 + pcode c.afe.eff * 2 ^ 18 + pcode c.hl.eff * 2 ^ 16
    + b2n (c.dsp.test == .waiting || c.hl.test == .waiting) * 2 ^ 10 + b2n (c.dsp.test == .running || c.hl.test == .running) * 2 ^ 9
    + b2n (c.dsp.busy || c.afe.busy || c.hl.busy) * 2 ^ 8 + b2n (c.coefKept && c.dsp.eff == .retain) * 2 ^ 3
    + pend c.afe * 2 + pend c.hl))

/-- A channel's domain changed, and shown. -/
def State.mapDom (s : State) (n : Ch) (k : Fin 3) (f : Dom → Dom) : State :=
  (s.mapChan n (fun c => c.setDom k (f (c.dom k)))).showPwr n

/-- The transition of a domain begins: it completes within the time of 13 Table 2. -/
def Dom.go (d : Dom) (g : PState) (now : Nat) : Dom :=
  { d with test := .none, moving := some (g, now + us (match d.eff, g with
    | .retain, .off => 5 | .retain, .on => 40 | .off, .on => 150 | _, _ => 10)) }

/-! ### Slots -/

/-- Code of a job state (02 Table 24). -/
def jcode : JState → Nat
  | .idle => 0 | .wait => 1 | .run => 2 | .done => 3 | .failed => 4 | .aborted => 5

/-- ERR codes, 02 Table 24. -/
abbrev errBadType : Nat := 1
/-- BAD_ARG. -/
abbrev errBadArg : Nat := 2
/-- UNAVAILABLE. -/
abbrev errUnavail : Nat := 3
/-- RESET. -/
abbrev errReset : Nat := 4
/-- FAULT. -/
abbrev errFault : Nat := 5

/-- A job in WAIT or RUN. -/
def JobSlot.busy (j : JobSlot) : Bool := j.st == .wait || j.st == .run

/-- Slot k. -/
def State.slot (s : State) (k : Fin 8) : JobSlot := s.jobs.slots[k]

/-- SLOT_BUSY and DEV_PENDING brought to what holds. -/
def State.showJobs (s : State) : State :=
  (s.setReg Reg.jobSlotBusy (BitVec.ofNat 32 (bitList (s.jobs.slots.toList.map JobSlot.busy)))).setReg
    Reg.jobDevPending (BitVec.ofNat 32 s.jobs.waiting.length)

/-- Slot k replaced and shown (02 Table 23). -/
def State.setSlot (s : State) (k : Fin 8) (j : JobSlot) : State :=
  let s := { s with jobs := { s.jobs with slots := s.jobs.slots.set k j } }
  let s := s.setReg (Reg.jobSlotStatus k.val) (BitVec.ofNat 32 (j.handle.toNat * 2 ^ 16 + j.err * 2 ^ 8 + jcode j.st))
  let s := s.setReg (Reg.jobSlotProgress k.val) (BitVec.ofNat 32 (min j.total 65535 * 2 ^ 16 + min j.steps 65535))
  let s := (s.setReg (Reg.jobSlotResult0 k.val) j.res0).setReg (Reg.jobSlotResult1 k.val) j.res1
  (s.setReg (Reg.jobSlotYields k.val) (BitVec.ofNat 32 (min j.guaranteed 255 * 2 ^ 16 + min j.yields 65535))).showJobs

/-- Slot k changed. -/
def State.mapSlot (s : State) (k : Fin 8) (f : JobSlot → JobSlot) : State := s.setSlot k (f (s.slot k))

/-- All slots in ascending order. -/
def allSlots : List (Fin 8) := [0, 1, 2, 3, 4, 5, 6, 7]

/-- The channel that a job targets (R54). -/
def targetCh (typ target : Byte) : Option Ch :=
  if typ == 1 || typ == 2 || typ == 7 then (if target.toNat < 16 then some (Fin.ofNat 16 target.toNat) else none)
  else if typ == 5 then (if target.toNat < 48 then some (Fin.ofNat 16 (target.toNat / 3)) else none)
  else none

/-- Domain kind of a self-test's target. -/
def targetDom (target : Byte) : Fin 3 := Fin.ofNat 3 target.toNat

/-! ### Test ports (R391) -/

/-- The domain at test port p; 0xFF when idle. -/
def State.portDom (s : State) (p : Fin 4) : Nat := s.fld Reg.bistPorts (8 * p.val + 7) (8 * p.val)

/-- An idle test port. -/
def State.freePort (s : State) : Option (Fin 4) := ([0, 1, 2, 3] : List (Fin 4)).find? (fun p => s.portDom p == 0xFF)

/-- A port taken by a domain. -/
def State.takePort (s : State) (d : Nat) : State :=
  match s.freePort with
  | some p => s.setFld Reg.bistPorts (8 * p.val + 7) (8 * p.val) d
  | none => s

/-- The port of a domain released. -/
def State.dropPort (s : State) (d : Nat) : State :=
  ([0, 1, 2, 3] : List (Fin 4)).foldl (fun s p => if s.portDom p == d then s.setFld Reg.bistPorts (8 * p.val + 7) (8 * p.val) 0xFF else s) s

/-! ### Ends of jobs -/

/-- The coefficients of a channel are discarded: the next train is cold (R393). (DEDUCED, notes/assumptions 86) -/
def State.dropCoefs (s : State) (n : Ch) : State :=
  let tap (a : Nat) : Bool := (Reg.eqFfeTap n 0 ≤ a && a ≤ Reg.eqFfeTap n 47) || (Reg.eqDfeTap n 0 ≤ a && a ≤ Reg.eqDfeTap n 3)
  (s.keepRegs (fun a => !tap a)).mapChan n (fun c => { c with
    coefKept := false
    rx := { c.rx with ec := [], frac := [], trained := false } })

/-- A self-test that ended without completing (R367, R394): its port is free, STOPPED is recorded; saved contents are restored, or lost where the restore cannot run; a domain in a test of entry goes on to the state now requested. -/
def State.testStopped (s : State) (d : Nat) (k : Fin 8) : State :=
  let n : Ch := Fin.ofNat 16 (d / 3)
  let i : Fin 3 := Fin.ofNat 3 d
  let s := (s.dropPort d).setBit (Reg.bistDomStatus d) 27 true
  let saved := s.bist.saved.contains d
  let s := { s with bist := { s.bist with saved := s.bist.saved.filter (· != d) } }
  let s := s.when (saved && s.fenced (.dev .job)) (fun s => s.dropCoefs n)
  if 6 ≤ k.val then
    let g := (s.chan n).goal i
    s.mapDom n i (fun x => if pcode g < pcode x.eff then x.go g s.now else { x with test := .none })
  else s.showPwr n

/-- What a job that ended leaves, by its type: negotiation resumes after a TDR sweep (R230); a test that did not complete stops (R394); the ledger shows an update that failed (R333). (DEDUCED, notes/assumptions 81) -/
def State.jobLeft (s : State) (k : Fin 8) (j : JobSlot) (st : JState) : State :=
  if j.typ == 1 then
    match targetCh 1 j.target with
    | some n => s.sweepEnded n
    | none => s
  else if j.typ == 5 && st != .done then s.testStopped j.target.toNat k
  else if j.typ == 6 then
    let s := s.setBit Reg.lifeStatus 28 (allSlots.any (fun i => (s.slot i).busy && (s.slot i).typ == 6))
    s.intr (.dev .life) (if st == .done then 0 else 1)
  else s

/-- A job in WAIT or RUN ends in a state with an error (R52, R54): its slot keeps its results, and JOB.INT_STATUS bit k is set. (DESIGN CHOICE, notes/assumptions 79) -/
def State.endJob (s : State) (k : Fin 8) (st : JState) (err : Nat) : State :=
  let j := s.slot k
  if j.busy then
    let s := (s.setSlot k { j with st := st, err := err, acc := [], cells := [], logic := [], copied := [], due := none }).intr (.dev .job) k.val
    s.jobLeft k j st
  else s

/-- Every job in a slot that targets a channel ends in FAILED (R54); a self-test of entry is spared where its transition goes on (R373). -/
def State.endJobsOf (s : State) (n : Ch) (err : Nat) (spareEntry : Bool) : State :=
  allSlots.foldl (fun s k =>
    let j := s.slot k
    if targetCh j.typ j.target == some n && !(spareEntry && j.typ == 5 && 6 ≤ k.val) then s.endJob k .failed err else s) s

/-! ### Conditions at START and in WAIT (R52) -/

/-- The NVM can be worked on: domain ON, page not fenced (R16, R417). -/
def State.nvmReady (s : State) : Bool := s.nvmDom.eff == .on && !s.fenced (.dev .nvm)

/-- Whether a job whose arguments are good leaves WAIT at once: NVM jobs and storing jobs need the NVM, tests need a port. (DEDUCED, notes/assumptions 82) -/
def State.jobReady (s : State) (typ : Byte) (arg0 : Word) : Bool :=
  if typ == 3 || typ == 4 || typ == 6 || typ == 7 then s.nvmReady
  else if typ == 2 then !arg0.getLsbD 0 || s.nvmReady
  else if typ == 5 then s.freePort.isSome
  else true

/-- Arguments of the device's own commits, outside ARG0's 16 bits: a journal page, the pending repair records. (DESIGN CHOICE, notes/assumptions 78) -/
abbrev argJournal : Word := 0x10000
/-- As argJournal, for repair records. (DESIGN CHOICE, notes/assumptions 78) -/
abbrev argRepair : Word := 0x10001

/-- The error with which a job ends at START; 0 for none (02 Table 24, R227, R230, R395, R454). (DEDUCED, notes/assumptions 81) -/
def State.startErr (s : State) (dev : Bool) (typ target : Byte) (arg0 : Word) : Nat :=
  let t := target.toNat
  let a := arg0.toNat
  let gone (n : Ch) : Bool := s.chanFenced n
  let n : Ch := Fin.ofNat 16 t
  if typ == 0 || 7 < typ.toNat then errBadType
  else if typ == 1 then
    if 16 ≤ t then errBadArg
    else if s.linkUp n || (s.chan n).afe.eff != .on || (s.chan n).dsp.eff != .on || gone n || s.fenced (.chan n .diag)
      || s.lb n != 0 || s.pattern n != 0 || s.rlyActive n then errUnavail else 0
  else if typ == 2 then
    if 16 ≤ t then errBadArg
    else if !s.linkUp n || gone n || s.fenced (.chan n .diag) then errUnavail else 0
  else if typ == 3 then
    if dev then 0
    else if t != 0 || !(a == 1 || (0x100 ≤ a && a ≤ 0x10F) || a == 0x200 || a == 0x201) then errBadArg else 0
  else if typ == 4 then
    if t != 0 || !((0x100 ≤ a && a ≤ 0x10F) || a == 0x200) then errBadArg else 0
  else if typ == 5 then
    if 48 ≤ t || t % 3 == 1 || arg0.getLsbD 1 then errBadArg
    else
      let c : Ch := Fin.ofNat 16 (t / 3)
      let x := (s.chan c).dom (targetDom target)
      if s.fenced (.dev .bist) || gone c || (!dev && (x.eff == .on || x.busy)) then errUnavail else 0
  else if typ == 6 then (if t != 0 || a != 0 then errBadArg else 0)
  else (if 16 ≤ t then errBadArg
    else if gone n || (s.chan n).dsp.eff == .off || (s.chan n).afe.eff == .off then errUnavail else 0)

/-- Steps of a job where the rule fixes them: TDR, learning, NVM work and the ledger; 0 for tests, whose job steps are not known in advance. (DESIGN CHOICE, notes/assumptions 18; DEDUCED, notes/assumptions 84) -/
def jobTotal (typ : Byte) (arg0 : Word) : Nat :=
  if typ == 1 then
    let a := arg0.toNat % 32
    let a := if a == 0 then 12 else max 4 (min a 16)
    2 ^ (a - 3) + 1
  else if typ == 2 then 66
  else if typ == 6 then 34
  else if typ == 5 then 0
  else 1

/-- What a job does when it enters RUN: a test takes a port, and a domain in a test of entry shows TESTING; a TDR sweep suspends negotiation. -/
def State.jobRuns (s : State) (k : Fin 8) (j : JobSlot) : State :=
  if j.typ == 5 then
    let s := s.takePort j.target.toNat
    if 6 ≤ k.val then
      let n : Ch := Fin.ofNat 16 (j.target.toNat / 3)
      (s.mapDom n (targetDom j.target) (fun d => { d with test := .running })).settleLink n
    else s
  else if j.typ == 1 then
    match targetCh 1 j.target with
    | some n => if s.linkUp n then s else s.linkIdle n
    | none => s
  else if j.typ == 2 then
    match targetCh 2 j.target with
    | some n => s.mapChan n (fun c => { c with diag := { c.diag with fresh := false, skipped := false } })
    | none => s
  else s

/-- The job in a slot enters WAIT or RUN, or ends at START in FAILED (R51, R52); a self-test of entry that fails so ends as a stopped test (R394). (DEDUCED, notes/assumptions 81) -/
def State.startJob (s : State) (k : Fin 8) (dev : Bool) (typ target : Byte) (arg0 arg1 : Word) : State :=
  let c := s.jobs.starts + 1
  let s := { s with jobs := { s.jobs with starts := c } }
  let j : JobSlot := { st := .wait
                       typ := typ
                       target := target
                       arg0 := arg0
                       arg1 := arg1
                       handle := BitVec.ofNat 16 (k.val * 2 ^ 13 + c.toNat)
                       total := jobTotal typ arg0 }
  let e := s.startErr dev typ target arg0
  if e != 0 then
    let s := (s.setSlot k { j with st := .failed, err := e }).intr (.dev .job) k.val
    if typ == 5 && 6 ≤ k.val then s.testStopped target.toNat k else s
  else
    let s := s.when (typ == 6) (fun s => s.setBit Reg.lifeStatus 28 true)
    if s.jobReady typ arg0 then
      let j := { j with st := .run }
      (s.setSlot k j).jobRuns k j
    else s.setSlot k j

/-! ### Device-started jobs (R51) -/

/-- A free device slot. -/
def State.devSlot (s : State) : Option (Fin 8) :=
  if !(s.slot 6).busy then some 6 else if !(s.slot 7).busy then some 7 else none

/-- The oldest waiting device-started job takes a device slot: its TYPE, TARGET and ARG0 are written there and its START is journaled with origin 0x20. -/
def State.devDispatch (s : State) : State :=
  match s.jobs.waiting, s.devSlot with
  | j :: r, some k =>
    if s.fenced (.dev .job) then s
    else
      let s := { s with jobs := { s.jobs with waiting := r } }
      let old := s.reg (Reg.jobSlotCtrl k.val)
      let w := withBits (withBits old 15 8 j.target.toNat) 7 0 j.typ.toNat
      let s := if j.typ == 3 then s else s.devShow (Reg.jobSlotArg0 k.val) j.arg0
      let s := (s.setReg (Reg.jobSlotCtrl k.val) w).jAppend (originCode .device) 0 (Reg.jobSlotCtrl k.val) old w
      s.startJob k true j.typ j.target j.arg0 0
  | _, _ => s

/-- The device asks for a job: it joins the queue, and takes a slot at once where one is free and none waits before it. -/
def State.devRequest (s : State) (typ target : Byte) (arg0 : Word) : State :=
  ({ s with jobs := { s.jobs with waiting := s.jobs.waiting ++ [(⟨typ, target, arg0⟩ : DevJob)] } }.showJobs).devDispatch

/-- Whether a device-started job of a type and argument waits, or holds a slot. -/
def State.devHas (s : State) (typ target : Byte) (arg0 : Word) : Bool :=
  s.jobs.waiting.any (fun j => j.typ == typ && j.target == target && j.arg0 == arg0)
    || allSlots.any (fun k => (s.slot k).busy && 6 ≤ k.val && (s.slot k).typ == typ && (s.slot k).target == target && (s.slot k).arg0 == arg0)

/-- DEVICE_JOB_DISPATCH (R51): a device slot is free and a device-started job waits. -/
def execDeviceJobDispatch (s : State) : Host.Outcome State Fault Refusal := .next s.devDispatch

/-- JOB_WAIT_CLEARS (R52): the unit that a job in WAIT needs is available. -/
def execJobWaitClears (k : Fin 8) (s : State) : Host.Outcome State Fault Refusal :=
  let j := s.slot k
  if j.st == .wait && s.jobReady j.typ j.arg0 && !s.fenced (.dev .job) then
    let j := { j with st := .run }
    .next ((s.setSlot k j).jobRuns k j)
  else .next s

/-! ### Steps and their turns (R50, R53) -/

/-- A learning job's step can be made now: a refresh is there to take, or the NVM for the slot. -/
def State.learnMay (s : State) (k : Fin 8) (n : Ch) : Bool :=
  let j := s.slot k
  if j.steps < 64 then (s.chan n).diag.fresh || (s.chan n).diag.skipped || !s.linkUp n
  else if j.steps == 65 then !j.arg0.getLsbD 0 || s.nvmReady else true

/-- Whether a step of the job in a slot has what it needs beyond the units it shares: no write of the job is held by the fabric (R36). (DEDUCED, notes/assumptions 82 and 148) -/
def State.stepMay (s : State) (k : Fin 8) : Bool :=
  let j := s.slot k
  if j.typ == 2 && (match targetCh 2 j.target with | some n => s.heldWrites.any (fun w => w.origin == .job && pageOf w.addr == some (.chan n .diag)) | none => false) then false
  else if j.typ == 3 || j.typ == 4 || j.typ == 6 || j.typ == 7 then s.nvmReady
  else if j.typ == 2 then (match targetCh 2 j.target with | some n => s.learnMay k n | none => true)
  else true

/-- The unit that the next step of a job needs and that jobs share: the NVM, also for the step that stores a learned profile; the test controller; the diagnostics engine of a channel (R50). (DEDUCED, notes/assumptions 148) -/
def jobUnit (j : JobSlot) : Nat :=
  if j.typ == 5 then 1
  else if j.typ == 1 || (j.typ == 2 && !(j.steps == 65 && j.arg0.getLsbD 0)) then 2 + j.target.toNat
  else 0

/-- Whether the job in a slot attempts a step now: it runs, has what it needs, and since its last yield a moon edge has come (R53). -/
def State.attempts (s : State) (k : Fin 8) : Bool :=
  (s.slot k).st == .run && s.stepMay k && decide ((s.slot k).tryAt ≤ s.now)

/-- Whether a slot is next on its unit: the steps of jobs that need one unit take turns in ascending slot order (R50). (DEDUCED, notes/assumptions 148) -/
def State.itsTurn (s : State) (k : Fin 8) : Bool :=
  let u := jobUnit (s.slot k)
  let wait := (allSlots.filter (fun m => s.attempts m && jobUnit (s.slot m) == u)).map (·.val)
  let last := Store.get (fun _ => 7) s.jobs.turns u
  ((wait.find? (fun m => decide (last < m))).getD (wait.headD k.val)) == k.val

/-- The turn on a unit goes to a slot. -/
def State.tookTurn (s : State) (k : Fin 8) : State :=
  { s with jobs := { s.jobs with turns := Store.put (fun _ => 7) s.jobs.turns (jobUnit (s.slot k)) k.val } }

/-- The next step of the job in a slot is taken: the turn on its unit is its own, its count moves on, and a step that runs after 64 yields counts as guaranteed (R50, R53). -/
def State.stepTaken (s : State) (k : Fin 8) : State :=
  (s.tookTurn k).mapSlot k (fun j => { j with
    guaranteed := j.guaranteed + b2n (64 ≤ j.stepYields)
    stepYields := 0
    tryAt := 0
    steps := j.steps + 1 })

/-- Whether the job in a slot may take a step at this instant: it attempts one, and it is its turn on the unit. -/
def State.stepDue (s : State) (k : Fin 8) : Bool := !s.fenced (.dev .job) && s.attempts k && s.itsTurn k

/-- The step of the job in a slot, where one may be taken now. -/
def State.takeStep (s : State) (k : Fin 8) (f : State → State) : State := if s.stepDue k then f (s.stepTaken k) else s

end Sys2Proof.Machine
end

