-- ==== Sys2Proof/Machine/Queue.lean ====
section
/-! DEFINITION. The comet queues' contents as the registers show them, and a queue emptied by its deadline (R291, R293). -/

namespace Sys2Proof.Machine

/-- ADMIT, FWD, FIRED, EXPIRE and the like raised, by register. -/
def State.cmtCount (s : State) (a : Nat) : State := s.wrap32 a 1

/-- Comets of a group in channel queues and in the fire queue (R293). -/
def State.cmtQueued (s : State) (g : Tg) : Nat :=
  ((s.cmt.chQ.toList.map (fun l => (l.filter (fun q => q.g == g)).length)).sum) + (s.cmt.fire.filter (fun q => q.g == g)).length

/-- QUEUED of every group, OCC of every queue and of the fire queue shown. (DEDUCED, notes/assumptions 108) -/
def State.showCmt (s : State) : State :=
  let s := s.forTg (fun g s => s.setReg (Reg.cmtGrpQueued g.val) (BitVec.ofNat 32 (s.cmtQueued g)))
  let s := s.forCh (fun c s => s.setFld (Reg.cmtQstatus c.val) 8 0 s.cmt.chQ[c].length)
  s.setFld Reg.cmtFireStatus 9 0 s.cmt.fire.length

/-- A comet leaves a channel's queue by its deadline: EXPIRE and EXPIRED. -/
def State.expired (s : State) (c : Ch) (q : QComet) : State :=
  (s.cmtCount (Reg.cmtGrpExpire q.g.val)).sat (Reg.cmtQstatus c.val) 31 16 1

/-- A channel's queue emptied without late reports (R291). -/
def State.emptyQueue (s : State) (c : Ch) : State :=
  let l := s.cmt.chQ[c]
  let s := s.mapCmt (fun m => { m with chQ := m.chQ.set c [] })
  (l.foldl (fun s q => s.expired c q) s).showCmt

end Sys2Proof.Machine
end

