-- ==== Sys2Proof/Machine/Fence.lean ====
section
/-! DEFINITION. Faults and fences of the channels, relay pairs and the alarm unit's pulse (R211, R403 to R409, R414 to R417). -/

namespace Sys2Proof.Machine

/-! ### Engines and groups of channels -/

/-- What a fence or its removal at an LDPC unit does to a channel in a Z mode (R127, R128): a fenced engine goes out of service at once, and one that is freed returns at the next orbit boundary, at once where no orbits are received; renegotiation of a link that is up or trains, or single-engine operation with the other engine from the next orbit boundary. (DEDUCED, notes/assumptions 94) -/
def State.unitFenceActs (s : State) (n : Ch) : State :=
  let a := s.engFenced n false
  let b := s.engFenced n true
  let keep := s.orbitLock n
  let s := s.mapFec n (fun f => { f with
    startAt := s.singleDue n && !(s.bit (Reg.fecStatus n) 2 && !s.engFenced n f.solo)
    endAt := !s.singleDue n && s.bit (Reg.fecStatus n) 2
    outA := a || (keep && f.outA)
    outB := b || (keep && f.outB) })
  if s.phase n != 0 && s.fencesForbid n then s.renegotiate n else s

/-- A boundary between received orbits: an engine whose fence has been removed is back in service (R128). -/
def State.engineBoundary (s : State) (n : Ch) : State :=
  let a := s.engFenced n false
  let b := s.engFenced n true
  s.mapFec n (fun f => { f with outA := f.outA && a, outB := f.outB && b })

/-- The group a channel is to use: its own field of CH_MAP, or in an active pair the group that the even channel uses (R21, R22). -/
def State.tgWant (s : State) (n : Ch) : Tg :=
  if s.rlyActive n && n != pairEven n then s.tgOf (pairEven n)
  else Fin.ofNat 4 (s.fld Reg.tgChMap (2 * n.val + 1) (2 * n.val))

/-- A change of group begins to wait, or ceases to (R23). -/
def State.markTg (s : State) (n : Ch) : State :=
  s.mapChan n (fun c => { c with tgPend := if s.tgWant n == s.tgOf n then none else some (c.tgPend.getD s.now) })

/-- One channel enters the group it is to use (R23): its queued comets expire in the old group, its engine re-aligns with no records of the old timescale, and an old group that it steered acts on the loss. The engine is invalid until the channel's next orbit; without orbits it is invalid for no time that shows. (DESIGN CHOICE, notes/assumptions 127) -/
def State.moveOne (s : State) (n : Ch) : State :=
  let old := s.tgOf n
  let took := s.takes n
  let s := s.emptyQueue n
  let s := s.mapChan n (fun c => { c with
    tgPend := none
    ktl := { c.ktl with align := true, marks := [], arrivals := [], thetas := [], window := [], estAt := none, rejects := 0 } })
  let s := s.devFld Reg.tgChMapEff (2 * n.val + 1) (2 * n.val) (s.tgWant n).val
  let s := s.showEngine n
  let s := if s.orbits n then s else (s.mapKtl n (fun k => { k with align := false })).showEngine n
  let s := s.when took (fun s => s.settleGroup old)
  ((s.when (s.takes n) (fun s => s.settleGroup (s.tgOf n))).showNu n).showLoop n

/-- The odd channel of an active pair enters its even channel's group (R22). (DESIGN CHOICE, notes/assumptions 127) -/
def State.followTg (s : State) (e : Ch) : State :=
  let o := partnerCh e
  if s.rlyActive e && s.tgOf o != s.tgOf e then s.moveOne o else s

/-- The group of a channel changes (R23); in an active pair the odd channel changes with the even one (R22). (DESIGN CHOICE, notes/assumptions 127) -/
def State.moveTg (s : State) (n : Ch) : State := (s.moveOne n).followTg (pairEven n)

/-- PAIR_SPLIT of a pair, with its interrupt on a rise (R22). -/
def State.showSplit (s : State) (n : Ch) : State :=
  let e := pairEven n
  let f (m : Nat) : Nat := s.fld Reg.tgChMap (2 * m + 1) (2 * m)
  let v := s.rlyActive e && f e.val != f (e.val + 1)
  let was := s.bit Reg.tgMapStatus (e.val / 2)
  (s.setBit Reg.tgMapStatus (e.val / 2) v).when (v && !was) (fun s => s.intr (.dev .tg) 0)

/-! ### Relay pairs (R211) -/

/-- Registers of a channel's RLY page that a loss of a partner leaves: an active pair stays active, so both CTRL and STATUS hold (R211, R213; R217 gives them their reset values). (DEDUCED, notes/assumptions 58; DESIGN CHOICE, notes/assumptions 145) -/
def State.pairKeeps (s : State) (n : Ch) (a : Nat) : Bool :=
  s.rlyActive n && (a == Reg.rlyCtrl n || a == Reg.rlyStatus n || a == Reg.rlyCtrl (partnerCh n) || a == Reg.rlyStatus (partnerCh n))

/-- The odd channel's RLY.CTRL mirrors the even channel's (R211, R217). -/
def State.mirrorRly (s : State) (n : Ch) : State :=
  let e := pairEven n
  s.setReg (Reg.rlyCtrl (partnerCh e)) (s.reg (Reg.rlyCtrl e))

/-- Whether a channel lets its pair become active: DSP ON, not fenced, no loopback, no pattern (R211, R237). -/
def State.pairReady (s : State) (n : Ch) : Bool :=
  (s.chan n).dsp.eff == .on && !s.chanFenced n && s.lb n == 0 && s.pattern n == 0

/-- The pair of a channel becomes active, stays so or ends, with its STATUS. A pair that becomes active uses the even channel's group at once (R22), and one that ends leaves the odd channel to its own (R211). -/
def State.setPair (s : State) (n : Ch) (v : Bool) : State :=
  let e := pairEven n
  let o := partnerCh e
  let was := s.rlyActive e
  let show1 (s : State) (c : Ch) : State :=
    let s := s.devShow (Reg.rlyStatus c) (withBits (s.reg (Reg.rlyStatus c)) 1 0 (b2n (v && s.bit (Reg.rlyCtrl e) 1) * 2 + b2n v))
    s.when (v != was) (fun s => s.mapChan c (fun x => { x with buf := { x.buf with rly := [], rlyIn := [], lost := false } }))
  let s := show1 (show1 s e) o
  if v == was then s
  else
    let s := (s.setFld (Reg.rlyFifoOcc e) 11 0 0).setFld (Reg.rlyFifoOcc o) 11 0 0
    let s := ((s.showPartner e).showPartner o).showSplit e
    let s := ((s.followTg e).markTg e).markTg o
    let s := (s.showLatency e).showLatency o
    (s.settleLink e).settleLink o

/-- The pair of a channel brought to what it may be: it becomes active once EN = 1 and both channels are ready, and stays so until EN is written 0, a RLY page is fenced on its own or the RLY block is reset; a partner that is fenced, reset or not ON leaves it active (R211, R213). (DEDUCED, notes/assumptions 58 and 107) -/
def State.settlePair (s : State) (n : Ch) : State :=
  let e := pairEven n
  let o := partnerCh e
  s.setPair n (!s.ownFence (.chan e .rly) && !s.ownFence (.chan o .rly)
    && (s.rlyActive e || (s.bit (Reg.rlyCtrl e) 0 && s.pairReady e && s.pairReady o)))

/-! ### The alarm unit (R408, R409) -/

/-- STATE of the alarm unit (15 Table 5): 0 ARMED, 1 PULSE, 2 SOFTWARE, 3 SAFE. -/
def State.alarm (s : State) : Nat := s.fld Reg.alrmStatus 31 30

/-- Whether ALARM_N is asserted in a state. -/
def State.alarmPin (s : State) (st : Nat) : Bool := st == 1 || st == 3 || s.bit Reg.alrmCtrl 31

/-- The alarm unit in a state: a change is journaled as a write by origin 0x20 to STATUS; PIN follows. -/
def State.setAlarm (s : State) (st : Nat) : State :=
  let w := withBits (withBits (s.reg Reg.alrmStatus) 31 30 st) 29 29 (b2n (s.alarmPin st))
  if st == s.alarm then s.setReg Reg.alrmStatus w else s.devSet Reg.alrmStatus w

/-- PULSE_US as it acts. -/
def State.pulseUs (s : State) : Nat := max 10 (min (s.fld Reg.alrmCtrl 13 0) 10000)

/-- A selected fault presented to the alarm unit (R408): it counts; in ARMED it is the first and starts the pulse. -/
def State.selectFault (s : State) (p : Page) (i : Nat) : State :=
  let s := s.sat32 Reg.alrmCount 1
  if s.alarm == 0 then
    let s := s.setReg Reg.alrmFirst (BitVec.ofNat 32 (2 ^ 31 + pageBase p / 0x1000 * 2 ^ 16 + i))
    let s := { s with alrm := { s.alrm with pulseEnd := s.now + us s.pulseUs } }
    (s.setAlarm 1).intr (.dev .alrm) 0
  else s

/-- ALARM_PULSE_END (R409): PULSE_US after the assertion. -/
def execAlarmPulseEnd (s : State) : Host.Outcome State Fault Refusal :=
  if s.alarm == 1 && s.alrm.pulseEnd ≤ s.now then .next (s.setAlarm 2) else .next s

/-! ### Fences of channels (R414, R415, R417) -/

/-- FORCED of CPLL_STATUS: the channel is held in the safe states of R344, by a fence or for want of its clock (R378, R415). -/
def State.showForced (s : State) (n : Ch) : State :=
  s.setBit Reg.clkCpllStatus (16 + n.val) (s.chanFenced n || ((s.chan n).dsp.eff == .on && !(s.chan n).cpll.gate && !(s.chan n).retune))

/-- CHAN of the eleven pages of a channel, which the device sets and clears: each change is a write by origin 0x20 (R41, R414). (DEDUCED, notes/assumptions 35) -/
def State.showChanFence (s : State) (n : Ch) : State :=
  let v := s.chanFenced n
  (allChPages.foldl (fun s p => if s.bit (hdr (.chan n p) hFence) 1 == v then s else s.devFld (hdr (.chan n p) hFence) 1 1 (b2n v)) s).showNf n

/-- What a whole channel does when its fence begins: its jobs end, its link drops and negotiation is suspended, its engine becomes invalid, a relay partner sees the loss, a group that it steered acts on the loss (R415). -/
def State.chanFenceActs (s : State) (n : Ch) : State :=
  let s := (s.showChanFence n).showForced n
  let s := (s.settleLink n).endJobsOf n errUnavail false
  let s := (s.showPartner n).showPartner (partnerCh n)
  let s := (s.showEngine n).showLf n
  s.when (s.takes n) (fun s => s.settleGroup (s.tgOf n))

/-- What a page's own fence that has just been set does beyond the channel's (R417): DIAG ends its jobs, loses its loopback and pattern and its results, RLY ends the pair, HL stops the host lane, FEC acts as its units' fences. (DEDUCED, notes/assumptions 95) -/
def State.pageFenceActs (s : State) (n : Ch) (p : ChPage) : State :=
  match p with
  | .diag =>
    let s := allSlots.foldl (fun s k =>
      let j := s.slot k
      if (j.typ == 1 || j.typ == 2) && targetCh j.typ j.target == some n then s.endJob k .failed errUnavail else s) s
    let lb := s.fld (Reg.diagLbCtrl n) 1 0
    let alone : Bool := lb == 1 || lb == 2 || s.fld (Reg.diagTpCtrl n) 2 0 != 0
    let s := s.devShow (Reg.diagLbCtrl n) (withBits (s.reg (Reg.diagLbCtrl n)) 1 0 0)
    let s := s.devShow (Reg.diagTpCtrl n) (withBits (s.reg (Reg.diagTpCtrl n)) 2 0 0)
    let s := (s.setPatSync n false).setReg (Reg.diagLbStatus n) 0
    let s := (s.setBit (Reg.diagMapStatus n) 31 false).setFld (Reg.diagChi n) 31 30 0
    if alone then s.renegotiate n else s.settleLink n
  | .rly => s.settlePair n
  | .hl =>
    let s := (s.setBit Reg.clkHpllStatus (16 + n.val) true).settleLink n
    s.showLf n
  | .fec =>
    let s := s.unitFenceActs n
    s.when (s.stdUp n && s.lineMode n != 1) (fun s => s.renegotiate n)
  | _ => s

/-- The own fence of a channel's page has just been stored; was tells whether the channel was fenced before. -/
def State.chFenced (s : State) (n : Ch) (p : ChPage) (was : Bool) : State :=
  if s.chanFenced n && !was then (s.chanFenceActs n).pageFenceActs n p else s.pageFenceActs n p

/-- The device fences a page of a channel, as a write by origin 0x20 to its FENCE register. (DEDUCED, notes/assumptions 88) -/
def State.fenceCh (s : State) (n : Ch) (p : ChPage) : State :=
  if s.ownFence (.chan n p) then s
  else
    let was := s.chanFenced n
    (s.devFld (hdr (.chan n p) hFence) 0 0 1).chFenced n p was

/-- The device fences a channel for a reason that no page's own fault names: the own fence of CHn.CH (R414). -/
def State.fenceChannel (s : State) (n : Ch) : State := s.fenceCh n .ch

/-- The device fences LDPC unit k, 0 engine A, 1 engine B, 2 encoder, as a write by origin 0x20 to UNIT_FENCE (R127). (DEDUCED, notes/assumptions 88) -/
def State.fenceUnit (s : State) (n : Ch) (k : Nat) : State :=
  if s.bit (Reg.fecUnitFence n) k then s
  else (s.devFld (Reg.fecUnitFence n) k k 1).unitFenceActs n

/-! ### Faults (R403 to R406) -/

/-- Whether a page has the fault bit: its default action is not 0, or it is bit 4 of ALRM (R403, R404). -/
def hasFault (p : Page) (i : Nat) : Bool := decide (i < 16) && bits (pageFaultAction p) (2 * i + 1) (2 * i) != 0

/-- The LDPC unit a fault bit of CHn.FEC fences (15 Table 2). -/
def faultUnit (i : Nat) : Option Nat :=
  match i with
  | 4 | 7 => some 0
  | 5 | 8 => some 1
  | 6 | 9 => some 2
  | _ => none

/-- Whether the unit of a channel page's fault bit is fenced, so that it detects no further fault (R406). -/
def State.faultMuted (s : State) (n : Ch) (p : ChPage) (i : Nat) : Bool :=
  s.fenced (.chan n p) || (p == .fec && match faultUnit i with | some k => s.bit (Reg.fecUnitFence n) k | none => false)

/-- The ACT field of a fault bit. -/
def State.faultAct (s : State) (p : Page) (i : Nat) : Nat := s.fld (hdr p hFaultAction) (2 * i + 1) (2 * i)

/-- FAULT_STATUS and, unless ACT is RECORD, INT_STATUS.FAULT (R405). -/
def State.recordFault (s : State) (p : Page) (i : Nat) : State :=
  let s := s.setBit (hdr p hFaultStatus) i true
  s.when (s.faultAct p i != 0) (fun s => s.intr p intFault)

/-- A fault detected in a channel's page takes the action that ACT selects (R405): loss of lock, elements, and bits without a unit are never fenced. -/
def State.detectCh (s : State) (n : Ch) (p : ChPage) (i : Nat) : State :=
  if !hasFault (.chan n p) i || s.faultMuted n p i then s
  else
    let act := s.faultAct (.chan n p) i
    let s := s.recordFault (.chan n p) i
    let s := if act < 2 then s
      else match p, faultUnit i with
        | .fec, some k => s.fenceUnit n k
        | _, _ => if i < 4 then s.fenceCh n p else s
    s.when (act == 3) (fun s => s.selectFault (.chan n p) i)

end Sys2Proof.Machine
end

