-- ==== Sys2Proof/Machine/Signal.lean ====
section
/-! DEFINITION. The receive chain's arithmetic (R135 to R172): powers in decibels, transforms, echo canceller, equalisers, slicer, their adaptation, phase detectors and the noise spectrum. -/

namespace Sys2Proof.Machine

/-! ### Powers in decibels -/

/-- The nearest whole number of 100 log10 q for a positive q, halves upward, by exact powers. -/
def log100 (q : Rat) : Int :=
  let p := q ^ 200
  let f : Int := if 1 ≤ p then (Nat.log 10 p.floor.toNat : Int) else -(Nat.clog 10 (-(-p⁻¹).floor).toNat : Int)
  (f + 1) / 2

/-- A power as 10 log10 in 0.1 dB; a power of 0 has no such figure, and what is shown for it is free. (DESIGN CHOICE, notes/assumptions 98) -/
def tenthDb (p : Rat) : Int := if p ≤ 0 then Config.zeroPower else log100 p

/-! ### Sample rates (06 Table 2) -/

/-- Received-signal kind of a mode (14, "Storage and generations"). -/
def sigKind (mode : Nat) : Nat :=
  match mode with
  | 8 => 1 | 5 => 2 | 4 => 3 | 3 => 4 | 2 => 5 | 1 => 6 | _ => 0

/-- Sample period of a kind in ps. -/
def samplePs (kind : Nat) : Rat :=
  match kind with
  | 0 => 1000000 / 22560 | 1 => 1000000 / 11376 | 2 => 1000000 / 5625 | 3 => 10000000 / 28125 | 4 => 100000000 / 140625
  | 5 => 1000000 / 750 | _ => 15000

/-! ### Cosines and the transform (R151, R171) -/

/-- 2^80, the unit of the fixed-point cosine. -/
def cosUnit : Int := 2 ^ 80

/-- Terms of the cosine series from term k on: t is that term, x2 the square of the angle, all in cosUnit. -/
def cosTerms (x2 : Int) : Nat → Int → Nat → Int
  | 0, _, _ => 0
  | f + 1, t, k => t + cosTerms x2 f (-(t * x2 / cosUnit) / ((2 * k + 1) * (2 * k + 2) : Nat)) (k + 1)

/-- cos(2π a/b), to within 2^−70. (DEDUCED, notes/assumptions 156) -/
def cosTurn (a b : Nat) : Rat :=
  let x : Int := (twoPi * cosUnit * (a % b : Nat) / b).floor
  (cosTerms (x * x / cosUnit) 40 cosUnit 0 : Rat) / cosUnit

/-- sin(2π a/b). -/
def sinTurn (a b : Nat) : Rat := cosTurn (4 * a + 3 * b) (4 * b)

/-- A complex number. -/
abbrev Cx := Rat × Rat

/-- Product of complex numbers. -/
def Cx.times (x y : Cx) : Cx := (x.1 * y.1 - x.2 * y.2, x.1 * y.2 + x.2 * y.1)
/-- Sum of complex numbers. -/
def Cx.plus (x y : Cx) : Cx := (x.1 + y.1, x.2 + y.2)
/-- Complex conjugate. -/
def Cx.conj (x : Cx) : Cx := (x.1, -x.2)
/-- Squared magnitude. -/
def Cx.power (x : Cx) : Rat := x.1 * x.1 + x.2 * x.2

/-- Elements of even and of odd index. -/
def evenOdd {α : Type} : List α → List α × List α
  | [] => ([], [])
  | [a] => ([a], [])
  | a :: b :: r => let q := evenOdd r; (a :: q.1, b :: q.2)

/-- The transform of 2^k points, by halves. -/
def fft : Nat → List Cx → List Cx
  | 0, l => l.take 1
  | k + 1, l =>
    let h := evenOdd l
    let e := fft k h.1
    let o := (fft k h.2).zipIdx.map (fun x => Cx.times x.1 (cosTurn x.2 (2 ^ (k + 1)), -sinTurn x.2 (2 ^ (k + 1))))
    List.zipWith Cx.plus e o ++ List.zipWith (fun a b => Cx.plus a (-b.1, -b.2)) e o

/-- The inverse transform of 2^k points. -/
def ifft (k : Nat) (l : List Cx) : List Cx :=
  (fft k (l.map Cx.conj)).map (fun x => (x.1 / 2 ^ k, -x.2 / 2 ^ k))

/-- A real sequence as complex numbers. -/
def realSeq (l : List Rat) : List Cx := l.map (fun x => (x, 0))

/-! ### Echo canceller (R150 to R152) -/

/-- Sum of products. -/
def dot (a b : List Rat) : Rat := (List.zipWith (fun x y => x * y) a b).sum

/-- The tail's frequency response: taps 128 to 3,071 at their places in 4,096 points (R151). -/
def tailResponse (h : List Rat) : List Cx := fft 12 (realSeq (List.replicate 128 0 ++ (h.drop 128).take 2944 ++ List.replicate 1024 0))

/-- One step of the tail engine by overlap-save (R151): from the 4,096 own symbols before sample T, oldest first, the tail's estimates for samples T to T + 127. -/
def tailStep (h win : List Rat) : List Rat :=
  ((ifft 12 (List.zipWith Cx.times (fft 12 (realSeq win)) (tailResponse h))).take 128).map (fun x => x.1)

/-- A step's adaptation of partition p, taps 128(p + 1) to 128(p + 2) − 1, in the frequency domain (R152, R159): the step's errors against the transformed transmit block, per bin normalised to its power; mu in tap units. (DEDUCED, notes/assumptions 156) -/
def tailAdapt (mu : Rat) (p : Nat) (h win errs : List Rat) : List Rat :=
  let x := fft 12 (realSeq win)
  let e := fft 12 (realSeq (errs ++ List.replicate (4096 - errs.length) 0))
  let g := ifft 12 (List.zipWith (fun a b => if a.power = 0 then (0, 0) else let q := Cx.times a.conj b; (q.1 / a.power, q.2 / a.power)) x e)
  h.zipIdx.map (fun t => if 128 * (p + 1) ≤ t.2 && t.2 < 128 * (p + 2) then t.1 + mu * ((g.map (·.1)).getD t.2 0) else t.1)

/-- The DAC's cells for a code (R147): of the 64 unary positions the first that its upper six bits count, thermometer-decoded, each by its physical segment, and the two binary cells. -/
def dacCells (segs : List Nat) (code : Byte) : List Nat × List Bool := (segs.take (code.toNat / 4), [code.getLsbD 0, code.getLsbD 1])

/-- The codes that the DAC takes for a run of symbols (R147): in A1 reverse transmission each is held for 16 periods. -/
def dacCodes (z : ZDir) (syms : List Int) : List Byte :=
  syms.flatMap (fun l => List.replicate (if z == .a1 then 16 else 1) (Config.dacCode l))

/-! ### Slicer (R156, R172) -/

/-- Levels of the received constellation: PAM-6, PAM-2 in A1 reverse; PAM-4 and PAM-3 of the BASE-T1 clauses, scaled to steps of 2. (PRESUMED, notes/assumptions 157) -/
def rxLevels (mode : Nat) (z : ZDir) : List Rat :=
  if 8 ≤ mode || mode == 0 then (match z with | .a1 => [-5, 5] | _ => [-5, -3, -1, 1, 3, 5])
  else if 3 ≤ mode then [-3, -1, 1, 3] else [-2, 0, 2]

/-- The nearest level, the upper of two at the same distance. (DEDUCED, notes/assumptions 156) -/
def slice (levels : List Rat) (y : Rat) : Rat :=
  levels.foldl (fun b l => if absR (y - l) ≤ absR (y - b) then l else b) (levels.headD 0)

/-- Mean square of a constellation. -/
def meanSquare (l : List Rat) : Rat := meanR (l.map (fun x => x * x))

/-- A DFE tap clamped to ±0.25 level units, in units of 2^−11 (R157). -/
def clampTap (b : Rat) : Rat := max (-512) (min b 512)

/-- Sum of magnitudes. -/
def absSum (l : List Rat) : Rat := (l.map absR).sum

/-- DFE taps after an update: each clamped; an update that would raise the sum of magnitudes above 0.45 is not applied to any (R157). -/
def dfeUpdate (old new : List Rat) : List Rat :=
  let c := new.map clampTap
  if 2048 * 45 / 100 < absSum c && absSum old < absSum c then old else c

/-! ### The chain, sample by sample (R135, R150 to R161) -/

/-- What the partner sends at a received symbol position, as the receiver knows it: data, a pilot of a known level, level 0, or what no measurement uses. -/
inductive RxPos where
  | data
  | pilot (level : Int)
  | silent
  | rest
  deriving DecidableEq, Repr

/-- What holds from one sample of a run to the next change (R159 to R164). -/
structure RxLaw where
  /-- Step sizes of echo head, echo tail, FFE and DFE; 0 for a frozen loop. -/
  muH : Rat
  muT : Rat
  muF : Rat
  muD : Rat
  /-- The echo loops adapt only where the partner sends level 0, and the FFE only on pilots (Table 5). -/
  early : Bool
  /-- The FFE tap that tolerance mode holds (R159). -/
  hold : Option Nat
  /-- Pilot-tracking mode; timing is acquired on pilots of known levels; the phase only advances (R161, R164, R165). -/
  pilotTrack : Bool
  acquires : Bool
  coasts : Bool
  deriving DecidableEq, Repr

/-- What is fixed while a run of samples is processed. -/
structure RxPar where
  /-- The received direction; 16 samples a symbol in A1 reverse reception. -/
  z : ZDir
  a1 : Bool
  /-- Gain in 2^−16 and offset in 1/256 LSB that correct each of the 32 active positions. -/
  corr : List (Rat × Rat)
  main : Nat
  taps : Nat
  levels : List Rat
  /-- Own transmit symbols at the ADC rate, oldest first, and how many of them lie before the run. -/
  x : List Rat
  before : Nat
  /-- The laws with the first sample of each, the last one first; what each received symbol is; the pilot cluster that begins there. -/
  laws : List (Nat × RxLaw)
  pos : List RxPos
  clusters : List Nat

/-- Coefficients, delay lines and results of a run. -/
structure RxRun where
  /-- Echo taps in 2^−10 LSB a level, FFE taps in 2^−12, DFE taps in 2^−11 level units. -/
  h : List Rat
  c : List Rat
  b : List Rat
  /-- Echo-cancelled samples that wait for decimation; symbol-rate samples, newest first, with whether each is excluded: those in the FFE and all of the run. -/
  dec : List (Rat × Bool) := []
  r : List (Rat × Bool) := []
  all : List (Rat × Bool) := []
  /-- Slicer decisions, newest first. -/
  d : List Rat := []
  /-- Tail estimates left in the step, errors that wait for the tail's steps by their samples, and the partition whose turn it is. -/
  out : List Rat := []
  wait : List (Nat × Rat) := []
  part : Nat := 0
  /-- Symbol-rate samples so far. -/
  nsym : Nat := 0
  /-- Echo-cancelled samples by position, and slicer errors with the index of the main tap's sample, newest first. -/
  res : List (RxPos × Rat) := []
  errs : List (Nat × RxPos × Rat) := []
  /-- For each equalised symbol, newest first: error and decision or known level where the decision-directed phase detector takes it. -/
  ph : List (Option (Rat × Rat)) := []

/-- An ADC code is clipped (R143). -/
def clipped (code : Byte) : Bool := code == 0x80 || code == 0x7F

/-- Samples a received symbol (R144, R155). -/
def RxPar.sps (p : RxPar) : Nat := if p.a1 then 16 else 1

/-- Own symbols from sample i on, newest first; 0 before the first known one. -/
def RxPar.own (p : RxPar) (i : Int) : List Rat := (p.x.take (i + 1 + p.before).toNat).reverse

/-- What the partner sends at sample i. -/
def RxPar.posAt (p : RxPar) (i : Nat) : RxPos := p.pos.getD (i / p.sps) .rest

/-- A law under which nothing adapts. -/
def RxLaw.still : RxLaw := ⟨0, 0, 0, 0, false, none, false, false, true⟩

/-- The law at sample i. -/
def RxPar.lawAt (p : RxPar) (i : Nat) : RxLaw := ((p.laws.find? (fun l => decide (l.1 ≤ i))).map (·.2)).getD .still

/-- A sample after the correction of its slice (R144, R145): position i mod 32 takes it. -/
def RxPar.sample (p : RxPar) (i : Nat) (code : Byte) : Rat :=
  let g := p.corr.getD (i % 32) (0, 0)
  (code.toInt : Rat) * (1 + g.1 / 65536) + g.2 / 256

/-- The 4,096 own symbols before sample i, oldest first. -/
def RxPar.block (p : RxPar) (i : Int) : List Rat := let l := (p.own (i - 1)).take 4096; (l ++ List.replicate (4096 - l.length) 0).reverse

/-- Samples by which the tail's errors lag the signal: none for the residual, whole steps that cover the way to the main tap for slicer errors (R159). -/
def RxPar.lag (p : RxPar) (i : Nat) : Nat := if (p.lawAt i).early then 0 else (p.main * p.sps + 127) / 128 * 128

/-- The tail's adaptation at the step that begins at sample i: the partition whose turn it is takes the errors of the 128 samples that the lag leaves (R152, R159). -/
def RxRun.adaptTail (p : RxPar) (q : RxRun) (i : Nat) : RxRun :=
  let top := i - p.lag i
  if top < 128 then q
  else
    let from' := top - 128
    let errs := (List.range 128).map (fun k => ((q.wait.find? (fun e => e.1 == from' + k)).map (·.2)).getD 0)
    let mu := (p.lawAt from').muT
    { q with
      h := if mu = 0 || errs.all (· == 0) then q.h else tailAdapt (1024 * mu) q.part q.h (p.block from') errs
      part := (q.part + 1) % 23
      wait := q.wait.filter (fun e => decide (top ≤ e.1)) }

/-- The step of 128 samples that begins at sample i: a partition adapts, and the engine forms the step's estimates (R151, R152). -/
def RxRun.beginStep (p : RxPar) (q : RxRun) (i : Nat) : RxRun :=
  let q := q.adaptTail p i
  { q with out := tailStep q.h (p.block i) }

/-- The echo loops take the error e of sample i (R159): the head at once, the tail at its step. (DEDUCED, notes/assumptions 156) -/
def RxRun.echoError (p : RxPar) (q : RxRun) (i : Nat) (e : Rat) : RxRun :=
  let l := p.own i
  let x := l ++ List.replicate (128 - l.length) 0
  let mu := (p.lawAt i).muH
  { q with h := if mu = 0 then q.h else List.zipWith (fun h v => h + 1024 * mu * e * v) (q.h.take 128) x ++ q.h.drop 128, wait := (i, e) :: q.wait }

/-- A symbol-rate sample, newest of the FFE's delay line: the symbol at the main tap is equalised, decided, and adapts the loops (R155 to R159); in A1 reverse reception its error stands for each of its 16 samples. Precursor taps take later samples than the main tap. (DEDUCED, notes/assumptions 156) -/
def RxRun.symbol (p : RxPar) (q : RxRun) (v : Rat) (bad : Bool) : RxRun :=
  let q := { q with r := ((v, bad) :: q.r).take 48, all := (v, bad) :: q.all, nsym := q.nsym + 1 }
  if q.nsym ≤ p.main then q
  else
    let m := q.nsym - 1 - p.main
    let kind := p.pos.getD m .rest
    let law := p.lawAt (m * p.sps)
    let rs := q.r.map (·.1)
    let y := Config.levelScale * dot q.c rs / 4096 - dot (q.b.take p.taps) q.d / 2048
    let dec := slice p.levels y
    let w := match kind with | .pilot l => (l : Rat) | _ => dec
    let e := y - w
    let known := match kind with | .pilot _ => true | _ => false
    let ok := (known || kind == .data) && !((q.r.getD p.main (0, false)).2)
    let c := if ok && (known || !law.early) && law.muF != 0 then
        q.c.zipIdx.map (fun t => if law.hold == some t.2 then t.1 else t.1 - 4096 * law.muF * e * rs.getD t.2 0)
      else q.c
    let b := if ok && law.muD != 0 then
        dfeUpdate q.b (q.b.zipIdx.map (fun t => if t.2 < p.taps then t.1 + 2048 * law.muD * e * q.d.getD t.2 0 else t.1))
      else q.b
    let takes := ok && !law.coasts && known == law.acquires
    let q := { q with
      c := c, b := b, d := (dec :: q.d).take 4
      errs := if known || kind == .data then (m * p.sps, kind, e) :: q.errs else q.errs
      ph := (if takes then some (e, w) else none) :: q.ph }
    if ok && !law.early then (List.range p.sps).foldl (fun q k => q.echoError p (m * p.sps + k) e) q else q

/-- One ADC sample through the chain (R135). -/
def RxRun.take (p : RxPar) (q : RxRun) (s : Byte × Nat) : RxRun :=
  let q := if s.2 % 128 == 0 then q.beginStep p s.2 else q
  let v := p.sample s.2 s.1 - (dot (q.h.take 128) (p.own s.2) + q.out.headD 0) / 1024
  let kind := p.posAt s.2
  let bad := clipped s.1
  let q := { q with out := q.out.tail, res := (kind, v) :: q.res }
  let q := if kind == .silent && (p.lawAt s.2).early && !bad then q.echoError p s.2 v else q
  if p.a1 then
    let d := (v, bad) :: q.dec
    if d.length < 16 then { q with dec := d }
    else RxRun.symbol p { q with dec := [] } ((d.zipIdx.map (fun t => Config.decimTap t.2 * t.1.1)).sum) (d.any (·.2))
  else q.symbol p v bad

/-- A run of ADC codes; the tail's last steps adapt when their errors are there. -/
def RxRun.run (p : RxPar) (q : RxRun) (codes : List Byte) : RxRun :=
  let q := codes.zipIdx.foldl (fun q s => q.take p s) q
  let n := (codes.length + 127) / 128
  (List.range (p.lag (codes.length - 1) / 128 + 1)).foldl (fun q k => q.adaptTail p (128 * (n + k))) q

/-- Echo left while the link is up, as a power in LSB²: from the correlation of the slicer error with own symbols at each tap (R153). (DEDUCED, notes/assumptions 156) -/
def RxRun.leftEcho (p : RxPar) (q : RxRun) : Rat :=
  let ex := meanSquare p.x
  let k := Config.levelScale * q.c.getD p.main 0 / 4096
  let rows := q.errs.map (fun e => (e.2.2, p.own (e.1 : Nat)))
  let g := (List.range 3072).map (fun t => meanR (rows.map (fun w => w.1 * w.2.getD t 0)) / ex)
  (g.map (fun v => v * v)).sum * ex / (k * k)

/-! ### Phase detectors and loop (R164 to R168) -/

/-- One estimate of a pilot cluster, in UI (R165): the correlation of its echo-cancelled samples with the known levels, a symbol late against a symbol early; samples begin one symbol before the cluster. (DESIGN CHOICE, notes/assumptions 158) -/
def pilotPhase (lv : List Int) (r : List Rat) : Rat :=
  let l := lv.map (fun v => (v : Rat))
  let c (k : Nat) : Rat := dot l (r.drop k)
  Config.pilotSlope * (c 2 - c 0) / (2 * c 1)

/-- Estimates of the decision-directed detector, one a symbol, in UI (R164): successive slicer errors and decisions compared; none where the symbol or the one before it is not taken. (DESIGN CHOICE, notes/assumptions 158) -/
def decisionPhases : List (Option (Rat × Rat)) → List (Option Rat)
  | a :: b :: r => (match a, b with
      | some a, some b => some (Config.decisionSlope * (b.1 * a.2 - a.1 * b.2))
      | _, _ => none) :: decisionPhases (b :: r)
  | _ => []

/-- The cluster that begins at symbol j: its estimate by the run's echo-cancelled samples, an excluded sample at 0; none where no pilots are sent or the phase only advances (R161, R165). -/
def RxRun.clusterPhase (p : RxPar) (all : List (Rat × Bool)) (j : Nat) : Option Rat :=
  let lv := ((p.pos.drop j).take (layout p.z).pilots).filterMap (fun k => match k with | .pilot l => some l | _ => none)
  if lv.length < (layout p.z).pilots || (p.lawAt (j * p.sps)).coasts then none
  else some (pilotPhase lv (((all.drop (j - 1)).take (lv.length + 2)).map (fun v => if v.2 then 0 else v.1)))

/-- The phase estimates of a run, in order, none where the phase only advances at the last frequency (R164, R165): one a cluster that lies in the run with a symbol on each side, or one a symbol. -/
def RxRun.phases (p : RxPar) (q : RxRun) : List (Option Rat) :=
  if (p.lawAt 0).pilotTrack then
    let all := q.all.reverse
    (p.clusters.filter (fun j => decide (1 ≤ j) && decide (j + (layout p.z).pilots < all.length))).map (RxRun.clusterPhase p all)
  else decisionPhases q.ph.reverse

/-- tri: linear between 0 and 1 at its rate, 1 at the upper corner (R168). -/
def triWave (turns : Rat) : Rat := let f := turns - turns.floor; absR (1 - 2 * f)

/-- Frequency of the spread model at an instant, relative to nominal: depth in 0.01 %, rate in 0.5 kHz, times in ps (R168). -/
def spreadModel (depth rate : Nat) (corner now : Int) : Rat :=
  -((depth : Rat) / 10000) * triWave (((now - corner : Int) : Rat) * rate / 2000000000)

/-! ### Noise spectrum (R171) -/

/-- Powers of the bins of a Hann-windowed block of 4,096 samples. -/
def hannPowers (block : List Rat) : List Rat :=
  (fft 12 (realSeq (block.zipIdx.map (fun x => x.1 * (1 - cosTurn x.2 4096) / 2)))).map Cx.power

/-- Mean power spectral density of band b, b·f_s/16 to (b + 1)·f_s/16, in LSB²/Hz, from blocks of samples: the window's mean square is 3/8. -/
def bandDensity (psSample : Rat) (blocks : List (List Rat)) (b : Nat) : Rat :=
  let bins := blocks.map (fun l => meanR (((hannPowers l).drop (256 * b)).take 256))
  2 * meanR bins * psSample / (4096 * 3 / 8 * 1000000000000)

end Sys2Proof.Machine
end

