-- ==== Sys2Proof/Machine/Train.lean ====
section
/-! DEFINITION. Auto-negotiation results and training (R177 to R192): resolution, status words, phases, limits. -/

namespace Sys2Proof.Machine

/-- Link state of a channel changed. -/
def State.mapLink (s : State) (n : Ch) (f : LinkSt → LinkSt) : State := s.mapChan n (fun c => { c with link := f c.link })

/-! ### Resolution (R181 to R183) -/

/-- Bit i of a page. -/
def pbit (w : Word) (i : Nat) : Bool := w.getLsbD i

/-- Whether an end accepts to transmit Z50 (as its A1_REQ says), and to transmit A1 reverse. -/
def wantsFwd (req : Nat) : Bool := req == 1 || req == 3 || req == 0
/-- As wantsFwd, for A1 reverse. -/
def wantsRev (req : Nat) : Bool := req == 2 || req == 3 || req == 0

/-- The Z50/A1 roles (R182): true where this end transmits Z50; none where Z50/A1 is not resolved. -/
def a1Roles (own1 own2 lp1 lp2 : Word) (leader : Bool) : Option Bool :=
  let ro := bits own2 31 30
  let rl := bits lp2 31 30
  let fwd := pbit own1 25 && pbit lp1 24 && wantsFwd ro && wantsRev rl
  let rev := pbit own1 24 && pbit lp1 25 && wantsRev ro && wantsFwd rl
  if ro == 0 && rl == 0 then none
  else if fwd && rev then some leader
  else if fwd then some true
  else if rev then some false
  else none

/-- The code of a direction (R183), 1 long, 2 short: the receiver's preference where the transmitter can send it, else long where both can, else short; none where there is no code. -/
def dirCode (tx rx : Word) : Option Nat :=
  let canL := pbit tx 21 && pbit rx 23
  let canS := pbit tx 20 && pbit rx 22
  let pref := bits rx 19 18
  if pref == 1 && pbit tx 21 then some 1
  else if pref == 2 && pbit tx 20 then some 2
  else if canL then some 1
  else if canS then some 2
  else none

/-- A negotiation's result: mode, transmit code, receive code, KTL version. -/
structure Resolved where
  mode : Nat
  tx : Nat
  rx : Nat
  ver : Nat
  deriving DecidableEq, Repr

/-- The highest standard mode that both ends advertise, as bits of ADV.MODES[4:0] (R181). -/
def stdMode (own lp : BitVec 5) : Option Nat :=
  let b := own &&& lp
  if b.getLsbD 4 then some 5 else if b.getLsbD 3 then some 4 else if b.getLsbD 2 then some 3
  else if b.getLsbD 1 then some 2 else if b.getLsbD 0 then some 1 else none

/-- The resolution of both ends' pages (R181 to R183); none where no mode is common. lp holds the partner's pages where it sent the Tageoc sequence in format 0x01. -/
def resolve (own1 own2 : Word) (ownStd lpStd : BitVec 5) (lp : Option (Word × Word)) (leader : Bool) : Option Resolved :=
  let std := (stdMode ownStd lpStd).map (fun m => (⟨m, 0, 0, 0⟩ : Resolved))
  match lp with
  | none => std
  | some (lp1, lp2) =>
    let ver := min (bits own1 31 28) (bits lp1 31 28)
    let txc := dirCode own1 lp1
    let rxc := dirCode lp1 own1
    let a1 : Option Resolved := match a1Roles own1 own2 lp1 lp2 leader with
      | some true => txc.map (fun t => ⟨0xA, t, 3, ver⟩)
      | some false => rxc.map (fun r => ⟨0xB, 3, r, ver⟩)
      | none => none
    let sym (m : Nat) (ok : Bool) : Option Resolved := match ok, txc, rxc with
      | true, some t, some r => some ⟨m, t, r, ver⟩
      | _, _, _ => none
    a1.orElse (fun _ => (sym 9 (pbit own1 26 && pbit lp1 26)).orElse (fun _ =>
      (sym 8 (pbit own1 27 && pbit lp1 27)).orElse (fun _ => std)))

/-- The RESOLVED word of a result (07 Table 11). -/
def resolvedWord (r : Resolved) (leader down ssc : Bool) (resId : Nat) : Word :=
  BitVec.ofNat 32 (2 ^ 31 + b2n leader * 2 ^ 30 + b2n down * 2 ^ 29 + r.mode * 2 ^ 24 + r.tx * 2 ^ 22 + r.rx * 2 ^ 20
    + r.ver * 2 ^ 16 + b2n ssc * 2 ^ 15 + resId)

/-- Whether the leader spreads (R183): its SSC_TX and PILOT_TRK of both ends. (DEDUCED, notes/assumptions 106) -/
def leaderSpreads (own1 own2 lp1 lp2 : Word) (leader : Bool) : Bool :=
  pbit own1 17 && pbit lp1 17 && (if leader then pbit own2 27 else pbit lp2 27)

/-- SSC_STATUS after a resolution: the leader's announcement, or this end's own spread returned (R168, 06 Table 12). -/
def State.showSsc (s : State) (n : Ch) (ssc : Bool) (lp2 : Word) (leader : Bool) : State :=
  let src := if leader then (s.chan n).link.up2 else lp2
  let rate := bits src 20 13
  let lock := s.bit (Reg.eqSscStatus n) 30
  let w := withBits (withBits (withBits (s.reg (Reg.eqSscStatus n)) 31 31 (b2n ssc)) 15 8 (if ssc then rate / 2 else 0)) 5 0
    (if ssc then bits src 26 21 else 0)
  ((s.setReg (Reg.eqSscStatus n) (withBits w 30 30 0)).mapChan n (fun c => { c with
    rx := { c.rx with sscHalf := if ssc then rate else 0 }
    link := { c.link with ssc := if ssc then some (bits src 26 21, rate) else none } })).cintIf lock n .eq 1

/-- A cold train starts with phase 1 in a Z mode (R185, R186); in a standard mode the clause trains, and the orbit indices read 0 (R107). Pending timing mode and main tap take effect (R155, R163). -/
def State.startCold (s : State) (n : Ch) : State :=
  let s := (s.sat32 (Reg.anColdTrains n) 1).lifeAdd (qChan n.val 1) 1
  let s := s.setTrain n 1 1
  let s := (s.mapLink n (fun l => { l with neg := false, trainFrom := s.now, phaseFrom := s.now, limitAt := none, readyRun := 0, tswRun := 0 })).mapChan n
    (fun c => { c with
      rx := { c.rx with
        main := min (s.fld (Reg.eqFfeCtrl n) 5 0) 47, mse := [], sqSum := 0, sqNum := 0
        trFreq := 0, trErr := [], trGood := 0, est := [], rcvOk := false }
      line := { c.line with trainReg := trainSeed, p1 := isZ (s.lineMode n) && s.leader n } })
  let s := if isZ (s.lineMode n) then s else (s.setReg (Reg.pcsTxOrbit n) 0).setReg (Reg.pcsRxOrbit n) 0
  ((s.settleEngines n).applyTiming n).retarget n

/-- The negotiation's end at a channel that negotiates (R178, R181): the partner's pages are kept and shown; with a common mode and no role fault the resolution is stored and the training starts; otherwise, or where units fenced since then end the mode (R127), a new negotiation starts. -/
def State.negotiated (s : State) (n : Ch) (lpStd : BitVec 5) (lp : Option (Word × Word)) (leader fault : Bool) (lpNonce : BitVec 5) : State :=
  let lk := (s.chan n).link
  let s := (s.setReg (Reg.anLpUp1 n) ((lp.map (·.1)).getD 0)).setReg (Reg.anLpUp2 n) ((lp.map (·.2)).getD 0)
  match fault, resolve lk.up1 lk.up2 lk.base.tech lpStd lp leader with
  | false, some r =>
    let ssc := match lp with
      | some (l1, l2) => isZ r.mode && leaderSpreads lk.up1 lk.up2 l1 l2 leader && r.mode != (if leader then 0xB else 0xA)
      | none => false
    let s := s.devShow (Reg.anResolved n) (resolvedWord r leader (s.bit (Reg.anResolved n) 29) ssc (lk.nonce ^^^ lpNonce).toNat)
    let s := s.mapLink n (fun l => { l with lpNonce := lpNonce, zlpi := pbit lk.up1 16 && (lp.map (fun p => pbit p.1 16)).getD false })
    let s := s.setSpread n (if ssc && leader then (bits lk.up2 26 21, bits lk.up2 20 13) else (0, 63))
    let s := s.showSsc n ssc ((lp.map (·.2)).getD 0) leader
    if s.fencesForbid n then s.startNeg n else s.startCold n
  | _, _ => s.startNeg n

/-- NEGOTIATION_COMPLETE (R177 to R181), on a line whose clock runs at the rate of negotiation: the partner's base page and all the next pages it sent, in order. Clause 98 resolves the roles from both base pages; the partner's abilities for Z modes are those of its Tageoc sequence. -/
def execNegotiationComplete (n : Ch) (lp : BasePage) (np : List NextPage) (s : State) : Host.Outcome State Fault Refusal :=
  let lk := (s.chan n).link
  if lk.neg && s.lineReady n then
    let ms := msResolve lk.base lp
    .next (s.negotiated n lp.tech (tageocOf np) (ms.getD false) ms.isNone lp.nonce)
  else .next s

/-! ### Phases (R185 to R190) -/

/-- Limit of a phase, 07 Table 7, by kind. -/
def phaseLimit (kind ph : Nat) : Nat :=
  if kind == 1 then (if ph == 4 then ms 20 else ms 30) else us 600

/-- Whether this end sends training symbols in phase 1, t ps after its start (07 Table 5). -/
def phase1Sends (leader : Bool) (t : Nat) : Bool :=
  if leader then t < ms 16 else ms 17 ≤ t && t < ms 33

/-- PHASE1_TIMER (R186): the sender of phase 1 changes with time; 34 ms after the end of negotiation, phase 2 starts. -/
def execPhase1Timer (n : Ch) (s : State) : Host.Outcome State Fault Refusal :=
  let lk := (s.chan n).link
  if s.kind n == 1 && s.phase n == 1 && isZ (s.lineMode n) then
    if lk.phaseFrom + ms 34 ≤ s.now then
      .next ((s.mapChan n (fun c => { c with line := { c.line with p1 := false } })).enterPhase n 2 (some (phaseLimit 1 2)))
    else
      let v := phase1Sends (s.leader n) (s.now - lk.phaseFrom)
      .next (s.mapChan n (fun c => { c with line := { c.line with p1 := v } }))
  else .next s

/-- The status word decided bit by bit from received signs: 1 where more than half of its repetitions are 1 (R187). -/
def tswDecide (z : ZDir) (signs : List Bool) : BitVec 16 :=
  let k := tswRepeats z
  BitVec.ofNat 16 (bitsVal ((List.range 16).map (fun b =>
    k < 2 * ((List.range k).filter (fun r => signs.getD (16 * r + b) false)).length)))

/-- The constellation that a channel receives. (PRESUMED, notes/assumptions 157) -/
def State.levels (s : State) (n : Ch) : List Rat := rxLevels (s.lineMode n) (s.rxDir n)

/-- Mean square of the constellation that the partner transmits (R172): 10 for PAM-6, whose corner points are never sent, 25 for PAM-2, in a standard mode of the clause's levels. -/
def State.levelPower (s : State) (n : Ch) : Rat :=
  if isZ (s.lineMode n) then (if s.rxDir n == .a1 then 25 else 10) else meanSquare (s.levels n)

/-- MSE of the last orbit or block shown in 0.1 dB, from the mean of e², with mean, maximum and SNR over the last 1,024 (R172). -/
def State.showMse (s : State) (n : Ch) (mean : Rat) : State :=
  let m := tenthDb mean
  let l := (m :: (s.chan n).rx.mse).take 1024
  let avg := (l.sum * 2 + l.length) / (2 * l.length)
  let es := tenthDb (s.levelPower n)
  let s := (s.setFld (Reg.eqMseLast n) 15 0 (twos 16 m)).setFld (Reg.eqMseMax n) 15 0 (twos 16 (l.foldl max m))
  let s := s.setReg (Reg.eqMseAvg n) (BitVec.ofNat 32 (twos 16 (max 0 (es - avg)) * 2 ^ 16 + twos 16 avg))
  s.mapChan n (fun c => { c with rx := { c.rx with mse := l } })

/-- The slicer errors of one received orbit, at its data and pilot positions (R172); an orbit without such positions contributes nothing. (DESIGN CHOICE, notes/assumptions 98) -/
def State.takeMse (s : State) (n : Ch) (errs : List Rat) : State :=
  s.when (!errs.isEmpty) (fun s => s.showMse n (meanSquare errs))

/-- Whether the receiver is ready in phase 3: the mean of MSE_LAST over 64 orbits at or below the limit (R188). -/
def State.mseReady (s : State) (n : Ch) : Bool :=
  let l := (s.chan n).rx.mse.take 64
  let th := s.sfld (Reg.anTrnMseTh n) 15 0 + (match s.rxDir n with | .a1 => 140 | _ => 0)
  l.length == 64 && decide (l.sum ≤ 64 * th)

/-- Whether this end's receiver meets the criterion of R188 for its phase. -/
def State.rxReady (s : State) (n : Ch) : Bool :=
  if s.phase n == 3 then s.mseReady n else 64 ≤ (s.chan n).link.readyRun

/-- The status word this end sends (07 Table 6). -/
def State.tswSent (s : State) (n : Ch) : BitVec 16 :=
  BitVec.ofNat 16 (0xA000 + s.phase n % 8 * 512 + b2n (s.rxReady n) * 256 + b2n (s.kind n != 1) * 128
    + b2n (s.chan n).link.abort.isSome * 64 + s.fld (Reg.anResolved n) 4 0)

/-- Whether this end sends training orbits now (R186, R190): in phase 2 the leader at once, the follower once its timing is locked; in phase 3 both; an end whose training failed sends its ABORT words. -/
def State.sendsTraining (s : State) (n : Ch) : Bool :=
  let ph := s.phase n
  isZ (s.lineMode n) && !s.linkUp n && match (s.chan n).link.abort with
    | some k => decide (0 < k)
    | none => ph == 3 || (ph == 2 && (s.leader n || s.bit (Reg.eqTrStatus n) 31))

/-- A transmitter sends symbols from now on for a µs: what it sent last, and what the canceller takes as its own symbols (R147, R150). -/
def State.transmit (s : State) (n : Ch) (o : OrbitOut) : State :=
  s.mapChan n (fun c => { c with line := { c.line with
    lastTx := some { o with dac := dacCodes (s.txDir n) o.syms }
    sent := ((s.now, o.syms) :: c.line.sent).take 1026 } })

/-- Symbols sent outside orbits. -/
def plainOut (syms : List Int) : OrbitOut := { ty := none, index := 0, ktl := none, lite := none, tsw := none, blocks := [], syms := syms }

/-- Training symbols from a register, and the register after them (R185). (DEDUCED, notes/assumptions 149) -/
def trainRun (z : ZDir) (t : BitVec 31) (k : Nat) : List Int × BitVec 31 := let x := scrRun t (trainBits z k); (trainLevels z x.1, x.2)

/-- The symbols that a near-end digital loopback brings to the slicer, those of the orbit sent last; none without one (R235). (DEDUCED, notes/assumptions 96) -/
def State.loopSyms (s : State) (n : Ch) : Option (List Int) :=
  if s.lb n == 1 && s.pattern n == 0 then some (((s.chan n).line.lastTx.map (·.syms)).getD []) else none

/-- Bits as a number, the first the most significant. -/
def bitsNat (l : List Bool) : Nat := l.foldl (fun a b => 2 * a + b2n b) 0

/-- The signs of a mark and of the field positions as this channel hears them. (DESIGN CHOICE, notes/assumptions 7) -/
def State.heardMark (s : State) (n : Ch) (mark : BitVec 16) : BitVec 16 :=
  match s.loopSyms n with
  | some l => BitVec.ofNat 16 (bitsNat ((l.take 16).map (fun v => decide (0 < v))))
  | none => mark
/-- As heardMark, for the signs of the field positions. -/
def State.heardSigns (s : State) (n : Ch) (signs : BitVec 224) : BitVec 224 :=
  match s.loopSyms n with
  | some l => BitVec.ofNat 224 (bitsNat (((l.drop 16).take 224).map (fun v => decide (0 < v))))
  | none => signs
/-- As heardMark, for the bits of a KTL field: first bit of a PAM-4 symbol its sign, second its inner level (R89). (DESIGN CHOICE, notes/assumptions 7; DEDUCED, notes/assumptions 96) -/
def State.heardField (s : State) (n : Ch) (field : BitVec 448) : BitVec 448 :=
  match s.loopSyms n with
  | some l => BitVec.ofNat 448 (bitsNat (((l.drop 16).take 224).flatMap (fun v => [decide (0 < v), decide (v.natAbs = 1)])))
  | none => field
/-- As heardMark, for the slicer errors of an orbit: a digital loopback has none. (DEDUCED, notes/assumptions 96) -/
def State.heardErrs (s : State) (n : Ch) (errs : List Rat) : List Rat := if (s.loopSyms n).isSome then errs.map (fun _ => 0) else errs

/-- The symbols of codeword k of the orbit being received as this channel hears them (R83, R235). -/
def State.heardCodeword (s : State) (n : Ch) (k : Nat) (syms : List Rat) : List Rat :=
  match s.loopSyms n with
  | some l => (List.range syms.length).map (fun i => (l.getD (dataPosition (s.rxDir n) (k * syms.length + i)) 0 : Rat))
  | none => syms

/-- One µs of phase 1: continuous training symbols (R185, R186). (DEDUCED, notes/assumptions 149) -/
def State.sendQuietEcho (s : State) (n : Ch) : State :=
  let x := trainRun (s.txDir n) (s.chan n).line.trainReg (layout (s.txDir n)).symbols
  (s.mapChan n (fun c => { c with line := { c.line with trainReg := x.2 } })).transmit n (plainOut x.1)

/-- One orbit of phase 2 or 3 (R185, R187): mark, status word, pilots and training symbols; an ABORT word counts down (R190). (DEDUCED, notes/assumptions 149) -/
def State.sendTraining (s : State) (n : Ch) : State :=
  let z := s.txDir n
  let w := s.tswSent n
  let x := trainData z (s.phase n) (layout z).segments 0 (s.chan n).line.trainReg
  let syms := orbitSymbols z (tswSymbols z w) x.1
  (s.mapChan n (fun c => { c with
    line := { c.line with trainReg := x.2 }
    link := { c.link with abort := c.link.abort.map (· - 1) } })).transmit n { plainOut syms with tsw := some w }

/-- A found or missing mark of an orbit in training or on a live link: the missing run counts toward the drop (R87, R192); the first mark found starts the limit of a resumed phase 2 (R190). -/
def State.takeMark (s : State) (n : Ch) (found : Bool) : State :=
  if found then
    s.mapLink n (fun l => { l with markRun := 0, limitAt := if l.holdBy.isSome then some (s.now + us 600) else l.limitAt, holdBy := none })
  else
    let s := (s.satInt (Reg.pcsMarkMiss n) 1 (.chan n .pcs) 0).mapLink n (fun l => { l with markRun := l.markRun + 1 })
    if s.linkUp n && 4 ≤ (s.chan n).link.markRun then ((s.sat32 (Reg.anDropMark n) 1).dropLink n).startFast n else s

/-- A training status word that has been received in phase 2 or 3 (R187 to R191). -/
def State.takeTsw (s : State) (n : Ch) (w : BitVec 16) : State :=
  let valid := (w >>> 12) == 0xA
  let ph := (w >>> 9).toNat % 8
  let own := s.phase n
  let resumed := s.kind n != 1
  let lockRun := s.orbitLock n && s.bit (Reg.eqTrStatus n) 31
  let s := s.mapLink n (fun l => { l with
    readyRun := if own == 2 then (if lockRun then l.readyRun + 1 else 0) else l.readyRun
    tswRun := if valid && ((w.getLsbD 8 && own == ph) || decide (own < ph)) then l.tswRun + 1 else 0 })
  if !valid then s
  else if w.getLsbD 6 then s.failTrain n 6
  else if resumed && !s.nearLb n && (!w.getLsbD 7 || (w.toNat % 32 != s.fld (Reg.anResolved n) 4 0)) then s.failTrain n 4
  else s

/-- TSW_RECEIVE (R187): the signs of the 16 mark symbols and of the field positions of one received training orbit, and the orbit's slicer errors. -/
def execTswReceive (n : Ch) (mark : BitVec 16) (signs : BitVec 224) (errs : List Rat) (s : State) : Host.Outcome State Fault Refusal :=
  let ph := s.phase n
  if (ph == 2 || ph == 3) && isZ (s.lineMode n) && s.orbitLock n && (s.chan n).link.abort.isNone then
    .next (((s.takeMark n (markFound (s.heardMark n mark))).takeMse n (s.heardErrs n errs)).takeTsw n (tswDecide (s.rxDir n) (msbBits (s.heardSigns n signs))))
  else .next s

/-- A phase follows: 3 with its status words, 4 with TRAIN orbits from index 0 (R188, R189). -/
def State.nextPhase (s : State) (n : Ch) : State :=
  let ph := s.phase n + 1
  let s := s.enterPhase n ph (some (phaseLimit (s.kind n) ph))
  if ph == 4 then
    let a1 := s.rxDir n == .a1
    let s := s.mapChan n (fun c => { c with line := { c.line with
      txTy := some .train, txNext := 0, oamIn := [], rxIdx := if a1 then 0 else c.line.rxIdx } })
    s.when a1 (fun s => s.setReg (Reg.pcsRxOrbit n) 0)
  else s

/-- Link conditions of an end in phase 4 (R189): it sends DATA once its receiver is ready, and the link is up once it has also decoded a DATA field. -/
def State.phase4 (s : State) (n : Ch) : State :=
  let lk := (s.chan n).link
  if !lk.sends then
    if 64 ≤ lk.readyRun then
      let s := (s.mapLink n (fun l => { l with sends := true })).mapChan n (fun c => { c with line := { c.line with txTy := some .data } })
      if lk.got then s.comeUp n else s
    else s
  else if lk.got then s.comeUp n else s

/-- TRAINING_PHASE_ADVANCE (R188, R189): at an orbit boundary an end in phase 2 or 3 whose receiver is ready, and whose partner showed it for 8 orbits, moves on; an end in phase 4 that is ready sends DATA. -/
def execTrainingPhaseAdvance (n : Ch) (s : State) : Host.Outcome State Fault Refusal :=
  let ph := s.phase n
  let lk := (s.chan n).link
  if (ph == 2 || ph == 3) && isZ (s.lineMode n) && lk.abort.isNone && s.rxReady n && 8 ≤ lk.tswRun then .next (s.nextPhase n)
  else if ph == 4 && isZ (s.lineMode n) && !s.linkUp n then .next (s.phase4 n)
  else .next s

/-- TRAINING_TIMEOUT (R190): the limit of the phase has passed. -/
def execTrainingTimeout (n : Ch) (s : State) : Host.Outcome State Fault Refusal :=
  match (s.chan n).link.limitAt with
  | some t => if t ≤ s.now && !s.linkUp n then .next (s.failTrain n (s.phase n - 1)) else .next s
  | none => .next s

/-- ABORT_TSW_END (R190): after 64 orbits of ABORT words the end negotiates. -/
def execAbortTswEnd (n : Ch) (s : State) : Host.Outcome State Fault Refusal :=
  let lk := (s.chan n).link
  if lk.abort == some 0 && !s.linkUp n then .next ((s.mapLink n (fun l => { l with abort := none })).startNeg n) else .next s

/-- FAST_HOLD_EXPIRY (R191): no mark of the partner arrived within FAST_HOLD. -/
def execFastHoldExpiry (n : Ch) (s : State) : Host.Outcome State Fault Refusal :=
  match (s.chan n).link.holdBy with
  | some t => if t ≤ s.now && s.phase n == 2 && !s.linkUp n then .next (s.failTrain n 5) else .next s
  | none => .next s

/-- PARTNER_NEGOTIATION_SIGNAL (R190): Clause 98 signalling arrives during a training. -/
def execPartnerNegotiationSignal (n : Ch) (s : State) : Host.Outcome State Fault Refusal :=
  if !s.linkUp n && 1 ≤ s.phase n && s.phase n ≤ 4 && (s.chan n).link.abort.isNone then .next (s.failTrain n 7) else .next s

/-- ORBIT_LOCK_ACQUIRED (R87): the receiver aligns to the partner's orbits. -/
def execOrbitLockAcquired (n : Ch) (s : State) : Host.Outcome State Fault Refusal :=
  if s.orbits n && s.lineReady n then .next ((s.setOrbitLock n true).takeMark n true) else .next s

/-! ### Standard modes (R160, R192) -/

/-- STANDARD_MODE_LINK_UP (R189): the clause's training completes. -/
def execStandardModeLinkUp (n : Ch) (s : State) : Host.Outcome State Fault Refusal :=
  let m := s.lineMode n
  if m != 0 && !isZ m && !s.linkUp n && s.lineReady n && 1 ≤ s.phase n then
    .next (s.comeUp n)
  else .next s

/-- STANDARD_MODE_LINK_DROP (R192): the clause's link monitoring drops the link, and the clause retrains or negotiates; which of the two is an operand. -/
def execStandardModeLinkDrop (n : Ch) (retrain : Bool) (s : State) : Host.Outcome State Fault Refusal :=
  if s.stdUp n then
    let s := s.dropLink n
    if retrain then .next ((s.setTrain n (s.kind n) 1).mapLink n (fun l => { l with trainFrom := s.now, phaseFrom := s.now }))
    else .next (s.startNeg n)
  else .next s

/-! ### Writes of AN_CTRL and ADV, near-end loopback -/

/-- AN_CTRL.EN becomes 1: negotiation starts (R178). -/
def State.anEnable (s : State) (n : Ch) : State := if s.linkUp n then s else s.startNeg n

/-- AN_CTRL.EN becomes 0: negotiation stops and a live link drops (R178). -/
def State.anDisable (s : State) (n : Ch) : State := ((s.dropLink n).linkIdle n).setOrbitLock n false

/-- A near-end loopback starts: phases 2 to 4 against itself, as leader, without negotiation, both directions with the code that this end prefers; the echo canceller of an analog one is held at zero (R110, R235). (DEDUCED, notes/assumptions 96) -/
def State.startLoop (s : State) (n : Ch) : State :=
  let s := (((s.dropLink n).linkIdle n).setOrbitLock n false).setSpread n (0, 63)
  let s := (s.setTrain n 1 2).enterPhase n 2 (some (phaseLimit 1 2))
  let code := if s.fld (Reg.anAdv n) 29 28 == 2 then 2 else 1
  let hold := s.lb n == 2
  let s := s.mapChan n (fun c => { c with
    link := { c.link with trainFrom := s.now, lb := code }
    line := { c.line with trainReg := trainSeed }
    rx := { c.rx with ec := if hold then [] else c.rx.ec, frac := if hold then c.rx.frac.filter (fun t => 4096 ≤ t.1) else c.rx.frac } })
  ((s.settleEngines n).applyTiming n).retarget n

end Sys2Proof.Machine
end

