-- ==== Sys2Proof/Machine/Trim.lean ====
section
/-! DEFINITION. Factory trims: trim sections, temperature evaluation, element selections and trim applications (R380 to R389). -/

namespace Sys2Proof.Machine

/-- Trim state of a channel changed. -/
def State.mapTrim (s : State) (n : Ch) (f : TrimSt → TrimSt) : State := s.mapChan n (fun c => { c with trim := f c.trim })
/-- Receiver state of a channel changed. -/
def State.mapRx (s : State) (n : Ch) (f : RxSt → RxSt) : State := s.mapChan n (fun c => { c with rx := f c.rx })

/-! ### A channel section (14 Table 1, R381) -/

/-- Byte at an offset. -/
def byteAt (l : List Byte) (i : Nat) : Nat := (l.getD i 0).toNat
/-- Signed byte at an offset. -/
def sbyteAt (l : List Byte) (i : Nat) : Int := (l.getD i 0).toInt
/-- A most-significant-first number of k bytes at an offset. -/
def numAt (l : List Byte) (i k : Nat) : Nat := beNat ((l.drop i).take k)

/-- Offset of trim block t. -/
def blkOff (t : Nat) : Nat := 0x180 * t

/-- Entry j of TFRONT_A: 12 bits, packed from the most significant bit. -/
def tfrontEntry (l : List Byte) (t j : Nat) : Nat :=
  let o := blkOff t + 0x0EC + 3 * j / 2
  if j % 2 = 0 then byteAt l o * 16 + byteAt l (o + 1) / 16 else byteAt l o % 16 * 256 + byteAt l (o + 1)

/-- Continuous receive codes of a block: HYB_BAL, BIAS_RX, SKEW, TFRONT_A. -/
def rxCodes (l : List Byte) (t : Nat) : List Int :=
  let b := blkOff t
  [(byteAt l (b + 2) : Int), (byteAt l (b + 3) : Int)] ++ (List.range 36).map (fun k => sbyteAt l (b + 0xC + k))
    ++ (List.range 98).map (fun j => (tfrontEntry l t j : Int))

/-- Continuous transmit codes of a block: BIAS_TX, DRV_AMP, LAT_TX_A. -/
def txCodes (l : List Byte) (t : Nat) : List Int :=
  let b := blkOff t
  [(byteAt l (b + 4) : Int), (byteAt l (b + 5) : Int)] ++ (List.range 3).map (fun k => (numAt l (b + 6 + 2 * k) 2 : Int))

/-- SLICE_MAP, SLICE_SPARE, SEG_MAP and SEG_SPARE of a block. -/
def sliceMap (l : List Byte) (t : Nat) : List Nat := (List.range 32).map (fun k => byteAt l (blkOff t + 0x78 + k))
/-- SLICE_SPARE. -/
def sliceSpare (l : List Byte) (t : Nat) : List Nat := (List.range 4).map (fun k => byteAt l (blkOff t + 0x98 + k))
/-- SEG_MAP. -/
def segMap (l : List Byte) (t : Nat) : List Nat := (List.range 64).map (fun k => byteAt l (blkOff t + 0x9C + k))
/-- SEG_SPARE. -/
def segSpare (l : List Byte) (t : Nat) : List Nat := (List.range 8).map (fun k => byteAt l (blkOff t + 0xDC + k))

/-- LEGS: comparator legs (receive) and bias legs (transmit). -/
def rxLegs (l : List Byte) (t : Nat) : Word := BitVec.ofNat 32 (numAt l (blkOff t + 0xE4) 4)
/-- The bias legs of LEGS. -/
def txLegs (l : List Byte) (t : Nat) : Word := BitVec.ofNat 32 (numAt l (blkOff t + 0xE8) 4)

/-- Whether a list of elements names each once and only elements below a bound. -/
def distinctBelow (l : List Nat) (k : Nat) : Bool := l.Nodup && l.all (· < k)

/-- Spread of a list of numbers. -/
def spread (l : List Int) : Int := match l with
  | [] => 0
  | x :: r => r.foldl max x - r.foldl min x

/-- The plausibility checks of a channel section (14 Table 2). -/
def sectionPasses (n : Ch) (l : List Byte) : Bool :=
  let blk (t : Nat) : Bool :=
    byteAt l (blkOff t) == n.val && byteAt l (blkOff t + 1) == t
      && distinctBelow (sliceMap l t ++ sliceSpare l t) 36 && distinctBelow (segMap l t ++ segSpare l t) 72
      && decide (spread ((sliceMap l t).map (fun k => sbyteAt l (blkOff t + 0x30 + k))) ≤ 64)
      && decide (spread ((sliceMap l t).map (fun k => sbyteAt l (blkOff t + 0x54 + k))) ≤ 60)
      && decide (spread ((sliceMap l t).map (fun k => sbyteAt l (blkOff t + 0x0C + k))) ≤ 50)
      && (List.range 98).all (fun j => tfrontEntry l t j ≤ 3500)
      && ((txCodes l t).drop 2).all (fun v => 4000 ≤ v && v ≤ 7500)
  let rising (t : Nat) : Bool :=
    (List.range 98).all (fun j => tfrontEntry l t j ≤ tfrontEntry l (t + 1) j)
      && (List.zipWith (fun a b => decide (a ≤ b)) ((txCodes l t).drop 2) ((txCodes l (t + 1)).drop 2)).all id
      && decide ((byteAt l (blkOff t + 2) : Int) - byteAt l (blkOff (t + 1) + 2) ≤ 16
        ∧ (byteAt l (blkOff (t + 1) + 2) : Int) - byteAt l (blkOff t + 2) ≤ 16)
  l.length == 1984 && crc32 (l.take 0x7BC) == numAt l 0x7BC 4
    && (List.range 5).all blk && (List.range 4).all rising

/-! ### Evaluation (R384, R385) -/

/-- Trim temperatures in 0.1 °C (R380). -/
def trimTemp : Nat → Int
  | 0 => -400 | 1 => 0 | 2 => 450 | 3 => 900 | _ => 1250

/-- Midpoints between trim temperatures in 0.1 °C (R384). -/
def trimMid : Nat → Int
  | 0 => -200 | 1 => 225 | 2 => 675 | _ => 1075

/-- The lower block of the interval that holds a clamped temperature. -/
def trimLow (t : Int) : Nat := if t < 0 then 0 else if t < 450 then 1 else if t < 900 then 2 else 3

/-- A target value between two blocks (R384). -/
def interp (lo : Nat) (t c d : Int) : Rat := c + (d - c) * (t - trimTemp lo) / (trimTemp (lo + 1) - trimTemp lo)

/-- A continuous code after an evaluation: it moves when the target is at least one step away, to the nearest code, halves up. -/
def newCode (cur : Int) (v : Rat) : Int := if v - cur < 1 && cur - v < 1 then cur else (v + 1 / 2).floor

/-- The codes of two neighbouring blocks evaluated at a temperature in 0.1 °C against the codes in force. -/
def evalCodes (f : Nat → List Int) (temp : Int) (cur : List Int) : List Int :=
  let t := max (-400) (min temp 1250)
  let lo := trimLow t
  let pairs := List.zip (f lo) (f (lo + 1))
  (List.zip pairs (List.range pairs.length)).map (fun x =>
    let v := interp lo t x.1.1 x.1.2
    newCode (cur.getD x.2 (v + 1 / 2).floor) v)

/-- The selection set after a reading, with its hysteresis of 2 °C (R384). -/
def nextSet (s : Nat) (temp : Int) : Nat :=
  if s < 4 && decide (trimMid s + 20 < temp) then s + 1
  else if 0 < s && decide (temp < trimMid (s - 1) - 20) then s - 1 else s

/-- The set whose temperature lies nearest; a tie takes the lower (R384). -/
def nearestSet (temp : Int) : Nat :=
  if temp ≤ -200 then 0 else if temp ≤ 225 then 1 else if temp ≤ 675 then 2 else if temp ≤ 1075 then 3 else 4

/-- The selection of a map with failed elements replaced by spares in their order; an element without a spare keeps its place (R385). (DEDUCED, notes/assumptions 101) -/
def buildMap (map spare bad : List Nat) : List Nat :=
  (map.foldl (fun (acc : List Nat × List Nat) e =>
    if bad.contains e then
      match acc.2.find? (fun x => !bad.contains x && !map.contains x) with
      | some x => (acc.1 ++ [x], acc.2.erase x)
      | none => (acc.1 ++ [e], acc.2)
    else (acc.1 ++ [e], acc.2)) ([], spare)).1

/-- Elements that have not failed and hold no active position (R385). -/
def sparesLeft (map : List Nat) (total : Nat) (bad : List Nat) : List Nat :=
  (List.range total).filter (fun e => !bad.contains e && !map.contains e)

/-- Four byte fields of a map register. -/
def mapWord (l : List Nat) (k : Nat) : Word :=
  BitVec.ofNat 32 (l.getD (4 * k) 0 + l.getD (4 * k + 1) 0 * 2 ^ 8 + l.getD (4 * k + 2) 0 * 2 ^ 16 + l.getD (4 * k + 3) 0 * 2 ^ 24)

/-- SLICE_MAP, SEG_MAP, SPARES_LEFT brought to the selections in force; a change of a map register is journaled where j is set (R388). -/
def State.showMaps (s : State) (n : Ch) (j : Bool) : State :=
  let t := (s.chan n).trim
  let put (s : State) (a : Nat) (w : Word) : State := if s.reg a == w then s else if j then s.devSet a w else s.setReg a w
  let s := (List.range 8).foldl (fun s k => put s (Reg.afeSliceMap n k) (mapWord t.slices k)) s
  let s := (List.range 16).foldl (fun s k => put s (Reg.afeSegMap n k) (mapWord t.segs k)) s
  let r := (s.chan n).rx
  (s.setFld (Reg.afeAdcStatus n) 3 0 (sparesLeft t.slices 36 r.badSlices).length).setFld (Reg.afeDacStatus n) 3 0
    (sparesLeft t.segs 72 r.badSegs).length

/-- CH_STATUSn shows PEND, SET and TEMP. -/
def State.showTrim (s : State) (n : Ch) (pend : Bool) : State :=
  let t := (s.chan n).trim
  (s.setFld (Reg.trimChStatus n.val) 27 27 (b2n pend)).setFld (Reg.trimChStatus n.val) 18 16 t.sel

/-- Sensor of a channel's AFE in 0.1 °C: sensor n (R404). -/
def State.chTemp (s : State) (n : Ch) : Int := s.sfld (Reg.thrmTemp n.val) 15 0

/-- An application is done: it counts, is journaled, and the interval restarts (R386 to R388). (DEDUCED, notes/assumptions 102) -/
def State.trimCounts (s : State) (n : Ch) : State :=
  let waits := !((s.chan n).rx.sliceSwap.isEmpty && (s.chan n).rx.segSwap.isEmpty)
  let s := s.mapTrim n (fun t => { t with lastAt := some s.now, since := if t.newest.isSome || waits then some s.now else none })
  let t := (s.chan n).trim
  let w := withBits (withBits (s.reg (Reg.trimChStatus n.val)) 28 27 (b2n (t.newest.isSome || waits))) 18 16 t.sel
  ((s.devSet (Reg.trimChStatus n.val) w).wrap32 (Reg.trimChApply n.val) 1).intr (.dev .trim) 2

/-- Hybrid balance in force, journaled where it changes (R388). -/
def State.showBalance (s : State) (n : Ch) : State :=
  let v := ((s.chan n).trim.rx.getD 0 0).toNat
  s.when (s.fld (Reg.afeHybBal n) 7 0 != v % 256) (fun s => s.devFld (Reg.afeHybBal n) 7 0 v)

/-- The application when the AFE domain reaches ON (R380, R384, R386): nearest set, codes at the present temperature, load-only slice corrections. Without evaluation the codes and the set stay as last applied (R389). (DEDUCED, notes/assumptions 102 and 140) -/
def State.trimOn (s : State) (n : Ch) : State :=
  match (s.chan n).trim.sect with
  | none => s
  | some l =>
    let temp := s.chTemp n
    let old := (s.chan n).trim
    let stays := !s.bit Reg.trimCtrl 0 && !old.rx.isEmpty
    let k := if stays then old.sel else nearestSet temp
    let blk := nearestSet temp
    let r := (s.chan n).rx
    let corr : List (Nat × Rat × Rat) := (List.range 36).map (fun e =>
      (e, (sbyteAt l (blkOff blk + 0x54 + e) : Rat) * 65536 * 5 / 10000, (sbyteAt l (blkOff blk + 0x30 + e) : Rat) * 16))
    let s := s.mapTrim n (fun t => { t with
      sel := k, setRx := k, setTx := k
      rx := if stays then t.rx else evalCodes (rxCodes l) temp []
      tx := if stays then t.tx else evalCodes (txCodes l) temp []
      slices := buildMap (sliceMap l k) (sliceSpare l k) r.badSlices
      segs := buildMap (segMap l k) (segSpare l k) r.badSegs
      legsRx := rxLegs l k, legsTx := txLegs l k
      newest := none, rxDue := false, txDue := false, held := none })
    let s := s.mapRx n (fun r => { r with
      corr := corr.filter (fun x => x.2.1 != 0 || x.2.2 != 0)
      fresh := (sliceSpare l k).filter (fun e => !r.badSlices.contains e)
      sliceSwap := [], segSwap := [] })
    let s := s.setFld (Reg.afeAdcStatus n) 13 8 ((s.chan n).rx.fresh.headD 0)
    let s := s.when (!stays) (fun s => s.setFld (Reg.trimChStatus n.val) 15 0 (twos 16 temp))
    ((((s.showBalance n).showMaps n true).showLatency n).trimCounts n).showEcl n

/-- Whether a channel's trims are evaluated (R384, R389, R417). -/
def State.trimRuns (s : State) (n : Ch) : Bool :=
  s.bit Reg.trimCtrl 0 && (s.chan n).afe.eff == .on && !s.fenced (.dev .trim) && !s.fenced (.dev .thrm)

/-- No application is under way, and the interval of 100 ms since the last one has passed (R386). -/
def State.trimFree (s : State) (n : Ch) : Bool :=
  (s.chan n).trim.held.isNone && match (s.chan n).trim.lastAt with
    | some t => t + ms 100 ≤ s.now
    | none => true

/-- A pending change is due on both sides: it requests its eclipse (R386). -/
def State.trimAsk (s : State) (n : Ch) : State :=
  (s.mapTrim n (fun t => { t with rxDue := true, txDue := true })).showEcl n

/-- Transmit codes and sets of both sides as they are once a half-done application has ended (R387). -/
def TrimSt.settled (t : TrimSt) : List Int × List Int × Nat × Nat :=
  match t.held with
  | some (true, _, tx, k) => (t.rx, tx, t.setRx, k)
  | some (false, rx, _, k) => (rx, t.tx, k, t.setTx)
  | none => (t.rx, t.tx, t.setRx, t.setTx)

/-- A spare or the second side of an application waits. (DEDUCED, notes/assumptions 102) -/
def State.trimHolds (s : State) (n : Ch) : Bool :=
  !((s.chan n).rx.sliceSwap.isEmpty && (s.chan n).rx.segSwap.isEmpty) || (s.chan n).trim.held.isSome

/-- One evaluation of a channel's trims from its sensor (R384); without a difference nothing is pending any more but a spare or the second side of an application (R387). (DEDUCED, notes/assumptions 102) -/
def State.trimEvaluate (s : State) (n : Ch) : State :=
  match (s.chan n).trim.sect with
  | none => s
  | some l =>
    let x := (s.chan n).trim.settled
    let temp := s.chTemp n
    let rx := evalCodes (rxCodes l) temp x.1
    let tx := evalCodes (txCodes l) temp x.2.1
    let k := nextSet (s.chan n).trim.sel temp
    let s := (s.setFld (Reg.trimChStatus n.val) 15 0 (twos 16 temp)).mapTrim n (fun t => { t with sel := k })
    let holds := s.trimHolds n
    if rx == x.1 && tx == x.2.1 && k == x.2.2.1 && k == x.2.2.2 then
      ((s.mapTrim n (fun t => { t with newest := none, since := t.since.filter (fun _ => holds), rxDue := false, txDue := false })).showTrim n holds).showEcl n
    else
      let s := s.mapTrim n (fun t => { t with newest := some (rx, tx, k), since := some (t.since.getD s.now) })
      let s := s.showTrim n true
      if s.trimFree n then s.trimAsk n else s

/-- TRIM_EVALUATION (R384): every 10 ms, for a channel whose AFE domain is ON. (DESIGN CHOICE, notes/assumptions 12) -/
def execTrimEvaluation (n : Ch) (s : State) : Host.Outcome State Fault Refusal :=
  if s.trimRuns n then .next (s.trimEvaluate n) else .next s

/-- TRIM_INTERVAL_EXPIRY (R386): 100 ms after the last application, a pending change requests its eclipse. -/
def execTrimIntervalExpiry (n : Ch) (s : State) : Host.Outcome State Fault Refusal :=
  let t := (s.chan n).trim
  if t.newest.isSome && s.trimFree n && !t.rxDue && !t.txDue then .next (s.trimAsk n) else .next s

/-- The spares that shadow follow the selection in force: those that are left keep their order, new ones join behind, and a spare that is no longer one stops shadowing at once (R145, R146). -/
def State.refreshSpares (s : State) (n : Ch) : State :=
  let left := sparesLeft (s.chan n).trim.slices 36 (s.chan n).rx.badSlices
  let f := (s.chan n).rx.fresh
  let f' := f.filter left.contains ++ left.filter (fun e => !f.contains e)
  let cur := s.fld (Reg.afeAdcStatus n) 13 8
  let s := s.mapRx n (fun r => { r with fresh := f' })
  s.when (!left.contains cur) (fun s => s.setFld (Reg.afeAdcStatus n) 13 8 (f'.headD cur))

/-- The selections of a map with the waiting spares in their positions. -/
def swapped (m : List Nat) (l : List (Nat × Nat)) : List Nat := l.foldl (fun m x => m.set x.1 x.2) m

/-- The receive fields of an evaluation take effect: balance, bias, skew, T_front, slices and comparator legs; spares that wait are swapped in (R386). -/
def State.trimRx (s : State) (n : Ch) (rx : List Int) (k : Nat) : State :=
  let t := (s.chan n).trim
  let r := (s.chan n).rx
  let new := if k == t.setRx then none else t.sect
  let s := s.mapTrim n (fun t => { t with
    rx := rx, setRx := k
    slices := match new with
      | some l => buildMap (sliceMap l k) (sliceSpare l k) r.badSlices
      | none => swapped t.slices r.sliceSwap
    legsRx := match new with | some l => rxLegs l k | none => t.legsRx })
  let s := ((s.mapRx n (fun r => { r with sliceSwap := [] })).refreshSpares n).showBalance n
  ((s.showMaps n true).cintIf (!r.sliceSwap.isEmpty) n .afe 4).showLatency n

/-- The transmit fields of an evaluation take effect: bias, amplitude, LAT_TX_A, segments and bias legs (R386). -/
def State.trimTx (s : State) (n : Ch) (tx : List Int) (k : Nat) : State :=
  let t := (s.chan n).trim
  let r := (s.chan n).rx
  let new := if k == t.setTx then none else t.sect
  let last := r.segSwap.getLast?
  let old := (last.map (fun x => t.segs.getD x.1 0x7F)).getD 0x7F
  let s := s.mapTrim n (fun t => { t with
    tx := tx, setTx := k
    segs := match new with
      | some l => buildMap (segMap l k) (segSpare l k) r.badSegs
      | none => swapped t.segs r.segSwap
    legsTx := match new with | some l => txLegs l k | none => t.legsTx })
  let s := s.mapRx n (fun r => { r with segSwap := [] })
  let s := s.when last.isSome (fun s => (s.setFld (Reg.afeDacStatus n) 14 8 old).cint n .afe 4)
  (s.showMaps n true).showLatency n

/-- What an application applies: the newest evaluation, or with a spare alone what is in force. -/
def TrimSt.takes (t : TrimSt) : List Int × List Int × Nat := t.newest.getD (t.rx, t.tx, t.setRx)

/-- The receive side of a due application takes effect (R386, R387): the first side of one leaves the fields of the other to their own instant, and the last one ends it. An application that a spare begins takes the newest evaluation along. -/
def State.trimApplyRx (s : State) (n : Ch) : State :=
  let t := (s.chan n).trim
  match t.held with
  | some (true, _) => s
  | some (false, rx, _, k) => (((s.mapTrim n (fun t => { t with held := none })).trimRx n rx k).trimCounts n).showEcl n
  | none =>
    if !t.rxDue && (s.chan n).rx.sliceSwap.isEmpty then s
    else
      let e := t.takes
      let more := e.2.1 != t.tx || e.2.2 != t.setTx || !(s.chan n).rx.segSwap.isEmpty
      let s := s.mapTrim n (fun t => { t with newest := none, rxDue := false, txDue := false, held := if more then some (true, e) else none })
      let s := s.trimRx n e.1 e.2.2
      (if more then s else s.trimCounts n).showEcl n

/-- The transmit side of a due application takes effect, as trimApplyRx (R386, R387). -/
def State.trimApplyTx (s : State) (n : Ch) : State :=
  let t := (s.chan n).trim
  match t.held with
  | some (false, _) => s
  | some (true, _, tx, k) => (((s.mapTrim n (fun t => { t with held := none })).trimTx n tx k).trimCounts n).showEcl n
  | none =>
    if !t.txDue && (s.chan n).rx.segSwap.isEmpty then s
    else
      let e := t.takes
      let more := e.1 != t.rx || e.2.2 != t.setRx || !(s.chan n).rx.sliceSwap.isEmpty
      let s := s.mapTrim n (fun t => { t with newest := none, rxDue := false, txDue := false, held := if more then some (false, e) else none })
      let s := s.trimTx n e.2.1 e.2.2
      (if more then s else s.trimCounts n).showEcl n

/-- Whether a side of an application may take effect now without an eclipse (14 Table 3): link down, training, loopback, pattern or LISTEN; in LPI of a Z link with a QUIET orbit; on a standard link while the direction is quiet under its clause's LPI. -/
def State.trimNow (s : State) (n : Ch) (tx : Bool) : Bool :=
  let quiet : Bool := if tx then (s.chan n).line.lastTx.any (fun o => o.ty == some .quiet) else (s.chan n).line.rxTy == some .quiet
  (s.chan n).afe.eff == .on
    && (!s.linkUp n || s.nearLb n || ((if tx then s.txLpi n else s.rxLpi n) && (s.stdUp n || quiet)))

/-- TRIM_APPLICATION (R386): the receive or the transmit side of a due application, at an instant that needs no eclipse. -/
def execTrimApplication (n : Ch) (tx : Bool) (s : State) : Host.Outcome State Fault Refusal :=
  if s.trimNow n tx then .next (if tx then s.trimApplyTx n else s.trimApplyRx n) else .next s

/-- TRIM_STALE (R388): a change has waited for more than 1 s. -/
def execTrimStale (n : Ch) (s : State) : Host.Outcome State Fault Refusal :=
  match (s.chan n).trim.since with
  | some t => if t + sec 1 < s.now then .next ((s.setBit (Reg.trimChStatus n.val) 28 true).intr (.dev .trim) 0) else .next s
  | none => .next s

end Sys2Proof.Machine
end

