-- ==== Sys2Proof/Machine/Rx.lean ====
section
/-! DEFINITION. The receiver of a channel (R135 to R176): gain, levels, the receive chain over a window, converters' spare elements, timing, noise floor. -/

namespace Sys2Proof.Machine

/-! ### Levels and recommended gain (R141 to R143) -/

/-- The recommended gain in half decibels for a power in 0.1 dBm (R142). -/
def recGain (rx : Int) (clipped : Bool) : Int :=
  let g := (-40 - rx) / 5
  let g := max (-12) (min g 48)
  if clipped then max (-12) (g - 2) else g

/-- CODE and PAD of a gain in half decibels: without the pad where that reaches it (R142). -/
def gainCode (g : Int) : Nat × Nat := if 0 ≤ g then (g.toNat, 0) else ((g + 12).toNat, 1)

/-! ### The run of the receive chain (R135, R150 to R160) -/

/-- The step 2^−v of a loop: v in the field that starts at bit lo of STEP_ACQ or STEP_TRK, held to 4 to 24; 0 for a loop that does not run (R159). -/
def State.stepOf (s : State) (n : Ch) (runs trk : Bool) (lo : Nat) : Rat :=
  let v := s.fld (if trk then Reg.eqStepTrk n else Reg.eqStepAcq n) (lo + 4) lo
  if runs then 1 / 2 ^ (max 4 (min v 24)) else 0

/-- The correction of a slice: gain in 2^−16, offset in 1/256 LSB. -/
def State.sliceCorr (s : State) (n : Ch) (e : Nat) : Rat × Rat :=
  (((s.chan n).rx.corr.find? (fun x => x.1 == e)).map (·.2)).getD (0, 0)

/-- What the partner sends at symbol position j of its orbit under a view (R82 to R84, R91, R185). -/
def rxPosAt (zMode : Bool) (z : ZDir) (v : RxView) (place : Option Nat) (j : Nat) : RxPos :=
  let l := layout z
  if !zMode then (if v.coasts then .rest else .data)
  else if !v.up && v.phase ≤ 1 then (if v.phase == 1 && v.sends then .silent else .rest)
  else match place with
    | none => .rest
    | some p =>
      let q := (p + j) % l.symbols
      let k := (q - l.field) / (l.pilots + l.data)
      let o := (q - l.field) % (l.pilots + l.data)
      if q < l.field || v.ty == some .quiet then .rest
      else if o < l.pilots then .pilot ((pilotLevels z).getD (k * l.pilots + o) 0)
      else if (!v.up && v.phase == 2 && k % 2 == 1) || v.ty == some .eclipse || v.ty == some .refresh then .silent
      else .data

/-- The loops' law under a view (R159 to R161): a loop that is frozen, or that a loopback bypasses or holds (R235), has step 0. -/
def State.rxLaw (s : State) (n : Ch) (v : RxView) : RxLaw :=
  let early := isZ (s.lineMode n) && !v.up && v.phase ≤ 2
  let runs := v.up || v.phase != 0
  let main := (s.chan n).rx.main
  { muH := s.stepOf n (runs && !v.frozen.testBit 0 && !s.nearLb n) v.trkEc 0
    muT := s.stepOf n (runs && !v.frozen.testBit 1 && !s.nearLb n) v.trkEc 5
    muF := s.stepOf n (runs && !v.frozen.testBit 2 && s.lb n != 1) v.trkEq 10
    muD := s.stepOf n (runs && !v.frozen.testBit 3 && s.lb n != 1) v.trkEq 15
    early := early
    hold := if v.trkEq && !v.pilot && 0 < main then some (main - 1) else none
    pilotTrack := v.pilot
    acquires := v.acquires
    coasts := v.coasts }

/-- The symbol that this channel sent at an instant, 0 where it sent none; ps a symbol (R150). -/
def symbolAt (sent : List (Nat × List Int)) (ps t : Rat) : Rat :=
  match sent.find? (fun x => decide ((x.1 : Rat) ≤ t)) with
  | some x => ((x.2.getD ((t - x.1) / ps).floor.toNat 0 : Int) : Rat)
  | none => 0

/-- This channel's own symbols at the ADC rate: the 4,096 samples before a window of k samples that ends now, and the window (R150). -/
def State.ownSymbols (s : State) (n : Ch) (k : Nat) : List Rat :=
  let t := samplePs (sigKind (s.lineMode n))
  let from' : Rat := (s.now : Rat) - ((k + 4096 : Nat) : Rat) * t
  let sent := (s.chan n).line.sent
  if sent.isEmpty then [] else (List.range (k + 4096)).map (fun i => symbolAt sent (if s.txDir n == .a1 then 16 * t else t) (from' + (i : Rat) * t))

/-- What is fixed while a window is processed (R135, R150, R155 to R161), with the laws in force from sample to sample by the record of what the loops followed. In a near-end digital loopback the signal bypasses canceller and equalisers, in an analog one the canceller is held at zero (R235). (DEDUCED, notes/assumptions 156) -/
def State.rxPar (s : State) (n : Ch) (m : RxMeas) : RxPar :=
  let r := (s.chan n).rx
  let zm := isZ (s.lineMode n)
  let z := s.rxDir n
  let a1 := zm && z == .a1
  let k := m.codes.length
  let t := samplePs (sigKind (s.lineMode n))
  let start : Rat := (s.now : Rat) - (k : Rat) * t
  let views := ((s.now, s.rxView n) :: r.views).map (fun v => ((((v.1 : Rat) - start) / t).ceil.toNat, v.2))
  let viewAt (i : Nat) : RxView := ((views.find? (fun v => decide (v.1 ≤ i))).map (·.2)).getD (((views.getLast?).map (·.2)).getD (s.rxView n))
  let laws := views.map (fun v => (v.1, s.rxLaw n v.2))
  let sps := if a1 then 16 else 1
  let own := if zm then s.ownSymbols n k else (m.past.reverse ++ m.tx).map (fun v => (v : Rat))
  let place := m.place.getD 0
  { z := z
    a1 := a1
    corr := (List.range 32).map (fun k => s.sliceCorr n ((s.chan n).trim.slices.getD k k))
    main := r.main
    taps := r.taps
    levels := s.levels n
    x := own
    before := if zm then own.length - k else m.past.length
    laws := laws ++ (laws.getLast?.map (fun l => (0, l.2))).toList
    pos := (List.range (k / sps)).map (fun j => rxPosAt zm z (viewAt (j * sps)) m.place j)
    clusters := if zm && m.place.isSome then (List.range (k / sps)).filter (fun j =>
      let q := (place + j) % (layout z).symbols
      decide ((layout z).field ≤ q) && (q - (layout z).field) % ((layout z).pilots + (layout z).data) == 0) else [] }

/-- The exact coefficients: those of the registers and what they hold below the register's unit. -/
def State.rxRun (s : State) (n : Ch) : RxRun :=
  let r := (s.chan n).rx
  { h := (List.range 3072).map (fun k => ((Store.get (fun _ => (0 : Int)) r.ec k : Int) : Rat) + s.coefFrac n k)
    c := (List.range 48).map (fun k => (s.sfld (Reg.eqFfeTap n k) 15 0 : Rat) + s.coefFrac n (4096 + k))
    b := (List.range 4).map (fun k => (s.sfld (Reg.eqDfeTap n k) 11 0 : Rat) + s.coefFrac n (8192 + k))
    part := r.part }

/-- The coefficients that a run of the chain reached. -/
def State.putCoef (s : State) (n : Ch) (q : RxRun) : State :=
  let h := q.h.map splitCoef
  let c := q.c.map splitCoef
  let b := q.b.map splitCoef
  let keyed (k : Nat) (l : List (Int × Rat)) : List (Nat × Rat) := (l.zipIdx k).map (fun t => (t.2, t.1.2))
  let s := s.mapRx n (fun r => { r with
    ec := (h.zipIdx.map (fun t => (t.2, t.1.1))).filter (fun t => t.2 != 0)
    frac := (keyed 0 h ++ keyed 4096 c ++ keyed 8192 b).filter (fun t => t.2 != 0)
    part := q.part })
  let s := c.zipIdx.foldl (fun s t => s.setFld (Reg.eqFfeTap n t.2) 15 0 (twos 16 t.1.1)) s
  b.zipIdx.foldl (fun s t => s.setFld (Reg.eqDfeTap n t.2) 11 0 (twos 12 t.1.1)) s

/-- A mean of squared ADC samples as a power referred to the MDI: the gain in force is subtracted; in 0.1 dBm, held in 12 bits (R141, R153). (DESIGN CHOICE, notes/assumptions 98) -/
def State.atMdi (s : State) (n : Ch) (sq : Rat) : Int := clampS 12 (tenthDb (sq * Config.lsbPower) - 5 * s.gain2 n)

/-- The samples of a window, corrected, at the positions that p takes. -/
def RxPar.samplesAt (p : RxPar) (codes : List Byte) (f : RxPos → Bool) : List Rat :=
  (codes.zipIdx.filter (fun x => f (p.posAt x.2))).map (fun x => p.sample x.2 x.1)

/-- A measurement of total power on a live link: RX_PWR, the recommendation and LOW_SIGNAL (R141 to R143). -/
def State.takePower (s : State) (n : Ch) (rx : Int) (clips : Nat) : State :=
  let c := gainCode (recGain rx (decide (s.fld (Reg.afeClipLimit n) 15 0 < clips)))
  let old := s.reg (Reg.afeGainStatus n)
  let s := s.setReg (Reg.afeGainStatus n) (withBits (withBits (withBits old 31 31 1) 24 24 c.2) 21 16 c.1)
  let s := s.setReg (Reg.afeRxPower n) (withBits (withBits (s.reg (Reg.afeRxPower n)) 31 31 1) 11 0 (twos 12 rx))
  (s.cintIf (bits old 24 24 != c.2 || bits old 21 16 != c.1) n .afe 3).showLow n

/-- RX_PWR over the data positions of DATA orbits, in a standard mode over all samples outside quiet intervals (R141). -/
def State.measurePower (s : State) (n : Ch) (p : RxPar) (m : RxMeas) (clips : Nat) : State :=
  let l := p.samplesAt m.codes (· == .data)
  s.when (s.linkUp n && !l.isEmpty) (fun s => s.takePower n (s.atMdi n (meanSquare l)) clips)

/-- ECHO_PWR over the samples in which the partner sends nothing and this channel transmits, in training (R141). -/
def State.measureEcho (s : State) (n : Ch) (p : RxPar) (m : RxMeas) : State :=
  let l := p.samplesAt m.codes (· == .silent)
  s.when (!(s.chan n).line.sent.isEmpty && !s.linkUp n && s.phase n != 0 && !l.isEmpty) (fun s => s.setFld (Reg.afeRxPower n) 27 16 (twos 12 (s.atMdi n (meanSquare l))))

/-- EC_RESIDUAL (R153): over the positions of ECHO_PWR, and while the link is up from the slicer errors. -/
def State.measureResidual (s : State) (n : Ch) (p : RxPar) (q : RxRun) : State :=
  let l := (q.res.filter (fun x => x.1 == .silent)).map (·.2)
  let put (s : State) (sq : Rat) : State := s.setReg (Reg.eqEcResidual n) (BitVec.ofNat 32 (2 ^ 31 + twos 12 (s.atMdi n sq)))
  if s.linkUp n then s.when (!q.errs.isEmpty) (fun s => put s (q.leftEcho p)) else s.when (!l.isEmpty) (fun s => put s (meanSquare l))

/-- Slicer errors of a standard mode, in blocks of 10^6 symbols (R172). -/
def State.stdMse (s : State) (n : Ch) (errs : List Rat) : State :=
  errs.foldl (fun s e =>
    let r := (s.chan n).rx
    let sum := r.sqSum + e * e
    if 999999 ≤ r.sqNum then (s.mapRx n (fun r => { r with sqSum := 0, sqNum := 0 })).showMse n (sum / 1000000)
    else s.mapRx n (fun r => { r with sqSum := sum, sqNum := r.sqNum + 1 })) s

/-! ### Slice correction (R145) -/

/-- One sample's step of a slice's correction, 2^−18: a mean that should be 0 lowers the offset, a mean square that lacks power raises the gain. (DEDUCED, notes/assumptions 156) -/
def corrStep (c : Rat × Rat) (mean power : Rat) : Rat × Rat := (c.1 + 65536 * power / 2 ^ 18, c.2 - 256 * mean / 2 ^ 18)

/-- A sample of a slice with this correction. -/
def corrected (c : Rat × Rat) (code : Byte) : Rat := (code.toInt : Rat) * (1 + c.1 / 65536) + c.2 / 256

/-- A slice's correction set. -/
def State.setCorr (s : State) (n : Ch) (e : Nat) (c : Rat × Rat) : State :=
  s.mapRx n (fun r => { r with corr := Store.put (fun _ => ((0, 0) : Rat × Rat)) r.corr e c })

/-- The active slices adapt over a window: each one's mean to 0, its mean square to the mean over the 32 active positions; clipped samples are left out (R145, R161). -/
def State.adaptSlices (s : State) (n : Ch) (p : RxPar) (codes : List Byte) : State :=
  if (s.frozen n).testBit 4 then s
  else
    let ok := codes.zipIdx.filter (fun x => !clipped x.1)
    let ms := meanSquare (ok.map (fun x => p.sample x.2 x.1))
    (List.range 32).foldl (fun s k =>
      let e := (s.chan n).trim.slices.getD k k
      s.setCorr n e ((ok.filter (fun x => x.2 % 32 == k)).foldl (fun c x =>
        let y := corrected c x.1
        corrStep c y (ms - y * y)) (s.sliceCorr n e))) s

/-- One window of the receiver (R135): powers, slice correction, the chain with its adaptation, residual, errors, and the phase estimates for timing recovery. -/
def State.receive (s : State) (n : Ch) (m : RxMeas) (clips : Nat) : State :=
  let p := s.rxPar n m
  let q := (s.rxRun n).run p m.codes
  let s := ((s.measurePower n p m clips).measureEcho n p m).measureResidual n p q
  let s := s.when (s.stdUp n) (fun s => s.stdMse n (q.errs.reverse.map (fun x => x.2.2)))
  let s := (s.adaptSlices n p m.codes).putCoef n q
  let was := s.tracks n
  let s := s.mapRx n (fun r => { r with est := r.est ++ q.phases p, views := [], rcvOk := m.ok })
  s.when (s.tracks n != was) (fun s => s.showAdapt n)

/-- POWER_MEASUREMENT_UPDATE (R141, R143): every 1,024 µs. Clipped samples count whenever the ADC samples. (DESIGN CHOICE, notes/assumptions 12 and 99) -/
def execPowerMeasurementUpdate (n : Ch) (m : RxMeas) (s : State) : Host.Outcome State Fault Refusal :=
  if (s.chan n).afe.eff == .on then
    let k := m.codes.countP clipped
    let s := s.satInt (Reg.afeAdcClip n) k (.chan n .afe) 0
    .next (s.when ((s.chan n).dsp.eff == .on && !s.drains (.chan n .eq)) (fun s => s.receive n m k))
  else .next s

/-! ### Redundant elements (R145 to R148) -/

/-- Spares that still shadow, the one that shadows now first. -/
def State.shadowing (s : State) (n : Ch) : List Nat :=
  (s.chan n).rx.fresh.filter (fun e => (sparesLeft (s.chan n).trim.slices 36 (s.chan n).rx.badSlices).contains e)

/-- SHADOW_ADVANCE (R145): the shadowing spare's samples of 1,024 µs beside those of the position it shadows drive its correction; then the position advances, and after each cycle of 32 the spare. (DEDUCED, notes/assumptions 156) -/
def execShadowAdvance (n : Ch) (pairs : List (Byte × Byte)) (s : State) : Host.Outcome State Fault Refusal :=
  let f := s.shadowing n
  if (s.chan n).afe.eff == .on && !f.isEmpty then
    let a := Reg.afeAdcStatus n
    let cur := s.fld a 13 8
    let act := s.sliceCorr n ((s.chan n).trim.slices.getD (s.fld a 21 16) 0)
    let c := (pairs.filter (fun x => !clipped x.1 && !clipped x.2)).foldl (fun c x =>
      let y := corrected c x.1
      let w := corrected act x.2
      corrStep c (y - w) (w * w - y * y)) (s.sliceCorr n cur)
    let s := if (s.frozen n).testBit 4 then s else s.setCorr n cur c
    let pos := (s.fld a 21 16 + 1) % 32
    let s := s.setFld a 21 16 pos
    if pos == 0 then
      let f' := (f.erase cur) ++ (if f.contains cur then [cur] else [])
      .next ((s.mapRx n (fun r => { r with fresh := f' })).setFld a 13 8 (f'.headD cur))
    else .next s
  else .next s

/-- The spare that holds the newest correction: the one that shadows now, else the one that shadowed last (R145, R146). (DEDUCED, notes/assumptions 101) -/
def State.newestSpare (s : State) (n : Ch) (left : List Nat) : Option Nat :=
  let cur := s.fld (Reg.afeAdcStatus n) 13 8
  if left.contains cur then some cur else ((s.chan n).rx.fresh.reverse.find? left.contains).orElse (fun _ => left.head?)

/-- A change of trims or elements waits from now on at the latest: PEND, and the eclipse request (R386, R388). (DEDUCED, notes/assumptions 102) -/
def State.trimWaits (s : State) (n : Ch) : State :=
  ((s.mapTrim n (fun t => { t with since := some (t.since.getD s.now) })).setBit (Reg.trimChStatus n.val) 27 true).showEcl n

/-- A slice has left its range (R146): the fault; it shadows no more; a spare is scheduled for its position, also where the slice was itself a spare that waits to be swapped in, or the channel is fenced. (DEDUCED, notes/assumptions 102) -/
def State.sliceFails (s : State) (n : Ch) (e : Nat) : State :=
  let s := s.detectCh n .afe 4
  let s := s.mapRx n (fun r => { r with badSlices := if r.badSlices.contains e then r.badSlices else r.badSlices ++ [e] })
  let s := s.refreshSpares n
  let map := swapped (s.chan n).trim.slices (s.chan n).rx.sliceSwap
  let left := sparesLeft map 36 (s.chan n).rx.badSlices
  let s := s.showMaps n false
  match map.findIdx? (· == e) with
  | none => s
  | some p =>
    let s := s.mapRx n (fun r => { r with sliceSwap := r.sliceSwap.filter (fun y => y.1 != p) })
    match s.newestSpare n left with
    | some x => (s.mapRx n (fun r => { r with sliceSwap := r.sliceSwap ++ [(p, x)] })).trimWaits n
    | none => s.fenceChannel n

/-- A correction is out of range: offset beyond ±8 LSB or gain beyond ±6 % (R146). -/
def corrOut (c : Rat × Rat) : Bool := decide (2048 < absR c.2) || decide (65536 * 6 / 100 < absR c.1)

/-- SLICE_FAULT (R146): a slice whose corrections have left their range. -/
def execSliceFault (n : Ch) (e : Fin 36) (s : State) : Host.Outcome State Fault Refusal :=
  if (s.chan n).afe.eff == .on && corrOut (s.sliceCorr n e.val) && !s.chanFenced n && !(s.chan n).rx.badSlices.contains e.val then
    .next (s.sliceFails n e.val)
  else .next s

/-- A segment is saturated (R148): the fault; a spare in the set's order is scheduled, as for a slice, or the channel is fenced. (DEDUCED, notes/assumptions 102) -/
def State.segFails (s : State) (n : Ch) (e : Nat) : State :=
  let s := s.detectCh n .afe 5
  let s := s.mapRx n (fun r => { r with badSegs := if r.badSegs.contains e then r.badSegs else r.badSegs ++ [e] })
  let map := swapped (s.chan n).trim.segs (s.chan n).rx.segSwap
  let left := sparesLeft map 72 (s.chan n).rx.badSegs
  let order := match (s.chan n).trim.sect with
    | some l => (segSpare l (s.chan n).trim.setTx).filter left.contains
    | none => left
  let s := s.showMaps n false
  match map.findIdx? (· == e) with
  | none => s
  | some p =>
    let s := s.mapRx n (fun r => { r with segSwap := r.segSwap.filter (fun y => y.1 != p) })
    match order.head?.orElse (fun _ => left.head?) with
    | some x => (s.mapRx n (fun r => { r with segSwap := r.segSwap ++ [(p, x)] })).trimWaits n
    | none => s.fenceChannel n

/-- The active positions whose current deviates by more than ±10 % from the mean of all (R148). -/
def saturated (cur : List Nat) : List Nat :=
  (List.range cur.length).filter (fun k => decide (cur.sum < 10 * ((cur.length * cur.getD k 0 : Nat) - (cur.sum : Int)).natAbs))

/-- SEGMENT_MONITOR (R148): every 64 µs, the currents of the 64 active segments in the order of their positions. -/
def execSegmentMonitor (n : Ch) (cur : List Nat) (s : State) : Host.Outcome State Fault Refusal :=
  if (s.chan n).afe.eff == .on then
    .next ((((saturated cur).filterMap (fun k => (s.chan n).trim.segs[k]?))).foldl (fun s e =>
      if !s.chanFenced n && !(s.chan n).rx.badSegs.contains e then s.segFails n e else s) s)
  else .next s

/-! ### Adaptation and timing (R161 to R169) -/

/-- ADAPT_FREEZE_END (R161): the rest of the burst's orbit and the 16 orbits after it have passed. -/
def execAdaptFreezeEnd (n : Ch) (s : State) : Host.Outcome State Fault Refusal :=
  if (s.chan n).rx.freeze == 1 then .next ((s.mapRx n (fun r => { r with freeze := 0 })).showAdapt n) else .next s

/-- The highest bandwidth code for the received signal: 1 MHz in Z50 and A1 reverse reception, 500 kHz otherwise (R166). -/
def State.bwActs (s : State) (n : Ch) : Nat :=
  let top := if isZ (s.lineMode n) && s.rxDir n != .z25 then 3 else 2
  min (s.fld (Reg.eqTrCtrl n) 5 4) top

/-- Symbols from one phase estimate to the next: a pilot cluster's period, or one symbol (R164, R165). -/
def State.trSymbols (s : State) (n : Ch) : Nat :=
  let l := layout (s.rxDir n)
  if s.pilotMode n then l.symbols / l.segments else 1

/-- Symbol period of the received signal in ps. -/
def State.symbolPs (s : State) (n : Ch) : Rat :=
  samplePs (sigKind (s.lineMode n)) * (if isZ (s.lineMode n) && s.rxDir n == .a1 then 16 else 1)

/-- The spread model's part of the frequency now; 0 without a locked model (R168). -/
def State.sscNow (s : State) (n : Ch) : Rat :=
  let a := Reg.eqSscStatus n
  if s.bit a 30 then spreadModel (s.fld a 5 0) (s.chan n).rx.sscHalf (s.chan n).rx.sscCorner s.now else 0

/-- The lowest and highest relative frequency of the timing mode, after removal of the spread model (R164, R165). (DESIGN CHOICE, notes/assumptions 158) -/
def State.trRange (s : State) (n : Ch) : Rat × Rat :=
  (if s.pilotMode n && s.bit (Reg.eqSscStatus n) 31 && !s.bit (Reg.eqSscStatus n) 30 then -35 / 10000 else -5 / 10000, 5 / 10000)

/-- A condition of R167 holds: the mean magnitude of 64 estimates exceeds 0.125 UI, or the frequency lies more than 0.01 % outside its range. -/
def State.trBad (s : State) (n : Ch) : Bool :=
  let r := (s.chan n).rx
  let g := s.trRange n
  (r.trErr.length == 64 && decide (1 / 8 < meanR r.trErr)) || decide (r.trFreq < g.1 - 1 / 10000) || decide (g.2 + 1 / 10000 < r.trFreq)

/-- TR_STATUS.LOCK set, with its interrupt on a change (R176). -/
def State.setTrLock (s : State) (n : Ch) (b : Bool) : State :=
  s.when (b != s.bit (Reg.eqTrStatus n) 31) (fun s => (s.setBit (Reg.eqTrStatus n) 31 b).cint n .eq 0)

/-- One estimate through the proportional-integral loop (R166), then LOCK (R167): it falls where a condition holds, and rises after 64 estimates in a row without one. (DESIGN CHOICE, notes/assumptions 158) -/
def State.trEstimate (s : State) (n : Ch) (e : Rat) : State :=
  let ui := s.trSymbols n
  let bw := 125 * 2 ^ s.bwActs n
  let dt := (ui : Rat) * s.symbolPs n
  let model := s.sscNow n
  let s := s.mapRx n (fun r => { r with
    trPhase := r.trPhase + Config.loopKp bw dt * e + (r.trFreq + model) * ui
    trFreq := r.trFreq + Config.loopKi bw dt * e
    trErr := (absR e :: r.trErr).take 64 })
  let bad := s.trBad n
  let s := s.mapRx n (fun r => { r with trGood := if bad then 0 else r.trGood + 1 })
  if bad then s.setTrLock n false
  else if 64 ≤ (s.chan n).rx.trGood then s.setTrLock n true
  else s

/-- TR_PHASE in 1/1,024 UI and FREQ_OFS in 0.01 ppm, spread model included (R166). -/
def State.showTiming (s : State) (n : Ch) : State :=
  let r := (s.chan n).rx
  (s.setFld (Reg.eqTrPhase n) 9 0 ((r.trPhase * 1024).floor % 1024).toNat).setFld (Reg.eqTrStatus n) 19 0
    (twos 20 (clampS 20 (roundInt ((r.trFreq + s.sscNow n) * 100000000))))

/-- The timing loop takes one estimate of the detector, or only advances its phase at the last frequency where there is none (R161, R166). -/
def State.trTake (s : State) (n : Ch) (e : Option Rat) : State :=
  match e with
  | some e => s.trEstimate n e
  | none => s.mapRx n (fun r => { r with trPhase := r.trPhase + (r.trFreq + s.sscNow n) * s.trSymbols n })

/-- TIMING_LOCK_CHANGE (R164 to R167): the timing loop takes the estimates that the phase detector made of the last windows. -/
def execTimingLockChange (n : Ch) (s : State) : Host.Outcome State Fault Refusal :=
  if (s.chan n).dsp.eff == .on && s.lineReady n then
    let l := (s.chan n).rx.est
    .next ((l.foldl (fun s e => s.trTake n e) (s.mapRx n (fun r => { r with est := [] }))).showTiming n)
  else .next s

/-- Whether a spread model can lock: spread announced and pilot-tracking mode in force (R168). -/
def State.sscModels (s : State) (n : Ch) : Bool := s.bit (Reg.eqSscStatus n) 31 && s.pilotMode n

/-- The static offset that observed frequencies leave beside the model with this corner, and whether they span 16 modulation periods with a residual below 5 ppm (R168). -/
def State.sscFits (s : State) (n : Ch) (corner : Nat) (obs : List (Nat × Rat)) : Rat × Bool :=
  let a := Reg.eqSscStatus n
  let rate := (s.chan n).rx.sscHalf
  let left := obs.map (fun o => o.2 - spreadModel (s.fld a 5 0) rate corner o.1)
  let m := meanR left
  (m, decide (32000000000 ≤ (((obs.getLast?).map (·.1)).getD 0 - ((obs.head?).map (·.1)).getD 0) * rate)
    && left.all (fun v => decide (absR (v - m) < 5 / 1000000)))

/-- SSC_MODEL_LOCK (R168): the received frequency as observed, by instants in ps, and the instant of the triangle's upper corner that the model is aligned to. (DESIGN CHOICE, notes/assumptions 158) -/
def execSscModelLock (n : Ch) (corner : Nat) (obs : List (Nat × Rat)) (s : State) : Host.Outcome State Fault Refusal :=
  let w := s.sscFits n corner obs
  if s.sscModels n && !s.bit (Reg.eqSscStatus n) 30 && w.2 then
    .next (((s.mapRx n (fun r => { r with sscCorner := corner, trFreq := w.1 })).setBit (Reg.eqSscStatus n) 30 true).cint n .eq 1)
  else .next s

/-- SSC_MODEL_FAIL (R169): the observed depth in 0.01 % and rate in kHz; they differ from the announcement by more than 5 % of D or 1 % of F. -/
def execSscModelFail (n : Ch) (depth rate : Rat) (s : State) : Host.Outcome State Fault Refusal :=
  let a := Reg.eqSscStatus n
  if s.sscModels n && (decide ((s.fld a 5 0 : Rat) < 20 * absR (depth - s.fld a 5 0)) || decide (((s.chan n).rx.sscHalf : Rat) < 100 * absR (2 * rate - (s.chan n).rx.sscHalf))) then
    .next (((s.setBit a 30 false).setBit a 29 true).cint n .eq 1)
  else .next s

/-! ### Noise floor (R170, R171, R229) -/

/-- AVG as it acts (06 Table 12). -/
def State.nfAvg (s : State) (n : Ch) : Nat := max 4 (min (s.fld (Reg.eqNfCtrl n) 7 4) 12)

/-- The sample-rate code of a measurement: that of RATE under LISTEN, else of the mode (R171). -/
def State.nfRate (s : State) (n : Ch) : Nat :=
  if s.bit (Reg.eqNfCtrl n) 0 then (if s.fld (Reg.eqNfCtrl n) 11 8 ≤ 6 then s.fld (Reg.eqNfCtrl n) 11 8 else 0)
  else sigKind (s.lineMode n)

/-- NF_RISE after a measurement, where the profile has bands of the same rate (R229). -/
def State.nfRise (s : State) (n : Ch) (bands : List Int) : State :=
  match ((s.chan n).diag.profile.bind (·.nf)) with
  | some (rate, pb) =>
    if rate == s.fld (Reg.eqNfStatus n) 27 24 && !s.fenced (.chan n .diag) then
      match List.zipWith (fun a b => a - b) bands pb with
      | [] => s
      | d :: r =>
        let rise := r.foldl max d
        let warn := decide ((s.fld (Reg.diagEvtCtrl n) 31 22 : Int) < rise)
        let was := s.bit (Reg.diagNfRise n) 30
        (s.setReg (Reg.diagNfRise n) (BitVec.ofNat 32 (2 ^ 31 + b2n warn * 2 ^ 30 + twos 16 rise))).cintIf (warn && !was) n .diag 2
    else s
  | none => s

/-- The eight bands of blocks of ADC codes in 0.1 dBm/Hz, referred to the MDI (R171). -/
def State.noiseBands (s : State) (n : Ch) (blocks : List (List Byte)) : List Int :=
  let l := blocks.map (fun b => b.map (fun c => (c.toInt : Rat)))
  (List.range 8).map (fun k => clampS 16 (tenthDb (bandDensity (samplePs (s.nfRate n)) l k * Config.lsbPower) - 5 * s.gain2 n))

/-- All eight bands written at one instant (R171). -/
def State.putBands (s : State) (n : Ch) (bands : List Int) : State :=
  (List.range 4).foldl (fun s k =>
    s.setReg (Reg.eqNfBand n k) (BitVec.ofNat 32 (twos 16 (bands.getD (2 * k + 1) 0) * 65536 + twos 16 (bands.getD (2 * k) 0)))) s

/-- Blocks that complete a measurement: 2^AVG of 4,096 samples each (R171). -/
def State.nfBlocks (s : State) (n : Ch) (blocks : List (List Byte)) : Bool :=
  blocks.length == 2 ^ s.nfAvg n && blocks.all (fun b => b.length == 4096)

/-- NOISE_FLOOR_COMPLETE (R171): the blocks of eligible samples of a measurement, as ADC codes. -/
def execNoiseFloorComplete (n : Ch) (blocks : List (List Byte)) (s : State) : Host.Outcome State Fault Refusal :=
  if s.nfMay n && s.nfBlocks n blocks then
    let bands := s.noiseBands n blocks
    let rate := s.nfRate n
    let s := (s.putBands n bands).wrap (Reg.eqNfStatus n) 15 0 1
    let s := (s.setBit (Reg.eqNfStatus n) 31 true).setFld (Reg.eqNfStatus n) 27 24 rate
    .next ((s.cint n .eq 2).nfRise n bands)
  else .next s

/-! ### What register writes do (R138, R156, R163, R170) -/

/-- A write to RX_GAIN: at once while the link is down; on a link that is up it waits for the instant of R138. (DEDUCED, notes/assumptions 100) -/
def State.gainWritten (s : State) (n : Ch) : State :=
  if s.linkUp n then (s.setBit (Reg.afeGainStatus n) 29 true).showEcl n else s.applyGain n

/-- A write to DFE_CTRL: in the next eclipse on a live Z link, else at once (R156). -/
def State.tapsWritten (s : State) (n : Ch) (old : Word) : State :=
  if min (bits old 2 0) 4 == s.dfeTaps n then s
  else if s.zUp n then (s.mapRx n (fun r => { r with dfeWait := true })).showEcl n
  else s.applyTaps n

/-- Whether a write of TR_CTRL is refused: MODE 0 under spread of either end (R163). -/
def State.timingRefused (s : State) (n : Ch) (d : Word) : Bool :=
  !d.getLsbD 0 && (s.bit (Reg.eqSscStatus n) 31 || s.bit (Reg.ktlStatus n) 25 || 0 < (s.lineSpread n).1)

/-- A change of MODE waits for the next eclipse on a live Z link, else for the next training (R163). -/
def State.timingWritten (s : State) (n : Ch) (old : Word) : State :=
  if old.getLsbD 0 == s.bit (Reg.eqTrCtrl n) 0 then s
  else (s.setBit (Reg.eqTrStatus n) 29 true).showEcl n

/-- A write of NF_CTRL: LISTEN = 1 suspends negotiation, LISTEN = 0 resumes it (R170). -/
def State.listenWritten (s : State) (n : Ch) (old : Word) : State :=
  let v := s.bit (Reg.eqNfCtrl n) 0
  if v && !old.getLsbD 0 then ((s.linkIdle n).setOrbitLock n false).showNf n
  else if !v && old.getLsbD 0 then (s.showNf n).startNeg n
  else s

end Sys2Proof.Machine
end

