-- ==== Sys2Proof/Machine/Ecl.lean ====
section
/-! DEFINITION. Low-power idle and eclipses (R195 to R205). -/

namespace Sys2Proof.Machine

/-- Eclipse state of a channel changed. -/
def State.mapEcl (s : State) (n : Ch) (f : EclSt → EclSt) : State := s.mapChan n (fun c => { c with ecl := f c.ecl })
/-- Line state of a channel changed. -/
def State.mapLine (s : State) (n : Ch) (f : LineSt → LineSt) : State := s.mapChan n (fun c => { c with line := f c.line })

/-- Orbits of a message slot of a direction (R99). -/
def slotLen : ZDir → Nat
  | .a1 => 16
  | _ => 8

/-- The next orbit starts a message slot. -/
def State.slotStart (s : State) (n : Ch) : Bool := (s.chan n).line.txNext.toNat % slotLen (s.txDir n) == 0

/-- Whether any change, or the partner, waits for an eclipse (R199). -/
def State.eclPending (s : State) (n : Ch) : Bool := s.eclReasons n != 0 || (s.chan n).ecl.partner

/-! ### LPI (R195 to R198) -/

/-- The host has sent LPI without a break since the start of the orbit before the one that is sent next (R195): it began before that orbit did. -/
def State.hostLpi (s : State) (n : Ch) : Bool :=
  match (s.chan n).buf.lpiFrom with
  | some w => decide (((s.chan n).line.txNext - 1 - w).toInt ≥ 0)
  | none => false

/-- Whether the transmitter may enter LPI at its next orbit (R195). A message slot that is being sent is completed first (R99). (DEDUCED, notes/assumptions 103) -/
def State.mayLpi (s : State) (n : Ch) : Bool :=
  let c := s.chan n
  s.zUp n && c.line.txTy == some .data && c.line.txNext.toNat % 64 == 63 && c.link.zlpi && s.hostLpi n && c.buf.ebuf.isEmpty
    && !s.eclPending n && c.ecl.ann.isNone && c.line.oamNow == 0

/-- LPI_ENTER (R195, R198): in a standard mode the clause enters LPI when the host sends it. -/
def execLpiEnter (n : Ch) (s : State) : Host.Outcome State Fault Refusal :=
  if s.mayLpi n then .next ((s.setLpi n true true).mapLine n (fun l => { l with txTy := some .refresh }))
  else if s.stdUp n && (s.chan n).buf.lpiFrom.isSome then .next (s.setLpi n true true)
  else .next s

/-- LPI_WAKE (R197, R198): the host ends LPI; four WAKE orbits follow. In a standard mode the clause leaves LPI. -/
def execLpiWake (n : Ch) (s : State) : Host.Outcome State Fault Refusal :=
  if s.zUp n && s.txLpi n then
    .next (((s.setLpi n true false).mapLine n (fun l => { l with txTy := some .wake })).mapChan n
      (fun c => { c with link := { c.link with wakeLeft := 4 }, buf := { c.buf with lpiFrom := none } }))
  else if s.stdUp n && s.txLpi n then .next (s.setLpi n true false)
  else .next s

/-- STANDARD_MODE_LPI_QUIET (R138, R161, R198, R386): the partner (or this channel) becomes quiet under the clause's LPI, which that direction is in from then on. (DEDUCED, notes/assumptions 100) -/
def execStandardModeLpiQuiet (n : Ch) (partner : Bool) (s : State) : Host.Outcome State Fault Refusal :=
  if s.stdUp n then
    let s := s.setLpi n (!partner) true
    let s := if partner then
        let s := s.trimApplyRx n
        s.when (s.bit (Reg.afeGainStatus n) 29) (fun s => s.applyGain n)
      else s.trimApplyTx n
    .next s
  else .next s

/-! ### Eclipses (R199 to R205) -/

/-- An eclipse message (07 Table 8). -/
def eclMessage (kind : Nat) (start : Word) (id : Byte) (reasons : Nat) : BitVec 128 :=
  BitVec.ofNat 128 (4 * 2 ^ 120 + kind * 2 ^ 118 + start.toNat * 2 ^ 80 + id.toNat * 2 ^ 72 + reasons * 2 ^ 64)

/-- ECLIPSE_REQUEST (R199): a follower whose change waits, once since the last eclipse, with its buffer drained. -/
def execEclipseRequest (n : Ch) (s : State) : Host.Outcome State Fault Refusal :=
  let e := (s.chan n).ecl
  if s.zUp n && !s.leader n && s.eclReasons n != 0 && !e.asked && e.drained then
    .next ((s.oamPush n (eclMessage 2 0 0 (s.eclReasons n))).mapEcl n (fun e => { e with asked := true }))
  else .next s

/-- START of an eclipse announced in the slot that the next orbit starts (R201). -/
def State.eclStartIndex (s : State) (n : Ch) : Word :=
  (s.chan n).line.txNext + (match s.txDir n with | .a1 => 32 | _ => 24)

/-- Whether the spacing of 128 orbits permits an eclipse with this START (R199). -/
def State.eclSpaced (s : State) (n : Ch) (start : Word) : Bool :=
  match (s.chan n).ecl.last with
  | some l => 128 ≤ (start - l).toNat
  | none => true

/-- ECLIPSE_ANNOUNCE (R199, R201): the leader, in the first message slot in which every condition holds. (DEDUCED, notes/assumptions 104) -/
def execEclipseAnnounce (n : Ch) (s : State) : Host.Outcome State Fault Refusal :=
  let e := (s.chan n).ecl
  let start := s.eclStartIndex n
  if s.zUp n && s.leader n && s.slotStart n && s.eclPending n && e.ann.isNone && e.txLeft == 0 && s.eclSpaced n start && e.drained
      && !s.rxLpi n && !s.txLpi n then
    let id := BitVec.ofNat 8 (s.reg (Reg.anEclCount n)).toNat
    let s := s.oamPush n (eclMessage 1 start id (s.eclReasons n))
    .next ((s.mapEcl n (fun e => { e with ann := some (start, id), expect := some start })).setBit (Reg.anEclStatus n) 29 true)
  else .next s

/-- The end begins its eclipse: two ECLIPSE orbits follow, transmit-side changes take effect at position F of the first, and ECL_ID and ECL_START show it (R201, R202). -/
def State.eclStart (s : State) (n : Ch) (start : Word) (id : Byte) : State :=
  let s := s.mapEcl n (fun e => { e with ann := none, txLeft := 2, last := some start })
  let s := s.mapLine n (fun l => { l with txTy := some .eclipse })
  let s := (s.setBit (Reg.anEclStatus n) 29 false).setFld (Reg.anEclStatus n) 23 16 id.toNat
  (s.setReg (Reg.anEclStart n) start).trimApplyTx n

/-- Orbits by which an orbit index lies behind another; negative where it lies before it. -/
def orbitsAfter (x start : Word) : Int := (x - start).toInt

/-- Whether the instant at which this end begins an announced eclipse has come (R201): at the leader its orbit START; at the follower an orbit boundary at or after the arrival of the leader's orbit START. -/
def State.eclDue (s : State) (n : Ch) (start : Word) : Bool :=
  if s.leader n then (s.chan n).line.txNext == start else decide (0 ≤ orbitsAfter (s.chan n).line.rxIdx start)

/-- ECLIPSE_START (R201). -/
def execEclipseStart (n : Ch) (s : State) : Host.Outcome State Fault Refusal :=
  match (s.chan n).ecl.ann with
  | some (start, id) => if s.zUp n && s.eclDue n start then .next (s.eclStart n start id) else .next s
  | none => .next s

/-- The receive-side changes of an eclipse (R202): trims and gain, DFE taps, timing mode; a new ITER_MAX applies after it (R122). (DEDUCED, notes/assumptions 100) -/
def State.eclReceive (s : State) (n : Ch) : State :=
  let s := s.trimApplyRx n
  let s := s.when (s.bit (Reg.afeGainStatus n) 29) (fun s => s.applyGain n)
  let s := s.when (s.chan n).rx.dfeWait (fun s => s.applyTaps n)
  let s := s.when (s.bit (Reg.eqTrStatus n) 29) (fun s => s.applyTiming n)
  let iter := s.bit (Reg.fecStatus n) 4
  let s := s.mapChan n (fun c => { c with
    ecl := { c.ecl with expect := none, stray := false, rxIn := 2 }
    fec := { c.fec with iterArm := iter } })
  (s.showEcl n).showAdapt n

/-- ECLIPSE_RECEIVE (R202): symbol position F of the first received orbit of an announced eclipse. -/
def execEclipseReceive (n : Ch) (s : State) : Host.Outcome State Fault Refusal :=
  if s.zUp n && (s.chan n).ecl.expect.isSome then .next (s.eclReceive n) else .next s

/-- Whether 3 orbits have passed after the expected arrival of an announced eclipse (R203): at the follower the leader's orbit START has arrived 3 orbits ago; at the leader, whose partner starts up to one orbit after START arrives there, 5 orbits have begun since START. -/
def State.eclLate (s : State) (n : Ch) (start : Word) : Bool :=
  if s.leader n then decide (5 ≤ orbitsAfter (s.chan n).line.txNext start) else decide (3 ≤ orbitsAfter (s.chan n).line.rxIdx start)

/-- ECLIPSE_MISS (R203): an announced eclipse was not received within 3 orbits, or ECLIPSE orbits arrived unannounced. -/
def execEclipseMiss (n : Ch) (unannounced : Bool) (s : State) : Host.Outcome State Fault Refusal :=
  let e := (s.chan n).ecl
  if s.zUp n && (if unannounced then e.stray else e.expect.any (s.eclLate n)) then
    .next ((s.sat32 (Reg.anEclMiss n) 1).mapEcl n (fun e => if unannounced then { e with stray := false } else { e with expect := none }))
  else .next s

/-- The index of the leader's orbits from which the running interval of 128 counts (R205): when the request began to wait, or when the spacing first permits an eclipse, whichever is later. -/
def State.deferBase (s : State) (n : Ch) : Word :=
  let e := (s.chan n).ecl
  let w := e.waitFrom.getD (s.leadIdx n)
  match e.last with
  | some l => if orbitsAfter w (l + 128) < 0 then l + 128 else w
  | none => w

/-- ECLIPSE_DEFER (R205): an interval of 128 orbits has passed in which a permitted request was not announced; the leader counts it for an undrained buffer or LPI. -/
def execEclipseDefer (n : Ch) (s : State) : Host.Outcome State Fault Refusal :=
  let e := (s.chan n).ecl
  if s.zUp n && s.eclPending n && e.ann.isNone && decide (128 ≤ orbitsAfter (s.leadIdx n) (s.deferBase n))
      && (!s.leader n || !e.drained || s.rxLpi n || s.txLpi n) then
    let b := s.deferBase n + 128
    .next ((s.sat32 (Reg.anEclDefer n) 1).mapEcl n (fun e => { e with waitFrom := some b }))
  else .next s

/-- ECLIPSE_STALE (R205): a request has waited for more than 1 s. -/
def execEclipseStale (n : Ch) (s : State) : Host.Outcome State Fault Refusal :=
  match (s.chan n).ecl.since with
  | some t => if t + sec 1 < s.now then .next ((s.setBit (Reg.anEclStatus n) 30 true).cint n .an 4) else .next s
  | none => .next s

/-- The eclipse ends at this end (R199, R205): it counts, and the buffer has to drain again. -/
def State.eclEnd (s : State) (n : Ch) : State :=
  let s := (s.wrap32 (Reg.anEclCount n) 1).cint n .an 3
  ((s.mapEcl n (fun e => { e with asked := false, partner := false, drained := false, waitFrom := none })).showEcl n).mapLine n (fun l => { l with txTy := some .data })

/-- An eclipse message received (R199 to R201): a REQUEST at the leader, an ANNOUNCE at the follower; another kind is ignored. -/
def State.eclMsg (s : State) (n : Ch) (m : BitVec 128) : State :=
  let kind := (m >>> 118).toNat % 4
  if kind == 2 && s.leader n then s.mapEcl n (fun e => { e with partner := true, waitFrom := some (e.waitFrom.getD (s.leadIdx n)) })
  else if kind == 1 && !s.leader n then
    let start := BitVec.ofNat 32 ((m >>> 80).toNat % 2 ^ 32)
    (s.mapEcl n (fun e => { e with ann := some (start, BitVec.ofNat 8 (m >>> 72).toNat), expect := some start })).setBit (Reg.anEclStatus n) 29 true
  else s

end Sys2Proof.Machine
end

