-- ==== Sys2Proof/Machine/Orbit.lean ====
section
/-! DEFINITION. Orbits as they are sent (R84, R93, R97, R99, R100), with the times of the Krytia Time Link that each carries (R242, R243, R266). -/

namespace Sys2Proof.Machine

/-! ### Transparent time (R266) -/

/-- Whether channel c of an active relay pair sends transparent time (R266). -/
def State.tcHolds (s : State) (n : Ch) : Bool :=
  let o := partnerCh n
  s.rlyActive n && s.bit (Reg.ktlCtrl n) 8 && s.ktlVer n == 3 && s.ktlVer o == 3 && s.infoValid o
    && !s.bit (Reg.ktlStatus o) 23 && s.estWithin o (us 4)

/-- TC_ACTIVE. -/
def State.tcActive (s : State) (n : Ch) : Bool := s.bit (Reg.ktlStatus n) 21

/-- Accepted offsets of the last 64 orbits before an instant of channel time (R247). -/
def recentThetas (l : List (Rat × Rat)) (t : Rat) : List (Rat × Rat) := l.filter (fun x => t - x.2 < 64000)

/-- The time that a channel sends for an instant of its channel time: its own, or its relay partner's partner's (R266). -/
def State.sentTime (s : State) (n : Ch) (c : Rat) : Rat :=
  if s.tcActive n then
    let o := partnerCh n
    let l := recentThetas (s.chan o).ktl.thetas c
    c - (meanR (l.map (·.1)) + pico (s.sfld (Reg.ktlFreqRel o) 31 0) * (c - meanR (l.map (·.2))))
  else c

/-! ### The field of an orbit (R93, R97, R242, R243) -/

/-- The arrival that an orbit with its mark at T echoes: the latest one at least 400 ns before T, not older than 128 µs (R243). -/
def State.echoOf (s : State) (n : Ch) (t : Rat) : Option Rat :=
  if s.measures n && s.orbitLock n then
    match (s.chan n).ktl.arrivals.find? (fun a => a + 400 ≤ t) with
    | some a => if t ≤ a + 128000 then some a else none
    | none => none
  else none

/-- TIME_VALID that a channel sends: its engine valid and its group's state (09 Table 3), or with transparent time the partner's of the other channel (R266). -/
def State.timeValidTx (s : State) (n : Ch) : Bool :=
  s.engineOk n && (if s.tcActive n then s.bit (Reg.ktlStatus (partnerCh n)) 27 else sendsTime (s.grpState (s.tgOf n)))

/-- HOLDOVER that a channel sends (R258, R266). -/
def State.holdoverTx (s : State) (n : Ch) : Bool :=
  if s.tcActive n then s.bit (Reg.ktlStatus (partnerCh n)) 26 else s.grpHolds (s.tgOf n)

/-- SSC flag: the transmitter spreads its clock (04 Table 9). -/
def State.sscTx (s : State) (n : Ch) : Bool := 0 < (s.lineSpread n).1

/-- FLAGS of a field (04 Table 9): RESIDENCE only in version 3, SSC likewise (09 Table 4). -/
def State.flagsTx (s : State) (n : Ch) (echo : Bool) : Nat :=
  let v3 := s.ktlVer n == 3
  b2n (s.timeValidTx n) * 128 + b2n echo * 64 + b2n (s.holdoverTx n) * 32 + b2n (v3 && s.sscTx n) * 16 + b2n (v3 && s.tcActive n) * 8

/-- The OAM piece of orbit position j of the slot being sent, k bits wide. -/
def oamPiece (m : BitVec 128) (k j : Nat) : Nat := (m >>> (128 - k * (j + 1))).toNat % 2 ^ k

/-- The KTL field of the orbit that is sent next. -/
def State.fieldTx (s : State) (n : Ch) (ty : OrbitTy) (t : Rat) : KtlField :=
  let l := (s.chan n).line
  let echo := s.echoOf n t
  let a := timeParts (s.sentTime n t)
  let e := match echo with | some x => timeParts (s.sentTime n x) | none => (0, 0, 0)
  let oam := if ty == .data || ty == .eclipse then oamPiece l.oamNow 16 (l.txNext.toNat % 8) else 0
  let slots := if ty == .train || s.ktlVer n == 1 then [] else l.cometOut
  { version := BitVec.ofNat 4 (s.ktlVer n)
    ty := orbitCode ty
    flags := BitVec.ofNat 8 (s.flagsTx n echo.isSome)
    orbit := l.txNext
    txSec := BitVec.ofNat 16 a.1
    txNs := BitVec.ofNat 32 a.2.1
    txFrac := BitVec.ofNat 16 a.2.2
    echoSec := BitVec.ofNat 16 e.1
    echoNs := BitVec.ofNat 32 e.2.1
    echoFrac := BitVec.ofNat 16 e.2.2
    comet0 := slots.getD 0 0
    comet1 := slots.getD 1 0
    oam := BitVec.ofNat 16 oam }

/-- The KTL-lite field of the orbit that is sent next (R97). -/
def State.liteTx (s : State) (n : Ch) (ty : OrbitTy) (t : Rat) : LiteField :=
  let l := (s.chan n).line
  let echo := s.echoOf n t
  let a := timeParts (s.sentTime n t)
  let e := match echo with | some x => timeParts (s.sentTime n x) | none => (0, 0, 0)
  { ty := orbitCode ty
    timeValid := s.timeValidTx n
    echoValid := echo.isSome
    holdover := s.holdoverTx n
    ssc := s.sscTx n
    orbitLo := l.txNext.truncate 16
    txNs := BitVec.ofNat 32 a.2.1
    txFrac := BitVec.ofNat 16 a.2.2
    echoNs := BitVec.ofNat 32 e.2.1
    echoFrac := BitVec.ofNat 16 e.2.2
    oam := BitVec.ofNat 8 (if ty == .data || ty == .eclipse then oamPiece l.oamNow 8 (l.txNext.toNat % 16) else 0) }

/-! ### Sending an orbit (R84) -/

/-- Type of the next orbit: in LPI the orbits with index 64k + 63 are REFRESH and the others QUIET (R196). -/
def State.nextTy (s : State) (n : Ch) : Option OrbitTy :=
  match (s.chan n).line.txTy with
  | some .refresh | some .quiet => some (if (s.chan n).line.txNext.toNat % 64 == 63 then .refresh else .quiet)
  | t => t

/-- The blocks that an orbit's codewords hold: host blocks once the link is up, else line idle blocks; none without codewords (R84, R103, R189). -/
def State.orbitBlocks (s : State) (n : Ch) (ty : OrbitTy) : State × List Blk :=
  let k := blocksPerOrbit (s.txDir n)
  let cw := codewordsPerOrbit (s.txDir n) (codeOf (s.txCode n))
  let count (s : State) : State := s.wide (Reg.fecCwTxLo n) (Reg.fecCwTxHi n) 16 cw
  match ty with
  | .data => if s.linkUp n then (count s).fillOrbit n
      else ((count s).wide (Reg.pcsLidleTxLo n) (Reg.pcsLidleTxHi n) 32 k, List.replicate k lineIdle)
  | .train | .wake => ((count s).wide (Reg.pcsLidleTxLo n) (Reg.pcsLidleTxHi n) 32 k, List.replicate k lineIdle)
  | .eclipse | .refresh | .quiet => (s, [])

/-- What follows an orbit: the end of an eclipse or of a wake, the drained buffer, the index of the next orbit, and the end of the message slot. -/
def State.orbitDone (s : State) (n : Ch) (ty : OrbitTy) : State :=
  let k := slotLen (s.txDir n)
  let s := s.mapLine n (fun l => { l with
    txNext := l.txNext + 1
    cometOut := if ty == .quiet then l.cometOut else []
    oamNow := if (l.txNext + 1).toNat % k == 0 then 0 else l.oamNow })
  let s := s.mapChan n (fun c => { c with
    ecl := { c.ecl with
      txLeft := if ty == .eclipse then c.ecl.txLeft - 1 else c.ecl.txLeft
      drained := c.ecl.drained || decide (c.buf.ebuf.length ≤ 64) }
    link := { c.link with wakeLeft := if ty == .wake then c.link.wakeLeft - 1 else c.link.wakeLeft }
    ktl := { c.ktl with align := false, capAge := c.ktl.capAge + 1 } })
  let s := s.when (ty == .eclipse && (s.chan n).ecl.txLeft == 0) (fun s => s.eclEnd n)
  s.when (ty == .wake && (s.chan n).link.wakeLeft == 0) (fun s => s.mapLine n (fun l => { l with txTy := some .data }))

/-- One orbit sent, its mark's reference instant at channel time t in ns: blocks taken, field formed, its symbols formed from both (R82 to R92, R115, R116), mark recorded, counters moved. -/
def State.sendOrbit (s : State) (n : Ch) (ty : OrbitTy) (t : Rat) : State :=
  let s := s.setBit (Reg.ktlStatus n) 21 (s.tcHolds n)
  let s := s.when (s.linkUp n) (fun s => s.takeBlocks n)
  let x := s.orbitBlocks n ty
  let s := x.1
  let idx := (s.chan n).line.txNext
  let lite := s.txDir n == .a1
  let quiet := ty == .quiet
  let k := if quiet || lite then none else some (s.fieldTx n ty t)
  let f := if quiet || !lite then none else some (s.liteTx n ty t)
  let field := match k, f with
    | some k, _ => ktlSymbols k
    | _, some f => liteSymbols f
    | _, _ => []
  let syms := sentSymbols (s.txDir n) (codeOf (s.txCode n)) ty idx field x.2
  let s := s.setReg (Reg.pcsTxOrbit n) idx
  let s := s.transmit n { ty := some ty, index := idx, ktl := k, lite := f, tsw := none, blocks := x.2, syms := syms }
  let s := (s.setBit (Reg.ktlStatus n) 31 (s.timeValidTx n)).setBit (Reg.ktlStatus n) 30 (s.echoOf n t).isSome
  let s := if quiet then s else s.mapKtl n (fun c => { c with marks := (t :: c.marks).take 128 })
  ((s.orbitDone n ty).showEngine n).showNf n

/-- Symbols that a transmitter has sent after k µs at the symbol rate of its mode, in whole pairs (06 Table 2, R82). -/
def State.symbolsIn (s : State) (n : Ch) (k : Nat) : Nat :=
  if isZ (s.lineMode n) then k * (layout (s.txDir n)).symbols
  else 2 * ((k : Rat) * 500000 / samplePs (sigKind (s.lineMode n))).floor.toNat

/-- One µs of the selected pattern at the symbol rate of its mode (R236): training symbols without orbits, or the levels of 08 Table 4. -/
def State.sendPattern (s : State) (n : Ch) : State :=
  let l := (s.chan n).line
  let from' := s.symbolsIn n l.patUs
  let k := s.symbolsIn n (l.patUs + 1) - from'
  let x := if s.pattern n == 1 then trainRun (s.txDir n) l.trainReg k
    else ((List.range k).map (fun i => patternLevel (s.pattern n) (from' + i)), l.trainReg)
  (s.mapLine n (fun l => { l with trainReg := x.2, patUs := l.patUs + 1 })).transmit n (plainOut x.1)

/-- Channel time in ns at the reference instant of a mark whose orbit the symbol clock placed late ps before now: that of its launch, later by LAT_MARK_TX (R242, R249). (DESIGN CHOICE, notes/assumptions 119) -/
def State.markTime (s : State) (n : Ch) (late : Nat) : Rat := s.timeAgo (s.tgOf n) late + (s.markTx n : Rat) / 1000

/-- ORBIT_TRANSMIT (R84): the next orbit of a channel that sends orbits; its mark was launched late ps before now, at an instant that the symbol clock places (R242). In phase 1 an end whose turn it is sends a µs of training symbols, in phases 2 and 3 a training orbit (R185); in a standard mode that is up, one µs of the clause's transmission (R133); under a test pattern, the pattern: pattern 5 sends DATA orbits of line idle blocks (R236). -/
def execOrbitTransmit (n : Ch) (late : Nat) (s : State) : Host.Outcome State Fault Refusal :=
  if !s.lineReady n then .next s
  else if s.pattern n == 5 && isZ (s.lineMode n) then .next (s.sendOrbit n .data (s.markTime n late))
  else if s.pattern n != 0 then .next (s.sendPattern n)
  else if s.stdUp n then .next (s.sendStd n)
  else if s.phase n == 1 && (s.chan n).line.p1 then .next (s.sendQuietEcho n)
  else if s.sendsTraining n then .next (s.sendTraining n)
  else match s.nextTy n with
    | some ty => if isZ (s.lineMode n) then .next (s.sendOrbit n ty (s.markTime n late)) else .next s
    | none => .next s

/-! ### OAM (R99, R100) -/

/-- Priority of a message type, 04 Table 11. -/
def oamPrio (ty : Nat) : Nat :=
  match ty with | 4 => 1 | 2 => 2 | 6 => 3 | 3 => 4 | 1 => 5 | _ => 6

/-- The waiting message that goes first: by priority, then by age. -/
def oamFirst : List (BitVec 128) → Option (BitVec 128)
  | [] => none
  | m :: r => match oamFirst r with
    | some x => if oamPrio (oamType m) ≤ oamPrio (oamType x) then some m else some x
    | none => some m

/-- A capability message with the SECONDS of a slot's first mark (09 Table 1). -/
def withSeconds (m : BitVec 128) (sec : Nat) : BitVec 128 :=
  (m &&& ~~~(0xFFFFFFFFFFFF0000#128)) ||| (BitVec.ofNat 128 (sec % 2 ^ 48) <<< 16)

/-- Whether every orbit of the slot that starts now will be DATA or ECLIPSE: the direction sends them now, and no LPI entry falls into the slot (R99). -/
def State.slotCarries (s : State) (n : Ch) : Bool :=
  match (s.chan n).line.txTy with
  | some .data | some .eclipse => s.linkUp n
  | _ => false

/-- The message for the slot that starts with the next orbit, its mark at channel time t (R100, 09 Table 1): SECONDS are those of the channel's own time; capture and late reports count as sent. -/
def State.placeOam (s : State) (n : Ch) (t : Rat) : State :=
  match oamFirst (s.chan n).line.oamQ with
  | none => s.mapLine n (fun l => { l with oamNow := 0 })
  | some m =>
    let m' := if oamType m == 5 then withSeconds m (timeParts t).1 else m
    let s := s.when (oamType m == 3) (fun s => s.wrap32 Reg.capRepTx 1)
    let s := s.when (oamType m == 6) (fun s => s.wrap Reg.cmtLateTx 15 0 1)
    (s.wrap32 (Reg.pcsOamTx n) 1).mapLine n (fun l => { l with oamNow := m', oamQ := l.oamQ.erase m })

/-- OAM_MESSAGE_SEND (R100): at an orbit that starts a message slot, its mark launched late ps before now. -/
def execOamMessageSend (n : Ch) (late : Nat) (s : State) : Host.Outcome State Fault Refusal :=
  if isZ (s.lineMode n) && s.slotStart n && (s.chan n).line.txTy.isSome then
    if s.slotCarries n then .next (s.placeOam n (s.markTime n late))
    else .next (s.mapLine n (fun l => { l with oamNow := 0 }))
  else .next s

end Sys2Proof.Machine
end

