-- ==== Sys2Proof/Machine/Ktl.lean ====
section
/-! DEFINITION. Fields as they are received (R87, R96, R97, R101), the estimator of the Krytia Time Link (R241 to R248) and the capability message (R250 to R252). -/

namespace Sys2Proof.Machine

/-! ### Numbers -/

/-- A value in ns modulo m ns, at the place nearest a reference (R93, R97). -/
def nearestTime (v m ref : Rat) : Rat := v + m * (roundInt ((ref - v) / m) : Rat)

/-! ### Partner information (R250, R252) -/

/-- INFO_VALID set, with its interrupt on a change (R250, R279). -/
def State.setInfo (s : State) (n : Ch) (b : Bool) : State :=
  (s.when (b != s.infoValid n) (fun s => (s.setBit (Reg.ktlStatus n) 28 b).cint n .ktl 1)).showLoop n

/-- The partner's capability message taken (R248, R250): its content shown, its seconds compared, its currency 5 ms. -/
def State.takeCap (s : State) (n : Ch) (m : BitVec 128) : State :=
  let v1 := s.ktlVer n == 1
  let f (hi lo : Nat) : Nat := (m >>> lo).toNat % 2 ^ (hi + 1 - lo)
  let id (x : Nat) : Nat := if v1 then x % 1024 else x
  let info := withBits (withBits (withBits (withBits (s.reg (Reg.ktlPartnerInfo n)) 31 28 (f 119 116)) 27 25 (f 76 74)) 22 16 (f 83 77)) 13 0 (id (f 111 98))
  let root := withBits (s.reg (Reg.ktlPartnerRoot n)) 13 0 (id (f 97 84))
  let ch := info != s.reg (Reg.ktlPartnerInfo n) || root != s.reg (Reg.ktlPartnerRoot n)
  let s := ((s.setReg (Reg.ktlPartnerInfo n) info).setReg (Reg.ktlPartnerRoot n) root).cintIf ch n .ktl 1
  let s := s.setFld (Reg.ktlStatus n) 23 23 (f 73 73)
  let s := s.mapKtl n (fun c => { c with cap := some m, capBy := s.now + ms 5, base := (f 63 16 : Rat) * 1000000000 + c.slotTx, baseAt := c.slotAt })
  s.setInfo n true

/-- INFO_EXPIRY (R250): 5 ms after the slot of the partner's message, or after its direction left LPI. -/
def execInfoExpiry (n : Ch) (s : State) : Host.Outcome State Fault Refusal :=
  if s.infoValid n && !s.rxLpi n && (s.chan n).ktl.capBy ≤ s.now then .next (s.setInfo n false) else .next s

/-- HOP and ROOT_ID that a channel announces: its group's, or with transparent time those of the other channel's partner (R251, R266). -/
def State.hopRoot (s : State) (n : Ch) : Nat × Nat :=
  let g := s.tgOf n
  if s.tcActive n then
    let o := partnerCh n
    (min (s.fld (Reg.ktlPartnerInfo o) 22 16 + 1) 127, s.fld (Reg.ktlPartnerRoot o) 13 0)
  else (if s.grpState g == 0 then 127 else s.fld (Reg.tkGrpState g.val) 22 16, (s.group g).root.toNat)

/-- The version and capability message of a channel, SECONDS 0 until its slot (09 Table 1). -/
def State.capMessage (s : State) (n : Ch) : BitVec 128 :=
  let g := s.tgOf n
  let id (x : Nat) : Nat := if s.ktlVer n == 1 then x % 1024 else x
  let hr := s.hopRoot n
  BitVec.ofNat 128 (5 * 2 ^ 120 + 3 * 2 ^ 116 + s.ktlVer n * 2 ^ 112 + id (s.fld (Reg.tkGrpDevId g.val) 13 0) * 2 ^ 98
    + id hr.2 * 2 ^ 84 + hr.1 * 2 ^ 77 + s.srcKind g * 2 ^ 74 + b2n (s.takes n) * 2 ^ 73 + b2n (s.timeValidTx n) * 2 ^ 72
    + b2n (s.holdoverTx n) * 2 ^ 71 + b2n (s.tcActive n) * 2 ^ 70)

/-- Whether a capability message is due (R250): none sent since the link came up, a field changed, or 1,024 orbits have nearly passed. -/
def State.capDue (s : State) (n : Ch) : Bool :=
  let k := (s.chan n).ktl
  k.capSent != some (s.capMessage n) || 1024 - slotLen (s.txDir n) ≤ k.capAge

/-- CAPABILITY_MESSAGE_SEND (R250): a due message is queued while the transmit direction is not in LPI; a message still waiting is replaced. -/
def execCapabilityMessageSend (n : Ch) (s : State) : Host.Outcome State Fault Refusal :=
  if s.zUp n && !s.txLpi n && s.capDue n then
    let m := s.capMessage n
    let s := s.mapLine n (fun l => { l with oamQ := l.oamQ.filter (fun x => oamType x != 5) })
    .next ((s.oamPush n m).mapKtl n (fun k => { k with capSent := some m, capAge := 0 }))
  else .next s

/-! ### The estimator (R244 to R248) -/

/-- A received field's times as the estimator uses them. -/
structure Stamp where
  timeValid : Bool
  echoValid : Bool
  /-- TX and ECHO times in ns, and the span after which they repeat. -/
  tx : Rat
  echo : Rat
  modulus : Rat
  deriving DecidableEq, Repr

/-- ν of R246: FREQ_REL. -/
def State.nuOf (s : State) (n : Ch) : Rat := pico (s.sfld (Reg.ktlFreqRel n) 31 0)

/-- The seconds of a partner's time t1, read at the place nearest this end's, checked against its last capability message: the whole number of seconds, in ns, by which they differ; 0 below one second and before a message (R248). (DESIGN CHOICE, notes/assumptions 119) -/
def State.secCorrection (s : State) (n : Ch) (t1 : Rat) (at' : Nat) : Rat :=
  let k := (s.chan n).ktl
  let diff := k.base + ((at' : Rat) - (k.baseAt : Rat)) / 1000 - t1
  if k.cap.isSome && decide (1000000000 ≤ absR diff) then (roundInt (diff / 1000000000) : Rat) * 1000000000 else 0

/-- DELAY_AVG as it acts (R247). -/
def State.delayAvg (s : State) (n : Ch) : Nat := min (s.fld (Reg.ktlCtrl n) 3 0) 10

/-- The mean θ0 of the last 64 orbits shown: whole ns, held at ±(2^31 − 1), and fraction in 2^−16 ns (R247). -/
def State.showOffset (s : State) (n : Ch) (t2 : Rat) : State :=
  let u := roundInt (meanR ((recentThetas (s.chan n).ktl.thetas t2).map (·.1)) * 65536)
  let w := max (-(2 ^ 31 - 1)) (min (u / 65536) (2 ^ 31 - 1))
  (s.setReg (Reg.ktlOffsetNs n) (BitVec.ofInt 32 w)).setFld (Reg.ktlOffsetFrac n) 15 0 (u % 65536).toNat

/-- An accepted estimate of offset and delay at t2 (R246 to R248, R252, R276). A negative mean delay shows as 0 in PATH_DELAY. (DESIGN CHOICE, notes/assumptions 160) -/
def State.accept (s : State) (n : Ch) (theta d t2 : Rat) : State :=
  let k := 2 ^ s.delayAvg n
  let s := s.mapKtl n (fun c => { c with
    ds := (d :: c.ds).take k, rejects := 0, thetas := ((theta, t2) :: c.thetas).take 64
    window := if c.cap.isSome then theta :: c.window else c.window
    estAt := some s.now, realign := false })
  let s := s.setReg (Reg.ktlPathDelay n) (BitVec.ofNat 32 (roundInt (meanR (s.chan n).ktl.ds * 1000)).toNat)
  ((s.showOffset n t2).wrap32 (Reg.ktlEstCount n) 1).showNu n

/-- An estimate judged against PATH_DELAY (R247): a rejected one counts, and the 64th in a row empties the mean. -/
def State.judge (s : State) (n : Ch) (theta d t2 : Rat) : State :=
  let k := (s.chan n).ktl
  let th : Rat := (max 1 (s.fld (Reg.ktlOutlierTh n) 15 0) : Nat)
  if !k.ds.isEmpty && decide (th < absR (d - meanR k.ds) * 1000) then
    let s := s.satInt (Reg.ktlOutliers n) 1 (.chan n .ktl) 3
    s.mapKtl n (fun c => if c.rejects + 1 = 64 then { c with rejects := 0, ds := [] } else { c with rejects := c.rejects + 1 })
  else s.accept n theta d t2

/-- The round trip of a recorded mark lies from −250 to +750 ns (R245). -/
def inWindow (t1 t2 t4 t3 : Rat) : Bool := let rt := (t2 - t1) + (t4 - t3); decide (-250 ≤ rt) && decide (rt ≤ 750)

/-- The estimate that a field with a found mark gives (R245, R246, R248): t2 is the mark's arrival, at the instant at'. -/
def State.estimate (s : State) (n : Ch) (x : Stamp) (found : Bool) (t2 : Rat) (at' : Nat) : State :=
  let t1 := nearestTime x.tx x.modulus t2
  let c := s.secCorrection n t1 at'
  let t1' := t1 + c
  let t4' := nearestTime x.echo x.modulus t2 + c
  match s.measures n && found && x.timeValid && x.echoValid, (s.chan n).ktl.marks.filter (inWindow t1' t2 t4') with
  | true, [t3] =>
    let nu := s.nuOf n * (t3 - t2)
    s.judge n (((t2 - t1') - (t4' - t3) - nu) / 2) (((t2 - t1') + (t4' - t3) + nu) / 2) t2
  | _, _ => s.when x.echoValid (fun s => s.sat32 (Reg.ktlEchoMiss n) 1)

/-! ### A received field -/

/-- What a decoded field says, of either layout. -/
structure Got where
  ty : OrbitTy
  corr : Nat
  stamp : Stamp
  holdover : Bool
  ssc : Bool
  residence : Bool
  index : Word
  comets : List (BitVec 96)
  oam : Nat
  deriving DecidableEq, Repr

/-- A time of seconds, ns and fraction fields, in ns. -/
def fieldTime (sec nsec frac : Nat) : Rat := (sec : Rat) * 1000000000 + (nsec : Rat) + (frac : Rat) / 65536

/-- A received KTL field decoded and checked (R96); what its version does not define is ignored (R94). -/
def gotKtl (ver : Nat) (r : BitVec 448) : Option Got :=
  match ktlDecode (msbBits r) with
  | some (f, k) =>
    match orbitOfCode f.ty, f.version.toNat == ver with
    | some ty, true => some {
        ty := ty
        corr := k
        stamp := {
          timeValid := f.flags.getLsbD 7
          echoValid := f.flags.getLsbD 6
          tx := fieldTime f.txSec.toNat f.txNs.toNat f.txFrac.toNat
          echo := fieldTime f.echoSec.toNat f.echoNs.toNat f.echoFrac.toNat
          modulus := 65536000000000 }
        holdover := f.flags.getLsbD 5
        ssc := ver == 3 && f.flags.getLsbD 4
        residence := ver == 3 && f.flags.getLsbD 3
        index := f.orbit
        comets := if ver == 1 || ty == .train then [] else [f.comet0, f.comet1].filter (· != 0)
        oam := f.oam.toNat }
    | _, _ => none
  | none => none

/-- A received KTL-lite field (R97, R98): last is the partner's last full index. -/
def gotLite (last : Word) (r : BitVec 448) : Option Got :=
  match liteDecode (msbBits (r.truncate 176)) with
  | some (f, k) =>
    match orbitOfCode f.ty with
    | some ty =>
      let up := last.toNat / 65536
      let up := if f.orbitLo.toNat < last.toNat % 65536 then up + 1 else up
      some {
        ty := ty
        corr := k
        stamp := {
          timeValid := f.timeValid
          echoValid := f.echoValid
          tx := fieldTime 0 f.txNs.toNat f.txFrac.toNat
          echo := fieldTime 0 f.echoNs.toNat f.echoFrac.toNat
          modulus := 1000000000 }
        holdover := f.holdover
        ssc := f.ssc
        residence := false
        index := BitVec.ofNat 32 (up * 65536 + f.orbitLo.toNat)
        comets := []
        oam := f.oam.toNat }
    | none => none
  | none => none

/-- The decoded field of the received direction. -/
def State.gotField (s : State) (n : Ch) (r : BitVec 448) : Option Got :=
  match s.rxDir n with
  | .a1 => gotLite (s.chan n).line.rxIdx r
  | _ => gotKtl (s.ktlVer n) r

/-- The OAM piece of a received orbit joins its slot, or is missing from it (R99, R101). -/
def State.oamPieceIn (s : State) (n : Ch) (idx : Word) (piece : Option Nat) : State :=
  let k := slotLen (s.rxDir n)
  let j := idx.toNat % k
  let p := piece.map (BitVec.ofNat 16)
  s.mapLine n (fun l => { l with oamIn := if j == 0 then [p] else if l.oamIn.length == j then l.oamIn ++ [p] else [] })

/-- The index of the partner's orbit being received, known and shown (R97). -/
def State.setRxIdx (s : State) (n : Ch) (idx : Word) : State :=
  (s.mapLine n (fun l => { l with rxIdx := idx })).setReg (Reg.pcsRxOrbit n) idx

/-- A field that failed, of the orbit with this index (R96, R101, R188, R250): in phase 3 its orbit brought no valid status word. (DEDUCED, notes/assumptions 93) -/
def State.fieldFails (s : State) (n : Ch) (idx : Word) : State :=
  let s := (s.satInt (Reg.pcsKtlFail n) 1 (.chan n .pcs) 1).setRxIdx n idx
  let s := (s.oamPieceIn n idx none).mapLink n (fun l => { l with
    readyRun := if s.phase n == 4 then 0 else l.readyRun
    tswRun := if s.phase n == 3 then 0 else l.tswRun })
  s.when (s.rxLpi n && s.infoValid n && (s.chan n).ktl.capBy ≤ s.now) (fun s => s.setInfo n false)

/-- What a decoded field's type does to LPI of the received direction (R195 to R197): REFRESH with an index 63 mod 64 after DATA orbits enters it, and WAKE with its mark found leaves it; the host sees LPI meanwhile. -/
def State.lpiByType (s : State) (n : Ch) (was : Option OrbitTy) (x : Got) (found : Bool) : State :=
  if !s.linkUp n then s
  else if !s.rxLpi n && x.ty == .refresh && x.index.toNat % 64 == 63 && was == some .data then
    (s.setLpi n false true).hostSend n [lpiBlk]
  else if s.rxLpi n && x.ty == .wake && found then
    ((s.capGrace n).setLpi n false false).hostSend n [idleBlk]
  else s

/-- What a field's type does in training (R188, R189). -/
def State.trainByType (s : State) (n : Ch) (x : Got) : State :=
  let ph := s.phase n
  s.mapLink n (fun l => { l with
    readyRun := if ph != 4 then l.readyRun
      else if (x.ty == .train || x.ty == .data) && x.stamp.echoValid then l.readyRun + 1 else 0
    tswRun := if ph != 3 then l.tswRun else if x.ty == .train then l.tswRun + 1 else 0
    got := l.got || (4 ≤ ph && x.ty == .data) })

/-- The link is up once this end sends DATA orbits and has decoded a DATA field (R189). -/
def State.upIfDue (s : State) (n : Ch) : State :=
  let l := (s.chan n).link
  s.when (s.phase n == 4 && !s.linkUp n && l.sends && l.got) (fun s => s.comeUp n)

/-- The partner's flags of the last decoded field shown (09 Table 8). -/
def State.showFlags (s : State) (n : Ch) (x : Got) : State :=
  s.setFld (Reg.ktlStatus n) 27 24 (b2n x.stamp.timeValid * 8 + b2n x.holdover * 4 + b2n x.ssc * 2 + b2n x.residence)

/-- A decoded field taken: counters, flags, OAM piece, comets, training, LPI, the mark's arrival and the estimate; ECLIPSE without an announcement is noted (R203). -/
def State.takeField (s : State) (n : Ch) (x : Got) (found : Bool) (t2 : Rat) (at' : Nat) : State :=
  let was := (s.chan n).line.rxTy
  let s := (s.wrap32 (Reg.pcsKtlCorrBits n) x.corr).setRxIdx n x.index
  let s := s.showFlags n x
  let first := x.index.toNat % slotLen (s.rxDir n) == 0
  let tx := x.stamp.tx
  let s := s.mapKtl n (fun k => { k with
    slotTx := if first then tx - ((tx / 1000000000).floor : Rat) * 1000000000 else k.slotTx
    slotAt := if first then at' else k.slotAt
    arrivals := if found then (t2 :: k.arrivals).take 160 else k.arrivals })
  let s := s.oamPieceIn n x.index (some x.oam)
  let s := s.mapLine n (fun l => { l with cometIn := l.cometIn ++ x.comets, rxTy := some x.ty }) |>.showAdapt n |>.showNf n
  let s := s.mapEcl n (fun e => { e with
    stray := e.stray || (x.ty == .eclipse && was != some .eclipse && e.expect.isNone && e.rxIn == 0) })
  let s := ((s.trainByType n x).lpiByType n was x found).upIfDue n
  (s.estimate n x.stamp found t2 at').showEngine n

/-- A received QUIET orbit: receive-side changes that wait take effect at its start (R138, R386). (DEDUCED, notes/assumptions 93) -/
def State.quietOrbit (s : State) (n : Ch) : State :=
  let s := (((s.mapLine n (fun l => { l with rxTy := some .quiet })).trimApplyRx n).showAdapt n).showNf n
  s.when (s.bit (Reg.afeGainStatus n) 29) (fun s => (s.applyGain n).showEcl n)

/-- The index of the orbit whose expected mark position came at an instant: the one after the last, and in LPI, where not every orbit is looked at, by the time since then (R87, R196). -/
def State.nextRx (s : State) (n : Ch) (at' : Nat) : Word :=
  let l := (s.chan n).line
  let k := if s.rxLpi n then max 1 (roundR (((at' : Rat) - (l.rxArr : Rat)) / us 1)).toNat else 1
  l.rxIdx + BitVec.ofNat 32 k

/-- The arrival in channel time of a mark whose symbol 0 was sampled in the symbol period that began late ps before now (R244): C_s is the counter at that edge, interpolated at the recovered phase TR_PHASE in steps of 1/1,024 UI; LAT_MARK_RX is subtracted. (DESIGN CHOICE, notes/assumptions 119) -/
def State.arrival (s : State) (n : Ch) (late : Nat) : Rat :=
  s.timeAgo (s.tgOf n) late + (s.fld (Reg.eqTrPhase n) 9 0 : Rat) / 1024 * s.symbolPs n / 1000 - (s.markRx n : Rat) / 1000

/-- KTL_FIELD_RECEIVE (R87, R96, R196, R244): one expected mark position; the signs of its mark, its field bits (KTL-lite in the low 176), how many ps ago mark symbol 0 was sampled, and the orbit's slicer errors. In LPI, positions other than 63 mod 64 are QUIET orbits, and are searched for WAKE alone. -/
def execKtlFieldReceive (n : Ch) (mark : BitVec 16) (field : BitVec 448) (late : Nat) (errs : List Rat) (s : State) :
    Host.Outcome State Fault Refusal :=
  if 3 ≤ s.phase n && isZ (s.lineMode n) && s.orbitLock n && s.lineReady n then
    let t2 := s.arrival n late
    let at' := s.now - late
    let found := markFound (s.heardMark n mark)
    let errs := s.heardErrs n errs
    let idx := s.nextRx n at'
    let got := s.gotField n (s.heardField n field)
    if s.rxLpi n && idx.toNat % 64 != 63 && !(found && got.any (fun x => x.ty == .wake)) then .next (s.quietOrbit n)
    else
      let was := (s.chan n).ecl.rxIn
      let s := s.mapChan n (fun c => { c with
        fec := { c.fec with orbUnc := 0 }
        ecl := { c.ecl with rxIn := c.ecl.rxIn - 1 }
        line := { c.line with rxArr := at' }
        rx := { c.rx with freeze := if 1 < c.rx.freeze then c.rx.freeze - 1 else c.rx.freeze } })
      let s := if was == 1 then s.showAdapt n else s
      let s := ((s.engineBoundary n).takeMse n errs).takeMark n found
      match got with
      | some x => .next (s.takeField n x found t2 at')
      | none => .next (s.fieldFails n idx)
  else .next s

/-! ### Messages received (R101) -/

/-- The message of a completed slot; none where a field of it failed. -/
def oamAssemble (k : Nat) (l : List (Option (BitVec 16))) : Option (BitVec 128) :=
  if l.all Option.isSome then
    some (BitVec.ofNat 128 (l.foldl (fun r p => r * 2 ^ (128 / k) + (p.getD 0).toNat % 2 ^ (128 / k)) 0))
  else none

/-- A message delivered to the unit it is for (R101): eclipses and capability at once, the others wait for their unit. -/
def State.oamDeliver (s : State) (n : Ch) (m : BitVec 128) : State :=
  match oamType m with
  | 4 => s.eclMsg n m
  | 5 => s.takeCap n m
  | _ => s.mapLine n (fun l => { l with inbox := l.inbox ++ [m] })

/-- OAM_MESSAGE_RECEIVE (R101): a completed slot is delivered and counted, discarded and counted, or idle. (DEDUCED, notes/assumptions 167) -/
def execOamMessageReceive (n : Ch) (s : State) : Host.Outcome State Fault Refusal :=
  let k := slotLen (s.rxDir n)
  let l := (s.chan n).line.oamIn
  if s.zUp n && l.length == k then
    let s := s.mapLine n (fun l => { l with oamIn := [] })
    match oamAssemble k l with
    | none => .next (s.satInt (Reg.pcsOamDrop n) 1 (.chan n .pcs) 2)
    | some m =>
      if oamType m == 0 then .next s
      else if 6 < oamType m then .next (s.satInt (Reg.pcsOamDrop n) 1 (.chan n .pcs) 2)
      else .next ((s.wrap32 (Reg.pcsOamRx n) 1).oamDeliver n m)
  else .next s

/-- The first message of a type taken from a channel's inbox. -/
def State.takeMsg (s : State) (n : Ch) (ty : Nat) : Option (BitVec 128 × State) :=
  match (s.chan n).line.inbox.find? (fun m => oamType m == ty) with
  | some m => some (m, s.mapLine n (fun l => { l with inbox := l.inbox.erase m }))
  | none => none

end Sys2Proof.Machine
end

