-- ==== Sys2Proof/Machine/Trig.lean ====
section
/-! DEFINITION. The capture log, capture reports and TRIG pins (R301 to R308). -/

namespace Sys2Proof.Machine


/-! ### The capture log (R305, R306) -/

/-- Entries of the log. -/
abbrev capSize : Nat := 131072

/-- Seconds, nanoseconds and fraction of a time in 2^−16 ns (R8). -/
def parts16 (t : Nat) : Nat × Nat × Nat := (t / 65536000000000, t / 65536 % 1000000000, t % 65536)

/-- A log entry (10 Table 5). -/
def capEntry (c : Capture) : BitVec 128 :=
  let p := parts16 c.t
  BitVec.ofNat 128 (p.1 % 2 ^ 32 * 2 ^ 96 + p.2.1 * 2 ^ 64 + p.2.2 * 2 ^ 48 + c.g.val * 2 ^ 46 + c.kind % 4 * 2 ^ 44 + b2n c.edge * 2 ^ 43
    + b2n c.armed * 2 ^ 42 + b2n c.lost * 2 ^ 41 + c.chan % 16 * 2 ^ 36 + c.dev % 2 ^ 14 * 2 ^ 22 + c.out % 64 * 2 ^ 16 + c.ref % 2 ^ 16)

/-- A capture dropped before the log: counted, and LOST is owed to the next entry. -/
def State.capDrop (s : State) (a : Nat) : State :=
  { s.satInt a 1 (.dev .cap) 3 with cap := { s.cap with lost := true } }

/-- FILL and OLDEST_SEQ brought to the log. -/
def State.showCap (s : State) : State :=
  let k := s.cap.log.length
  (s.setReg Reg.capFill (BitVec.ofNat 32 k)).setReg Reg.capOldestSeq (s.reg Reg.capWrSeq - BitVec.ofNat 32 k)

/-- Whether the log is full in STOP mode. -/
def State.capFull (s : State) : Bool :=
  s.bit Reg.capCtrl 1 && decide (capSize ≤ (s.reg Reg.capWrSeq - s.reg Reg.capAckSeq).toNat)

/-- A capture written as the next entry of the log (R306). -/
def State.capWrite (s : State) (c : Capture) : State :=
  if s.capFull then s.capDrop Reg.capFullDrop
  else
    let old := s.cap.log.length
    let e := capEntry { c with lost := c.lost || s.cap.lost }
    let s := s.when (old == capSize) (fun s => s.wrap32 Reg.capOvrCount 1)
    let s := { s with cap := { s.cap with log := (e :: s.cap.log).take capSize, lost := false } }
    let s := ((s.wrap32 Reg.capWrSeq 1).showCap).intr (.dev .cap) 0
    let s := s.when (old + 1 == 65536) (fun s => s.intr (.dev .cap) 1)
    s.when s.capFull (fun s => s.intr (.dev .cap) 2)

/-- Whether the log takes captures: EN = 1 and its page is not fenced. -/
def State.capTakes (s : State) : Bool := s.bit Reg.capCtrl 0 && !s.fenced (.dev .cap)

/-- Places of the input buffer (R305). -/
abbrev inBufSize : Nat := 64

/-- A capture reaches the input buffer of the log, in order of arrival; where it is full the capture is dropped and counted (R305). -/
def State.capLog (s : State) (c : Capture) : State :=
  if !s.capTakes then s
  else if inBufSize ≤ s.cap.inBuf.length then s.capDrop Reg.capInDrop
  else { s with cap := { s.cap with inBuf := s.cap.inBuf ++ [c] } }

/-- One cycle of the time base passes the oldest capture of the input buffer on to the log. (DEDUCED, notes/assumptions 161) -/
def State.capDrain (s : State) : State :=
  match s.cap.inBuf with
  | [] => s
  | c :: r =>
    if s.drains (.dev .cap) then s
    else
    let s := { s with cap := { s.cap with inBuf := r } }
    s.when s.capTakes (fun s => s.capWrite c)

/-- The log emptied: OLDEST_SEQ and ACK_SEQ become WR_SEQ (R306). -/
def State.capClear (s : State) : State :=
  ({ s with cap := { s.cap with log := [] } }.setReg Reg.capAckSeq (s.reg Reg.capWrSeq)).showCap

/-- ACK_SEQ as a write leaves it: outside OLDEST_SEQ to WR_SEQ it acts as WR_SEQ (R306). (DEDUCED, notes/assumptions 126) -/
def State.ackActs (s : State) (d : Word) : Word :=
  if (d - s.reg Reg.capOldestSeq).toNat ≤ s.cap.log.length then d else s.reg Reg.capWrSeq

/-- After a write to ACK_SEQ the entries before it are released (R306). (DEDUCED, notes/assumptions 126) -/
def State.capAcked (s : State) : State :=
  let keep := (s.reg Reg.capWrSeq - s.reg Reg.capAckSeq).toNat
  { s with cap := { s.cap with log := s.cap.log.take keep } }.showCap

/-- The entry with a sequence, where the log holds it. -/
def State.capAt (s : State) (q : Word) : Option (BitVec 128) :=
  let back := (s.reg Reg.capWrSeq - q).toNat
  if 1 ≤ back then s.cap.log[back - 1]? else none

/-- CAPW loads copies of 16 entries from RD_SEQ (R307). -/
def State.capwLoad (s : State) : State :=
  let q := s.reg Reg.capwRdSeq
  let es := (List.range 16).map (fun e => s.capAt (q + BitVec.ofNat 32 e))
  let s := s.setReg Reg.capwStatus (BitVec.ofNat 32 (bitList (es.map Option.isSome)))
  (List.range 64).foldl (fun s i =>
    s.setReg (Reg.capwEntryWord i) (BitVec.truncate 32 (((es.getD (i / 4) none).getD 0) >>> (96 - 32 * (i % 4))))) s

/-- A read of entry 15 word 3: RD_SEQ advances by 16 without a write and the next entries load (R307). -/
def State.capwAdvance (s : State) : State := (s.setReg Reg.capwRdSeq (s.reg Reg.capwRdSeq + 16)).capwLoad

/-! ### Capture reports (R308) -/

/-- The selected source channel of a group. -/
def State.srcChan (s : State) (g : Tg) : Option Ch :=
  match s.srcChans g, s.fld (Reg.tkGrpState g.val) 5 4 with
  | some (p, _), 1 => some p
  | some (_, q), 2 => q
  | _, _ => none

/-- A capture report (10 Table 6). (DESIGN CHOICE, notes/assumptions 125) -/
def capReport (dev out : Nat) (edge armed lost : Bool) (ref t : Nat) : BitVec 128 :=
  let p := parts16 t
  BitVec.ofNat 128 (3 * 2 ^ 120 + dev % 2 ^ 14 * 2 ^ 106 + out % 64 * 2 ^ 100 + b2n edge * 2 ^ 99 + b2n armed * 2 ^ 98 + b2n lost * 2 ^ 97
    + ref % 2 ^ 16 * 2 ^ 80 + p.1 % 2 ^ 32 * 2 ^ 48 + p.2.1 * 2 ^ 16 + p.2.2)

/-- A report queued upstream of a group, or dropped and counted (R308); LOST is set where reports were dropped before it. -/
def State.repPush (s : State) (g : Tg) (m : BitVec 128) : State :=
  let room (n : Ch) : Bool := s.zUp n && decide (((s.chan n).line.oamQ.filter (fun x => oamType x == 3)).length < 16)
  match (s.srcChan g).filter room with
  | some n =>
    let m := if s.cmt.repLost then m ||| (1#128 <<< 97) else m
    { s with cmt := { s.cmt with repLost := false } }.oamPush n m
  | none => { s.satInt Reg.capRepDrop 1 (.dev .cap) 4 with cmt := { s.cmt with repLost := true } }

/-- A local capture: to the log where LOG = 1, and upstream where REPORT = 1 (R303). -/
def State.capture (s : State) (c : Capture) (log report : Bool) : State :=
  let s := s.when log (fun s => s.capLog c)
  s.when (report && !s.fenced (.dev .cap)) (fun s => s.repPush c.g (capReport c.dev c.out c.edge c.armed c.lost c.ref c.t))

/-- CAPTURE_REPORT_RECEIVE (R305, R308): a report that has arrived on a channel is logged while LOG_REMOTE = 1, and forwarded while its group's bit of FWD_UP is set. -/
def execCaptureReportReceive (n : Ch) (s : State) : Host.Outcome State Fault Refusal :=
  match s.takeMsg n 3 with
  | none => .next s
  | some (m, s) =>
    if s.fenced (.dev .cap) then .next s
    else
      let g := s.tgOf n
      let f (hi lo : Nat) : Nat := (m >>> lo).toNat % 2 ^ (hi + 1 - lo)
      let t := f 79 48 * 65536000000000 + f 47 16 * 65536 + f 15 0
      let c : Capture :=
        { t := t, g := g, kind := 1, edge := f 99 99 == 1, armed := f 98 98 == 1, lost := f 97 97 == 1, chan := n.val, dev := f 119 106,
          out := f 105 100, ref := f 95 80 }
      let s := s.wrap32 Reg.capRepRx 1
      let s := s.when (s.bit Reg.capCtrl 2) (fun s => s.capLog c)
      .next (s.when (s.bit Reg.capCtrl (8 + g.val)) (fun s => s.repPush g m))

/-! ### TRIG pins (R301 to R304) -/


/-- MODE of a pin: 3 acts as 0. -/
def State.pinMode (s : State) (k : Fin 16) : Nat := let m := s.fld (Reg.trigPinCtrl k) 1 0; if m == 3 then 0 else m

/-- A pin's driver is fenced, itself or by its page. -/
def State.pinFenced (s : State) (k : Fin 16) : Bool := s.bit Reg.trigDrvFence k.val || s.fenced (.dev .trig)

/-- The level at a pin's ball: none for high impedance (R301, R304, R414). -/
def State.pinLevel (s : State) (k : Fin 16) : Option Bool :=
  let high := !s.bit (Reg.trigPinCtrl k) 4
  if s.pinMode k != 1 || s.pinFenced k then none
  else if s.safeState then (match s.fld (Reg.trigPinCtrl k) 6 5 with | 0 => some false | 1 => some true | _ => none)
  else if s.bit (Reg.trigPinStatus k) 0 || (s.pin k).pulse.isSome then some high else some (!high)

/-- DRIVE and ARMED of TRIGk_STATUS brought to what holds. -/
def State.showPin (s : State) (k : Fin 16) : State :=
  let act := s.pinLevel k == some (!s.bit (Reg.trigPinCtrl k) 4)
  (s.setBit (Reg.trigPinStatus k) 2 act).setBit (Reg.trigPinStatus k) 1 (s.pin k).armed.isSome

/-- DLY of a pin in 2^−16 ns. -/
def State.pinDly (s : State) (k : Fin 16) : Int := ps16 (s.sfld (Reg.trigPinDly k) 31 0)

/-- 4 ns and 10 ns in 2^−16 ns. -/
abbrev ns4 : Int := 262144
/-- 10 ns. -/
abbrev ns10 : Int := 655360

/-- An edge due at group time f: at the ball at f − DLY, and at least 4 ns after the pin's previous change (R301, R302). -/
def State.pinEdge (s : State) (k : Fin 16) (f : Int) : State :=
  let t := f - s.pinDly k
  let t := match (s.pin k).edgeAt with | some l => max t (l + ns4) | none => t
  s.mapPin k (fun p => { p with edgeAt := some t })

/-- A change of a pin in output mode: where its level changes, the edge is recorded. (DEDUCED, notes/assumptions 123) -/
def State.drivePin (s : State) (k : Fin 16) (f : Int) (act : State → State) : State :=
  let old := s.pinLevel k
  let s' := act s
  (if s'.pinLevel k == old then s' else s'.pinEdge k f).showPin k

/-- Width or window of a code in 2^−16 ns: 8 ns × 2^w, codes from 27 acting as 26 (10 Table 2). -/
def width16 (w : Nat) : Nat := 8 * 65536 * 2 ^ (min w 26)

/-- A PULSE taken on a pin: active from F for its width; a pulse that runs is extended to the later end. -/
def State.pinPulse (s : State) (k : Fin 16) (f w : Nat) : State :=
  s.drivePin k f (fun s => s.mapPin k (fun p => { p with pulse := some (max (p.pulse.getD 0) (f + width16 w)) }))

/-- A LEVEL taken on a pin. -/
def State.pinBase (s : State) (k : Fin 16) (f : Int) (v : Bool) : State :=
  s.drivePin k f (fun s => s.setBit (Reg.trigPinStatus k) 0 v)

/-- An ARM taken on a pin: a new window replaces one that is open (R303). -/
def State.pinArm (s : State) (k : Fin 16) (f w : Nat) (seq : BitVec 16) : State :=
  (s.mapPin k (fun p => { p with armed := some (f, f + width16 w, seq) })).showPin k

/-- PULSE_END (R301): the interval has passed, and the pin returns to its base level. -/
def execPulseEnd (k : Fin 16) (s : State) : Host.Outcome State Fault Refusal :=
  match (s.pin k).pulse with
  | some e => if e ≤ s.time16 (s.pinGroup k) then .next (s.drivePin k e (fun s => s.mapPin k (fun p => { p with pulse := none }))) else .next s
  | none => .next s

/-- ARM_WINDOW_END (R303). -/
def execArmWindowEnd (k : Fin 16) (s : State) : Host.Outcome State Fault Refusal :=
  match (s.pin k).armed with
  | some (_, e, _) =>
    if e ≤ s.time16 (s.pinGroup k) then
      .next (((s.mapPin k (fun p => { p with armed := none })).fldInt (Reg.trigPinStatus k) 23 16 (.dev .trig) 16).showPin k)
    else .next s
  | none => .next s

/-- TRIG_EDGE_CAPTURE (R303): an edge at a pin in input mode, falling or rising, late ps before now. (DEDUCED, notes/assumptions 124) -/
def execTrigEdgeCapture (k : Fin 16) (falling : Bool) (late : Nat) (s : State) : Host.Outcome State Fault Refusal :=
  let c := Reg.trigPinCtrl k
  let g := s.pinGroup k
  let ball : Int := s.time16 g - ps16 late
  let t := ball - s.pinDly k
  if s.pinMode k != 2 || s.fenced (.dev .trig) || !s.bit c (if falling then 11 else 10) then .next s
  else if (match (s.pin k).lastCap with | some l => decide (ball - l < ns10) | none => false) then
    .next (s.sat (Reg.trigPinStatus k) 31 24 1)
  else
    let w := (s.pin k).armed
    let inside := match w with | some (f, e, _) => decide (f ≤ t ∧ t < e) | none => false
    if s.bit c 12 && !inside then .next s
    else
      let s := s.mapPin k (fun p => { p with lastCap := some ball, armed := if inside then none else p.armed })
      let s := ((s.wrap (Reg.trigPinCount k) 15 0 1).intr (.dev .trig) k.val).showPin k
      let x : Capture :=
        { t := t.toNat, g := g, kind := 0, edge := falling, armed := inside, lost := false, chan := 0,
          dev := s.fld (Reg.tkGrpDevId g.val) 13 0, out := k.val, ref := if inside then ((w.map (fun a => a.2.2.toNat)).getD 0) else 0 }
      .next (s.capture x (s.bit c 14) (s.bit c 13))

end Sys2Proof.Machine
end

