-- ==== Sys2Proof/Machine/Cmt.lean ====
section
/-! DEFINITION. Comets: format, acceptance, routing, queues, firing, late reports and the schedule table (R280 to R300). -/

namespace Sys2Proof.Machine

/-! ### A comet's fields (10 Table 1) -/

/-- Bits [hi:lo] of a comet. -/
def cf (c : BitVec 96) (hi lo : Nat) : Nat := (c >>> lo).toNat % 2 ^ (hi + 1 - lo)

/-- TARGET. -/
def cTarget (c : BitVec 96) : Nat := cf c 95 82
/-- OUTPUT. -/
def cOutput (c : BitVec 96) : Nat := cf c 81 76
/-- ACTION kind. -/
def cKind (c : BitVec 96) : Nat := cf c 27 25
/-- ACTION parameter P. -/
def cParam (c : BitVec 96) : Nat := cf c 24 20
/-- HOPS. -/
def cHops (c : BitVec 96) : Nat := cf c 3 0
/-- SEQ. -/
def cSeq (c : BitVec 96) : BitVec 16 := BitVec.ofNat 16 (cf c 19 4)

/-- A comet of its fields. -/
def mkComet (target output fireNs frac action seq hops : Nat) : BitVec 96 :=
  BitVec.ofNat 96 (target % 2 ^ 14 * 2 ^ 82 + output % 64 * 2 ^ 76 + fireNs % 2 ^ 32 * 2 ^ 44 + frac % 2 ^ 16 * 2 ^ 28 + action % 256 * 2 ^ 20
    + seq % 2 ^ 16 * 2 ^ 4 + hops % 16)

/-- The broadcast target. -/
abbrev bcast : Nat := 0x3FFF

/-- Fire time F, in 2^−16 ns, as a receiver takes it at group time G (R282). -/
def fireTime (g16 : Nat) (c : BitVec 96) : Nat :=
  let fire : Int := cf c 75 44
  let base : Rat := (g16 : Rat) / 65536 - 2 ^ 31
  let k := ((base - fire) / 2 ^ 32).ceil
  ((fire + k * 2 ^ 32) * 65536 + cf c 43 28).toNat

/-! ### Counters -/

/-- Interrupt bits of CMT: LATE, REJ_FULL, NO_ROUTE, LATE_RX. -/
def State.cmtInt (s : State) (i : Nat) : State := s.intr (.dev .cmt) i

/-- Whether a channel can carry comets (R289 step 1). (DEDUCED, notes/assumptions 108) -/
def State.carries (s : State) (c : Ch) : Bool := s.zUp c && 2 ≤ s.ktlVer c && s.txDir c != .a1 && !s.chanFenced c

/-! ### The schedule table (R297) -/

/-- Word w of entry e. -/
def State.schedWord (s : State) (e w : Nat) : Word := Store.get (fun _ => (0 : Word)) s.cmt.sched (8 * e + w)

/-- The state with a word of an entry replaced. -/
def State.setSched (s : State) (e w : Nat) (v : Word) : State :=
  s.mapCmt (fun c => { c with sched := Store.put (fun _ => (0 : Word)) c.sched (8 * e + w) v })

/-- LATE of an entry raised, held at 255. -/
def State.entryLate (s : State) (e : Nat) : State :=
  let w := s.schedWord e 7
  s.setSched e 7 (withBits w 15 8 (min (bits w 15 8 + 1) 255))

/-- Whether comets are taken, injected and fired: page unfenced, no safe state (R304, 15 Table 7). -/
def State.cmtRuns (s : State) : Bool := !s.fenced (.dev .cmt) && !s.safeState

/-! ### Late reports (R294) -/

/-- A late report (10 Table 3). -/
def lateReport (reason hops : Nat) (c : BitVec 96) (dev : Nat) : BitVec 128 :=
  BitVec.ofNat 128 (6 * 2 ^ 120 + reason % 4 * 2 ^ 118 + hops % 16 * 2 ^ 114 + cTarget c * 2 ^ 100 + cOutput c * 2 ^ 94 + cf c 27 20 * 2 ^ 86
    + cf c 19 4 * 2 ^ 70 + cf c 75 44 * 2 ^ 38 + cf c 43 28 * 2 ^ 22 + dev % 2 ^ 14 * 2 ^ 8)

/-- A late report queued on a channel, or dropped where 8 wait. -/
def State.latePush (s : State) (n : Ch) (m : BitVec 128) : State :=
  if 8 ≤ ((s.chan n).line.oamQ.filter (fun x => oamType x == 6)).length then s.sat Reg.cmtLateTx 31 16 1
  else s.oamPush n m

/-- A comet answered for a reason: a report on the channel it arrived on, or LATE of the entry that injected it. -/
def State.answer (s : State) (q : QComet) (reason : Nat) : State :=
  match q.arr, q.entry with
  | some n, _ => s.latePush n (lateReport reason 15 q.bits (s.fld (Reg.tkGrpDevId q.g.val) 13 0))
  | none, some e => s.entryLate e
  | none, none => s

/-! ### Admission (R289, R292) -/

/-- D_c of a comet on a channel, in 2^−16 ns scaled by 1000 (R289). -/
def State.deadline (s : State) (c : Ch) (q : QComet) : Int :=
  (q.f : Int) * 1000 - 2000 * 65536 * 1000 - (s.reg (Reg.ktlPathDelay c)).toNat * 65536
    - (max 200 (s.fld Reg.cmtHopAllow 15 0) : Nat) * 65536 * 1000

/-- An admission attempt at a channel's queue (R289). -/
def State.enqueue (s : State) (c : Ch) (q : QComet) : State :=
  let g := q.g.val
  if !s.carries c then s.sat (Reg.cmtRejPath c.val) 15 0 1
  else if s.deadline c q < (s.time16 q.g : Int) * 1000 then
    (s.fldInt (Reg.cmtGrpRej g) 15 0 (.dev .cmt) 0).answer q 0
  else if 256 ≤ s.cmt.chQ[c].length then s.fldInt (Reg.cmtGrpRej g) 31 16 (.dev .cmt) 1
  else (s.cmtCount (Reg.cmtGrpAdmit g)).mapCmt (fun m => { m with chQ := m.chQ.set c (m.chQ[c] ++ [q]) })

/-- Whether an action and its output fit this device (R281, R292 step 1). -/
def State.fitsTarget (s : State) (q : QComet) : Bool :=
  let o := cOutput q.bits
  let k : Fin 16 := Fin.ofNat 16 o
  let pin (mode : Nat) : Bool := o < 16 && s.pinGroup k == q.g && s.pinMode k == mode && !s.pinFenced k
  match cKind q.bits with
  | 1 | 2 => pin 1
  | 3 => true
  | 4 => pin 2
  | _ => false

/-- A comet's place in the fire queue: by F, behind those admitted before it. -/
def fireInsert (q : QComet) : List QComet → List QComet
  | [] => [q]
  | x :: r => if q.f < x.f then q :: x :: r else x :: fireInsert q r

/-- Admission to the fire queue (R292). -/
def State.admitFire (s : State) (q : QComet) : State :=
  let g := q.g.val
  if !s.fitsTarget q then s.fldInt (Reg.cmtGrpDropB g) 31 16 (.dev .cmt) 2
  else if q.f < s.time16 q.g + 2000 * 65536 then (s.fldInt (Reg.cmtGrpRej g) 15 0 (.dev .cmt) 0).answer q 0
  else if 512 ≤ s.cmt.fire.length then s.fldInt (Reg.cmtGrpRej g) 31 16 (.dev .cmt) 1
  else (s.cmtCount (Reg.cmtGrpAdmit g)).mapCmt (fun m => { m with fire := fireInsert q m.fire })

/-! ### Routing (R286 to R288) -/

/-- A route entry: RT_RANGE and RT_MASK. -/
def State.route (s : State) (k : Nat) : Word × Word := Store.get (fun _ => ((0 : Word), (0 : Word))) s.cmt.routes k

/-- The channel mask of the first entry of a group that matches a target. -/
def State.routeMask (s : State) (g : Tg) (target : Nat) : Option Nat :=
  ((s.cmt.routes.find? (fun x => x.1 / 256 == g.val && x.2.2.getLsbD 31 && bits x.2.1 13 0 ≤ target && target ≤ bits x.2.1 29 16))).map
    (fun x => bits x.2.2 15 0)

/-- Channels of a comet's group, but for the one it arrived on. (DEDUCED, notes/assumptions 123) -/
def State.onward (s : State) (q : QComet) (ok : Ch → Bool) : List Ch :=
  allCh.filter (fun c => s.tgOf c == q.g && q.arr != some c && ok c)

/-- Admission attempts at several queues. (DEDUCED, notes/assumptions 123) -/
def State.forward (s : State) (q : QComet) (l : List Ch) : State := l.foldl (fun s c => s.enqueue c q) s

/-- A comet that the device has taken or injected, routed (R286, R287). -/
def State.routeComet (s : State) (q : QComet) : State :=
  let t := cTarget q.bits
  let g := q.g
  if t == bcast then
    let s := s.admitFire q
    if cHops q.bits == 0 then s
    else
      let src (c : Ch) : Bool := match s.srcChans g with | some (p, x) => p == c || x == some c | none => false
      s.forward q (s.onward q (fun c => !src c && !s.bit (Reg.cmtGrpCtrl g.val) (16 + c.val)))
  else if t == s.fld (Reg.tkGrpDevId g.val) 13 0 then s.admitFire q
  else if cHops q.bits == 0 then (s.fldInt (Reg.cmtGrpDropA g.val) 15 0 (.dev .cmt) 0).answer q 2
  else match s.routeMask g t with
    | none => s.fldInt (Reg.cmtGrpDropA g.val) 31 16 (.dev .cmt) 2
    | some m =>
      let l := s.onward q (fun c => m.testBit c.val)
      if l.isEmpty then s.fldInt (Reg.cmtGrpDropA g.val) 31 16 (.dev .cmt) 2 else s.forward q l

/-- The comet is kept for the comparison of the next 128 µs (R285). -/
def State.remember (s : State) (g : Tg) (c : BitVec 96) : State :=
  let now := (s.group g).ts
  s.mapCmt (fun m =>
    let l := ((c >>> 4).truncate 92, now) :: m.recent[g].filter (fun x => now - x.2 ≤ 128000)
    { m with recent := m.recent.set g l })

/-! ### Receiving (R284, R285) -/

/-- Whether comets of a channel are permitted (R284). -/
def State.permits (s : State) (n : Ch) : Bool :=
  let g := s.tgOf n
  if s.bit (Reg.cmtGrpCtrl g.val) 1 then true
  else
    let sel := s.fld (Reg.tkGrpState g.val) 5 4
    let st := s.grpState g
    if sel != 0 then s.srcChan g == some n
    else (st == 4 || st == 2) && s.cmt.lastSrc[g] == some n && s.linkUp n

/-- A comet of a received field taken (R284 to R286). -/
def State.takeComet (s : State) (n : Ch) (c : BitVec 96) : State :=
  let g := s.tgOf n
  if !s.cmtRuns || !s.permits n then s
  else
    let s := s.cmtCount (Reg.cmtGrpReceived g.val)
    let now := (s.group g).ts
    if s.cmt.recent[g].any (fun x => x.1 == (c >>> 4).truncate 92 && decide (now - x.2 ≤ 128000)) then s.sat (Reg.cmtGrpDropB g.val) 15 0 1
    else ((s.remember g c).routeComet { bits := c, f := fireTime (s.time16 g) c, g := g, arr := some n, entry := none }).showCmt

/-- COMET_RECEIVE (R284): the oldest comet that a channel's fields brought. -/
def execCometReceive (n : Ch) (s : State) : Host.Outcome State Fault Refusal :=
  match (s.chan n).line.cometIn with
  | c :: r => if s.drains (.dev .cmt) then .next s else .next ((s.mapLine n (fun l => { l with cometIn := r })).takeComet n c)
  | [] => .next s

/-! ### Departure (R290, R291) -/

/-- A comet leaves a channel's queue by its deadline: EXPIRE, EXPIRED, reason 1. -/
def State.expireAt (s : State) (c : Ch) (q : QComet) (report : Bool) : State :=
  let s := s.expired c q
  if report then (s.cmtInt 0).answer q 1 else s

/-- The fire queue emptied without late reports (15 Table 7). -/
def State.emptyFire (s : State) : State :=
  let l := s.cmt.fire
  let s := s.mapCmt (fun m => { m with fire := [] })
  (l.foldl (fun s q => s.cmtCount (Reg.cmtGrpExpire q.g.val)) s).showCmt

/-- The queued comets of a channel whose deadline lies before an instant, in 2^−16 ns scaled by 1000, removed and answered. -/
def State.expireQueue (s : State) (c : Ch) (before : QComet → Int) : State :=
  let l := s.cmt.chQ[c]
  let old := l.filter (fun q => s.deadline c q < before q)
  let s := s.mapCmt (fun m => { m with chQ := m.chQ.set c (l.filter (fun q => !(s.deadline c q < before q))) })
  (old.foldl (fun s q => s.expireAt c q true) s)

/-- The comet with the earliest deadline, the first admitted among equals. -/
def State.earliest (s : State) (c : Ch) : List QComet → Option QComet
  | [] => none
  | q :: r => match s.earliest c r with
    | some x => if s.deadline c q ≤ s.deadline c x then some q else some x
    | none => some q

/-- One comet placed in a slot, with HOPS − 1 (R287, R290). -/
def State.placeComet (s : State) (c : Ch) : State :=
  match s.earliest c s.cmt.chQ[c] with
  | none => s
  | some q =>
    let s := s.mapCmt (fun m => { m with chQ := m.chQ.set c (m.chQ[c].erase q) })
    (s.cmtCount (Reg.cmtGrpFwd q.g.val)).mapLine c (fun l => { l with cometOut := l.cometOut ++ [q.bits - 1] })

/-- Whether the next orbit of a channel carries comet slots (R84). -/
def State.slotsNext (s : State) (n : Ch) : Bool :=
  match s.nextTy n with
  | some .data | some .eclipse | some .refresh | some .wake => true
  | _ => false

/-- M of the orbit whose loading instant is now: 250 ns on, in 2^−16 ns of the comet's group (R290). -/
def State.markAhead (s : State) (q : QComet) : Int := (s.time16 q.g + 250 * 65536 : Nat)

/-- COMET_LOADING (R290): the instant 250 ns before the mark of the next orbit of a channel that carries comet slots. -/
def execCometLoading (n : Ch) (s : State) : Host.Outcome State Fault Refusal :=
  if s.carries n && s.slotsNext n && !s.fenced (.dev .cmt) && (s.chan n).line.cometOut.isEmpty then
    .next (((s.expireQueue n (fun q => s.markAhead q * 1000)).placeComet n).placeComet n).showCmt
  else .next s

/-- The time of a group at the latest moon edge, in 2^−16 ns. -/
def State.edgeTime16 (s : State) (g : Tg) : Int := s.time16 g - (s.now - s.moonEdge : Nat) * 65536 / 1000

/-- COMET_QUEUE_EXPIRY (R291): the held queues, judged at the latest moon edge. (DEDUCED, notes/assumptions 161) -/
def execCometQueueExpiry (s : State) : Host.Outcome State Fault Refusal :=
  .next (s.forCh (fun c s => if s.carries c then s
    else s.expireQueue c (fun q => s.edgeTime16 q.g * 1000))).showCmt

/-! ### Firing (R292, R301) -/

/-- The action of a comet takes effect at its F. -/
def State.fire (s : State) (q : QComet) : State :=
  let k : Fin 16 := Fin.ofNat 16 (cOutput q.bits)
  let p := cParam q.bits
  let s := s.cmtCount (Reg.cmtGrpFired q.g.val)
  match cKind q.bits with
  | 1 => (s.pinPulse k q.f p).wrap (Reg.trigPinCount k.val) 31 16 1
  | 2 => (s.pinBase k q.f (p % 2 == 1)).wrap (Reg.trigPinCount k.val) 31 16 1
  | 4 => (s.pinArm k q.f p (cSeq q.bits)).wrap (Reg.trigPinCount k.val) 31 16 1
  | _ => s.capLog
      { t := q.f, g := q.g, kind := 2, edge := false, armed := false, lost := false, chan := ((q.arr.map (·.val)).getD 0),
        dev := s.fld (Reg.tkGrpDevId q.g.val) 13 0, out := cOutput q.bits, ref := cf q.bits 27 20 }

/-- The comet to fire first of those due: the earliest F, LEVEL before other actions, then admission order. -/
def fireFirst (l : List QComet) : Option QComet :=
  match l with
  | [] => none
  | x :: _ => ((l.filter (fun q => q.f == x.f)).find? (fun q => cKind q.bits == 2)).orElse (fun _ => some x)

/-- SPLL holds lock with its gate open. -/
def State.spllLocked (s : State) : Bool := s.bit Reg.clkClkStatus 31

/-- COMET_FIRE (R292, R301): the first comet of the fire queue whose F has come acts, or expires in a group without time, without SPLL lock or in the safe state. -/
def execCometFire (s : State) : Host.Outcome State Fault Refusal :=
  match fireFirst (s.cmt.fire.filter (fun q => q.f ≤ s.time16 q.g)) with
  | none => .next s
  | some q =>
    let s := s.mapCmt (fun m => { m with fire := m.fire.erase q })
    let st := s.grpState q.g
    if st == 0 || st == 2 || !s.spllLocked || s.safeState then .next (s.cmtCount (Reg.cmtGrpExpire q.g.val)).showCmt
    else .next (s.fire q).showCmt

/-! ### Late reports received (R295) -/

/-- The injection record that a report matches. -/
def State.injMatch (s : State) (g : Tg) (m : BitVec 128) : Option InjRec :=
  let seq := BitVec.ofNat 16 (m >>> 70).toNat
  let back := ((BitVec.truncate 16 (s.reg (Reg.cmtGrpSeq g.val))) - seq).toNat
  if 1 ≤ back ∧ back ≤ 32768 then
    match s.cmt.inj[g].find? (fun r => r.seq == seq) with
    | some r => if r.target == BitVec.ofNat 14 (m >>> 100).toNat && r.fireNs == BitVec.ofNat 32 (m >>> 38).toNat then some r else none
    | none => none
  else none

/-- LATE_REPORT_RECEIVE (R295): matched to an injection, or forwarded on the group's selected source. -/
def execLateReportReceive (n : Ch) (s : State) : Host.Outcome State Fault Refusal :=
  match s.takeMsg n 6 with
  | none => .next s
  | some (m, s) =>
    let g := s.tgOf n
    if s.fenced (.dev .cmt) then .next s
    else
      let s := s.fldInt (Reg.cmtGrpLateRx g.val) 15 0 (.dev .cmt) 3
      let f (hi lo : Nat) : Nat := (m >>> lo).toNat % 2 ^ (hi + 1 - lo)
      let s := s.setReg (Reg.cmtGrpLateLast g.val) (BitVec.ofNat 32 (f 85 70 * 2 ^ 16 + f 119 118 * 2 ^ 14 + f 113 100))
      match s.injMatch g m with
      | some r => .next ((s.sat (Reg.cmtGrpLateRx g.val) 31 16 1).entryLate r.entry)
      | none =>
        match s.bit (Reg.cmtGrpCtrl g.val) 2 && 1 ≤ f 117 114, s.srcChan g with
        | true, some c => .next (s.latePush c (m - (1#128 <<< 114)))
        | _, _ => .next s

/-! ### Partitions and injection (R296 to R299) -/

/-- The partition in force of a group: FIRST and COUNT. -/
def State.part (s : State) (g : Tg) : Nat × Nat :=
  let w := (s.cmt.partPend[g]).getD (s.reg (Reg.cmtGrpPart g.val))
  (bits w 6 0, bits w 15 8)

/-- The group whose partition holds an entry. -/
def State.partOwner (s : State) (e : Nat) : Option Tg :=
  allTg.find? (fun g => let p := s.part g; decide (p.1 ≤ e / 1024 ∧ e / 1024 < p.1 + p.2))

/-- Whether a PART write is refused (R296). -/
def State.partRefused (s : State) (g : Tg) (d : Word) : Bool :=
  let f := bits d 6 0
  let k := bits d 15 8
  let old := s.part g
  let inOld (b : Nat) : Bool := old.1 ≤ b && decide (b < old.1 + old.2)
  let inNew (b : Nat) : Bool := f ≤ b && decide (b < f + k)
  decide (128 < f + k)
    || allTg.any (fun h => h != g && (List.range 128).any (fun b => inNew b &&
        (let w := s.reg (Reg.cmtGrpPart h.val); bits w 6 0 ≤ b && decide (b < bits w 6 0 + bits w 15 8))))
    || s.cmt.sched.any (fun x => x.1 % 8 == 0 && x.2.getLsbD 31 && inOld (x.1 / 8192) && !inNew (x.1 / 8192))

/-- Fire time of an entry and its PERIOD, in 2^−16 ns. -/
def State.entryF (s : State) (e : Nat) : Nat :=
  ((s.schedWord e 2).toNat + bits (s.schedWord e 3) 15 0 * 2 ^ 32) * 65536000000000 + (s.schedWord e 4).toNat * 65536 + bits (s.schedWord e 3) 31 16

/-- PERIOD of an entry. (DESIGN CHOICE, notes/assumptions 125) -/
def State.entryPeriod (s : State) (e : Nat) : Nat := (s.schedWord e 6).toNat * 65536 + bits (s.schedWord e 7) 31 16

/-- LEAD of an entry as it acts. -/
def State.entryLead (s : State) (e : Nat) : Nat := min (s.schedWord e 5).toNat 2000000000 * 65536

/-- F of an entry replaced. -/
def State.setEntryF (s : State) (e f : Nat) : State :=
  let p := parts16 f
  ((s.setSched e 2 (BitVec.ofNat 32 p.1)).setSched e 3 (BitVec.ofNat 32 (p.2.2 * 2 ^ 16 + p.1 / 2 ^ 32 % 2 ^ 16))).setSched e 4 (BitVec.ofNat 32 p.2.1)

/-- REMAIN of a periodic entry lowered by k; EN clears where it ends (R298, R299). -/
def State.entryUsed (s : State) (e k : Nat) : State :=
  let w := s.schedWord e 1
  let r := bits w 23 0
  if r == 0 then s
  else
    let s := s.setSched e 1 (withBits w 23 0 (r - k))
    if r ≤ k then s.setSched e 0 (withBits (s.schedWord e 0) 31 31 0) else s

/-- A comet injected from an entry (R298). (DESIGN CHOICE, notes/assumptions 125) -/
def State.inject (s : State) (g : Tg) (e : Nat) : State :=
  let w0 := s.schedWord e 0
  let f := s.entryF e
  let seq := s.fld (Reg.cmtGrpSeq g.val) 15 0
  let fns := f / 65536 % 2 ^ 32
  let c := mkComet (bits w0 27 14) (bits w0 13 8) fns (f % 65536) (bits w0 7 0) seq (bits (s.schedWord e 1) 31 28)
  let s := (s.setFld (Reg.cmtGrpSeq g.val) 15 0 (seq + 1)).cmtCount (Reg.cmtGrpInjected g.val)
  let r : InjRec := { seq := BitVec.ofNat 16 seq, target := BitVec.ofNat 14 (bits w0 27 14), fireNs := BitVec.ofNat 32 fns, entry := e }
  let s := s.mapCmt (fun m => { m with inj := m.inj.set g ((r :: m.inj[g]).take 32768), injAt := (s.now :: m.injAt).take 8 })
  let s := (s.remember g c).routeComet { bits := c, f := f, g := g, arr := none, entry := some e }
  let s := if w0.getLsbD 30 then (s.setEntryF e (f + s.entryPeriod e)).entryUsed e 1 else s.setSched e 0 (withBits (s.schedWord e 0) 31 31 0)
  s.showCmt

/-- A periodic entry that is late passes whole periods until F − LEAD is at or after group time, each counted in SKIP and REMAIN (R299). -/
def State.skipPeriods (s : State) (g : Tg) (e : Nat) : State :=
  let late := s.time16 g + s.entryLead e - s.entryF e
  let k := (late + s.entryPeriod e - 1) / s.entryPeriod e
  let s := (s.setEntryF e (s.entryF e + k * s.entryPeriod e)).entryUsed e k
  let w := s.schedWord e 7
  s.setSched e 7 (withBits w 7 0 (min (bits w 7 0 + k) 255))

/-- Whether the scheduler injects for a group: no safe state and no fence, TIME_VALID sent, and INJ_EN = 1 (R298, R304). -/
def State.injects (s : State) (g : Tg) : Bool := s.cmtRuns && sendsTime (s.grpState g) && s.bit (Reg.cmtGrpCtrl g.val) 0

/-- F − LEAD of an entry, in 2^−16 ns. -/
def State.entryDue (s : State) (e : Nat) : Int := s.entryF e - s.entryLead e

/-- Whether a live entry of a group's partition is due (R298). -/
def State.entryLive (s : State) (g : Tg) (e : Nat) : Bool :=
  s.partOwner e == some g && (s.schedWord e 0).getLsbD 31 && decide (s.entryDue e ≤ s.time16 g)

/-- Whether no other due entry of the group goes before an entry: in order of F − LEAD, then of the index (R298). -/
def State.entryFirst (s : State) (g : Tg) (e : Nat) : Bool :=
  s.cmt.sched.all (fun x => let o := x.1 / 8
    x.1 % 8 != 0 || !s.entryLive g o || s.entryDue e < s.entryDue o || (s.entryDue e == s.entryDue o && e ≤ o))

/-- Whether fewer than 8 comets were injected in the last µs (R298). -/
def State.injRoom (s : State) : Bool := match s.cmt.injAt[7]? with | some t => decide (t + 1000000 ≤ s.now) | none => true

/-- COMET_INJECT (R298, R299): the scheduler evaluates a live entry whose F − LEAD has come, in the order of R298 and up to 8 per µs: within 1 µs of that time, or late. (DEDUCED, notes/assumptions 161) -/
def execCometInject (e : Fin 131072) (s : State) : Host.Outcome State Fault Refusal :=
  match s.partOwner e.val with
  | none => .next s
  | some g =>
    if s.injects g && s.entryLive g e.val && s.entryFirst g e.val && s.injRoom then
      if (s.schedWord e.val 0).getLsbD 30 && 0 < s.entryPeriod e.val && decide (s.entryDue e.val + 1000 * 65536 < s.time16 g) then
        .next (s.skipPeriods g e.val)
      else .next (s.inject g e.val)
    else .next s

/-! ### Staging operations (R288, R300) -/

/-- The route entry that RT_INDEX names. -/
def State.rtKey (s : State) : Nat := s.fld Reg.cmtRtIndex 9 0

/-- What an RT_CMD write does (R288): LOAD, COMMIT, and the advance of ENTRY with INC. -/
def State.routeCmd (s : State) (d : Word) : State :=
  let op := bits d 1 0
  let k := s.rtKey
  let s := if op == 1 then
      let r := s.route k
      (s.setReg Reg.cmtRtRange r.1).setReg Reg.cmtRtMask r.2
    else if op == 2 then
      s.mapCmt (fun m => { m with routes := Store.put (fun _ => ((0 : Word), (0 : Word))) m.routes k (s.reg Reg.cmtRtRange, s.reg Reg.cmtRtMask) })
    else s
  if d.getLsbD 4 && (op == 1 || op == 2) then s.setFld Reg.cmtRtIndex 7 0 (k + 1) else s

/-- INDEX of CMTW as it acts. -/
def State.cmtwEntry (s : State) : Nat := s.fld Reg.cmtwIndex 16 0

/-- Whether a CMTW command is refused (R300). -/
def State.cmtwRefused (s : State) (op : Nat) : Bool :=
  (op == 2 || op == 3 || op == 4) && ((s.partOwner s.cmtwEntry).isNone || s.fenced (.dev .cmtw) || s.fenced (.dev .cmt))

/-- OWNED and GROUP of CMTW.STATUS shown. -/
def State.showCmtw (s : State) : State :=
  let o := s.partOwner s.cmtwEntry
  (s.setBit Reg.cmtwStatus 29 o.isSome).setFld Reg.cmtwStatus 27 26 ((o.map (·.val)).getD 0)

/-- What an accepted CMD write of CMTW does (R300). (DEDUCED, notes/assumptions 124) -/
def State.cmtwCmd (s : State) (d : Word) : State :=
  let op := bits d 2 0
  let e := s.cmtwEntry
  let s := match op with
    | 1 => (List.range 8).foldl (fun (s : State) w => s.setReg (Reg.cmtwW w) (s.schedWord e w)) s
    | 2 => (List.range 8).foldl (fun (s : State) w => s.setSched e w (s.reg (Reg.cmtwW w))) s
    | 3 => (List.range 8).foldl (fun (s : State) w => s.setSched e w 0) s
    | 4 => s.setSched e 0 (s.reg (Reg.cmtwW 0))
    | _ => s
  let s := s.setBit Reg.cmtwStatus 30 false
  let s := if d.getLsbD 4 && decide (1 ≤ op ∧ op ≤ 4) then s.setFld Reg.cmtwIndex 16 0 (e + 1) else s
  s.showCmtw

end Sys2Proof.Machine
end

