-- ==== Sys2Proof/Machine/Soft.lean ====
section
/-! DEFINITION. Decoding of a received codeword (R88, R118, R119, R123): soft bits from equalised symbols, layered normalised min-sum, the syndrome tests. -/

namespace Sys2Proof.Machine

/-! ### Log-likelihood ratios (R118) -/

/-- The bits b4 to b0 of group v, first bit first. -/
def groupBits (v : Nat) : List Bool := (List.range 5).map (fun k => v.testBit (4 - k))

/-- The point of group v (R88). -/
def groupPoint (v : Nat) : Int × Int := pam6 (v.testBit 4) (v.testBit 3) (v.testBit 2) (v.testBit 1) (v.testBit 0)

/-- The squared distance of a received pair from a point. -/
def dist2 (x y : Rat) (p : Int × Int) : Rat := (x - p.1) * (x - p.1) + (y - p.2) * (y - p.2)

/-- The least of a list, 0 for none. -/
def minRat : List Rat → Rat
  | [] => 0
  | a :: r => r.foldl min a

/-- The max-log ratio of bit k of a pair over the 32 points: how much nearer the nearest point with a 0 lies than the nearest with a 1. A pair at a corner is decided among the 32 points (R88, R118). -/
def maxLog (x y : Rat) (k : Nat) : Rat :=
  let d (b : Bool) : List Rat := ((List.range 32).filter (fun v => (groupBits v).getD k false == b)).map (fun v => dist2 x y (groupPoint v))
  minRat (d true) - minRat (d false)

/-- The exact ratios of symbol pairs. -/
def pairRatios : List Rat → List Rat
  | x :: y :: r => (List.range 5).map (maxLog x y) ++ pairRatios r
  | _ => []

/-- The exact ratios of a codeword's bits: of its symbol pairs, or in A1 reverse of each PAM-2 symbol (R118). -/
def exactRatios (z : ZDir) (l : List Rat) : List Rat :=
  match z with
  | .a1 => l.map (fun x => (x - 5) * (x - 5) - (x + 5) * (x + 5))
  | _ => pairRatios l

/-- A 6-bit ratio: sign and 5-bit magnitude m, as the odd number ±(2m + 1), so that every ratio has a sign; positive for 0. A ratio of exactly 0 counts as 0. (DESIGN CHOICE, notes/assumptions 150) -/
def llr (x : Rat) : Int :=
  let m : Int := 2 * (min (Config.llrMag x) 31 : Nat) + 1
  if x < 0 then -m else m

/-- The ratios of a received codeword (R118). -/
def ratios (z : ZDir) (syms : List Rat) : List Int := (exactRatios z syms).map llr

/-! ### Layered normalised min-sum (R119) -/

/-- The decoder's working values: the ratio of each bit now, by blocks, and the last messages of each block row to its bits, in the order of its checks. -/
structure Soft where
  p : List (List Rat)
  r : List (List (List Rat))
  deriving DecidableEq, Repr

/-- The columns of a block row with their shifts. -/
def rowCols (c : Code) (i : Nat) : List (Nat × Nat) :=
  (List.range ((codePar c).kb + (codePar c).m)).filterMap (fun j => (baseEntry c i j).map (fun s => (j, s)))

/-- NORM as it acts: 0 to 7 act as 8 (05 Table 11). -/
def normActs (v : Nat) : Nat := max 8 v

/-- The messages of one check to its bits: the sign is the product of the other bits' signs, the magnitude the least of their magnitudes times NORM / 16 (R119). (DESIGN CHOICE, notes/assumptions 150) -/
def checkOut (norm : Nat) (t : List Rat) : List Rat :=
  t.zipIdx.map (fun x =>
    let o := t.eraseIdx x.2
    let neg := o.foldl (fun b v => b ^^ decide (v < 0)) false
    let m := minRat (o.map (fun v => if v < 0 then -v else v)) * norm / 16
    if neg then -m else m)

/-- One layer: block row i of H. (DESIGN CHOICE, notes/assumptions 150) -/
def layer (c : Code) (norm : Nat) (x : Soft) (i : Nat) : Soft :=
  let z := (codePar c).z
  let cs := rowCols c i
  let old := x.r.getD i []
  let t := cs.zipIdx.map (fun e => List.zipWith (fun a b => a - b) (rot (x.p.getD e.1.1 []) e.1.2) (old.getD e.2 (List.replicate z 0)))
  let outs := (List.range z).map (fun k => checkOut norm (t.map (fun l => l.getD k 0)))
  let new := (List.range cs.length).map (fun e => outs.map (fun l => l.getD e 0))
  let p := cs.zipIdx.foldl (fun p e =>
    p.set e.1.1 (rot (List.zipWith (fun a b => a + b) (t.getD e.2 []) (new.getD e.2 [])) (z - e.1.2))) x.p
  { p := p, r := x.r.set i new }

/-- One iteration: the layers 0 to m − 1 (R119). -/
def iteration (c : Code) (norm : Nat) (x : Soft) : Soft := (List.range (codePar c).m).foldl (layer c norm) x

/-- The hard decisions. -/
def hardBits (x : Soft) : List Bool := x.p.flatten.map (fun v => decide (v < 0))

/-- Iterations up to the first zero syndrome, within a bound: the iterations completed and the hard decisions then; none where the bound passes without one (R119). The last argument counts the iterations done. -/
def search (c : Code) (norm : Nat) : Nat → Soft → Nat → Option (Nat × List Bool)
  | 0, x, k => if ldpcCheck c (hardBits x) then some (k, hardBits x) else none
  | f + 1, x, k => if ldpcCheck c (hardBits x) then some (k, hardBits x) else search c norm f (iteration c norm x) (k + 1)

/-- The values before the first iteration. -/
def softStart (c : Code) (l : List Int) : Soft :=
  let q := codePar c
  { p := chunks q.z (q.kb + q.m) (l.map (fun v => (v : Rat))), r := List.replicate q.m [] }

/-! ### The result (R119, R123, R129) -/

/-- What an engine made of a codeword: iterations completed, or none where it is uncorrectable; whether the syndrome checker agrees; corrected bits; its blocks after descrambling. -/
structure Decoded where
  iters : Option Nat
  check : Bool
  corr : Nat
  blks : List Blk
  deriving DecidableEq, Repr

/-- A 65-bit block of its bits: header, then payload from bit 0. -/
def blkOfBits (l : List Bool) : Blk :=
  ⟨l.headD false, BitVec.ofNat 64 ((l.drop 1).zipIdx.foldl (fun r x => if x.1 then r + 2 ^ x.2 else r) 0)⟩

/-- The blocks of decoded codeword k of an orbit, descrambled (R90, R115). -/
def decodedBlocks (c : Code) (orbit : BitVec 32) (k : Nat) (w : List Bool) : List Blk :=
  let q := codePar c
  let info := (scramble (scrSeed orbit) (List.replicate (k * q.k) false ++ w.take q.k)).drop (k * q.k)
  (chunks 65 q.blocks info).map blkOfBits

/-- Bits inverted at the positions of a list. -/
def invertAt (l : List Nat) (w : List Bool) : List Bool := w.zipIdx.map (fun x => x.1 ^^ l.contains x.2)

/-- Codeword k of a received orbit decoded within a bound of iterations: early stop changes nothing that is delivered or counted (R119); the syndrome checker works on what the engine delivers (R123); a corrected bit is one whose delivered decision differs from the sign of its ratio (R129). -/
def decodeCodeword (z : ZDir) (c : Code) (norm bound : Nat) (orbit : BitVec 32) (k : Nat) (syms : List Rat) (upset : List Nat) : Decoded :=
  let l := ratios z syms
  match search c norm bound (softStart c l) 0 with
  | none => { iters := none, check := true, corr := 0, blks := [] }
  | some (i, h) =>
    let w := invertAt upset h
    { iters := some i
      check := ldpcCheck c w
      corr := ((List.zipWith (fun a b => a != decide (b < 0)) h l).filter id).length
      blks := decodedBlocks c orbit k w }

end Sys2Proof.Machine
end

