-- ==== Sys2Proof/Machine/Fec.lean ====
section
/-! DEFINITION. LDPC decoding of a channel (R117 to R129, R133): credits, release, statistics, ITER_MAX. -/

namespace Sys2Proof.Machine

/-- The engine of codeword k of the received orbit, true for B; in single-engine operation the one that works (R117, R127). -/
def State.engineOf (s : State) (n : Ch) (k : Nat) : Bool :=
  let c := codewordsPerOrbit (s.rxDir n) (codeOf (s.rxCode n))
  if s.bit (Reg.fecStatus n) 2 then (s.chan n).fec.solo
  else ((s.chan n).line.rxIdx.toNat * c + k) % 2 == 1

/-- An engine is out of service (R127, R128). -/
def State.engineOut (s : State) (n : Ch) (e : Bool) : Bool := if e then (s.chan n).fec.outB else (s.chan n).fec.outA

/-- A codeword of the received direction takes its place (R118, R119, R122, R124, R127): a new ITER_MAX applies first, NORM as it stands; an engine out of service loses the codeword, an engine without a credit stalls it. -/
def State.takeCodeword (s : State) (n : Ch) (k : Nat) (syms : List Rat) (upset : List Nat) : State :=
  let s := s.when (s.chan n).fec.iterArm (fun s => s.applyIter n)
  let s := s.wide (Reg.fecCwRxLo n) (Reg.fecCwRxHi n) 16 1
  let c := codeOf (s.rxCode n)
  let e := s.engineOf n k
  let rel := s.now + (roundR (s.tFront n + tFill (s.rxDir n) c + tDec (s.rxDir n) c (s.iterEff n))).toNat
  let used := ((s.chan n).fec.flight.filter (fun x => x.eng == some e)).length
  let lost : Flight := { eng := none, rel := rel, iters := none, check := true, corr := 0, blks := [] }
  if s.engineOut n e then
    (s.satInt (Reg.fecEngLost n) 1 (.chan n .fec) 1).mapFec n (fun f => { f with flight := f.flight ++ [lost] })
  else if 8 ≤ used || s.drains (.chan n .fec) then
    (s.satInt (Reg.fecCreditStall n) 1 (.chan n .fec) 2).mapFec n (fun f => { f with flight := f.flight ++ [lost] })
  else
    let d := decodeCodeword (s.rxDir n) c (normActs (s.fld (Reg.fecCtrl n) 11 8)) (s.iterEff n) (s.chan n).line.rxIdx k (s.heardCodeword n k syms) upset
    (s.mapFec n (fun f => { f with flight := f.flight ++
      [{ eng := some e, rel := rel, iters := d.iters, check := d.check, corr := d.corr, blks := d.blks }] })).showEngines n

/-- Whether an orbit of a type carries codewords (R117). -/
def carries : OrbitTy → Bool
  | .data | .train | .wake => true
  | .eclipse | .refresh | .quiet => false

/-- What a standard mode's clause delivers from an RS codeword (R76, R133): counted where the mode has RS-FEC and the FEC page is not fenced; the clause's reception ends LPI of the received direction. (DESIGN CHOICE, notes/assumptions 155) -/
def State.takeClause (s : State) (n : Ch) (corr : Option Nat) (blks : List Blk) : State :=
  let s := s.setLpi n false false
  let s := if (rsBits (s.lineMode n)).isNone || s.ownFence (.chan n .fec) then s
    else
      let s := s.wide (Reg.fecCwRxLo n) (Reg.fecCwRxHi n) 16 1
      match corr with
      | some k => (s.wide (Reg.fecCorrLo n) (Reg.fecCorrHi n) 32 k).mapFec n (fun f => { f with rs := f.rs + 1 })
      | none => s.satInt (Reg.fecUncorr n) 1 (.chan n .fec) 0
  s.deliver n blks

/-- CODEWORD_RECEIVE (R117, R124, R133): codeword k of the orbit being received, where its type carries codewords; TRAIN codewords count from phase 3 on. In a standard mode, an RS codeword. Otherwise nothing. -/
def execCodewordReceive (n : Ch) (k : Nat) (r : CwIn) (s : State) : Host.Outcome State Fault Refusal :=
  match r with
  | .soft syms upset =>
    if isZ (s.lineMode n) && 3 ≤ s.phase n && s.orbitLock n && s.lineReady n && (s.chan n).line.rxTy.any carries then
      .next (s.takeCodeword n k syms upset)
    else .next s
  | .clause corr blks => if s.stdUp n && s.lineReady n then .next (s.takeClause n corr blks) else .next s

/-- Codewords of one BER window. -/
abbrev berWindow : Nat := 2 ^ 20

/-- The least exponent E up to 63 with 2^−E ≤ bits / total, searched upward from 1. -/
def berExp (b t : Nat) : Nat → Nat → Option Nat
  | 0, _ => none
  | k + 1, e => if t ≤ b * 2 ^ e then some e else berExp b t k (e + 1)

/-- E and M of the estimate B = b / t (R129). -/
def berEM (b t : Nat) : Nat × Nat :=
  if t ≤ 2 * b then (1, 1023)
  else match berExp b t 63 1 with
    | some e => (e, b * 2 ^ e * 1024 / t - 1024)
    | none => (0, 0)

/-- The estimate of a complete window published, and a new window (R129). (DESIGN CHOICE, notes/assumptions 168) -/
def State.berPublish (s : State) (n : Ch) : State :=
  let f := (s.chan n).fec
  let em := berEM f.winBits (berWindow * (codePar (codeOf (s.rxCode n))).n)
  let w := BitVec.ofNat 32 (2 ^ 31 + b2n f.winUnc * 2 ^ 30 + em.1 * 1024 + em.2)
  (((s.setReg (Reg.fecBerEst n) w).wrap32 (Reg.fecBerWindows n) 1).cint n .fec 4).mapFec n
    (fun f => { f with winCw := 0, winBits := 0, winUnc := false })

/-- A window that holds its 2^20 codewords is published before another codeword enters it (R129). -/
def State.berFull (s : State) (n : Ch) : State := s.when (decide (berWindow ≤ (s.chan n).fec.winCw)) (fun s => s.berPublish n)

/-- A decoded codeword: counted by its iterations, its corrected bits added, its blocks passed on without line idle blocks (R104, R119, R129). -/
def State.goodCodeword (s : State) (n : Ch) (k : Nat) (x : Flight) : State :=
  let s := (s.berFull n).wide (Reg.fecHistLo n k) (Reg.fecHistHi n k) 16 1
  let s := s.wide (Reg.fecCorrLo n) (Reg.fecCorrHi n) 32 x.corr
  let s := s.mapFec n (fun f => { f with winCw := f.winCw + 1, winBits := f.winBits + x.corr, uncRun := 0 })
  let idle := (x.blks.filter (· == lineIdle)).length
  (s.wide (Reg.pcsLidleRxLo n) (Reg.pcsLidleRxHi n) 32 idle).deliver n (x.blks.filter (· != lineIdle))

/-- A codeword that counts in UNCORR (R121, R123, R129). -/
def State.uncorrectable (s : State) (n : Ch) : State :=
  (((s.berFull n).satInt (Reg.fecUncorr n) 1 (.chan n .fec) 0).mapFec n (fun f => { f with winUnc := true })).badCodeword n

/-- The oldest codeword is released (R120, R121, R123): a decoder result that the syndrome checker rejects counts as uncorrectable and raises the engine's check fault. -/
def State.releaseCodeword (s : State) (n : Ch) (x : Flight) : State :=
  let s := (s.mapFec n (fun f => { f with flight := f.flight.drop 1 })).showEngines n
  match x.eng, x.iters with
  | none, _ => s.badCodeword n
  | some _, none => s.uncorrectable n
  | some e, some k =>
    if x.check then s.goodCodeword n k x
    else (s.uncorrectable n).detectCh n .fec (if e then 5 else 4)

/-- CODEWORD_RELEASE (R120): the oldest codeword, at or after its release instant. -/
def execCodewordRelease (n : Ch) (s : State) : Host.Outcome State Fault Refusal :=
  match (s.chan n).fec.flight with
  | x :: _ => if x.rel ≤ s.now then .next (s.releaseCodeword n x) else .next s
  | [] => .next s

/-- BER_WINDOW_END (R129): after 2^20 decoded codewords the estimate is published and a new window starts. -/
def execBerWindowEnd (n : Ch) (s : State) : Host.Outcome State Fault Refusal := .next (s.berFull n)

/-- What a write of FEC.CTRL does beyond its contents: ITER_MAX applies at once when down or in a standard mode, and waits for an eclipse on a live Z link (R122). -/
def State.iterWritten (s : State) (n : Ch) : State :=
  if iterActs (s.fld (Reg.fecCtrl n) 4 0) == s.iterEff n then (s.setBit (Reg.fecStatus n) 4 false).showEcl n
  else if s.zUp n then (s.setBit (Reg.fecStatus n) 4 true).showEcl n
  else s.applyIter n

/-- SINGLE_ENGINE_START (R127): the orbit boundary after an engine fence in Z25 or A1 reverse reception. -/
def execSingleEngineStart (n : Ch) (s : State) : Host.Outcome State Fault Refusal :=
  if (s.chan n).fec.startAt && s.singleDue n then
    .next ((s.mapFec n (fun f => { f with solo := s.engFenced n false })).setSingle n true)
  else .next s

/-- SINGLE_ENGINE_END (R128): the orbit boundary after the fence is removed. -/
def execSingleEngineEnd (n : Ch) (s : State) : Host.Outcome State Fault Refusal :=
  if (s.chan n).fec.endAt then .next ((s.engineBoundary n).setSingle n false) else .next s

end Sys2Proof.Machine
end

