-- ==== Sys2Proof/Machine/Ptp.lean ====
section
/-! DEFINITION. PTP event messages: recognition, timestamp queue, one-step changes and checksums (R269 to R275). Header layouts are those of IEEE 802.3, IPv4, IPv6, UDP and IEEE 1588-2019. -/

namespace Sys2Proof.Machine

/-! ### Recognition (R269) -/

/-- Encapsulation of a recognised message: L2, IPv4, IPv6. -/
inductive PtpEncap where
  | l2 | ipv4 | ipv6
  deriving DecidableEq, Repr

/-- A recognised message: its encapsulation, where the network header, the UDP header and the PTP header begin. -/
structure PtpMsg where
  encap : PtpEncap
  udp : Nat
  ptp : Nat
  deriving DecidableEq, Repr

/-- Offset of the Ethertype behind at most two VLAN tags. -/
def etherOff (f : List Byte) : Nat :=
  let vlan (o : Nat) : Bool := numAt f o 2 == 0x8100 || numAt f o 2 == 0x88A8
  if vlan 12 then (if vlan 16 then 20 else 16) else 12

/-- versionPTP 2 and a messageType from 0 to 3. -/
def ptpEvent (f : List Byte) (o : Nat) : Bool := byteAt f (o + 1) % 16 == 2 && byteAt f o % 16 ≤ 3

/-- A frame's PTP event message, for the enabled encapsulations of PTP_CTRL. -/
def ptpFind (ctrl : Word) (f : List Byte) : Option PtpMsg :=
  let e := etherOff f
  let t := numAt f e 2
  let o := e + 2
  let m : Option PtpMsg :=
    if t == 0x88F7 then (if ctrl.getLsbD 1 then some ⟨.l2, o, o⟩ else none)
    else if t == 0x0800 && ctrl.getLsbD 2 && byteAt f o / 16 == 4 && byteAt f (o + 9) == 17 then
      let u := o + byteAt f o % 16 * 4
      if numAt f (u + 2) 2 == 319 then some ⟨.ipv4, u, u + 8⟩ else none
    else if t == 0x86DD && ctrl.getLsbD 3 && byteAt f o / 16 == 6 && byteAt f (o + 6) == 17 then
      let u := o + 40
      if numAt f (u + 2) 2 == 319 then some ⟨.ipv6, u, u + 8⟩ else none
    else none
  match ctrl.getLsbD 0, m with
  | true, some m => if ptpEvent f m.ptp && decide (m.ptp + 34 ≤ f.length) then some m else none
  | _, _ => none

/-- messageType. -/
def ptpType (f : List Byte) (m : PtpMsg) : Nat := byteAt f m.ptp % 16

/-- Code of an encapsulation in a queue entry. -/
def encapCode : PtpEncap → Nat
  | .l2 => 0 | .ipv4 => 1 | .ipv6 => 2

/-! ### The queue (R271) -/

/-- A queue entry (09 Table 7). -/
def ptpEntry (f : List Byte) (m : PtpMsg) (egress : Bool) (t : Nat × Nat × Nat) : PtpEntry :=
  #v[BitVec.ofNat 32 (numAt f (m.ptp + 30) 2 * 2 ^ 16 + ptpType f m * 2 ^ 12 + b2n egress * 2 ^ 11 + encapCode m.encap * 2 ^ 8
      + byteAt f (m.ptp + 4)),
    BitVec.ofNat 32 t.1, BitVec.ofNat 32 t.2.1, BitVec.ofNat 32 (t.2.2 * 2 ^ 16 + t.1 / 2 ^ 32 % 2 ^ 16)]

/-- PTP_STATUS and PTP_TS_Ww brought to the queue, with the interrupt when a head appears. -/
def State.showPtp (s : State) (n : Ch) : State :=
  let l := (s.chan n).ktl.ptp
  let was := s.bit (Reg.ktlPtpStatus n) 31
  let s := s.setReg (Reg.ktlPtpStatus n) (BitVec.ofNat 32 (b2n (!l.isEmpty) * 2 ^ 31 + l.length))
  let s := (List.range 4).foldl (fun s w => s.setReg (Reg.ktlPtpTsW n w) ((l.head?.map (fun e => e.toList.getD w 0)).getD 0)) s
  s.cintIf (!was && !l.isEmpty) n .ktl 4

/-- An entry written, or discarded and counted at a full queue. -/
def State.ptpPush (s : State) (n : Ch) (e : PtpEntry) : State :=
  if 64 ≤ (s.chan n).ktl.ptp.length then s.satInt (Reg.ktlPtpTsOvf n) 1 (.chan n .ktl) 5
  else (s.mapKtl n (fun k => { k with ptp := k.ptp ++ [e] })).showPtp n

/-- The oldest entry removed: a write of 1 to PTP_POP.POP. -/
def State.ptpPop (s : State) (n : Ch) : State := (s.mapKtl n (fun k => { k with ptp := k.ptp.drop 1 })).showPtp n

/-! ### Changing a message (R272 to R275) -/

/-- Octets replaced at an offset. -/
def putAt (f : List Byte) (o : Nat) (v : List Byte) : List Byte := f.take o ++ v ++ f.drop (o + v.length)

/-- Ones' complement sum of 16-bit words. -/
def onesSum : List Byte → Nat
  | a :: b :: r => a.toNat * 256 + b.toNat + onesSum r
  | [a] => a.toNat * 256
  | [] => 0

/-- Its bytes exchanged. -/
def swap16 (x : Nat) : Nat := x % 256 * 256 + x / 256 % 256

/-- The last two octets of a UDP payload that keep its checksum valid after a change (R274). (DEDUCED, notes/assumptions 122) -/
def udpTail (old new : List Byte) : List Byte :=
  let k := old.length
  let odd := k % 2 == 1
  let tail := numAt old (k - 2) 2
  let x := if odd then swap16 tail else tail
  let v := (x + onesSum old + 65535 * (onesSum new / 65535 + 1) - onesSum new) % 65535
  beBytes 2 (if odd then swap16 v else v)

/-- The FCS after a change: a wrong one stays wrong (R274). -/
def refcs (old new : List Byte) : List Byte :=
  let k := old.length - 4
  let diff := List.zipWith (fun a b => a ^^^ b) (old.drop k) (leBytes 4 (crc32 (old.take k)))
  new.take k ++ List.zipWith (fun a b => a ^^^ b) (leBytes 4 (crc32 (new.take k))) diff

/-- Checksums brought up to date after a change (R274). -/
def ptpChecks (m : PtpMsg) (old new : List Byte) : List Byte :=
  let new := match m.encap with
    | .l2 => new
    | .ipv4 => putAt new (m.udp + 6) [0, 0]
    | .ipv6 =>
      let k := numAt old (m.udp + 4) 2 - 8
      if numAt old (m.ptp + 2) 2 < k then
        putAt new (m.ptp + k - 2) (udpTail ((old.drop m.ptp).take k) ((new.drop m.ptp).take k))
      else new
  refcs old new

/-- Nanoseconds modulo 2^24 and fraction [15:8], packed (R272). -/
def ptpPack (t : Nat × Nat × Nat) : Nat := t.2.1 % 2 ^ 24 * 256 + t.2.2 / 256

/-- correctionField raised by a number of 2^−16 ns. -/
def addCorrection (f : List Byte) (m : PtpMsg) (v : Int) : List Byte :=
  putAt f (m.ptp + 8) (beBytes 8 (((numAt f (m.ptp + 8) 8 : Int) + v) % 2 ^ 64).toNat)

/-- twoStepFlag. -/
def twoStep (f : List Byte) (m : PtpMsg) : Bool := byteAt f (m.ptp + 6) / 2 % 2 == 1

/-- A message passed on, modified: counted, and kept as it leaves. -/
def State.ptpPass (s : State) (n : Ch) (m : PtpMsg) (old new : List Byte) : State :=
  (s.wrap32 (Reg.ktlPtpMod n) 1).mapKtl n (fun k => { k with ptpOut := ptpChecks m old new })

/-- The timestamp of 2^−16 ns as parts. -/
def stampParts (t : Nat) : Nat × Nat × Nat := timeParts ((t : Rat) / 65536)

/-- The timestamp of a reference instant late ps before now: its group's time, in 2^−16 ns (R270). -/
def State.stampAt (s : State) (n : Ch) (late : Nat) : Nat := (s.timeAgo (s.tgOf n) late * 65536).floor.toNat

/-- PTP_INGRESS (R269 to R272): a received frame, from its destination address through its FCS, whose reference instant was late ps before now. -/
def execPtpIngress (n : Ch) (f : List Byte) (late : Nat) (s : State) : Host.Outcome State Fault Refusal :=
  let ctrl := s.reg (Reg.ktlPtpCtrl n)
  match s.engineOk n && s.linkUp n, ptpFind ctrl f with
  | true, some m =>
    if ctrl.getLsbD (8 + ptpType f m) then
      let p := stampParts (s.stampAt n late)
      let s := s.ptpPush n (ptpEntry f m false p)
      if ctrl.getLsbD 4 && m.encap != .ipv6 then
        .next (s.ptpPass n m f (putAt f (m.ptp + 16) (beBytes 4 (ptpPack p))))
      else .next s
    else .next s
  | _, _ => .next s

/-- A message changed on its way out (R273): origin rule, or residence rule; none where neither applies. -/
def ptpOneStep (ctrl : Word) (f : List Byte) (m : PtpMsg) (p : Nat × Nat × Nat) : Option (List Byte) :=
  if twoStep f m then none
  else if ptpType f m == 0 && ctrl.getLsbD 5 then
    some (addCorrection (putAt f (m.ptp + 34) (beBytes 6 p.1 ++ beBytes 4 p.2.1)) m p.2.2)
  else if ctrl.getLsbD (12 + ptpType f m) then
    let r : Nat := (ptpPack p + 2 ^ 32 - numAt f (m.ptp + 16) 4) % 2 ^ 32
    some (putAt (addCorrection f m (r * 256)) (m.ptp + 16) [0, 0, 0, 0])
  else none

/-- A forwarded message under transparent relay (R275): one-step Sync and Delay_Req get E − I, a two-step Sync is skipped and counted. (DEDUCED, notes/assumptions 122) -/
def State.ptpRelay (s : State) (n o : Ch) (f : List Byte) (m : PtpMsg) (e i : Nat) : State :=
  if ptpType f m == 0 && twoStep f m then s.sat32 (Reg.ktlPtpTcSkip o) 1
  else if ptpType f m ≤ 1 then s.ptpPass n m f (addCorrection f m ((e : Int) - i))
  else s

/-- PTP_EGRESS (R270, R271, R273 to R275): a frame to be sent, whose reference instant was late ps before now, and for a frame that a relay forwards how many ps ago its ingress instant was. -/
def execPtpEgress (n : Ch) (f : List Byte) (late : Nat) (ing : Option Nat) (s : State) : Host.Outcome State Fault Refusal :=
  if !(s.engineOk n && s.linkUp n) then .next s
  else
    let ctrl := s.reg (Reg.ktlPtpCtrl n)
    let e := s.stampAt n late
    let p := stampParts e
    let s := match ptpFind ctrl f with
      | some m => s.when (ctrl.getLsbD (8 + ptpType f m)) (fun s => s.ptpPush n (ptpEntry f m true p))
      | none => s
    let o := partnerCh n
    match ing, s.rlyActive n && s.bit (Reg.ktlPtpCtrl o) 6, ptpFind (s.reg (Reg.ktlPtpCtrl o)) f with
    | some i, true, some m => .next (s.ptpRelay n o f m e (s.stampAt n i))
    | _, _, _ =>
      match ptpFind ctrl f with
      | some m => match ptpOneStep ctrl f m p with
        | some g => .next (s.ptpPass n m f g)
        | none => .next s
      | none => .next s

end Sys2Proof.Machine
end

