-- ==== Sys2Proof/Machine/Nvm.lean ====
section
/-! DEFINITION. The NVM array: its bytes, sectors and areas, programs and their wear (R321, R326, R327, R381, R398, R418, R454). -/

namespace Sys2Proof.Machine

/-- Bytes of the array: 4 Mbit. -/
abbrev nvmSize : Nat := 0x80000

/-- What a byte that has never been written reads as: the erased state (02 Table 4). (DESIGN CHOICE, notes/assumptions 13) -/
abbrev erased : Byte := 0xFF

/-- Byte bases of the areas, in the order of the sectors (15 Table 8). -/
abbrev areaJournal : Nat := 0x00000
/-- Trim sets. -/
abbrev areaTrim : Nat := 0x40000
/-- Repair records. -/
abbrev areaRepair : Nat := 0x50000
/-- Cable profiles. -/
abbrev areaProfile : Nat := 0x54000
/-- Ledger records. -/
abbrev areaLedger : Nat := 0x58000
/-- Trend ring. -/
abbrev areaTrend : Nat := 0x5C000
/-- Leap-second table and calendar. -/
abbrev areaLeap : Nat := 0x60000
/-- User area, 96 KB. -/
abbrev areaUser : Nat := 0x61000

/-- The array's canonical form: addresses strictly rising, no erased byte listed. -/
abbrev Memory.wf (m : List Host.Cell) : Prop := Store.Wf (fun _ => erased) m

/-- The byte at an address. (DESIGN CHOICE, notes/assumptions 13) -/
def Nvm.byte (v : Nvm) (a : Nat) : Byte := Store.get (fun _ => erased) v.mem a

/-- k bytes from an address. -/
def Nvm.bytes (v : Nvm) (a k : Nat) : List Byte := (List.range k).map (fun i => v.byte (a + i))

/-- A number of k bytes, most significant first. -/
def Nvm.num (v : Nvm) (a k : Nat) : Nat := beNat (v.bytes a k)

/-- Bytes written from an address on. -/
def Nvm.put (v : Nvm) (a : Nat) (l : List Byte) : Nvm :=
  { v with mem := Store.putAll (fun _ => erased) v.mem (l.zipIdx.map (fun x => (a + x.2, x.1))) }

/-- Whether a 4 KB sector is fenced for good (R418). -/
def State.sectFenced (s : State) (k : Nat) : Bool := s.nvm.sectFence.getLsbD k

/-- The sector of an address. -/
def sectorOf (a : Nat) : Nat := a / 0x1000

/-- Whether every sector that a run of bytes touches is free of fences. -/
def State.sectsFree (s : State) (a k : Nat) : Bool :=
  (List.range ((a + k - 1) / 0x1000 + 1 - sectorOf a)).all (fun i => !s.sectFenced (sectorOf a + i))

/-- A run of bytes programmed: the bytes, and one program operation for each 64-bit word touched, in the sector's total (R326). (DESIGN CHOICE, notes/assumptions 80) -/
def State.program (s : State) (a : Nat) (l : List Byte) : State :=
  if l.isEmpty then s
  else
    let s := { s with nvm := s.nvm.put a l }
    let words := (List.range ((a + l.length - 1) / 8 + 1 - a / 8)).map (fun i => sectorOf ((a / 8 + i) * 8))
    words.eraseDups.foldl (fun s k => s.lifeAdd (qWear k) (words.filter (· == k)).length) s

/-- Archive pages available: two fewer for each fenced journal sector (15 Table 8), with AREA_SHRUNK on a change. -/
def State.showArea (s : State) : State :=
  let n := 128 - 2 * ((List.range 64).filter s.sectFenced).length
  s.when (n != s.fld Reg.jrnlCommitStatus 15 8) (fun s => (s.setFld Reg.jrnlCommitStatus 15 8 n).intr (.dev .jrnl) 2)

/-- SECT_FENCEk shows the fenced sectors (R418). -/
def State.showSects (s : State) : State :=
  ([0, 1, 2, 3] : List Nat).foldl (fun s k =>
    s.setReg (Reg.nvmSectFence k) (BitVec.ofNat 32 (s.nvm.sectFence.toNat / 2 ^ (32 * k)))) s

/-- The device fences a sector for good, in the configuration row, as a write by origin 0x20 to SECT_FENCEk (R41, R418). -/
def State.fenceSector (s : State) (k : Nat) : State :=
  if s.sectFenced k then s
  else
    let s := { s with nvm := { s.nvm with sectFence := s.nvm.sectFence ||| BitVec.ofNat 128 (2 ^ k) } }
    (s.devFld (Reg.nvmSectFence (k / 32)) (k % 32) (k % 32) 1).showArea

/-- The trim sections of both generations lie at these bytes (R381). -/
def trimAt (gen : Nat) (n : Ch) : Nat := areaTrim + 0x8000 * gen + 0x7C0 * n.val

end Sys2Proof.Machine
end

