-- ==== Sys2Proof/Machine/Power.lean ====
section
/-! DEFINITION. Power domains: transitions, what their functions do when a domain changes, posted-write queues of a domain that leaves ON (R13, R14, R36, R365 to R369). -/

namespace Sys2Proof.Machine

/-! ### Posted-write domains (R36) -/

/-- The moon-copied clock domain of a register, by its page and offset (R107, R133, R173, R175, R215, R217, R239, R276, R332, R425). (DEDUCED, notes/assumptions 170) -/
def pdomOf (p : Page) (off : Nat) : PDom :=
  let at_ (a : Nat) : Bool := off == a % 0x1000
  match p with
  | .chan n .pcs => if at_ (Reg.pcsTxOrbit 0) || at_ (Reg.pcsOamTx 0) || at_ (Reg.pcsLidleTxLo 0) || at_ (Reg.pcsLidleTxHi 0) then .tx n else .rx n
  | .chan n .fec => if at_ (Reg.fecCwTxLo 0) || at_ (Reg.fecCwTxHi 0) then .tx n else .rx n
  | .chan n .afe => if at_ (Reg.afeDacStatus 0) || Reg.afeSegMap 0 0 % 0x1000 ≤ off then .dac n else .adc n
  | .chan n .an => if Reg.anEbufOcc 0 % 0x1000 ≤ off ∧ off ≤ Reg.anEbufFlush 0 % 0x1000 then .tx n else .rx n
  | .chan n .cnt => if Reg.cntLtxFramesLo 0 % 0x1000 ≤ off then .tx n else .rx n
  | .chan n .eq => .rx n
  | .chan n .ktl => .time n
  | .chan n .diag => .diag n
  | .chan n .rly => .rly n
  | .dev .tk | .dev .life => .tpll
  | .dev .tg => .chanReg
  | _ => .therm

/-- The posted-write domain of an address. -/
def pdomAt (a : Nat) : PDom :=
  match pageOf a with
  | some p => pdomOf p (a % 0x1000)
  | none => .therm

/-- Posted writes of a domain that have not taken effect. -/
def State.postedIn (s : State) (q : PDom) : List PostedWrite := s.posted.filter (fun w => pdomAt w.addr == q)

/-- Writes to a domain that the fabric holds. -/
def State.heldIn (s : State) (q : PDom) : List PostedWrite := s.heldWrites.filter (fun w => pdomAt w.addr == q)

/-- A write of a device unit or a job to a moon-copied register, posted behind the older writes of its domain, or held where the domain's queue is full (R35, R36). -/
def State.postOwn (s : State) (o : Origin) (a : Nat) (d keep : Word) : State :=
  let w : PostedWrite := { origin := o, addr := a, data := d, view1 := false, foreign := false, keep := keep }
  let q := pdomAt a
  if 8 ≤ (s.postedIn q).length || !(s.heldIn q).isEmpty then { s with heldWrites := s.heldWrites ++ [w] }
  else { s with posted := s.posted ++ [w] }

/-- Posted writes to the addresses that p picks are discarded, each journaled with the flag IGNORED (R36, R355). -/
def State.discardAt (s : State) (p : Nat → Bool) : State :=
  let gone := s.posted.filter (fun w => p w.addr)
  let s := { s with posted := s.posted.filter (fun w => !p w.addr) }
  gone.foldl (fun s w => s.jAppend (originCode w.origin) (fIgnored + fPosted + fData + b2n w.foreign) w.addr (s.reg w.addr) w.data) s

/-- Posted writes of the domains that p picks are discarded. (DEDUCED, notes/assumptions 29) -/
def State.discardPosted (s : State) (p : PDom → Bool) : State := s.discardAt (fun a => p (pdomAt a))

/-! ### Copies and losses of a domain that leaves ON (R13) -/

/-- Pages whose block registers lie in a channel's domain (01 Table 2). -/
def domPages (k : Fin 3) : List ChPage :=
  match k with
  | 0 => [.eq, .pcs, .fec, .an, .ktl, .diag, .rly, .cnt]
  | 1 => [.afe]
  | 2 => [.hl]

/-- Whether an address is a block register of a channel's domain. -/
def inDom (n : Ch) (k : Fin 3) (a : Nat) : Bool :=
  match pageOf a with
  | some (.chan m p) => m == n && (domPages k).contains p && 0x100 ≤ a % 0x1000
  | _ => false

/-- Registers whose contents are memory that RETAIN keeps: the stored resolution and the coefficients (14 Table 6). (DEDUCED, notes/assumptions 86) -/
def keptReg (n : Ch) (a : Nat) : Bool :=
  a == Reg.anResolved n || (Reg.eqFfeTap n 0 ≤ a && a ≤ Reg.eqFfeTap n 47) || (Reg.eqDfeTap n 0 ≤ a && a ≤ Reg.eqDfeTap n 3)

/-- The copy that reads in RETAIN return: the moon copies, and for HL what its registers hold at that instant (R13). -/
def State.takeRetained (s : State) (n : Ch) (k : Fin 3) : State :=
  let src := if k == 2 then s.regs else s.moon
  { s with retained := Store.putAll resetWord (Store.keep (fun a => !inDom n k a) s.retained) (Store.keep (inDom n k) src) }

/-- A register that shows state held outside the domain: the loaded profile (R16). -/
def outsideReg (n : Ch) (a : Nat) : Bool := a == Reg.diagProfile n

/-- Block registers of a domain at their reset values, but those that RETAIN keeps where kept is set. (DESIGN CHOICE, notes/assumptions 145) -/
def State.clearDom (s : State) (n : Ch) (k : Fin 3) (kept : Bool) : State :=
  let pair : Nat → Bool := s.pairKeeps n
  let s := s.keepRegs (fun a => !inDom n k a || outsideReg n a || pair a || (kept && keptReg n a))
  { s with moon := Store.keep (fun a => !inDom n k a) s.moon }.mirrorRly n

/-- What a channel's DSP domain loses when it leaves ON: everything in flight; with OFF also coefficients and the stored resolution (R13, R364). -/
def Chan.dspGone (c : Chan) (kept : Bool) : Chan :=
  { c with
    line := {}
    fec := {}
    rx := { ec := if kept then c.rx.ec else []
            frac := if kept then c.rx.frac else []
            corr := c.rx.corr
            badSlices := c.rx.badSlices
            badSegs := c.rx.badSegs
            fresh := c.rx.fresh
            trained := kept && c.rx.trained
            main := c.rx.main }
    link := { nonce := c.link.nonce
              ssc := if kept then c.link.ssc else none
              zlpi := c.link.zlpi
              lpNonce := c.link.lpNonce
              failMode := c.link.failMode
              failRun := c.link.failRun
              removed := if kept then c.link.removed else 0 }
    ecl := {}
    buf := { rm := c.buf.rm
             hostIn := c.buf.hostIn
             cut := c.buf.cut
             codesIn := c.buf.codesIn
             hostAt := c.buf.hostAt
             xoff := c.buf.xoff
             tapSeq := c.buf.tapSeq }
    diag := { profile := c.diag.profile }
    ktl := {}
    coefKept := kept && c.coefKept
    cpll := {}
    vco := if kept then c.vco else 22500
    retune := false }

/-! ### What a change of state does (R368) -/

/-- A channel whose line and host lane may work again: its near-end loopback, a warm train with retained coefficients, or negotiation (R191, R235, R368). (DEDUCED, notes/assumptions 85) -/
def State.bringUp (s : State) (n : Ch) : State :=
  let c := s.chan n
  if s.nearLb n && s.pattern n == 0 && s.lineReady n then (if s.phase n == 0 then s.startLoop n else s)
  else if c.coefKept && c.rx.trained && c.dsp.eff == .on && s.lineReady n && s.hlReady n && isZ (s.lineMode n) && !s.fencesForbid n then
    (s.mapChan n (fun c => { c with coefKept := false })).startResume n 2
  else s.settleLink n

/-- The crossings into some pages of a channel enter DRAIN; with those of its receive side, the messages and comets that wait to leave it are discarded and counted in XING_DISCARD (R355). (DEDUCED, notes/assumptions 136) -/
def State.drainChan (s : State) (n : Ch) (l : List ChPage) : State :=
  let c := (s.chan n).line
  let s := s.enterDrain (l.map (fun p => .chan n p))
  if l.contains .pcs then
    (s.sat32 Reg.clkXingDiscard (c.inbox.length + c.cometIn.length)).mapChan n (fun c => { c with line := { c.line with inbox := [], cometIn := [] } })
  else s

/-- The pages of a channel that its CPLL feeds (01 Table 5, R347). -/
def cpllPages : List ChPage := allChPages.filter (fun p => p != .ch && p != .hl)

/-- The partner's view of a channel, both ways (R12). -/
def State.tellPair (s : State) (n : Ch) : State := ((s.settlePair n).showPartner n).showPartner (partnerCh n)

/-- DSP has left ON: link down, posted writes of its domains discarded, codewords in flight counted, copies taken, contents lost or kept, jobs of the channel ended, engine invalid, relay partner told (R36, R125, R368). -/
def State.dspLeft (s : State) (n : Ch) : State :=
  let kept := (s.chan n).dsp.eff == .retain
  let s := (s.settleLink n).discardFlight n
  let s := s.discardPosted (fun q => match q with | .rx m | .tx m | .time m | .diag m | .rly m => m == n | _ => false)
  let s := if kept then s.takeRetained n 0 else s
  let s := s.drainChan n (cpllPages.filter (· != .afe))
  let s := (s.mapChan n (fun c => c.dspGone kept)).clearDom n 0 kept
  let s := (s.setBit Reg.clkCpllStatus n.val false).showForced n
  let s := (s.endJobsOf n errUnavail false).tellPair n
  s.when (s.takes n) (fun s => s.settleGroup (s.tgOf n))

/-- AFE has left ON (R368): the MDI quiet, copies taken, posted writes discarded; a TDR sweep ends (R230). -/
def State.afeLeft (s : State) (n : Ch) : State :=
  let kept := (s.chan n).afe.eff == .retain
  let s := s.settleLink n
  let s := s.discardPosted (fun q => match q with | .adc m | .dac m => m == n | _ => false)
  let s := if kept then s.takeRetained n 1 else s
  let s := (s.drainChan n [.afe]).clearDom n 1 false
  allSlots.foldl (fun s k =>
    let j := s.slot k
    if j.typ == 1 && targetCh 1 j.target == some n then s.endJob k .failed errUnavail else s) s

/-- Buffers of a channel without what belongs to the host lane: the rate-matching FIFO and the frame that HLRXn is bringing. -/
def BufSt.noHost (b : BufSt) : BufSt := { b with rm := [], xoff := none, hostIn := none, cut := false, codesIn := none, lpiFrom := none }

/-- HL has left ON (R368): HPLL off, the FIFO lost, copies taken; LOCK falls (R218). -/
def State.hlLeft (s : State) (n : Ch) : State :=
  let kept := (s.chan n).hl.eff == .retain
  let lock := s.bit (Reg.hlStatus n) 0
  let s := if kept then s.takeRetained n 2 else s
  let s := s.drainChan n [.hl]
  let s := (s.mapChan n (fun c => { c with hpll := {}, buf := c.buf.noHost })).clearDom n 2 false
  let s := (s.setBit Reg.clkHpllStatus n.val false).cintIf lock n .hl 2
  s.settleLink n

/-- DSP has reached ON: the diagnostics' trim values are shown, units that repair records in force name are fenced again, the engine and the pair follow (R220, R368, R400). (DEDUCED, notes/assumptions 51) -/
def State.dspOn (s : State) (n : Ch) : State :=
  let s := s.mapChan n (fun c => { c with cpll := {}, retune := false })
  let s := s.bist.units.foldl (fun (s : State) u => if u.1 == n then s.fenceUnit n u.2.val else s) s
  let s := ((s.showForced n).showEngine n).tellPair n
  s.bringUp n

/-- A domain has completed its transition to a state. -/
def State.domArrive (s : State) (n : Ch) (k : Fin 3) (t : PState) : State :=
  let old := ((s.chan n).dom k).eff
  let s := (s.mapDom n k (fun d => { d with eff := t, moving := none })).intr (.dev .pwr) 0
  let s :=
    if old == .on then (match k with | 0 => s.dspLeft n | 1 => s.afeLeft n | 2 => s.hlLeft n)
    else if t == .on then (match k with | 0 => s.dspOn n | 1 => (s.trimOn n).bringUp n | 2 => s.bringUp n)
    else if k == 0 then ((s.mapChan n (fun c => c.dspGone false)).clearDom n 0 false)
    else s.clearDom n k false
  (s.showPwr n).showNf n

/-! ### Requests (R365 to R367) -/

/-- Whether leaving ON needs a self-test of entry (R390, R417): DSP and HL, with ENTRY_EN, and test logic and sequencer in service. -/
def State.needsTest (s : State) (k : Fin 3) : Bool :=
  k != 1 && s.bit Reg.bistCtrl 0 && !s.fenced (.dev .bist) && !s.fenced (.dev .job)

/-- The domains of a channel that stand before another in the order of lowering: HL, AFE, DSP. -/
def lowerFirst (k : Fin 3) : List (Fin 3) := match k with | 0 => [1, 2] | 1 => [2] | 2 => []

/-- Whether a domain still has to be lowered, or is on its way down. -/
def Chan.lowering (c : Chan) (k : Fin 3) : Bool :=
  pcode (c.goal k) < pcode (c.dom k).eff || (match (c.dom k).moving with | some (t, _) => decide (pcode t < pcode (c.dom k).eff) | none => false)

/-- Whether a domain still has to be raised. -/
def Chan.raising (c : Chan) (k : Fin 3) : Bool := pcode (c.dom k).eff < pcode (c.goal k)

/-- One domain starts toward its goal where it may: lowered after the domains before it, through its self-test of entry where one is due; raised after DSP, HL after AFE (R14, R365, R390). -/
def State.settleDom (s : State) (n : Ch) (k : Fin 3) : State :=
  let c := s.chan n
  let d := c.dom k
  let g := c.goal k
  if d.busy then s
  else if pcode g < pcode d.eff then
    if (lowerFirst k).any c.lowering then s
    else if d.eff == .on && s.needsTest k then s.mapDom n k (fun d => { d with test := .waiting, aim := g })
    else (s.mapDom n k (fun d => d.go g s.now)).settleLink n
  else if pcode d.eff < pcode g then
    if k == 2 && c.raising 1 then s else s.mapDom n k (fun d => d.go g s.now)
  else s

/-- The domains of a channel start toward what is requested: lowered in the order HL, AFE, DSP, raised in the order DSP, AFE, HL (R365). (DEDUCED, notes/assumptions 85) -/
def State.settlePower (s : State) (n : Ch) : State :=
  ((((s.settleDom n 2).settleDom n 1).settleDom n 0).settleDom n 1).settleDom n 2 |>.showPwr n

/-- The slot of a domain's running self-test of entry. -/
def State.entrySlot (s : State) (d : Nat) : Option (Fin 8) :=
  ([6, 7] : List (Fin 8)).find? (fun k => (s.slot k).busy && (s.slot k).typ == 5 && (s.slot k).target == BitVec.ofNat 8 d)

/-- A raise to ON cancels a self-test of entry: one that waits at once, one that runs at the end of its step (R367, R394). (DEDUCED, notes/assumptions 85) -/
def State.cancelTest (s : State) (n : Ch) (k : Fin 3) : State :=
  let d := 3 * n.val + k.val
  let x := (s.chan n).dom k
  if x.test == .none || pcode ((s.chan n).goal k) < pcode x.eff then s
  else
    match s.entrySlot d with
    | some j => (s.endJob j .aborted 0).bringUp n
    | none =>
      let s := ({ s with jobs := { s.jobs with waiting := s.jobs.waiting.filter (fun j => !(j.typ == 5 && j.target == BitVec.ofNat 8 d)) } }.showJobs)
      ((s.setBit (Reg.bistDomStatus d) 27 true).mapDom n k (fun d => { d with test := .none })).bringUp n

/-- State of a 2-bit field: 0b11 acts as 0b10 (R369). -/
def pstateOf : Nat → PState
  | 0 => .off | 1 => .retain | _ => .on

/-- Whether the coefficients of a DSP domain are to be kept after a request (R367, R368): while a transition or a test of entry runs, the request waits, but a raise to ON that ends the test gives them up; else a request for RETAIN keeps them that takes effect with the link up, and ON those that a warm train is still to use. (DEDUCED, notes/assumptions 86) -/
def State.keepAfter (s : State) (n : Ch) (dsp : PState) : Bool :=
  let c := s.chan n
  let d := c.dsp
  if d.eff != .on || d.moving.isSome then c.coefKept
  else if d.test != .none then c.coefKept && dsp != .on
  else match dsp with
    | .retain => s.linkUp n || (c.coefKept && d.want == .retain)
    | .on => c.coefKept && d.want == .on
    | .off => false

/-- A write of CH_REQn has taken effect (R365, R368): the link is judged first for what RETAIN is to keep; requests that tests wait on are reconsidered; the domains start. -/
def State.powerWritten (s : State) (n : Ch) : State :=
  let w := s.reg (Reg.pwrChReq n.val)
  let dsp := pstateOf (bits w 5 4)
  let keep := s.keepAfter n dsp
  let s := s.mapChan n (fun c => { c with
    coefKept := keep
    dsp := { c.dsp with want := dsp }
    afe := { c.afe with want := pstateOf (bits w 3 2) }
    hl := { c.hl with want := pstateOf (bits w 1 0) } })
  let s := ((s.cancelTest n 2).cancelTest n 1).cancelTest n 0
  s.settlePower n

/-- NVM_STAT brought to what holds; while the domain is not ON, TREND_VAL holds no entry (R332). -/
def State.showNvm (s : State) : State :=
  let s := s.setReg Reg.pwrNvmStat (BitVec.ofNat 32 (pcode s.nvmDom.eff * 2 ^ 16 + b2n s.nvmDom.moving.isSome * 2 ^ 8))
  s.when (s.nvmDom.eff != .on) (fun s => { s with life := { s.life with fetchBy := none } }.setReg Reg.lifeTrendRd 0)

/-- The NVM domain starts toward its request; it has no self-test (R16, R366, R390). -/
def State.settleNvm (s : State) : State :=
  let d := s.nvmDom
  let g := if d.want == .retain && d.eff == .off then .off else d.want
  if d.moving.isSome || g == d.eff then s.showNvm else { s with nvmDom := d.go g s.now }.showNvm

/-- A write of NVM_REQ has taken effect. -/
def State.nvmReqWritten (s : State) : State :=
  { s with nvmDom := { s.nvmDom with want := pstateOf (s.fld Reg.pwrNvmReq 1 0) } }.settleNvm

/-- SELF_TEST_OF_ENTRY (R391): a domain whose test of entry is due asks for its job, type 0x05 with ARG0 = 0x0001. (DEDUCED, notes/assumptions 84) -/
def execSelfTestOfEntry (d : Fin 48) (s : State) : Host.Outcome State Fault Refusal :=
  let n : Ch := Fin.ofNat 16 (d.val / 3)
  let k : Fin 3 := Fin.ofNat 3 d.val
  let t := BitVec.ofNat 8 d.val
  if ((s.chan n).dom k).test == .waiting && !s.devHas 5 t 1 then .next (s.devRequest 5 t 1) else .next s

end Sys2Proof.Machine
end

