-- ==== Sys2Proof/Machine/Clk.lean ====
section
/-! DEFINITION. Clock generation: judgment of the references, loss of lock and relock, CLKOUT, spread (R334 to R353, R358, R359). -/

namespace Sys2Proof.Machine

/-- A bit of CLK.INT_STATUS. -/
def State.clkInt (s : State) (i : Nat) : State := s.intr (.dev .clk) i

/-- A fault bit of CLK: bits 4 to 9 have no unit, so FENCE acts as NOTIFY (R404, R405). -/
def State.clkFault (s : State) (i : Nat) : State :=
  let s := s.recordFault (.dev .clk) i
  s.when (s.faultAct (.dev .clk) i == 3) (fun s => s.selectFault (.dev .clk) i)

/-- Clock state changed. -/
def State.mapClk (s : State) (f : Clk → Clk) : State := { s with clk := f s.clk }

/-- CLK_STATUS fields. -/
abbrev stLock : Nat := 31
/-- SPLL_COAST. -/
abbrev stCoast : Nat := 30
/-- XA_OK. -/
abbrev stXa : Nat := 27
/-- XB_OK. -/
abbrev stXb : Nat := 26
/-- XB_CROSS_OK. -/
abbrev stCross : Nat := 25

/-- A bit of CLK_STATUS. -/
def State.clkBit (s : State) (i : Nat) : Bool := s.bit Reg.clkClkStatus i

/-- SPLL's reference: 0 none, 1 XA, 2 XB. -/
def State.clkRef (s : State) : Nat := s.fld Reg.clkClkStatus 29 28

/-- REF_FREQ: 156.25 MHz (R334). -/
def State.fastRef (s : State) : Bool := s.clkBit 16

/-- STATE of JUDGE_STATUS. -/
def State.setJudge (s : State) (st : Nat) : State := s.setFld Reg.clkJudgeStatus 31 28 st

/-- XB_CROSS_OK, with its interrupt on a change (R339). -/
def State.setCross (s : State) (v : Bool) : State :=
  s.when (v != s.clkBit stCross) (fun s => (s.setBit Reg.clkClkStatus stCross v).clkInt 5)

/-! ### Judging XA and XB (R339, R340) -/

/-- A window's count lies within ±1.5 % of nominal. -/
def windowOk (fast : Bool) (c : Nat) : Bool := if fast then 19700 ≤ c && c ≤ 20300 else 3152 ≤ c && c ≤ 3248

/-- An XB count lies within ±300 ppm of the XA count. -/
def crossOk (fast : Bool) (c : Nat) : Bool :=
  if fast then 1280000 - 384 ≤ c && c ≤ 1280000 + 384 else 204800 - 61 ≤ c && c ≤ 204800 + 61

/-- Sixteen windows pass. -/
def judgeOk (fast : Bool) (l : List Nat) : Bool := l.length == 16 && l.all (windowOk fast)

/-- The cause of a failed windows step: 2 no edges, 1 out of range. -/
def judgeCause (fast : Bool) (l : List Nat) : Nat :=
  match l.find? (fun c => !windowOk fast c) with
  | some 0 => 2
  | some _ => 1
  | none => 2

/-- Judgment starts (R339, R340): FALLBACK_MS is taken; with EN = 0 the fall-back delay runs at once. -/
def State.startJudging (s : State) : State :=
  let fb := max 1 (s.fld Reg.clkJudgeCtrl 15 8)
  let en := s.bit Reg.clkJudgeCtrl 0
  (s.mapClk (fun c => { c with
    judging := true
    fails := 0
    fbMs := fb
    fallbackFrom := if en then none else some s.now
    fallbackLock := none
    attemptAt := s.now
    rejudgeAt := s.now })).setJudge (if en then 1 else 3)

/-- XB is present, or not (R339). -/
def State.setXb (s : State) (v : Bool) : State :=
  let s := (s.setBit Reg.clkClkStatus stXb v).mapClk (fun c => { c with rejudgeAt := s.now + us 1024000, crossAt := s.now + us 8192 })
  if v then s else s.setCross false

/-- SPLL's reference can be locked to now: judged, or taken by fall-back (R339, R340, R343). -/
def State.refUsable (s : State) : Bool :=
  (s.clkRef == 1 && (s.clkBit stXa || s.bit Reg.clkJudgeStatus 0)) || (s.clkRef == 2 && s.clkBit stXb)

/-! ### Loss of lock (R343 to R346) -/

/-- Local safe states of a channel whose clock is lost (R344): the link drops, codewords in flight and posted writes are discarded (R355), the engine is invalid, a relay partner told; a Z link in use retrains fast once CPLL is back. (DEDUCED, notes/assumptions 29 and 105) -/
def State.cpllDown (s : State) (n : Ch) : State :=
  let again := isZ (s.lineMode n) && !s.nearLb n && (s.linkUp n || 1 ≤ s.phase n)
  let s := s.drainChan n cpllPages
  let s := s.mapChan n (fun c => { c with cpll := {}, retune := false, link := { c.link with relock := again || c.link.relock } })
  let s := (s.setBit Reg.clkCpllStatus n.val false).showForced n
  let s := (s.settleLink n).discardFlight n
  let s := s.discardPosted (fun q => match q with | .adc m | .dac m | .rx m | .tx m | .time m | .diag m | .rly m => m == n | _ => false)
  let s := ((s.showEngine n).showPartner n).showPartner (partnerCh n)
  s.when (s.takes n) (fun s => s.settleGroup (s.tgOf n))

/-- CPLLn has lost lock (R344); one that relocks to a new target has lost its reference before it held lock, which is no loss that counts. -/
def State.cpllLoss (s : State) (n : Ch) : State :=
  if (s.chan n).cpll.locked then
    ((s.fldInt (Reg.clkLoss n.val) 31 16 (.dev .clk) 6).detectCh n .ch 4).cpllDown n
  else if (s.chan n).retune then s.cpllDown n
  else s

/-- HPLLn has lost lock (R345): HLTXn is squelched; the line link stays. -/
def State.hpllLoss (s : State) (n : Ch) : State :=
  if (s.chan n).hpll.locked then
    let s := (((s.fldInt (Reg.clkLoss n.val) 15 0 (.dev .clk) 7).detectCh n .ch 5).drainChan n [.hl]).mapChan n (fun c => { c with hpll := {} })
    ((s.setBit Reg.clkHpllStatus n.val false).setBit Reg.clkHpllStatus (16 + n.val) true).showLf n
  else s

/-- HELD_LOW and RAMPING of an output, with the interrupt on a change (R349, R359). -/
def State.setOut (s : State) (k : Fin 2) (ramp low : Bool) : State :=
  let a := Reg.clkClkoutStatus k.val
  let w := withBits (s.reg a) 2 1 (b2n ramp * 2 + b2n low)
  s.when (w != s.reg a) (fun s => (s.setReg a w).clkInt (8 + k.val))

/-- Fields of CLKOUTk_CTRL: EN, RAMP, SRC. -/
def State.outEn (s : State) (k : Fin 2) : Bool := s.bit (Reg.clkClkoutCtrl k.val) 31
/-- RAMP. -/
def State.outRamp (s : State) (k : Fin 2) : Bool := s.bit (Reg.clkClkoutCtrl k.val) 30
/-- SRC. -/
def State.outSrc (s : State) (k : Fin 2) : Bool := s.bit (Reg.clkClkoutCtrl k.val) 29

/-- OPLLk of an output replaced, with LOCKED. -/
def State.setOpll (s : State) (k : Fin 2) (l : Loop) : State :=
  (s.mapClk (fun c => { c with opll := c.opll.set k l })).setBit (Reg.clkClkoutStatus k.val) 0 l.locked

/-- An output goes through relock (R349): held low, or with RAMP = 1 and no change of frequency or source carried on at the frequency it had. -/
def State.relockOut (s : State) (k : Fin 2) (hard : Bool) : State :=
  let s := s.setOpll k {}
  let low := s.bit (Reg.clkClkoutStatus k.val) 1
  s.setOut k false (!s.outEn k || s.safeState || hard || !s.outRamp k || low)

/-- The frequency relative to FREQ that an output is to have: its group's rate for SRC = 1 (R348). -/
def State.outTarget (s : State) (k : Fin 2) : Rat :=
  if s.outSrc k then 1 - (s.group (Fin.ofNat 4 (s.fld (Reg.clkClkoutCtrl k.val) 28 27))).y else 1

/-- The relative frequency of an output replaced. -/
def State.setRel (s : State) (k : Fin 2) (x : Rat) : State := s.mapClk (fun c => { c with outRel := c.outRel.set k x })

/-- One cycle of the time base moves an output whose OPLL is locked toward its target, by no more than 2 ppm per µs (R348, R349). (DESIGN CHOICE, notes/assumptions 2; DEDUCED, notes/assumptions 135) -/
def State.slewOut (s : State) (k : Fin 2) : State :=
  let d := s.outTarget k - s.clk.outRel[k]
  let step : Rat := 2 * s.cycle / 10 ^ 12
  if d = 0 || !s.clk.opll[k].locked then s else s.setRel k (s.clk.outRel[k] + max (-step) (min d step))

/-- The outputs that run from a source relock: SPLL (false) or TPLL (true). -/
def State.relockOuts (s : State) (src : Bool) : State :=
  ([0, 1] : List (Fin 2)).foldl (fun s k => if s.outEn k && s.outSrc k == src then s.relockOut k false else s) s

/-- SPLL has lost lock (R343): gated, coasting, device domains on FRC; every CPLL and HPLL loses its reference, and each output of SPLL relocks. -/
def State.spllLoss (s : State) : State :=
  if s.clk.spll.locked then
    let coast := s.clkBit stCoast
    let s := (s.mapClk (fun c => { c with spll := {} })).setBit Reg.clkClkStatus stLock false
    let s := (s.setBit Reg.clkClkStatus stCoast true).sat Reg.clkSpllCoastCount 15 0 1
    let s := s.when (!coast) (fun s => s.clkInt 0)
    let s := s.clkFault 6
    (s.forCh (fun n s => (s.cpllLoss n).hpllLoss n)).relockOuts false
  else s

/-- SPLL moves to the other reference (R346): counted, shown, journaled by origin 0x20. -/
def State.moveRef (s : State) (r : Nat) : State :=
  let s := s.fldInt Reg.clkSwitchCount 15 0 (.dev .clk) 2
  s.devFld Reg.clkClkStatus 29 28 r

/-- A reference in use has failed (R342, R343, R346): a loss of SPLL lock, and with ARM = 1 the switchover where the other reference is judged and cross-checked at that instant. (DEDUCED, notes/assumptions 134) -/
def State.refFails (s : State) (xb : Bool) : State :=
  let other := if xb then s.clkBit stXa else s.clkBit stXb
  let go := s.bit Reg.clkSwitchCtrl 0 && other && s.clkBit stCross
  let s := s.clkFault (if xb then 5 else 4)
  let s := if xb then s.setXb false
    else
      let s := (s.setBit Reg.clkClkStatus stXa false).setBit Reg.clkJudgeStatus 0 false
      (s.startJudging).mapClk (fun c => { c with xaReturned := true })
  let s := s.spllLoss
  if go then
    let s := s.moveRef (if xb then 1 else 2)
    (s.mapClk (fun c => { c with fallbackFrom := none })).when s.clk.fallbackFrom.isSome (fun s => s.setJudge 1)
  else s

/-- Whether what its monitor has seen declares XA or XB failed: no edge for 200 ns, or a window that fails the rule of R339 (12 Table 6). -/
def refDead (fast : Bool) : RefSeen → Bool
  | .silent t => 200 ≤ t
  | .window c => !windowOk fast c

/-- Whether a window of 1,024 SRC cycles declares FRC failed: a count outside ±8 % of its nominal 6,250,000 edges (12 Table 6). -/
def frcDead : RefSeen → Bool
  | .silent _ => false
  | .window c => decide (c < 5750000 ∨ 6750000 < c)

/-- REFERENCE_FAIL (R342): the monitor of 0 XA, 1 XB, 2 FRC; XA and XB are monitored while in use. -/
def execReferenceFail (which : Fin 3) (e : RefSeen) (s : State) : Host.Outcome State Fault Refusal :=
  match which with
  | 0 => if s.clkRef == 1 && s.refUsable && refDead s.fastRef e then .next (s.refFails false) else .next s
  | 1 => if s.clkRef == 2 && s.refUsable && refDead s.fastRef e then .next (s.refFails true) else .next s
  | 2 => if s.clkBit 24 && frcDead e then .next ((s.setBit Reg.clkClkStatus 24 false).clkFault 9) else .next s

/-- Whether phase errors, in cycles of the reference, newest first, declare a loop out of lock: above ±0.25 cycle on 4 reference cycles in a row (12 Table 6). -/
def phaseLost (errs : List Rat) : Bool := 4 ≤ errs.length && (errs.take 4).all (fun e => decide (1 / 4 < absR e))

/-- SPLL_LOSS_OF_LOCK (R342, R343): its phase errors; the reference did not fail. -/
def execSpllLossOfLock (errs : List Rat) (s : State) : Host.Outcome State Fault Refusal :=
  if phaseLost errs then .next s.spllLoss else .next s

/-- CPLL_LOSS_OF_LOCK (R342, R344). -/
def execCpllLossOfLock (n : Ch) (errs : List Rat) (s : State) : Host.Outcome State Fault Refusal :=
  if phaseLost errs then .next (s.cpllLoss n) else .next s

/-- HPLL_LOSS_OF_LOCK (R342, R345). -/
def execHpllLossOfLock (n : Ch) (errs : List Rat) (s : State) : Host.Outcome State Fault Refusal :=
  if phaseLost errs then .next (s.hpllLoss n) else .next s

/-- OPLL_LOSS_OF_LOCK (R342, R349). -/
def execOpllLossOfLock (k : Fin 2) (errs : List Rat) (s : State) : Host.Outcome State Fault Refusal :=
  if s.clk.opll[k].locked && phaseLost errs then .next ((s.relockOut k false).clkFault (7 + k.val)) else .next s

/-! ### Attempts (R339, R340) -/

/-- The shortest time of so many windows of 25,600 FRC cycles, FRC at most 1 % fast (12 Table 1), in ps. (DEDUCED, notes/assumptions 134) -/
def winTime (k : Nat) : Nat := k * 25600 * 500000 / 101

/-- Whether an attempt of so many windows may have ended: judging, no fall-back delay in progress, and the windows have had their time since the attempt's earliest beginning. (DEDUCED, notes/assumptions 134) -/
def State.mayJudge (s : State) (k : Nat) : Bool :=
  s.clk.judging && s.clk.fallbackFrom.isNone && decide (s.clk.attemptAt + winTime k ≤ s.now)

/-- STATE after an attempt that leads to so much: locked where SPLL holds lock. (DEDUCED, notes/assumptions 134) -/
def State.judgedState (s : State) (st : Nat) : Nat := if s.clk.spll.gate then 4 else st

/-- A failed attempt: counted with its cause; at the third in a row before lock, the fall-back delay begins. STATE shows the wait, the lock, or the windows of the next attempt. (DEDUCED, notes/assumptions 134) -/
def State.attemptFails (s : State) (cause : Nat) : State :=
  let s := (s.fldInt Reg.clkJudgeStatus 23 16 (.dev .clk) 3).setFld Reg.clkJudgeStatus 10 8 cause
  let k := s.clk.fails + 1
  let wait := decide (3 ≤ k) && !s.clk.spll.locked && s.clk.fallbackLock.isNone && s.clkRef != 2
  (s.mapClk (fun c => { c with
    fails := k
    attemptAt := s.now
    fallbackFrom := if wait then some s.now else none })).setJudge (s.judgedState (if wait then 3 else 1))

/-- A passed attempt: XA_OK; SPLL takes XA where it has no judged reference, or moves back to it under REVERT after a cross-check; a fall-back lock stays. (DEDUCED, notes/assumptions 134) -/
def State.attemptPasses (s : State) (crossed : Bool) : State :=
  let s := (s.setBit Reg.clkClkStatus stXa true).setBit Reg.clkJudgeStatus 0 false
  let s := s.mapClk (fun c => { c with judging := false, fails := 0, fallbackFrom := none, xaReturned := false, crossAt := s.now + us 8192 })
  let s := s.setJudge (s.judgedState (1 + b2n crossed))
  if s.clkRef == 2 then
    if s.bit Reg.clkSwitchCtrl 1 && crossed then (s.moveRef 1).spllLoss else s
  else s.setFld Reg.clkClkStatus 29 28 1

/-- XA_JUDGE_ATTEMPT (R339): the edges counted in XA's windows up to the first that fails, those of XB where XB is judged in parallel, and XB's count over the cross-check. An attempt under REVERT runs although XA is judged. -/
def execXaJudgeAttempt (xa xb : List Nat) (cross : Nat) (s : State) : Host.Outcome State Fault Refusal :=
  let revert := s.clkRef == 2 && s.bit Reg.clkSwitchCtrl 1 && s.clkBit stXa
  if s.mayJudge xa.length || revert then
    let fast := s.fastRef
    let s := if s.clkBit stXb || xb.isEmpty then s else s.setXb (judgeOk fast xb)
    if !judgeOk fast xa then .next (s.attemptFails (judgeCause fast xa))
    else
      let skip := s.clk.xaReturned && s.clkRef != 2
      if s.clkBit stXb && !skip then
        let s := s.setCross (crossOk fast cross)
        if crossOk fast cross then .next (s.attemptPasses true) else .next (s.attemptFails 3)
      else .next (s.attemptPasses false)
  else .next s

/-- XB_CROSS_CHECK (R339): every 8.192 ms while both are present. -/
def execXbCrossCheck (cross : Nat) (s : State) : Host.Outcome State Fault Refusal :=
  if s.clkBit stXa && s.clkBit stXb && s.clk.crossAt ≤ s.now then
    .next ((s.mapClk (fun c => { c with crossAt := s.now + us 8192 })).setCross (crossOk s.fastRef cross))
  else .next s

/-- XB_REJUDGE (R339): every 1.024 s while XB is not present. -/
def execXbRejudge (xb : List Nat) (s : State) : Host.Outcome State Fault Refusal :=
  if !s.clkBit stXb && s.clk.rejudgeAt ≤ s.now && s.rst.phase != .inReset then .next (s.setXb (judgeOk s.fastRef xb)) else .next s

/-- FALLBACK_EXPIRY (R340): FALLBACK_MS after the delay began, SPLL is to lock to XA unjudged; none while SPLL holds lock or has gone over to XB. -/
def execFallbackExpiry (s : State) : Host.Outcome State Fault Refusal :=
  match s.clk.fallbackFrom with
  | some t =>
    if t + ms s.clk.fbMs ≤ s.now && !s.clk.spll.locked && s.clkRef != 2 then
      let was := s.bit Reg.clkJudgeStatus 1
      let s := (s.setFld Reg.clkJudgeStatus 1 0 3).setFld Reg.clkClkStatus 29 28 1
      let s := s.when (!was) (fun s => s.clkInt 4)
      .next (s.mapClk (fun c => { c with fallbackFrom := none, fallbackLock := some s.now, attemptAt := s.now, fails := 0 }))
    else .next s
  | none => .next s

/-- FALLBACK_NO_LOCK (R340): SPLL does not hold lock 1 ms after the fall-back: cause 4, and a new cycle 1.024 s later. -/
def execFallbackNoLock (s : State) : Host.Outcome State Fault Refusal :=
  match s.clk.fallbackLock with
  | some t =>
    if t + ms 1 ≤ s.now && !s.clk.spll.locked then
      let s := ((s.setFld Reg.clkJudgeStatus 10 8 4).setJudge 5).setFld Reg.clkClkStatus 29 28 0
      .next (s.mapClk (fun c => { c with fallbackLock := none, fails := 0, attemptAt := s.now + us 1024000 }))
    else .next s
  | none => .next s

/-! ### Relock (R347) -/

/-- The loop's state. -/
def State.pll (s : State) : Pll → Loop
  | .spll => s.clk.spll
  | .tpll => s.tk.tpll
  | .cpll n => (s.chan n).cpll
  | .hpll n => (s.chan n).hpll
  | .opll k => s.clk.opll[k]

/-- The loop's state replaced. -/
def State.setPll (s : State) (p : Pll) (l : Loop) : State :=
  match p with
  | .spll => s.mapClk (fun c => { c with spll := l })
  | .tpll => { s with tk := { s.tk with tpll := l } }
  | .cpll n => s.mapChan n (fun c => { c with cpll := l })
  | .hpll n => s.mapChan n (fun c => { c with hpll := l })
  | .opll k => s.setOpll k l

/-- Whether the loop's reference is usable, its domain ON and its output wanted; a coasting TPLL goes on feeding its outputs (R318, R336, R337, R347, R349, R366, R378). (DEDUCED, notes/assumptions 130) -/
def State.pllMay (s : State) : Pll → Bool
  | .spll => s.refUsable
  | .tpll => !s.bit Reg.tkTkStatus 29 || s.tk.relock
  | .cpll n => (s.chan n).dsp.eff == .on && s.clk.spll.gate
  | .hpll n => (s.chan n).hl.eff == .on && s.hlMode n != 0 && s.clk.spll.gate
  | .opll k => s.outEn k && (if s.outSrc k then s.tk.tpll.gate || (s.bit Reg.tkTkStatus 29 && !s.tk.relock) else s.clk.spll.gate)

/-- PLL_LOCK_ACQUIRED (R347): the loop acquires lock after its reference becomes usable. An output that kept running starts to move to its target (R349). (DEDUCED, notes/assumptions 135) -/
def execPllLockAcquired (p : Pll) (s : State) : Host.Outcome State Fault Refusal :=
  if !(s.pll p).locked && s.pllMay p then
    let s := s.setPll p { locked := true, since := s.now, gate := false }
    match p with
    | .opll k => .next (s.setOut k (!s.bit (Reg.clkClkoutStatus k.val) 1) (s.bit (Reg.clkClkoutStatus k.val) 1))
    | _ => .next s
  else .next s

/-- What the opening of a loop's gate brings back (R343 to R345, R347, R349, R312). -/
def State.gateOpens (s : State) (p : Pll) : State :=
  match p with
  | .spll =>
    let s := ((s.setBit Reg.clkClkStatus stLock true).setBit Reg.clkClkStatus stCoast false).clkInt 1
    (s.mapClk (fun c => { c with fallbackLock := none })).setJudge 4
  | .tpll => { s with tk := { s.tk with running := true } }
  | .cpll n =>
    let again := (s.chan n).link.relock
    let s := s.mapChan n (fun c => { c with retune := false, link := { c.link with relock := false } })
    let s := ((s.setBit Reg.clkCpllStatus n.val true).showForced n).showEngine n
    let s := (s.showPartner n).showPartner (partnerCh n)
    if again && s.lineReady n && s.hlHolds n then s.startFast n else s.bringUp n
  | .hpll n =>
    let s := (s.setBit Reg.clkHpllStatus n.val true).setBit Reg.clkHpllStatus (16 + n.val) (s.ownFence (.chan n .hl))
    (s.bringUp n).showLf n
  | .opll k =>
    let s := s.when (s.bit (Reg.clkClkoutStatus k.val) 1) (fun s => s.setRel k (s.outTarget k))
    if s.safeState then s else s.setOut k (s.bit (Reg.clkClkoutStatus k.val) 2) false

/-- PLL_GATE_OPEN (R347): lock held for 16 µs without a break. -/
def execPllGateOpen (p : Pll) (s : State) : Host.Outcome State Fault Refusal :=
  let l := s.pll p
  if l.locked && !l.gate && l.since + us 16 ≤ s.now then .next ((s.setPll p { l with gate := true }).gateOpens p) else .next s

/-! ### CLKOUT and spread (R348 to R353) -/

/-- What a write of CLKOUTk_CTRL does beyond its contents (R349): EN = 0 holds the output low; EN from 0 to 1, FREQ, SRC and GROUP relock it, GROUP as a case that RAMP carries on. -/
def State.outWritten (s : State) (k : Fin 2) (old : Word) : State :=
  let w := s.reg (Reg.clkClkoutCtrl k.val)
  let d := old ^^^ w
  if !s.outEn k then (s.setOpll k {}).setOut k false true
  else if bits d 31 31 != 0 || bits d 29 29 != 0 || bits d 26 24 != 0 then s.relockOut k true
  else if bits d 28 27 != 0 then s.relockOut k false
  else s

/-- CLKOUT_RAMP_END (R349): a ramping output has reached its target. (DEDUCED, notes/assumptions 135) -/
def execClkoutRampEnd (k : Fin 2) (s : State) : Host.Outcome State Fault Refusal :=
  if s.bit (Reg.clkClkoutStatus k.val) 2 && s.clk.outRel[k] == s.outTarget k then .next (s.setOut k false (s.bit (Reg.clkClkoutStatus k.val) 1)) else .next s

/-! ### Frequencies (R335 to R337, R348, R350) -/

/-- One modulation period of a rate in 0.5 kHz, in ps. -/
def sscPeriod (rate : Nat) : Rat := 2000000000 / (max rate 1 : Nat)

/-- tri of a spread that began some ps ago (R350): 1,024 updates per period, 0 at the start, 1 after half a period. -/
def triAt (rate since : Nat) : Rat :=
  let u := ((since : Rat) / sscPeriod rate * 1024).floor.toNat % 1024
  (if u < 512 then (u : Rat) else 1024 - u) / 512

/-- The frequency of a spread relative to nominal: 1 − D × tri, held to 2^−24 (R350); D in 0.01 %. -/
def spreadAt (v : Nat × Nat) (since : Nat) : Rat := 1 - (((v.1 : Rat) / 10000 * triAt v.2 since * 2 ^ 24).floor : Rat) / 2 ^ 24

/-- A channel's symbol clock relative to nominal (R336, R350, R351): the leader's spread, or in the follower role the leader's rate, to which the receive timing loop steers CPLL. -/
def State.clockRel (s : State) (n : Ch) : Rat :=
  if (s.chan n).link.neg || !isZ (s.lineMode n) then 1
  else if s.leader n then spreadAt s.clk.lineSsc[n] (s.now - s.clk.lineSscAt[n])
  else 1 + (s.chan n).rx.trFreq + s.sscNow n

/-- VCO of a channel's CPLL in MHz: its target, with what the channel's clock has of the leader's (12 Table 4, R336). -/
def State.cpllMHz (s : State) (n : Ch) : Rat := (s.chan n).vco * s.clockRel n

/-- The channel's DSP receive, PCS transmit, time engine, diagnostics and relay domains in MHz: VCO / 32 (12 Table 4). -/
def State.dspMHz (s : State) (n : Ch) : Rat := s.cpllMHz n / 32

/-- DAC and aggregate ADC rate in MHz; one active slice samples at this rate / 32 (12 Table 4). -/
def State.dacMHz (s : State) (n : Ch) : Rat := 1000000 / samplePs (sigKind (s.lineMode n)) * s.clockRel n

/-- The LDPC engine clocks in MHz: stopped in the standard modes, 1.41 GHz in single-engine operation of Z25 (12 Table 4, R127). -/
def State.engineClock (s : State) (n : Ch) : Rat :=
  (if !isZ (s.lineMode n) then 0 else if s.lineMode n == 8 && !s.bit (Reg.fecStatus n) 2 then 711 else 1410) * s.clockRel n

/-- Host-lane PCS domain in MHz for a host-lane mode; 0 where HPLLn is off (12 Table 5). -/
def hlMHz (mode : Nat) : Rat :=
  match mode with
  | 1 | 2 => 625 / 10
  | 3 => 15625 / 100
  | 4 => 1611328125 / 10000000
  | 5 | 6 => 322265625 / 1000000
  | 7 | 8 => 8056640625 / 10000000
  | 9 | 10 => 830078125 / 1000000
  | _ => 0

/-- Signalling rate of a host-lane mode in MBd; 0 where HPLLn is off (12 Table 5). -/
def hlBaud (mode : Nat) : Rat :=
  match mode with
  | 1 | 2 => 1250
  | 3 => 3125
  | 4 => 515625 / 100
  | 5 | 6 => 103125 / 10
  | 7 | 8 => 2578125 / 100
  | 9 | 10 => 265625 / 10
  | _ => 0

/-- The serial transmit clock and the PCS clock of a host lane in MHz, with the spread laid over them; 0 while HPLLn's gate is closed (R337, R352). -/
def State.hltxMHz (s : State) (n : Ch) : Rat × Rat :=
  if !(s.chan n).hpll.gate then (0, 0)
  else
    let f := spreadAt s.clk.hlSsc[n] (s.now - s.clk.hlSscAt[n])
    (hlBaud (s.hlMode n) * f, hlMHz (s.hlMode n) * f)

/-- System fabric, register-rate domains, NVM and moon clock in MHz, from SPLL or on FRC (12 Table 3). -/
def State.deviceMHz (s : State) : Rat × Rat × Rat × Rat := if s.clkBit stLock then (800, 400, 200, 2) else (200, 100, 50, 2)

/-- Frequency in MHz of a FREQ code (12 Table 8). -/
def freqMHz (f : Nat) : Rat :=
  match f with
  | 0 => 25 | 1 => 50 | 2 => 100 | 3 => 125 | 4 => 15625 / 100 | 5 => 1611328125 / 10000000 | 6 => 200 | _ => 3125 / 10

/-- The frequency of CLKOUTk in MHz (R348, R349, R353): FREQ at the rate it has reached, with the spread laid over it; 0 where it is held low. (DEDUCED, notes/assumptions 135) -/
def State.outMHz (s : State) (k : Fin 2) : Rat :=
  let w := s.reg (Reg.clkClkoutCtrl k.val)
  if s.bit (Reg.clkClkoutStatus k.val) 1 then 0
  else freqMHz (bits w 26 24) * s.clk.outRel[k] * spreadAt s.clk.outSsc[k] (s.now - s.clk.outSscAt[k])

/-- Whether a spread stands at an instant at which tri = 0: none is in force, or a whole number of its periods has passed within the last cycle of the time base (R350). -/
def State.triZero (s : State) (v : Nat × Nat) (began : Nat) : Bool :=
  let p := sscPeriod v.2
  let x : Rat := (s.now - began : Nat)
  v.1 == 0 || decide (x - (x / p).floor * p < s.cycle)

/-- The spread that the registers ask of an output: none while disabled or where the output does not spread (12 Table 9). -/
def State.sscAsked (s : State) : SscOut → Nat × Nat
  | .line n => s.lineSpread n
  | .hl n =>
    let w := s.reg (Reg.clkHlSsc n.val)
    if w.getLsbD 31 && 1 ≤ s.hlMode n && s.hlMode n ≤ 6 then sscActs w 50 66 else (0, 63)
  | .clkout k =>
    let w := s.reg (Reg.clkClkoutCtrl k.val)
    if w.getLsbD 23 then sscActs w 50 126 else (0, 63)

/-- SSC_CHANGE_APPLY (R350): an instant at which tri = 0; a line transmitter's own settings change with a negotiation only (R351). -/
def execSscChangeApply (o : SscOut) (s : State) : Host.Outcome State Fault Refusal :=
  let v := s.sscAsked o
  match o with
  | .line _ => .next s
  | .hl n =>
    if s.triZero s.clk.hlSsc[n] s.clk.hlSscAt[n] then
      .next (s.mapClk (fun c => { c with hlSsc := c.hlSsc.set n v, hlSscAt := c.hlSscAt.set n s.now }))
    else .next s
  | .clkout k =>
    if s.triZero s.clk.outSsc[k] s.clk.outSscAt[k] then
      .next (s.mapClk (fun c => { c with outSsc := c.outSsc.set k v, outSscAt := c.outSscAt.set k s.now }))
    else .next s

end Sys2Proof.Machine
end

