-- ==== Sys2Proof/Machine/Diag.lean ====
section
/-! DEFINITION. Cable diagnostics: the reflection map, loss, health index, cable profiles, loopbacks and test patterns (R219 to R229, R235 to R240). -/

namespace Sys2Proof.Machine

/-- Diagnostics of a channel changed. -/
def State.mapDiag (s : State) (n : Ch) (f : DiagSt → DiagSt) : State := s.mapChan n (fun c => { c with diag := f c.diag })

/-! ### Geometry and trims (R220, R221, R381) -/

/-- K0 in sixteenths of a sample and h_ref of a channel for a kind of received signal; 0 without a trim section. -/
def State.trimK0At (s : State) (n : Ch) (kind : Nat) : Nat × Nat :=
  match (s.chan n).trim.sect with
  | some l => (numAt l (0x780 + 2 * kind) 2, numAt l (0x790 + 2 * kind) 2)
  | none => (0, 0)

/-- As trimK0At, for the received signal. -/
def State.trimK0 (s : State) (n : Ch) : Nat × Nat := s.trimK0At n (sigKind (s.lineMode n))

/-- DELAY_PS_M as it acts. -/
def State.cableDelay (s : State) (n : Ch) : Nat := max 3500 (min (s.fld (Reg.diagCable n) 15 0) 7000)

/-- Millimetres of cable per sample at a delay in ps/m. -/
def State.mmAt (s : State) (n : Ch) (delay : Nat) : Rat := samplePs (sigKind (s.lineMode n)) * 1000 / (2 * (delay : Rat))

/-- Millimetres of cable per sample. -/
def State.mmPerSample (s : State) (n : Ch) : Rat := s.mmAt n (s.cableDelay n)

/-! ### The map (R221, R222) -/

/-- The nearest whole number of v log10 q, halves upward, by exact powers; below q = 1 it is held at 0. -/
def logRound (v : Nat) (q : Rat) : Nat := if q < 1 then 0 else (Nat.log 10 (q ^ (2 * v)).floor.toNat + 1) / 2

/-- Return loss of an amplitude in 0.1 dB. (DESIGN CHOICE, notes/assumptions 98) -/
def rlTenth (href p : Rat) : Nat := if p = 0 then 65535 else min (logRound 200 (href / p)) 65535

/-- Return loss in units of 0.5 dB, from 0 to 255. (DESIGN CHOICE, notes/assumptions 98) -/
def rlHalf (href p : Rat) : Nat := if p = 0 then 255 else min (logRound 40 (href / p)) 255

/-- A peak of the map: position, amplitude and sign. -/
structure Peak where
  pos : Rat
  amp : Rat
  neg : Bool

/-- A tap of a set. -/
def tapAt (l : List (Nat × Rat)) (k : Nat) : Rat := ((l.find? (fun t => t.1 == k)).map (·.2)).getD 0

/-- The interpolated peak at tap k, where |h| has a local peak there: the vertex of the parabola over the three taps. (DEDUCED, notes/assumptions 109) -/
def peakAt (l : List (Nat × Rat)) (k : Nat) : Option Peak :=
  let h := tapAt l k
  let sg : Rat := if h < 0 then -1 else 1
  let a := if k = 0 then 0 else sg * tapAt l (k - 1)
  let b := sg * h
  let c := sg * tapAt l (k + 1)
  if absR b = 0 || absR b ≤ absR a || absR b < absR c then none
  else
    let den := a - 2 * b + c
    let d := if den = 0 then 0 else (a - c) / (2 * den)
    some { pos := (k : Rat) + d, amp := b - (a - c) * d / 4, neg := decide (h < 0) }

/-- An event of a map: distance in mm, RL in 0.1 dB, negative sign. -/
abbrev DEvent := Nat × Nat × Bool

/-- Peaks closer than 20 cm count as one: the one with the lower RL. (DEDUCED, notes/assumptions 109) -/
def mergeEvents : List DEvent → List DEvent
  | a :: r =>
    match mergeEvents r with
    | b :: q => if b.1 < a.1 + 200 then (if a.2.1 ≤ b.2.1 then a :: q else b :: q) else a :: b :: q
    | [] => [a]
  | [] => []

/-- The k events with the lowest RL, in ascending order of distance; of events with equal RL the nearer are kept. (DESIGN CHOICE, notes/assumptions 159) -/
def lowestEvents (k : Nat) (l : List DEvent) : List DEvent :=
  let keep := (l.zipIdx.mergeSort (fun a b => a.1.2.1 < b.1.2.1 || (a.1.2.1 == b.1.2.1 && a.2 ≤ b.2))).take k
  (l.zipIdx.filter (fun e => keep.any (fun q => q.2 == e.2))).map (·.1)

/-- A map: its 64 bins and its events, all of them. -/
structure DMap where
  bins : List Nat
  events : List DEvent

/-- The map of a set of taps at a delay in ps/m (R220 to R222). (DEDUCED, notes/assumptions 109) -/
def State.formMap (s : State) (n : Ch) (delay : Nat) (taps : List (Nat × Rat)) : DMap :=
  let t := s.trimK0 n
  let k0 : Rat := (t.1 : Rat) / 16
  let href : Rat := scaledTap (s.gain2 n) t.2
  let mm (p : Rat) : Rat := (p - k0) * s.mmAt n delay
  let ps := (taps.filterMap (fun x => peakAt taps x.1)).filter (fun p => decide (mm p.pos ≤ 40000))
  let near := taps.filter (fun x => decide (mm x.1 ≤ 40000))
  let bins := (List.range 64).map (fun b =>
    let inBin (k : Nat) : Bool := k / 48 == b
    let m := (near.filter (fun x => inBin x.1)).foldl (fun m x => max m (absR x.2)) (0 : Rat)
    let m := (ps.filter (fun p => inBin p.pos.floor.toNat)).foldl (fun m p => max m (absR p.amp)) m
    rlHalf href m)
  let th := s.fld (Reg.diagEvtCtrl n) 9 0
  let ev := (ps.filter (fun p => decide (k0 + 32 ≤ p.pos))).map (fun p =>
    ((roundInt (mm p.pos)).toNat, rlTenth href (absR p.amp), p.neg))
  let ev := (ev.filter (fun e => e.2.1 ≤ th)).mergeSort (fun a b => a.1 ≤ b.1)
  { bins := bins, events := mergeEvents ev }

/-! ### Loss and health (R224, R228) -/

/-- Launch power of the received signal in 0.1 dBm (R105, R224). -/
def State.launch (s : State) (n : Ch) : Int :=
  if isZ (s.lineMode n) then (if s.rxDir n == .a1 then 56 else 16) else Config.stdLaunch (s.lineMode n)

/-- 10^(−k/200) from above, to within 2^−100. -/
def tenthRoot (k : Nat) : Rat :=
  let q : Nat := rootBits 200 (10 ^ k * 2 ^ (100 * 200)) 1 (104 + k / 50) 0
  2 ^ 100 / (q : Rat)

/-- Far-end power in 0.1 dBm, 10 log10(10^(a/100) − 10^(b/100)) rounded to nearest, where a exceeds b (R224). (DESIGN CHOICE, notes/assumptions 22) -/
def farPower (a b : Int) : Int :=
  if a ≤ b then Config.noFarPower a b
  else
    let v := 1 - tenthRoot (2 * (a - b).toNat)
    a - ((List.range 170).filter (fun k => decide (v ≤ tenthRoot (2 * k + 1)))).length

/-- Squared magnitude of the FFE's response at turn a/b of its sample rate. -/
def ffePower (c : List Rat) (a b : Nat) : Rat :=
  let re := (c.zipIdx.map (fun t => t.1 * cosTurn (a * t.2) b)).sum
  let im := (c.zipIdx.map (fun t => t.1 * sinTurn (a * t.2) b)).sum
  re * re + im * im

/-- A square root from below, to within 2^−40. -/
def rootR (v : Rat) : Rat := (Nat.sqrt (v * 2 ^ 80).floor.toNat : Rat) / 2 ^ 40

/-- Boost of the FFE's magnitude response at the Nyquist frequency, or at a quarter of it, over its mean across the band, in 0.1 dB (R224): the mean is taken over 64 equal parts of the band. (DEDUCED, notes/assumptions 111) -/
def ffeBoost (c : List Rat) (quarter : Bool) : Int :=
  let mean := meanR ((List.range 64).map (fun i => rootR (ffePower c (2 * i + 1) 256)))
  if mean = 0 then Config.zeroPower else tenthDb (ffePower c 1 (if quarter then 8 else 2) / (mean * mean))

/-- IL_NYQ, or IL_QTR, in 0.1 dB (R224): the broadband loss and the FFE's boost. (DESIGN CHOICE, notes/assumptions 22; DEDUCED, notes/assumptions 111) -/
def State.insLoss (s : State) (n : Ch) (quarter : Bool) : Int :=
  let far := farPower (s.sfld (Reg.afeRxPower n) 11 0) (s.sfld (Reg.afeRxPower n) 27 16)
  s.launch n - far + ffeBoost (s.rxRun n).c quarter

/-- A number held in a field of 12 bits. -/
def hold12 (v : Int) : Nat := (max 0 (min v 4095)).toNat

/-- IL_EST and IL_MARGIN of a refresh: valid with a power measurement. (DEDUCED, notes/assumptions 111) -/
def State.lossWords (s : State) (n : Ch) : Word × Word :=
  if s.bit (Reg.afeRxPower n) 31 then
    let il := s.insLoss n false
    (BitVec.ofNat 32 (2 ^ 31 + hold12 (s.insLoss n true) * 65536 + hold12 il),
      if isZ (s.lineMode n) then BitVec.ofNat 32 (twos 16 (270 - il)) else 0)
  else (0, 0)

/-- Whether a current event and a profile event match: within the larger of 50 mm and two samples. (DEDUCED, notes/assumptions 112) -/
def State.matches (s : State) (n : Ch) (d e : Nat) : Bool := decide (absR ((d : Rat) - (e : Rat)) ≤ max 50 (2 * s.mmPerSample n))

/-- CHI for the events of a map (R228); 0 without a profile of the mode received now. (DEDUCED, notes/assumptions 112) -/
def State.chiWord (s : State) (n : Ch) (ev : List DEvent) : Word :=
  match (s.chan n).diag.profile with
  | some p =>
    if p.mode != s.lineMode n then 0
    else
      let th : Int := s.fld (Reg.diagEvtCtrl n) 9 0
      let near (e : DEvent) : List (Nat × Nat) := p.events.filter (fun q => s.matches n e.1 q.1)
      let w := ev.foldl (fun (w : Int) e =>
        if (near e).isEmpty then max w (th - e.2.1) else (near e).foldl (fun w q => max w ((q.2 : Int) - e.2.1)) w) 0
      let lone := (ev.filter (fun e => (near e).isEmpty)).length
      let i := (max 0 (min (1000 - w) 1000)).toNat
      let warn := decide (i < min (s.fld (Reg.diagEvtCtrl n) 21 12) 1000)
      BitVec.ofNat 32 (2 ^ 31 + b2n warn * 2 ^ 30 + min lone 15 * 2 ^ 12 + i)
  | none => 0

/-! ### Refresh (R219, R223) -/

/-- The visible results of a refresh. -/
def State.mapView (s : State) (n : Ch) : DiagView :=
  let m := s.formMap n (s.cableDelay n) ((s.chan n).rx.ec.map (fun t => (t.1, (t.2 : Rat))))
  let ev := lowestEvents 8 m.events
  let il := s.lossWords n
  let bin (b : Nat) : Nat := m.bins.getD b 255
  let um := roundInt (48 * s.mmPerSample n * 1000)
  [(Reg.diagMapBinUm n, BitVec.ofInt 32 um), (Reg.diagIlEst n, il.1), (Reg.diagIlMargin n, il.2), (Reg.diagChi n, s.chiWord n ev)]
    ++ (List.range 16).map (fun k => (Reg.diagMapBin n k, BitVec.ofNat 32 (bin (4 * k) + bin (4 * k + 1) * 256 + bin (4 * k + 2) * 65536 + bin (4 * k + 3) * 2 ^ 24)))
    ++ (List.range 8).flatMap (fun e =>
      match ev[e]? with
      | some x => [(Reg.diagEvtDist n e, BitVec.ofNat 32 x.1), (Reg.diagEvtInfo n e, BitVec.ofNat 32 (2 ^ 31 + b2n x.2.2 * 65536 + x.2.1))]
      | none => [(Reg.diagEvtDist n e, 0), (Reg.diagEvtInfo n e, 0)])

/-- Results made visible at one instant: MAP_SEQ counts them; CHI_WARN on a rise of WARN (R223, R240). -/
def State.publish (s : State) (n : Ch) (v : DiagView) : State :=
  let was := s.bit (Reg.diagChi n) 30
  let s := v.foldl (fun (s : State) w => s.setReg w.1 w.2) s
  let s := ((s.setBit (Reg.diagMapStatus n) 31 true).wrap (Reg.diagMapStatus n) 15 0 1).cint n .diag 0
  s.cintIf (s.bit (Reg.diagChi n) 30 && !was) n .diag 1

/-- Whether the map refreshes: link up, PASSIVE_EN, page not fenced (R219, R417). -/
def State.mapMay (s : State) (n : Ch) : Bool := s.linkUp n && s.bit (Reg.diagDiagCtrl n) 0 && !s.fenced (.chan n .diag)

/-- MAP_REFRESH (R219, R223): the end of a refresh's period of 16,384 µs; held where a job step or foreground work kept the engine from finishing it. (DESIGN CHOICE, notes/assumptions 12) -/
def execMapRefresh (n : Ch) (held : Bool) (s : State) : Host.Outcome State Fault Refusal :=
  if !s.mapMay n then .next s
  else if held then .next ((s.sat32 (Reg.diagMapSkip n) 1).mapDiag n (fun d => { d with skipped := true }))
  else
    let v := s.mapView n
    let s := s.mapDiag n (fun d => { d with fresh := true, taps := (s.chan n).rx.ec })
    if s.bit (Reg.diagDiagCtrl n) 1 then .next (s.mapDiag n (fun d => { d with newest := some v })) else .next (s.publish n v)

/-- A write of DIAG_CTRL has taken effect: with HOLD cleared, the newest completed refresh appears (R223): on a link that is up it is valid, even where it was completed on an earlier link. (DESIGN CHOICE, notes/assumptions 159) -/
def State.holdWritten (s : State) (n : Ch) : State :=
  if s.bit (Reg.diagDiagCtrl n) 1 then s
  else match (s.chan n).diag.newest with
    | some v =>
      let s := s.mapDiag n (fun d => { d with newest := none })
      if s.linkUp n then s.publish n v
      else (s.publish n (v.map (fun w => if w.1 == Reg.diagChi n then (w.1, withBits w.2 31 30 0) else w))).setBit (Reg.diagMapStatus n) 31 false
    | none => s

/-! ### Cable profiles (R225, R226) -/

/-- The base of a channel's profile slot. -/
def profileAt (n : Ch) : Nat := areaProfile + 1024 * n.val

/-- The profile register: LOADED, BAD, LEARNED and MODE, with the interrupt on a change of LOADED or BAD. -/
def State.setProfile (s : State) (n : Ch) (p : Option Profile) (bad learned : Bool) : State :=
  let s := s.mapDiag n (fun d => { d with profile := p })
  let a := Reg.diagProfile n
  let w := BitVec.ofNat 32 (b2n p.isSome * 2 ^ 31 + b2n bad * 2 ^ 30 + b2n learned * 2 ^ 29 + ((p.map (·.mode)).getD 0) % 16)
  let d := s.reg a ^^^ w
  (s.setReg a w).cintIf (bits d 31 30 != 0) n .diag 3

/-- The profile that a slot's bytes hold. -/
def slotProfile (l : List Byte) : Profile :=
  let k := min (byteAt l 0x1B) 16
  let nf := (byteAt l 0x07) / 2 % 2 == 1
  { mode := byteAt l 0x06
    events := (List.range k).map (fun i => (numAt l (0x28 + 8 * i) 4, numAt l (0x2C + 8 * i) 2))
    nf := if nf then some (byteAt l 0x1A, (List.range 8).map (fun b => (BitVec.ofNat 16 (numAt l (0xE8 + 2 * b) 2)).toInt)) else none }

/-- A slot passes its checks: MAGIC, FORMAT, CRC and CHANNEL (R226). -/
def slotPasses (n : Ch) (l : List Byte) : Bool :=
  numAt l 0 4 == 0x5A435031 && byteAt l 4 == 1 && byteAt l 5 == n.val && numAt l 0x3FC 4 == crc32 (l.take 0x3FC)

/-- The device loads a channel's slot (R226, 15 Table 8): empty, good or bad; the profile in use is then not a learned one, and LEARNED reads 0. (DESIGN CHOICE, notes/assumptions 159) -/
def State.loadProfile (s : State) (n : Ch) : State :=
  let l := s.nvm.bytes (profileAt n) 1024
  if s.sectFenced (sectorOf (profileAt n)) then s.setProfile n none true false
  else if l.all (· == erased) then s.setProfile n none false false
  else if slotPasses n l then s.setProfile n (some (slotProfile l)) false false
  else s.setProfile n none true false

/-! ### Loopbacks and patterns (R235 to R237) -/

/-- Whether a write that would make LB and PATTERN these values is refused (R237). -/
def State.loopRefused (s : State) (n : Ch) (lb pat : Nat) : Bool :=
  (pat != 0 && lb != 0 && lb != 2) || ((lb != 0 || pat != 0) && (s.tdrOn n || s.rlyActive n))

/-- PATTERN as it acts. -/
def patActs (w : Word) : Nat := if bits w 2 0 == 7 then 0 else bits w 2 0

/-- Whether a write of LB_CTRL is refused: it forms a combination R237 bars, or selects a loopback during a TDR sweep or in a relay pair. -/
def State.lbRefused (s : State) (n : Ch) (d : Word) : Bool :=
  bits d 1 0 != 0 && s.loopRefused n (bits d 1 0) (patActs (s.reg (Reg.diagTpCtrl n)))

/-- As lbRefused, for TP_CTRL. -/
def State.tpRefused (s : State) (n : Ch) (d : Word) : Bool :=
  patActs d != 0 && s.loopRefused n (s.fld (Reg.diagLbCtrl n) 1 0) (patActs d)

/-- What a near-end loopback or a pattern leaves where the line can work: neither link nor training under a pattern, training against itself in a loopback, else negotiation. -/
def State.settleLoop (s : State) (n : Ch) : State :=
  if s.pattern n != 0 then (((s.dropLink n).linkIdle n).setOrbitLock n false).retarget n
  else if s.nearLb n then (if s.lineReady n then s.startLoop n else (s.dropLink n).linkIdle n)
  else s.renegotiate n

/-- A write of LB_CTRL has taken effect (R235): a near-end loopback begins or changes, or one ends; a far-end one that acts discards the frames from HLRXn. -/
def State.lbWritten (s : State) (n : Ch) (old : Word) : State :=
  let near (w : Word) : Bool := bits w 1 0 == 1 || bits w 1 0 == 2
  let w := s.reg (Reg.diagLbCtrl n)
  let s := s.showPartner (partnerCh n)
  if near w then (if bits w 1 0 == bits old 1 0 && bits w 7 4 == bits old 7 4 then s else s.settleLoop n)
  else if near old then (s.settleLoop n).settlePair n
  else (s.when (s.farLb n) (fun s => s.cutHost n)).settlePair n

/-- A write of TP_CTRL has taken effect (R236): a pattern begins, changes or ends; without CHECK_EN there is no sync. (DEDUCED, notes/assumptions 113) -/
def State.tpWritten (s : State) (n : Ch) (old : Word) : State :=
  let w := s.reg (Reg.diagTpCtrl n)
  let s := s.when (!w.getLsbD 8) (fun s => (s.setPatSync n false).mapDiag n (fun d => { d with patRun := 0, patErrs := [], patHalf := none }))
  let s := s.when (patActs w != patActs old) (fun s => s.mapChan n (fun c => { c with line := { c.line with patUs := 0, trainReg := trainSeed } }))
  if (patActs w != 0) == (patActs old != 0) then s else (s.settleLoop n).settlePair n

/-- One symbol of the checker, right or wrong (R236): PAT_SYNC rises after 64 right ones in a row and falls after 64 errors within 1,024; an error in sync counts. (DEDUCED, notes/assumptions 113) -/
def State.checkSymbol (s : State) (n : Ch) (ok : Bool) : State :=
  let was := s.bit (Reg.diagLbStatus n) 29
  let s := s.mapDiag n (fun d => { d with
    patRun := if ok then d.patRun + 1 else 0
    patErrs := (if ok || !was then [] else [0]) ++ ((d.patErrs.map (· + 1)).filter (· < 1024)) })
  let s := s.when (was && !ok) (fun s => s.sat32 (Reg.diagPatErr n) 1)
  let d := (s.chan n).diag
  if was then (if 64 ≤ d.patErrs.length then (s.setPatSync n false).mapDiag n (fun d => { d with patErrs := [] }) else s)
  else if 64 ≤ d.patRun then (s.setPatSync n true).mapDiag n (fun d => { d with patErrs := [] }) else s

/-- The bits that a received pair of symbols stands for under R88, if any. -/
def pairBits (x y : Int) : Option (List Bool) :=
  ((List.range 32).map (fun v => (BitVec.ofNat 5 v))).findSome? (fun v =>
    let b := msbBits v
    if pam6 (b.getD 0 false) (b.getD 1 false) (b.getD 2 false) (b.getD 3 false) (b.getD 4 false) == (x, y) then some b else none)

/-- The checker compares received symbols with the next ones of pattern 1 (R236): in sync its register runs freely, without sync it follows the received bits. -/
def State.checkGroup (s : State) (n : Ch) (l : List Int) (got : Option (List Bool)) : State :=
  let t := (s.chan n).diag.patReg
  let x := trainRun (if l.length == 1 then .a1 else .z50) t l.length
  let own := s.bit (Reg.diagLbStatus n) 29
  let next := match own, got with
    | false, some b => b.foldl (fun (t : BitVec 31) v => (t <<< 1) ||| (if v then 1 else 0)) t
    | _, _ => x.2
  let s := s.mapDiag n (fun d => { d with patReg := next })
  (List.zip l x.1).foldl (fun s v => s.checkSymbol n (v.1 == v.2)) s

/-- One equalised and decided symbol for the checker: pairs of R88, or single symbols of A1 reverse. -/
def State.patTakes (s : State) (n : Ch) (v : Int) : State :=
  if isZ (s.lineMode n) && s.rxDir n == .a1 then s.checkGroup n [v] (some [decide (0 < v)])
  else match (s.chan n).diag.patHalf with
    | some x => (s.mapDiag n (fun d => { d with patHalf := none })).checkGroup n [x, v] (pairBits x v)
    | none => s.mapDiag n (fun d => { d with patHalf := some v })

/-- PATTERN_SYNC_CHANGE (R236): received symbols as decided after equalisation, compared with pattern 1. (DEDUCED, notes/assumptions 113) -/
def execPatternSyncChange (n : Ch) (syms : List Int) (s : State) : Host.Outcome State Fault Refusal :=
  if s.bit (Reg.diagTpCtrl n) 8 && !s.fenced (.chan n .diag) && (s.chan n).dsp.eff == .on && (s.chan n).afe.eff == .on then
    .next (syms.foldl (fun s v => s.patTakes n v) s)
  else .next s

end Sys2Proof.Machine
end

