-- ==== Sys2Proof/Machine/Jrnl.lean ====
section
/-! DEFINITION. The journal's archive: tokens, commits, gap records and reading (R43, R45 to R49, R414, R420). -/

namespace Sys2Proof.Machine

/-- The journal changed. -/
def State.mapJrnl (s : State) (f : Jrnl → Jrnl) : State := { s with jrnl := f s.jrnl }

/-! ### Entries (R42, R43) -/

/-- The 256 bits of an entry (02 Table 17). -/
def JEntry.word (e : JEntry) : BitVec 256 := e.sec ++ e.ns ++ e.frac ++ e.seq ++ e.origin ++ e.flags ++ e.addr ++ e.old ++ e.new ++ (0 : BitVec 40)

/-- The 32 bytes of an entry as the archive holds them, most significant first. -/
def JEntry.bytes (e : JEntry) : List Byte := beBytes 32 e.word.toNat

/-- Oldest sequence in the ring (RING_OLDEST). -/
def Jrnl.oldest (j : Jrnl) : Word := j.seqNext - BitVec.ofNat 32 j.ring.length

/-- Entries that await their commit. -/
def Jrnl.waiting (j : Jrnl) : Nat := (j.seqNext - j.seqCommit).toNat

/-- The ring's entry with a sequence. -/
def Jrnl.ringAt (j : Jrnl) (q : Word) : Option RingEntry :=
  let back := (j.seqNext - q).toNat
  if 1 ≤ back then j.ring[back - 1]? else none

/-! ### Tokens and conditions (R47) -/

/-- BUDGET as it acts, in pages per second. -/
def State.budget (s : State) : Nat := min (s.fld Reg.jrnlCommitCtrl 5 0) 48

/-- FLUSH_AGE as it acts, in ps. -/
def State.flushAge (s : State) : Nat := sec (max 1 (s.fld Reg.jrnlCommitCtrl 15 8))

/-- TOKEN_ISSUE (R47): at BUDGET per second, into a bucket of 8, whatever the NVM domain does. (DESIGN CHOICE, notes/assumptions 165) -/
def execTokenIssue (s : State) : Host.Outcome State Fault Refusal :=
  if s.budget == 0 || s.now < s.jrnl.tokenAt then .next s
  else .next (s.mapJrnl (fun j => { j with tokens := min (j.tokens + 1) 8, tokenAt := s.now + sec 1 / s.budget }))

/-- Whether the oldest uncommitted entry took effect longer ago than FLUSH_AGE; a sequence lost from the ring is older than all. -/
def State.overAge (s : State) : Bool :=
  0 < s.jrnl.waiting && (match s.jrnl.ringAt s.jrnl.seqCommit with
    | some e => decide (e.tookAt + s.flushAge < s.moonEdge)
    | none => true)

/-- FLUSH_AGE_EXPIRY (R47): the age is timed on the moon clock. -/
def execFlushAgeExpiry (s : State) : Host.Outcome State Fault Refusal :=
  if s.overAge then .next (s.mapJrnl (fun j => { j with aged := true })) else .next s

/-- Whether a page is to be committed now (R47, R417): a token, a BUDGET, the NVM and the sequencer in service, and a reason. (DEDUCED, notes/assumptions 77) -/
def State.commitDue (s : State) : Bool :=
  decide (0 < s.jrnl.tokens) && s.budget != 0 && s.nvmReady && !s.fenced (.dev .job) && decide (0 < s.jrnl.waiting)
    && (decide (64 ≤ s.jrnl.waiting) || s.jrnl.aged || s.bit Reg.jrnlCommitCtrl 31)

/-! ### A commit (R47, R48, R414) -/

/-- A gap record is written (R48): its entry, INT_STATUS.GAP, and JRNL_GAP of both ports (R58). -/
def State.gapEntry (s : State) (q k : Word) : State :=
  let s := (s.jAppend (originCode .device) fGap 0x2000 q k).intr (.dev .jrnl) 0
  let mark (x : Port) : Port := { x with gap := true, gapAt := s.now }
  { s with host := { s.host with hsa := mark s.host.hsa, hsb := mark s.host.hsb } }

/-- A gap record for k sequences lost from q on (R48): the commit resumes after them. (DESIGN CHOICE, notes/assumptions 147) -/
def State.gapRecord (s : State) (q : Word) (k : Nat) : State :=
  let s := s.gapEntry q (BitVec.ofNat 32 k)
  s.mapJrnl (fun j => { j with gapTotal := BitVec.ofNat 32 (min (j.gapTotal.toNat + k) (2 ^ 32 - 1)), seqCommit := q + BitVec.ofNat 32 k })

/-- The oldest sequence the ring holds once one more entry is in it: a full ring loses its oldest to the gap record itself. (DESIGN CHOICE, notes/assumptions 147) -/
def Jrnl.oldestNext (j : Jrnl) : Word := if ringSize ≤ j.ring.length then j.oldest + 1 else j.oldest

/-- Entries that the ring has lost before their commit are recorded by a gap record, and the commit resumes at the oldest entry that the ring then holds (R48). -/
def State.gapsBefore (s : State) : State :=
  let c := s.jrnl.seqCommit
  match s.jrnl.ringAt c with
  | some e => if e.bad then s.gapRecord c 1 else s
  | none => if s.jrnl.waiting == 0 then s else s.gapRecord c (s.jrnl.oldestNext - c).toNat

/-- The next k entries from the commit sequence on, up to one that cannot be read. -/
def Jrnl.toCommit (j : Jrnl) : Nat → Word → List RingEntry
  | 0, _ => []
  | k + 1, q =>
    match j.ringAt q with
    | some e => if e.bad then [] else e :: j.toCommit k (q + 1)
    | none => []

/-- Whether an archive page is available: its sector is not fenced (15 Table 8). -/
def State.pageFree (s : State) (p : Nat) : Bool := !s.sectFenced (p / 2)

/-- The next available page after one, in rotation; the same one where none is. (DEDUCED, notes/assumptions 75) -/
def State.pageAfter (s : State) (p : Nat) : Nat :=
  (((List.range 128).map (fun i => (p + 1 + i) % 128)).find? s.pageFree).getD p

/-- One archive page is written (R47): the entries it holds from a partial commit stay, the next ones follow, the rest is erased; a full page moves the rotation on. FLUSH is done once nothing waits. (DEDUCED, notes/assumptions 75) -/
def State.commitPage (s : State) : State :=
  let s := s.gapsBefore
  let p := if s.pageFree s.jrnl.nextPage then s.jrnl.nextPage else s.pageAfter s.jrnl.nextPage
  let fill := if p == s.jrnl.nextPage then s.jrnl.pageFill else 0
  let es := s.jrnl.toCommit (64 - fill) s.jrnl.seqCommit
  let a := areaJournal + 2048 * p
  let body := s.nvm.bytes a (32 * fill) ++ es.flatMap (fun e => e.e.bytes)
  let s := s.program a (body ++ List.replicate (2048 - body.length) erased)
  let fill := fill + es.length
  let full := decide (64 ≤ fill)
  let s := s.mapJrnl (fun j => { j with
    seqCommit := j.seqCommit + BitVec.ofNat 32 es.length
    tokens := j.tokens - 1
    nextPage := p
    pageFill := if full then 0 else fill })
  let s := if full then s.mapJrnl (fun j => { j with nextPage := s.pageAfter p }) else s
  let s := s.mapJrnl (fun j => { j with aged := s.overAge })
  s.when (s.jrnl.waiting == 0) (fun s => s.setBit Reg.jrnlCommitCtrl 31 false)

/-- A device-started commit in a device slot does its page: the job is done; with no token, or with BUDGET = 0, no page is written (R47). -/
def State.journalJob (s : State) (k : Fin 8) : State :=
  let s := if 0 < s.jrnl.tokens && s.budget != 0 then s.commitPage else s
  s.endJob k .done 0

/-- The device slot whose running job has a type and an argument. -/
def State.devRunning (s : State) (typ : Byte) (arg0 : Word) : Option (Fin 8) :=
  ([6, 7] : List (Fin 8)).find? (fun k => (s.slot k).st == .run && (s.slot k).typ == typ && (s.slot k).arg0 == arg0)

/-- JOURNAL_COMMIT (R47, R51): the device starts its commit job, which writes one page; it waits its turn where both device slots are busy. (DESIGN CHOICE, notes/assumptions 78) -/
def execJournalCommit (s : State) : Host.Outcome State Fault Refusal :=
  if s.commitDue && !s.devHas 3 0 argJournal then
    let s := s.devRequest 3 0 argJournal
    match s.devRunning 3 argJournal with
    | some k => .next (s.takeStep k (fun s => s.journalJob k))
    | none => .next s
  else .next s

/-! ### Reading (R49) -/

/-- ENTRY words and RD_STATUS of an entry, or of none. -/
def State.showEntry (s : State) (e : Option (BitVec 256)) : State :=
  let v := e.getD 0
  let s := (List.range 8).foldl (fun (s : State) k => s.setReg (Reg.jrnlEntryW k) (BitVec.truncate 32 (v >>> (224 - 32 * k)))) s
  s.setReg Reg.jrnlRdStatus (BitVec.ofNat 32 (b2n e.isSome))

/-- The bits of an archive entry slot. -/
def State.archiveAt (s : State) (page e : Nat) : BitVec 256 := BitVec.ofNat 256 (s.nvm.num (areaJournal + 32 * (64 * page + e)) 32)

/-- The archive's pages, the one written most recently first, back in rotation from NEXT_PAGE. (DEDUCED, notes/assumptions 76) -/
def State.archivePages (s : State) : List Nat :=
  let p := s.jrnl.nextPage
  let back := (List.range 127).map (fun i => (p + 127 - i) % 128)
  (if 0 < s.jrnl.pageFill then p :: back else back ++ [p]).filter s.pageFree

/-- Whether the bits are an entry of a sequence: not an empty slot. -/
def isEntry (q : Word) (b : BitVec 256) : Bool := b != BitVec.allOnes 256 && BitVec.truncate 32 (b >>> 144) == q

/-- The archive's newest copy of a sequence. (DEDUCED, notes/assumptions 76) -/
def State.archiveFind (s : State) (q : Word) : Option (BitVec 256) :=
  s.archivePages.findSome? (fun p => ((List.range 64).map (fun e => s.archiveAt p e)).find? (isEntry q))

/-- The ENTRY words are loaded for RD_SEQ (R49): from the ring at once, from the archive by a fetch of up to 4 µs. -/
def State.loadEntry (s : State) : State :=
  let q := s.reg Reg.jrnlRdSeq
  let s := s.mapJrnl (fun j => { j with fetch := none })
  if s.bit Reg.jrnlRdCtrl 0 then
    if s.nvmReady then
      ((s.showEntry none).setReg Reg.jrnlRdStatus 2).mapJrnl (fun j => { j with fetch := some (q, s.now + us 4) })
    else s.showEntry none
  else
    match s.jrnl.ringAt q with
    | some e => s.showEntry (if e.bad then none else some e.e.word)
    | none => s.showEntry none

/-- ARCHIVE_FETCH_DONE (R49); where the NVM has left service meanwhile, the fetch has ended with nothing. (DESIGN CHOICE, notes/assumptions 10) -/
def execArchiveFetchDone (s : State) : Host.Outcome State Fault Refusal :=
  match s.jrnl.fetch with
  | some (q, _) =>
    let s := s.mapJrnl (fun j => { j with fetch := none })
    .next (s.showEntry (if s.nvmReady then s.archiveFind q else none))
  | none => .next s

/-- A read of ENTRY_W7 with VALID = 1 (R49): RD_SEQ advances without a write, and the next entry loads. -/
def State.nextEntry (s : State) : State :=
  if s.bit Reg.jrnlRdStatus 0 then (s.setReg Reg.jrnlRdSeq (s.reg Reg.jrnlRdSeq + 1)).loadEntry else s

/-! ### At a start after a loss of the ring (R46) -/

/-- The newest of all archive entries under R43, with its page: on a tie the lower page. (DEDUCED, notes/assumptions 76) -/
def State.newestArchived (s : State) : Option (Word × Nat) :=
  ((List.range 128).filter s.pageFree).foldl (fun o p =>
    ((List.range 64).map (fun e => s.archiveAt p e)).foldl (fun (o : Option (Word × Nat)) b =>
      if b == BitVec.allOnes 256 then o
      else
        let q : Word := BitVec.truncate 32 (b >>> 144)
        match o with
        | none => some (q, p)
        | some x => let d := (q - x.1).toNat; if 1 ≤ d && d < 2 ^ 31 then some (q, p) else o) o) none

/-- The journal of a start whose ring was lost (R46): an empty ring that continues after the archive's newest sequence, at the page that follows it, with the gap record of an unknown count. -/
def State.newRing (s : State) : State :=
  let x := s.newestArchived
  let q : Word := match x with | some y => y.1 + 1 | none => 0
  let p := match x with | some y => s.pageAfter y.2 | none => (((List.range 128).find? s.pageFree).getD 0)
  let s := { s with jrnl := { seqNext := q, seqCommit := q, nextPage := p } }
  s.gapEntry q 0xFFFFFFFF

end Sys2Proof.Machine
end

