-- ==== Sys2Proof/Machine/Live.lean ====
section
/-! DEFINITION. Channel status that follows from other state, brought into its moon-copied registers before the copies are taken (R34, R145, R152, R220, R235, R236). -/

namespace Sys2Proof.Machine

/-- A loopback acts: a near-end one while the line is ready, a far-end one while the link is up in a mode that has it (R235). (DEDUCED, notes/assumptions 141) -/
def State.lbActive (s : State) (n : Ch) : Bool := (s.nearLb n && s.lineReady n) || s.farLb n

/-- A pattern is sent: while the line is ready (R236). (DEDUCED, notes/assumptions 141) -/
def State.tpActive (s : State) (n : Ch) : Bool := s.pattern n != 0 && s.lineReady n

/-- EC_TAP brought to the selected tap (06 Table 12). -/
def State.showTap (s : State) (n : Ch) : State :=
  let k := min (s.fld (Reg.eqEcSel n) 11 0) 3071
  s.setReg (Reg.eqEcTap n) (BitVec.ofNat 32 (twos 16 (Store.get (fun _ => 0) (s.chan n).rx.ec k)))

/-- SLICE_CORR brought to the selected slice's correction (06 Table 9). -/
def State.showCorr (s : State) (n : Ch) : State :=
  let x := s.sliceCorr n (min (s.fld (Reg.afeSliceSel n) 5 0) 35)
  s.setReg (Reg.afeSliceCorr n) (BitVec.ofNat 32 (twos 16 x.1.floor * 2 ^ 16 + twos 16 x.2.floor))

/-- The registers of a channel that show other state, in the domains that are ON. -/
def State.showCh (s : State) (n : Ch) : State :=
  let c := s.chan n
  let s := s.when (c.dsp.eff == .on) (fun s =>
    let s := (s.showTap n).setFld (Reg.diagMapK0 n) 15 0 (s.trimK0 n).1
    (s.setBit (Reg.diagLbStatus n) 31 (s.lbActive n)).setBit (Reg.diagLbStatus n) 30 (s.tpActive n))
  s.when (c.afe.eff == .on) (fun s => s.showCorr n)

/-- As showCh, for every channel. -/
def State.showLive (s : State) : State := s.forCh (fun n s => s.showCh n)

end Sys2Proof.Machine
end

