-- ==== Sys2Proof/Machine/Servo.lean ====
section
/-! DEFINITION. The servo of a group, redundant sources and the PPS pins (R253 to R263). -/

namespace Sys2Proof.Machine

/-! ### The servo (R255, R256) -/

/-- BW as it acts, in 0.1 Hz; 1 with a PPS source (R255). -/
def State.bwServo (s : State) (g : Tg) : Nat :=
  if s.srcKind g == 2 then 1 else max 1 (min (s.fld (Reg.tkGrpServo g.val) 13 0) 10000)

/-- The update period in ns: 64 µs with channels, 1 s with PPS. -/
def State.tu (s : State) (g : Tg) : Nat := if s.srcKind g == 2 then 1000000000 else 64000

/-- kp and ki of the servo (R255): with ω = 2π B / 2.482, B in Hz, they are 2 ω T_u and (ω T_u)². (DESIGN CHOICE, notes/assumptions 21) -/
def servoGains (bw tu : Nat) : Rat × Rat :=
  let w := twoPi * ((bw : Rat) / 10) / (2482 / 1000) * ((tu : Rat) / 1000000000)
  (2 * w, w * w)

/-- The limit of ±200 ppm. -/
def rateMax : Rat := 200 / 1000000

/-- One update of integrator and output with an input in ns, taken in units of the update period; a clamped output undoes the integrator's change (R255). (DESIGN CHOICE, notes/assumptions 21) -/
def servoLoop (kp ki i e tu : Rat) : Rat × Rat :=
  let i' := i + ki * (e / tu)
  let y := kp * (e / tu) + i'
  if rateMax < y then (i, rateMax) else if y < -rateMax then (i, -rateMax) else (i', y)

/-- Whether R256 lets the servo step by its input. -/
def State.mayStep (s : State) (g : Tg) (e : Rat) : Bool :=
  let x := s.group g
  let mode := let m := bits x.src 15 14; if m == 3 then 0 else m
  let big := decide ((max 1 (s.fld (Reg.tkGrpStepTh g.val) 31 0) : Rat) < absR e)
  s.grpState g == 2 && ((x.fresh && x.fromUnset) || (big && (mode == 1 || (mode == 0 && x.fresh))))

/-- The input of an update: the mean of the selected channel's estimates of the window, or the pulse's offset; none without a new estimate or while a discrepancy run counts (R255, R259). (DEDUCED, notes/assumptions 114) -/
def State.servoInput (s : State) (g : Tg) : Option Rat :=
  let sel := s.fld (Reg.tkGrpState g.val) 5 4
  let run := s.fld (Reg.tkGrpSrcStatus g.val) 31 12
  let chan (n : Ch) : Option Rat := let w := (s.chan n).ktl.window; if w.isEmpty then none else some (meanR w)
  let pps (k : Fin 2) : Option Rat := if (s.group g).pps[k].seen then some (s.group g).pps[k].theta else none
  if run != 0 then none
  else match s.srcChans g, s.srcPps g, sel with
    | some (p, _), _, 1 => chan p
    | some (_, some q), _, 2 => chan q
    | none, some (p, _), 1 => pps p
    | none, some (_, some q), 2 => pps q
    | _, _, _ => none

/-- The window of estimates and pulses that an update has taken is emptied. -/
def State.clearWindow (s : State) (g : Tg) : State :=
  let s := s.forCh (fun n s => if s.tgOf n == g then s.mapKtl n (fun k => { k with window := [] }) else s)
  s.mapGroup g (fun x => { x with pps := x.pps.map (fun p => { p with seen := false }) })

/-- Lock judged after an update (09 Table 3): 64 inputs in a row within LOCK_TH, or an input beyond STEP_TH while locked. No group reaches LOCKED while the island runs on TKR (R316, R446). -/
def State.judgeLock (s : State) (g : Tg) (e : Rat) : State :=
  let st := s.grpState g
  let sel := s.fld (Reg.tkGrpState g.val) 5 4
  if st == 2 then
    let ok := decide (absR e * 1000 ≤ (s.fld (Reg.tkGrpServo g.val) 31 16 : Rat))
    let run := if ok then (s.group g).lockRun + 1 else 0
    let s := s.mapGroup g (fun x => { x with lockRun := run })
    if 64 ≤ run && s.bit Reg.tkTkStatus 30 then s.enterGrp g 3 sel else s
  else if st == 3 && decide ((max 1 (s.fld (Reg.tkGrpStepTh g.val) 31 0) : Rat) < absR e) then s.enterGrp g 2 sel
  else s

/-- The servo steers, or steps, by an input (R255, R256). (DEDUCED, notes/assumptions 118) -/
def State.steer (s : State) (g : Tg) (e : Rat) : State :=
  let ps := max (-(2 ^ 31)) (min (roundInt (e * 1000)) (2 ^ 31 - 1))
  let s := s.setReg (Reg.tkGrpOffsetIn g.val) (BitVec.ofInt 32 ps)
  let step := s.mayStep g e
  let x := s.group g
  let k := servoGains (s.bwServo g) (s.tu g)
  let r := servoLoop k.1 k.2 x.i e (s.tu g : Rat)
  let s := if step then
      (s.mapGroup g (fun x => { x with y := x.i, ys := (x.i :: x.ys).take 1024, fresh := false })).stepTime g (-e)
    else s.mapGroup g (fun x => { x with i := r.1, y := r.2, ys := (r.2 :: x.ys).take 1024, fresh := false })
  (s.showRate g).judgeLock g e

/-- Whether an instant of the grid with this period in ns has come in group time since another. -/
def gridPast (period : Nat) (since now : Rat) : Bool := (since / period).floor != (now / period).floor

/-- Whether an update of a group's servo falls now (R255): every 64 µs of group time; with a PPS source at each accepted pulse, and without pulses once a second, so that a new configuration can take effect; one put off by a time operation falls on the next TPLL cycle (R315). (DEDUCED, notes/assumptions 114) -/
def State.updateDue (s : State) (g : Tg) : Bool :=
  let x := s.group g
  if let some (t, _) := x.owed then decide (t < s.now)
  else if s.srcKind g == 2 then x.pps[0].seen || x.pps[1].seen || gridPast 1000000000 x.updAt x.ts else gridPast 64000 x.updAt x.ts

/-- The source configuration written since takes effect, and selection and state follow (R253, R254). -/
def State.takeSrc (s : State) (g : Tg) : State := (s.mapGroup g (fun x => { x with src := s.reg (Reg.tkGrpSrcCtrl g.val) })).settleGroup g

/-- The input that an update now would have: the one it already had where it was put off (R315). (DEDUCED, notes/assumptions 114) -/
def State.updateInput (s : State) (g : Tg) : Option Rat :=
  match (s.group g).owed with
  | some (_, e) => e
  | none => (s.takeSrc g).servoInput g

/-- SERVO_UPDATE (R253 to R258): at its instant, the source configuration written since takes effect, selection and state follow, and in ACQUIRE and LOCKED the servo takes its input. -/
def execServoUpdate (g : Tg) (s : State) : Host.Outcome State Fault Refusal :=
  if !s.updateDue g then .next s
  else
  let e := s.updateInput g
  let s := (s.mapGroup g (fun x => { x with updAt := x.ts, owed := none })).takeSrc g
  let s := s.forCh (fun n s => if s.tgOf n == g then (s.showNu n).showLoop n else s)
  let s := s.clearWindow g
  match e, s.grpState g == 2 || s.grpState g == 3 with
  | some e, true => .next (s.steer g e)
  | _, _ => .next s

/-! ### Discrepancy (R259, R260) -/

/-- N of R259. -/
def State.discN (s : State) (g : Tg) : Nat := max 1 (min (s.fld (Reg.tkGrpDiscTime g.val) 19 0) 1000000)

/-- The threshold in ps. -/
def State.discTh (s : State) (g : Tg) : Nat :=
  if s.srcKind g == 2 then s.fld (Reg.tkGrpDiscThPps g.val) 31 0 else s.fld (Reg.tkGrpDiscThCh g.val) 31 0

/-- A discrepancy declared (R260): each source judged by its own θ. -/
def State.declare (s : State) (g : Tg) : State :=
  let t := s.thetas g
  let th : Rat := s.discTh g
  let sp := decide (absR t.1 * 2000 ≤ th)
  let sq := decide (absR t.2 * 2000 ≤ th)
  let both := sp == sq
  let f := 1 + b2n both * 2 + b2n (both || !sp) * 4 + b2n (both || !sq) * 8
  let s := (s.sat (Reg.tkGrpCounts g.val) 31 20 1).setGrp g (withBits (s.reg (Reg.tkGrpState g.val)) 11 8 f)
  ((s.mapGroup g (fun x => { x with agree := 0 })).intr (.dev .tk) (13 + 4 * g.val)).settleGroup g

/-- Whether a comparison tick of a group falls now (R259): at every whole µs of group time; with PPS sources at every accepted pulse pair. -/
def State.tickDue (s : State) (g : Tg) : Bool :=
  let x := s.group g
  if s.srcKind g == 2 then x.pps[0].cmp && x.pps[1].cmp else gridPast 1000 x.tickAt x.ts

/-- The run count c of a group after a tick (R259): it goes on past N while the disagreement lasts, and RUN_LEN holds at its end. (DEDUCED, notes/assumptions 116) -/
def nextRun (c : Nat) (disagree : Bool) : Nat := if disagree then min (c + 1) (2 ^ 20 - 1) else 0

/-- DISCREPANCY_TICK (R259, R260): a comparison tick of a group at its instant: the run count moves, its Nth tick declares a discrepancy, a shorter run that ends in agreement is a near miss; while a discrepancy is declared, agreement is counted, and N ticks of it clear it. (DEDUCED, notes/assumptions 116) -/
def execDiscrepancyTick (g : Tg) (s : State) : Host.Outcome State Fault Refusal :=
  if !s.tickDue g then .next s
  else
  let s := s.mapGroup g (fun x => { x with tickAt := x.ts, pps := x.pps.map (fun p => { p with cmp := false }) })
  let u := s.usable g
  let t := s.thetas g
  let dis := decide ((s.discTh g : Rat) < absR (t.1 - t.2) * 1000)
  let both := u.1 && u.2
  let a := Reg.tkGrpSrcStatus g.val
  let c := s.fld a 31 12
  let n := s.discN g
  let c' := nextRun c (both && dis)
  let s := (s.setFld a 1 0 (b2n u.2 * 2 + b2n u.1)).setFld a 31 12 c'
  let s := s.when (both && !dis && decide (1 ≤ c ∧ c ≤ n - 1)) (fun s => s.satInt (Reg.tkGrpNearMiss g.val) 1 (.dev .tk) (14 + 4 * g.val))
  let k := if s.bit (Reg.tkGrpState g.val) 8 && both && !dis then (s.group g).agree + 1 else 0
  let s := s.mapGroup g (fun x => { x with agree := k })
  if both && dis && c + 1 == n then .next (s.declare g)
  else if n ≤ k then .next ((s.clearDisc g).settleGroup g)
  else .next (s.settleGroup g)

/-! ### PPS inputs (R261, R262) -/

/-- OFS of an input in ns. -/
def State.ppsOfs (s : State) (k : Fin 2) : Rat :=
  (s.sfld (if k == 0 then Reg.trigPpsIn0Ofs else Reg.trigPpsIn1Ofs) 31 0 : Rat) / 1000

/-- Group whose captures the registers show. -/
def State.viewGrp (s : State) : Tg := Fin.ofNat 4 (s.fld Reg.trigPpsInCtrl 13 12)

/-- NS, FRAC and validity of both inputs shown for the selected group (09 Table 10). -/
def State.showPps (s : State) : State :=
  let x := s.group s.viewGrp
  let t0 := timeParts x.pps[0].raw
  let t1 := timeParts x.pps[1].raw
  let s := (s.setReg Reg.trigPpsIn0Ns (BitVec.ofNat 32 t0.2.1)).setFld Reg.trigPpsIn0Fc 31 16 t0.2.2
  let s := (s.setReg Reg.trigPpsIn1Ns (BitVec.ofNat 32 t1.2.1)).setFld Reg.trigPpsIn1Fc 31 16 t1.2.2
  s.setFld Reg.trigPpsStatus 1 0 (b2n x.pps[1].valid * 2 + b2n x.pps[0].valid)

/-- A missed pulse counted (R262). -/
def State.ppsMiss (s : State) (k : Fin 2) : State :=
  if k == 0 then s.fldInt Reg.trigPpsMiss 15 0 (.dev .trig) 26 else s.fldInt Reg.trigPpsMiss 31 16 (.dev .trig) 26

/-- One capture judged against a group's time (R262): valid after two pulses spaced 1 s ± 1 ms. -/
def ppsTake (p : PpsCap) (raw ofs : Rat) : PpsCap :=
  let t := raw - ofs
  let ok := match p.last with
    | some l => decide (absR (t - l - 1000000000) ≤ 1000000)
    | none => false
  let theta := t - (roundInt (t / 1000000000) : Rat) * 1000000000
  { raw := raw, last := some t, theta := if ok then theta else p.theta, valid := ok, seen := ok, cmp := ok }

/-- Whether an edge on a PPS input is captured: the input enabled, the edge the selected one, the page not fenced, and a group whose source is PPS (R261). (DEDUCED, notes/assumptions 120) -/
def State.ppsCaptures (s : State) (k : Fin 2) (falling : Bool) : Bool :=
  s.bit Reg.trigPpsInCtrl k.val && s.bit Reg.trigPpsInCtrl (8 + k.val) == falling && !s.fenced (.dev .trig)
    && allTg.any (fun g => s.srcKind g == 2)

/-- PPS_IN_PULSE (R261, R262): an edge on an input, falling or rising, late ps before now, captured in each group whose source is PPS. (DEDUCED, notes/assumptions 120) -/
def execPpsInPulse (k : Fin 2) (falling : Bool) (late : Nat) (s : State) : Host.Outcome State Fault Refusal :=
  if s.ppsCaptures k falling then
    let ofs := s.ppsOfs k
    let missed := allTg.any (fun g => let p := (s.group g).pps[k]; s.srcKind g == 2 && p.last.isSome && !(ppsTake p (s.timeAgo g late) ofs).valid)
    let s := s.forTg (fun g s => s.when (s.srcKind g == 2) (fun s => s.mapGroup g (fun x =>
      { x with pps := x.pps.set k.val (ppsTake x.pps[k] (s.timeAgo g late) ofs) })))
    let s := if missed then s.ppsMiss k else s
    let s := s.wrap (if k == 0 then Reg.trigPpsIn0Fc else Reg.trigPpsIn1Fc) 15 0 1
    .next ((s.showPps.intr (.dev .trig) (24 + k.val)).forTg (fun g s => if s.srcKind g == 2 then s.settleGroup g else s))
  else .next s

/-- An input of a group is overdue: 1.1 s of its time since the last pulse. -/
def State.ppsLate (s : State) (k : Fin 2) (g : Tg) : Bool :=
  match (s.group g).pps[k].last with
  | some l => decide (1100000000 < (s.group g).ts - s.ppsOfs k - l)
  | none => false

/-- PPS_IN_TIMEOUT (R262): no pulse within 1.1 s of the previous one. (DEDUCED, notes/assumptions 120) -/
def execPpsInTimeout (k : Fin 2) (s : State) : Host.Outcome State Fault Refusal :=
  if allTg.any (s.ppsLate k) then
    let s' := s.forTg (fun g t => t.when (s.ppsLate k g) (fun t => t.mapGroup g (fun x =>
      { x with pps := x.pps.set k.val { x.pps[k] with last := none, valid := false, seen := false, cmp := false } })))
    .next ((s'.ppsMiss k).showPps.forTg (fun g s => if s.srcKind g == 2 then s.settleGroup g else s))
  else .next s

/-! ### PPS output (R263) -/

/-- Whether a pulse may rise: PPS_OUT may be high, and 500 ms have passed since the last rise. -/
def State.ppsMay (s : State) : Bool := s.ppsOn && (match s.trig.ppsRise with | some t => decide (t + ms 500 ≤ s.now) | none => true)

/-- Whether a group's time, with the board delay, stands at a whole second: within the 2 ns of one TPLL cycle after it. (DESIGN CHOICE, notes/assumptions 121) -/
def State.ppsDue (s : State) : Bool :=
  let g : Tg := Fin.ofNat 4 (s.fld Reg.trigPpsOutCtrl 5 4)
  let t := (s.group g).ts + (s.sfld Reg.trigPpsOutDly 31 0 : Rat) / 1000
  decide (t - ((t / 1000000000).floor : Rat) * 1000000000 < 2)

/-- WIDTH_US as it acts. -/
def State.ppsWidth (s : State) : Nat := max 1 (min (s.fld Reg.trigPpsOutCtrl 31 12) 999999)

/-- PPS_OUT_PULSE (R263): the whole second of the selected group's time, less PPS_OUT_DLY. -/
def execPpsOutPulse (s : State) : Host.Outcome State Fault Refusal :=
  if s.ppsDue && s.bit Reg.trigPpsOutCtrl 0 then
    if s.ppsMay then
      .next ({ s with trig := { s.trig with ppsHigh := true, ppsRise := some s.now, ppsEnd := s.now + us s.ppsWidth } }.setBit Reg.trigPpsStatus 2 true)
    else .next (s.setBit Reg.trigPpsStatus 2 false)
  else .next s

/-- PPS_OUT_PULSE_END (R263): WIDTH_US after the rise. -/
def execPpsOutPulseEnd (s : State) : Host.Outcome State Fault Refusal :=
  if s.trig.ppsHigh && s.trig.ppsEnd ≤ s.now then .next { s with trig := { s.trig with ppsHigh := false } } else .next s

end Sys2Proof.Machine
end

