-- ==== Sys2Proof/Machine/Tk.lean ====
section
/-! DEFINITION. The timekeeper: the timescales, setting the time, TKX and coasting, leap seconds and the calendar (R312 to R325, R341). -/

namespace Sys2Proof.Machine

/-! ### The timescales (R312) -/

/-- The timekeeper's state changed. -/
def State.mapTk (s : State) (f : Tk → Tk) : State := { s with tk := f s.tk }

/-- A bit of TK.INT_STATUS. -/
def State.tkInt (s : State) (i : Nat) : State := s.intr (.dev .tk) i

/-- c of R312: TKX_CORR, at most ±10^−4. -/
def State.tkxCorr (s : State) : Rat := pico (max (-100000000) (min (s.sfld Reg.tkTkxCorr 31 0) 100000000))

/-- TK_STATUS.COAST. -/
def State.coasting (s : State) : Bool := s.bit Reg.tkTkStatus 29
/-- TK_STATUS.TKX_OK. -/
def State.tkxOk (s : State) : Bool := s.bit Reg.tkTkStatus 31

/-- What one TPLL cycle adds to a timescale (R312). -/
def State.cycleIn (s : State) (x : Group) : Rat := s.tk.inc * (1 - x.y) / (1 + s.tkxCorr)
/-- What one TPLL cycle adds to the timescale of a group. -/
def State.cycleOf (s : State) (g : Tg) : Rat := s.cycleIn (s.group g)

/-- One TPLL cycle of the timescales (R312). -/
def State.advance (s : State) : State :=
  if s.tk.running then { s with groups := s.groups.map (fun x => { x with ts := x.ts + s.cycleIn x }) }
  else s

/-! ### Captures (R313) -/

/-- A write of CAP_CTRL with REQ = 1 has taken effect: it asks for a capture, or joins the one that waits. -/
def State.capAsked (s : State) (d : Word) : State := s.when (d.getLsbD 0) (fun s => s.mapTk (fun t => { t with capReq := some (t.capReq.getD s.now) }))

/-- Whether a capture waits and a TPLL cycle has passed since its request. -/
def State.capRipe (s : State) : Bool := match s.tk.capReq with | some t => decide (t < s.now) | none => false

/-- TIME_CAPTURE (R313): the first TPLL cycle after the request. -/
def execTimeCapture (s : State) : Host.Outcome State Fault Refusal :=
  if s.capRipe then
    let one (g : Tg) (s : State) : State :=
      let t := s.timeOf g
      ((s.setReg (Reg.tkCapSecLo g.val) (BitVec.ofNat 32 t.1)).setReg (Reg.tkCapSecHi g.val)
        (BitVec.ofNat 32 (t.2.2 * 65536 + t.1 / 2 ^ 32))).setReg (Reg.tkCapNs g.val) (BitVec.ofNat 32 t.2.1)
    let s := s.forTg one
    .next (((s.wrap Reg.tkCapCtrl 31 16 1).tkInt 8).mapTk (fun t => { t with capReq := none }))
  else .next s

/-! ### Setting the time (R314, R315) -/

/-- The staged seconds. -/
def State.stagedSec (s : State) : Nat := s.fld Reg.tkSetSecLo 31 0 + s.fld Reg.tkSetSecHi 15 0 * 2 ^ 32

/-- The staged time below a second, in ns. -/
def State.stagedSub (s : State) : Rat := (s.fld Reg.tkSetNs 31 0 : Rat) + (s.fld Reg.tkSetSecHi 31 16 : Rat) / 65536

/-- Group time that an operation leads to: 1 SET, 2 STEP, 3 SET_SEC (11 Table 1). -/
def State.timeAfter (s : State) (g : Tg) (op : Nat) : Rat :=
  let t := (s.group g).ts
  match op with
  | 1 => (s.stagedSec : Rat) * 1000000000 + s.stagedSub
  | 2 => t + (s.stagedSec : Rat) * 1000000000 - (if 2 ^ 47 ≤ s.stagedSec then (2 ^ 48 * 1000000000 : Rat) else 0) + s.stagedSub
  | 3 => t - ((t / 1000000000).floor : Rat) * 1000000000 + (s.stagedSec : Rat) * 1000000000
  | _ => t

/-- Whether the device refuses an operation (R314). (DEDUCED, notes/assumptions 131) -/
def State.timeRefused (s : State) (g : Tg) (op : Nat) : Bool :=
  op != 0 && ((s.srcKind g == 1 && (s.grpState g == 2 || s.grpState g == 3))
    || ((op == 1 || op == 2) && decide (999999999 < s.fld Reg.tkSetNs 31 0))
    || decide (s.timeAfter g op < 0))

/-- A refused operation shown. -/
def State.timeTurned (s : State) : State := (s.setBit Reg.tkSetStatus 31 true).tkInt 7

/-! ### Leap seconds (R320 to R322) -/

/-- The calendar's group. -/
def State.calGrp (s : State) : Tg := Fin.ofNat 4 (s.fld Reg.tkCalCtrl 5 4)

/-- Whole TAI seconds of the calendar group's time. -/
def State.calSec (s : State) : Int := ((s.group s.calGrp).ts / 1000000000).floor

/-- The loaded table is valid: it holds 1 to 200 entries. -/
def State.leapValid (s : State) : Bool := !s.tk.leap.isEmpty

/-- The offset in force at a TAI second: that of the last entry not after it; none before the first. -/
def leapAt (l : List (Nat × Int)) (t : Int) : Option Int := ((l.filter (fun e => (e.1 : Int) ≤ t)).getLast?).map (·.2)

/-- The first entry after a TAI second. -/
def leapNext (l : List (Nat × Int)) (t : Int) : Option (Nat × Int) := l.find? (fun e => t < (e.1 : Int))

/-- TAI_UTC.OFS. -/
def State.taiOfs (s : State) : Int := s.sfld Reg.tkTaiUtc 15 0

/-- Whether the second t is an inserted leap second (R320). -/
def leapIn (l : List (Nat × Int)) (t : Int) : Bool :=
  match leapAt l t, leapNext l t with
  | some n, some (a, m) => t == (a : Int) - 1 && m == n + 1
  | _, _ => false

/-- UTC seconds of a TAI second; an inserted leap second counts as the second before it (R320). -/
def State.utc (s : State) (t : Int) : Int :=
  match leapAt s.tk.leap t with
  | none => t - s.taiOfs
  | some n => t - n - (if leapIn s.tk.leap t then 1 else 0)

/-- TAI_UTC, NEXT_LEAP, LEAP_STATUS and EXPIRY brought to the table and to the calendar group's time; a new offset in force is written by origin 0x20 (R320, R322). (DEDUCED, notes/assumptions 131) -/
def State.showLeap (s : State) : State :=
  let t := s.calSec
  let l := s.tk.leap
  let v := s.leapValid
  let s := s.setBit Reg.tkTaiUtc 31 (!v)
  let s := match leapAt l t with
    | some n => if v && n != s.taiOfs then (s.devFld Reg.tkTaiUtc 15 0 (twos 16 n)).tkInt 6 else s
    | none => s
  let nx := (leapNext l t).getD (0, 0)
  let past : Bool := s.tk.leapExp != 0 && decide ((s.tk.leapExp : Rat) * 1000000000 < (s.group s.calGrp).ts)
  let s := (s.setReg Reg.tkNextLeapLo (BitVec.ofNat 32 nx.1)).setReg Reg.tkNextLeapHi (BitVec.ofNat 32 (twos 16 nx.2 * 65536 + nx.1 / 2 ^ 32))
  let s := s.setReg Reg.tkLeapStatus (BitVec.ofNat 32 (b2n v * 2 ^ 31 + b2n past * 2 ^ 30 + b2n (leapIn l t) * 2 ^ 29 + l.length))
  (s.setReg Reg.tkExpiryLo (BitVec.ofNat 32 s.tk.leapExp)).setReg Reg.tkExpiryHi (BitVec.ofNat 32 (s.tk.leapExp / 2 ^ 32))

/-- An accepted operation is a step of the timescale (R315): LAST_STEP, DONE_COUNT, SEC_SET, and a group in UNSET without a source enters FREE; a servo update due on its cycle is put off with the input it has. -/
def State.timeDone (s : State) (g : Tg) (op : Nat) : State :=
  if op == 0 then s
  else
    let d := s.timeAfter g op - (s.group g).ts
    let s := s.when (s.updateDue g) (fun t => t.mapGroup g (fun x => { x with owed := some (s.now, s.updateInput g) }))
    let s := ((s.setBit Reg.tkSetStatus 31 false).wrap Reg.tkSetStatus 15 0 1).tkInt 7
    ((s.setBit (Reg.tkGrpTstat g.val) 0 true).stepTime g d).settleGroup g |>.showLeap

/-- The staged leap seconds and offset. -/
def State.leapArg (s : State) : Nat × Int :=
  (s.fld Reg.tkLeapArgLo 31 0 + s.fld Reg.tkLeapArgHi 15 0 * 2 ^ 32, s.sfld Reg.tkLeapArgHi 31 16)

/-- An entry put in order, or its offset replaced. -/
def leapPut (l : List (Nat × Int)) (e : Nat × Int) : List (Nat × Int) :=
  l.filter (fun x => x.1 < e.1) ++ e :: l.filter (fun x => e.1 < x.1)

/-- ADD to a table that already holds 200 entries is refused (R322). -/
def State.leapRefused (s : State) (op : Nat) : Bool :=
  op == 1 && decide (200 ≤ s.tk.leap.length)

/-- LEAP_CMD has taken effect: 1 ADD, 2 CLEAR, 3 SET_EXPIRY (R322). (DEDUCED, notes/assumptions 131) -/
def State.leapDone (s : State) (op : Nat) : State :=
  match op with
  | 1 => (s.mapTk (fun t => { t with leap := leapPut t.leap s.leapArg })).showLeap
  | 2 => (s.mapTk (fun t => { t with leap := [] })).showLeap
  | 3 => (s.mapTk (fun t => { t with leapExp := s.leapArg.1 })).showLeap
  | _ => s

/-! ### The calendar (R323, R324) -/

/-- Leap years of the proleptic Gregorian calendar up to a year. -/
def leapYears (y : Nat) : Nat := y / 4 - y / 100 + y / 400

/-- Days from 1970-01-01 to the first day of a year from 1970 on. -/
def daysTo (y : Nat) : Nat := 365 * (y - 1970) + leapYears (y - 1) - leapYears 1969

/-- Whether a year is a leap year. -/
def isLeap (y : Nat) : Bool := leapYears (y - 1) != leapYears y

/-- The year of a day counted from 1970-01-01: the estimate d / 365 can be high by a few years. -/
def yearOf (d : Nat) : Nat :=
  let y := 1970 + d / 365
  ([0, 1, 2, 3, 4, 5, 6, 7] : List Nat).foldl (fun y _ => if d < daysTo y then y - 1 else y) y

/-- Days before each month of a common year. -/
def monthStarts : List Nat := [0, 31, 59, 90, 120, 151, 181, 212, 243, 273, 304, 334]

/-- Month and day of day n of a year, n from 0. -/
def monthDay (leap : Bool) (n : Nat) : Nat × Nat :=
  let start (m : Nat) : Nat := monthStarts.getD m 0 + (if leap && 2 ≤ m then 1 else 0)
  let m := ((List.range 12).filter (fun m => start m ≤ n)).length - 1
  (m + 1, n - start m + 1)

/-- CAL_DATE, CAL_TIME and CAL_DOY for local seconds since 1970, with SEC = 60 in an inserted second; all 0 where there is no valid date (R323). -/
def calWords (valid : Bool) (local_ : Int) (inLeap : Bool) : Word × Word × Word :=
  let n := local_.toNat
  let d := n / 86400
  let y := yearOf d
  if !valid || local_ < 0 || 9999 < y then (0, 0, 0)
  else
    let doy := d - daysTo y
    let md := monthDay (isLeap y) doy
    (BitVec.ofNat 32 (y * 65536 + md.1 * 256 + md.2),
      BitVec.ofNat 32 ((d + 3) % 7 * 2 ^ 24 + n % 86400 / 3600 * 65536 + n % 3600 / 60 * 256 + (if inLeap then 60 else n % 60)),
      BitVec.ofNat 32 (2 ^ 31 + doy + 1))

/-- LOCAL_OFS in minutes, at most ±1,440. -/
def State.localOfs (s : State) : Int := max (-1440) (min (s.sfld Reg.tkCalCtrl 31 16) 1440)

/-- The selected fields of an alarm equal the calendar's (R324). (DEDUCED, notes/assumptions 131) -/
def State.alarmHits (s : State) (a : Nat) : Bool :=
  let m := s.reg (Reg.tkAlmCtrl a)
  let same (i : Nat) (r q hi lo : Nat) : Bool := !m.getLsbD i || s.fld r hi lo == s.fld q hi lo
  let t := Reg.tkAlmTime a
  let d := Reg.tkAlmDate a
  m.getLsbD 31 && same 0 t Reg.tkCalTime 5 0 && same 1 t Reg.tkCalTime 13 8 && same 2 t Reg.tkCalTime 20 16 && same 3 t Reg.tkCalTime 26 24
    && same 4 d Reg.tkCalDate 4 0 && same 5 d Reg.tkCalDate 11 8 && same 6 d Reg.tkCalDate 31 16

/-- An alarm compared at a calendar update. -/
def State.alarmTry (s : State) (a : Nat) : State :=
  if s.alarmHits a then
    let s := (s.wrap32 (Reg.tkAlmCount a) 1).tkInt a
    s.when (s.bit (Reg.tkAlmCtrl a) 30) (fun s => s.devFld (Reg.tkAlmCtrl a) 31 31 0)
  else s

/-- Whether this TPLL cycle has brought a group's time to a whole second or past it. (DESIGN CHOICE, notes/assumptions 121) -/
def State.onSecond (s : State) (g : Tg) : Bool :=
  let t := (s.group g).ts
  decide (t - ((t / 1000000000).floor : Rat) * 1000000000 < s.cycleOf g)

/-- Whether the calendar has its update now: a whole second of its group's time that it has not taken yet. -/
def State.calDue (s : State) : Bool := s.onSecond s.calGrp && s.tk.calAt != some s.now

/-- CALENDAR_UPDATE (R320, R323, R324): a whole second of the calendar group's time. -/
def execCalendarUpdate (s : State) : Host.Outcome State Fault Refusal :=
  if s.calDue then
    let s := (s.mapTk (fun t => { t with calAt := some s.now })).showLeap
    let t := s.calSec
    let w := calWords (s.grpState s.calGrp != 0) (s.utc t + 60 * s.localOfs) (leapIn s.tk.leap t)
    let s := ((s.setReg Reg.tkCalDate w.1).setReg Reg.tkCalTime w.2.1).setReg Reg.tkCalDoy w.2.2
    .next ((((s.alarmTry 0).alarmTry 1).alarmTry 2).alarmTry 3)
  else .next s

/-! ### TKX (R316, R317, R341) -/

/-- TKX frequencies in Hz, 11 Table 2. -/
def tkxHz : List Nat := [10000000, 12800000, 16000000, 19200000, 20000000, 25000000, 26000000, 38400000, 40000000, 50000000]

/-- A value within a limit of so many tenths of a percent of another. -/
def within (tenths x y : Rat) : Bool := decide (absR (x - y) * 1000 ≤ tenths * y)

/-- Sixteen windows pass: edges were counted, and every count lies within ±0.8 % of the first (R341). -/
def tkxStable (l : List Nat) : Bool :=
  match l with
  | c :: _ => l.length == 16 && 0 < c && l.all (fun x => within 8 x c)
  | [] => false

/-- A failed judgment: counted, and the next attempt starts 1.024 s after this one began (R341). (DEDUCED, notes/assumptions 129) -/
def State.tkxMissed (s : State) : State :=
  (s.sat Reg.tkTkStatus 7 0 1).mapTk (fun t => { t with passed := none, judgeAt := t.judgeAt + us 1024000 })

/-- TKX_JUDGE_ATTEMPT (R341): the edges counted in the attempt's windows. -/
def execTkxJudgeAttempt (counts : List Nat) (s : State) : Host.Outcome State Fault Refusal :=
  if s.tkxOk || s.tk.passed.isSome || s.tk.relock || s.now < s.tk.judgeAt then .next s
  else if tkxStable counts then .next (s.mapTk (fun t => { t with passed := some counts.sum }))
  else .next s.tkxMissed

/-- The entry of Table 2 within ±0.8 % of the frequency that so many edges in 2.56 ms give (R316). -/
def tkxPick (c : Nat) : Option Nat := tkxHz.findIdx? (fun f => decide (f * 2560 ≤ 1008000 * c) && decide (992000 * c ≤ f * 2560))

/-- TKX is identified as the k-th frequency of Table 2: valid, shown, and TPLL's reference at once; where it coasts, it relocks with its outputs gated (R316, R319, R349). (DEDUCED, notes/assumptions 130) -/
def State.tkxFound (s : State) (k : Nat) : State :=
  let coast := s.coasting
  let s := ((s.setBit Reg.tkTkStatus 31 true).setFld Reg.tkTkStatus 11 8 k).tkInt 4
  let s := s.mapTk (fun t => { t with passed := none, relock := coast, tkrAt := s.now + us 1024000 })
  if coast then s.relockOuts true else s.setBit Reg.tkTkStatus 30 true

/-- TKX_JUDGED (R316, R319): the frequency measured over 2.56 ms is identified within ±0.8 %; without a match the judgment has failed. TPLL takes TKX as its reference, or relocks to it where it coasts. (DEDUCED, notes/assumptions 129) -/
def execTkxJudged (s : State) : Host.Outcome State Fault Refusal :=
  match s.tk.passed with
  | none => .next s
  | some c =>
    match tkxPick c with
    | none => .next s.tkxMissed
    | some k => .next (s.tkxFound k)

/-- TKR_MEASUREMENT (R317): TKR against TKX over the last 1.024 s, in ppb. -/
def execTkrMeasurement (ppb : BitVec 32) (s : State) : Host.Outcome State Fault Refusal :=
  if s.bit Reg.tkTkStatus 30 && s.tkxOk && !s.coasting && s.tk.tkrAt ≤ s.now then
    .next (((s.setReg Reg.tkTkrOfs ppb).setBit Reg.tkTkStatus 28 true).mapTk (fun t => { t with tkrAt := s.now + us 1024000 }))
  else .next s

/-! ### Coasting (R318, R319) -/

/-- TK's fault bit 4 has no unit: FENCE acts as NOTIFY (R404, R405). -/
def State.tkxFault (s : State) : State :=
  let s := s.recordFault (.dev .tk) 4
  s.when (s.faultAct (.dev .tk) 4 == 3) (fun s => s.selectFault (.dev .tk) 4)

/-- I from f_low, counted against TKR in Hz and corrected by TKR_OFS (uncorrected while LEARNED = 0), held to 2^−40 ns (R312, R318). -/
def State.coastInc (s : State) (fLow : Nat) : Rat :=
  let ofs : Rat := if s.bit Reg.tkTkStatus 28 then 1 + (s.sfld Reg.tkTkrOfs 31 0 : Rat) / 1000000000 else 1
  ((1000000000 / ((max fLow 1 : Nat) * ofs)) * 2 ^ 40).floor / (2 ^ 40 : Rat)

/-- Whether what its monitor has seen declares TKX failed: no edge for 1 µs, or a window of 2,048 TKR cycles away from the identified frequency by more than ±1 % (12 Table 6). -/
def State.tkxDead (s : State) : RefSeen → Bool
  | .silent t => 1000 ≤ t
  | .window c => let f := tkxHz.getD (s.fld Reg.tkTkStatus 11 8) 0; decide (c * 625000 < f * 99 ∨ f * 101 < c * 625000)

/-- TKX_FAIL (R318, R342): the monitor declares TKX failed; TPLL coasts at f_low, and its outputs relock (R349). (DEDUCED, notes/assumptions 129 and 130) -/
def execTkxFail (e : RefSeen) (fLow : Nat) (s : State) : Host.Outcome State Fault Refusal :=
  if s.tkxOk && s.tkxDead e then
    let was := s.coasting
    let s := s.tkxFault
    let s := (s.setBit Reg.tkTkStatus 31 false).tkInt 4
    let s := s.mapTk (fun t => { t with tpll := {}, inc := s.coastInc fLow, relock := false, passed := none, judgeAt := s.now, coastAt := s.now + ms 1 })
    if was then .next s
    else .next ((((s.setBit Reg.tkTkStatus 29 true).sat Reg.tkCoastCount 15 0 1).tkInt 5).relockOuts true)
  else .next s

/-- COAST_MEASUREMENT (R318): every 1 ms while coasting. -/
def execCoastMeasurement (fLow : Nat) (s : State) : Host.Outcome State Fault Refusal :=
  if s.coasting && s.tk.coastAt ≤ s.now then
    .next (s.mapTk (fun t => { t with inc := s.coastInc fLow, coastAt := s.now + ms 1 }))
  else .next s

/-- TKX_RELOCK (R319): TPLL has held lock to the returned TKX; I is 1.6 ns again, and its outputs relock (R349). (DEDUCED, notes/assumptions 130) -/
def execTkxRelock (s : State) : Host.Outcome State Fault Refusal :=
  if s.coasting && s.tk.relock && s.tk.tpll.gate then
    let s := s.mapTk (fun t => { t with relock := false, inc := 8 / 5, tkrAt := s.now + us 1024000 })
    .next (((s.setBit Reg.tkTkStatus 29 false).tkInt 5).relockOuts true)
  else .next s

end Sys2Proof.Machine
end

