-- ==== Sys2Proof/Machine/Life.lean ====
section
/-! DEFINITION. The lifetime ledger and the connector-health trend (R238, R326 to R332). -/

namespace Sys2Proof.Machine

/-- The ledger's state changed. -/
def State.mapLife (s : State) (f : Life → Life) : State := { s with life := f s.life }

/-- Quantities of the ledger: up to the program cycles of sector 127. -/
abbrev lifeCount : Nat := 467

/-! ### Seconds (R326) -/

/-- Temperature bin of a reading in 0.1 °C (11 Table 5). -/
def tempBin (t : Int) : Nat := if t < -150 then 0 else min ((t + 150) / 100 + 1).toNat 15

/-- The transmitter drives the line: the link is up outside LPI, or training, negotiation, a pattern or a TDR sweep sends. (DEDUCED, notes/assumptions 132) -/
def State.transmits (s : State) (n : Ch) : Bool :=
  s.tdrOn n || (s.lineReady n && ((s.linkUp n && !s.txLpi n) || 1 ≤ s.phase n || (s.chan n).link.neg || !(s.pattern n == 0 || s.pattern n == 6)))

/-- Seconds at temperature of every sensor, and stress seconds; none while the THRM page is fenced (15 Table 7). -/
def State.heatSeconds (s : State) : State :=
  if s.fenced (.dev .thrm) then s
  else
    let s := (List.range 18).foldl (fun (s : State) k => s.lifeAdd (qBin k (tempBin (s.sfld (Reg.thrmTemp k) 15 0))) 1) s
    s.forCh (fun n s => s.when (decide (1100 < s.chTemp n) && (s.chan n).afe.eff == .on && s.transmits n) (fun s => s.lifeAdd (qChan n.val 2) 1))

/-- LEDGER_SECOND (R326): a second of the island's tick. HOLD_TIME of the groups and COAST_S count the same seconds. (DESIGN CHOICE, notes/assumptions 12; DEDUCED, notes/assumptions 118 and 128) -/
def execLedgerSecond (s : State) : Host.Outcome State Fault Refusal :=
  if s.life.tickAt + ms 990 ≤ s.now then
    let s := (s.lifeAdd 0 1).heatSeconds
    let s := s.forCh (fun n s => s.when (s.linkUp n) (fun s => s.lifeAdd (qChan n.val 0) 1))
    let s := s.forTg (fun g s => s.when (s.grpState g == 4) (fun s =>
      s.setReg (Reg.tkGrpHoldTime g.val) (BitVec.ofNat 32 (min ((s.now - (s.group g).holdFrom) / sec 1) (2 ^ 32 - 1)))))
    let s := s.when s.coasting (fun s => s.sat32 Reg.tkCoastS 1)
    .next (s.mapLife (fun l => { l with periodSec := l.periodSec + 1, tickAt := s.now }))
  else .next s

/-! ### Registers -/

/-- HISTb of the selected sensor shown. -/
def State.showHist (s : State) : State :=
  (List.range 16).foldl (fun (s : State) b => s.showLife (qBin (min (s.fld Reg.lifeHistSel 4 0) 17) b)) s

/-- WEAR_COUNT of the selected sector shown. -/
def State.showWear (s : State) : State := s.showLife (qWear (s.fld Reg.lifeWearSel 6 0))

/-- Every total shown anew. -/
def State.showTotals (s : State) : State :=
  let s := (s.setReg Reg.lifeWearMax 0).setReg Reg.lifeWearMaxSec 0
  (List.range lifeCount).foldl (fun (s : State) i => s.showLife i) s

/-! ### Records (R327, R328) -/

/-- Bytes of a record before its CRC. -/
abbrev recBytes : Nat := 0xFFC

/-- The ledger record that a job writes: base plus the copied accumulators (11 Table 6). -/
def State.ledgerRecord (s : State) (seq day count : Nat) (copied : List (Nat × Nat)) : List Byte :=
  let q (i : Nat) : Nat := min (Store.get (fun _ => 0) s.life.base i + Store.get (fun _ => 0) copied i) (if i == 0 then 2 ^ 40 - 1 else 2 ^ 32 - 1)
  let t := s.timeOf 0
  let body := beBytes 4 0x4C454431 ++ [0x01, 0, 0, 0] ++ beBytes 4 seq ++ beBytes 6 t.1 ++ beBytes 4 t.2.1 ++ beBytes 2 t.2.2
    ++ beBytes 8 (q 0) ++ ((List.range (lifeCount - 1)).flatMap (fun i => beBytes 4 (q (i + 1))))
    ++ beBytes 4 s.life.cals ++ s.life.calTime ++ beBytes 4 day ++ beBytes 4 count
  let body := body ++ List.replicate (recBytes - body.length) 0
  body ++ beBytes 4 (crc32 body)

/-- The base of a record's slot. -/
def ledgerAt (slot : Nat) : Nat := areaLedger + 0x1000 * slot

/-- The record in a slot passes MAGIC, FORMAT and CRC, and its sector is not fenced. -/
def State.ledgerPasses (s : State) (slot : Nat) : Bool :=
  let a := ledgerAt slot
  !s.sectFenced (sectorOf a) && s.nvm.num a 4 == 0x4C454431 && s.nvm.byte (a + 4) == 0x01
    && s.nvm.num (a + recBytes) 4 == crc32 (s.nvm.bytes a recBytes)

/-- Whether sequence a is newer than b, modulo 2^32. -/
def seqNewer (a b : Nat) : Bool := let d := (BitVec.ofNat 32 a - BitVec.ofNat 32 b).toNat; 0 < d && d < 2 ^ 31

/-- The slot with the newest record among some. -/
def State.newestLedger (s : State) (slots : List Nat) : Option Nat :=
  slots.foldl (fun o k =>
    if !s.ledgerPasses k then o
    else match o with
      | none => some k
      | some b => if seqNewer (s.nvm.num (ledgerAt k + 8) 4) (s.nvm.num (ledgerAt b + 8) 4) then some k else o) none

/-- The slot that would have been written after slot k: the next in rotation that is neither fenced nor empty. (DEDUCED, notes/assumptions 133) -/
def State.slotAfter (s : State) (k : Nat) : Option Nat :=
  ((List.range 3).map (fun i => (k + 1 + i) % 4)).find?
    (fun j => !s.sectFenced (sectorOf (ledgerAt j)) && !(s.nvm.bytes (ledgerAt j) 16).all (· == erased))

/-- The ledger loaded at start (R328): the newest record that passes, FALLBACK where the slot last written fails (the next one in rotation that can hold a later record), FRESH where none passes. (DEDUCED, notes/assumptions 133) -/
def State.loadLedger (s : State) : State :=
  match s.newestLedger [0, 1, 2, 3] with
  | none =>
    let s := (s.mapLife (fun l => { l with base := [], cals := 0, calTime := List.replicate 12 0 }))
    (((s.setReg Reg.lifeStatus (withBits (s.reg Reg.lifeStatus) 31 29 2)).setReg Reg.lifeRecSeq 0).intr (.dev .life) 2).showTotals
  | some k =>
    let a := ledgerAt k
    let torn := (s.slotAfter k).any (fun j => !s.ledgerPasses j)
    let get (i : Nat) : Nat := if i == 0 then s.nvm.num (a + 0x18) 8 else s.nvm.num (a + 0x1C + 4 * i) 4
    let s := s.mapLife (fun l => { l with
      base := Store.putAll (fun _ => 0) [] ((List.range lifeCount).map (fun i => (i, get i)))
      cals := s.nvm.num (a + 0x768) 4
      calTime := s.nvm.bytes (a + 0x76C) 12 })
    let s := ((s.setReg Reg.lifeTrendDay (BitVec.ofNat 32 (s.nvm.num (a + 0x778) 4))).setReg Reg.lifeTrendCount
      (BitVec.ofNat 32 (s.nvm.num (a + 0x77C) 4))).setReg Reg.lifeRecSeq (BitVec.ofNat 32 (s.nvm.num (a + 8) 4))
    let s := s.setReg Reg.lifeStatus (withBits (withBits (s.reg Reg.lifeStatus) 31 29 (4 + b2n torn)) 1 0 k)
    (s.when torn (fun s => s.intr (.dev .life) 2)).showTotals

/-! ### Updates and the trend (R330, R331, R238) -/

/-- A ledger update asked for by the device: dropped while one waits or runs. -/
def State.askLedger (s : State) : State :=
  if allSlots.any (fun k => (s.slot k).busy && (s.slot k).typ == 6) || s.jobs.waiting.any (fun j => j.typ == 6) then s
  else s.devRequest 6 0 0

/-- LEDGER_UPDATE_PERIOD (R330): PERIOD_S seconds of powered time since the last period; 0 acts as 1. -/
def execLedgerUpdatePeriod (s : State) : Host.Outcome State Fault Refusal :=
  if max 1 (s.fld Reg.lifeCtrl 15 0) ≤ s.life.periodSec then .next ((s.mapLife (fun l => { l with periodSec := 0 })).askLedger)
  else .next s

/-- The value that the DIAG blocks supply to the trend (R238). -/
def State.trendValue (s : State) : Word :=
  let chi (n : Ch) : Word := s.reg (Reg.diagChi n)
  let warn := bitList (allCh.map (fun n => (chi n).getLsbD 31 && (chi n).getLsbD 30))
  let low := allCh.foldl (fun (o : Option Ch) n =>
    if !(chi n).getLsbD 31 then o
    else match o with
      | none => some n
      | some m => if bits (chi n) 9 0 < bits (chi m) 9 0 then some n else o) none
  match low with
  | some n => BitVec.ofNat 32 (warn * 65536 + n.val * 4096 + bits (chi n) 9 0)
  | none => BitVec.ofNat 32 (warn * 65536 + 0x3FF)

/-- TREND_SAMPLE (R331): TG0 at a whole day, not in UNSET; the newest sample of a new day waits for the next update, and an update is asked for. -/
def execTrendSample (s : State) : Host.Outcome State Fault Refusal :=
  let t := ((s.group 0).ts / 1000000000).floor.toNat
  if s.onSecond 0 && t % 86400 == 0 && s.grpState 0 != 0 then
    let v := s.trendValue
    let d := t / 86400
    let s := s.setReg Reg.lifeTrendLast v
    let s := if (s.reg Reg.lifeTrendDay).toNat < d then s.mapLife (fun l => { l with trendDue := some (d, v) }) else s
    .next s.askLedger
  else .next s

/-- The trend entry of a day. -/
def trendAt (day : Nat) : Nat := areaTrend + 4 * (day % 4096)

/-- Entries that an update writes for a sample of day d after day last: skipped days, at most 4,095 of them, as all ones, then the value. -/
def trendEntries (last d : Nat) (v : Word) : List (Nat × Word) :=
  let k := min (d - last - 1) 4095
  (List.range k).map (fun i => (d - k + i, (0xFFFFFFFF : Word))) ++ [(d, v)]

/-- A write of TREND_SEL has taken effect: the fetch starts where the NVM can be read (R332). -/
def State.trendSelected (s : State) : State :=
  if s.nvmReady then
    (s.setReg Reg.lifeTrendRd 0x80000000).mapLife (fun l => { l with fetchBy := some (s.now + us 4) })
  else (s.setReg Reg.lifeTrendRd 0).mapLife (fun l => { l with fetchBy := none })

/-- TREND_FETCH_DONE (R332): the selected entry is in TREND_VAL, unless its sector is fenced or the NVM has left service. (DESIGN CHOICE, notes/assumptions 10) -/
def execTrendFetchDone (s : State) : Host.Outcome State Fault Refusal :=
  match s.life.fetchBy with
  | none => .next s
  | some _ =>
    let a := trendAt ((s.reg Reg.lifeTrendDay).toNat + 2 ^ 32 - s.fld Reg.lifeTrendSel 11 0)
    let s := s.mapLife (fun l => { l with fetchBy := none })
    if s.nvmReady && !s.sectFenced (sectorOf a) then
      .next ((s.setReg Reg.lifeTrendVal (BitVec.ofNat 32 (s.nvm.num a 4))).setReg Reg.lifeTrendRd 0x40000000)
    else .next (s.setReg Reg.lifeTrendRd 0)

end Sys2Proof.Machine
end

