-- ==== Sys2Proof/Machine/Work.lean ====
section
/-! DEFINITION. The work of NVM jobs, repair records, the fail log and self-tests' verdicts (R226, R322, R325, R392 to R401, R454). -/

namespace Sys2Proof.Machine

/-! ### Areas written and loaded by NVM jobs (R50, R321, R325, R454) -/

/-- A record with zeros up to its CRC-32. -/
def sealed (k : Nat) (l : List Byte) : List Byte :=
  let l := l ++ List.replicate (k - l.length) 0
  l ++ beBytes 4 (crc32 l)

/-- The leap-second table's bytes (11 Table 3). -/
def leapBytes (l : List (Nat × Int)) (expiry : Nat) : List Byte :=
  sealed 0x7FC (beBytes 4 0x4C535431 ++ [0x01, BitVec.ofNat 8 l.length, 0, 0] ++ beBytes 6 expiry ++ [0, 0]
    ++ l.flatMap (fun e => beBytes 6 e.1 ++ beBytes 2 (twos 16 e.2)))

/-- The calendar record's bytes (R325). -/
def State.calendarBytes (s : State) : List Byte :=
  sealed 0x7FC (beBytes 4 0x43414C31 ++ [0x01, BitVec.ofNat 8 (s.fld Reg.tkCalCtrl 5 4)] ++ beBytes 2 (s.fld Reg.tkCalCtrl 31 16)
    ++ (List.range 4).flatMap (fun a => beBytes 4 (s.reg (Reg.tkAlmDate a)).toNat ++ beBytes 4 (s.reg (Reg.tkAlmTime a)).toNat
      ++ beBytes 4 (s.reg (Reg.tkAlmCtrl a)).toNat))

/-- The leap-second table is loaded under the checks of R321; a table that fails them, or lies in a fenced sector, is not valid. -/
def State.loadLeap (s : State) : State :=
  let l := s.nvm.bytes areaLeap 0x800
  let k := byteAt l 5
  let es := (List.range k).map (fun e => (numAt l (0x10 + 8 * e) 6, (BitVec.ofNat 16 (numAt l (0x16 + 8 * e) 2)).toInt))
  let ok := !s.sectFenced (sectorOf areaLeap) && numAt l 0 4 == 0x4C535431 && byteAt l 4 == 1 && numAt l 0x7FC 4 == crc32 (l.take 0x7FC)
    && decide (1 ≤ k ∧ k ≤ 200) && decide ((es.map Prod.fst).Pairwise (· < ·))
  (s.mapTk (fun t => { t with leap := if ok then es else [], leapExp := if ok then numAt l 8 6 else 0 })).showLeap

/-- What an NVM commit, or read-back, does by its argument; none where a fenced sector stops it. -/
def State.nvmEffect (s : State) (typ : Byte) (a : Nat) : Option State :=
  let n : Ch := Fin.ofNat 16 a
  if typ == 4 then
    if a == 0x200 then some s.loadLeap else some (s.loadProfile n)
  else if a == 1 then
    if s.nvm.staged.all (fun w => !s.sectFenced (sectorOf (areaUser + w.1))) then
      let t := s.nvm.staged.foldl (fun (s : State) w => s.program (areaUser + w.1) (beBytes 4 w.2.toNat)) s
      some { t with nvm := { t.nvm with staged := [] } }
    else none
  else if a == 0x200 then
    if s.sectFenced (sectorOf areaLeap) then none else some (s.program areaLeap (leapBytes s.tk.leap s.tk.leapExp))
  else if a == 0x201 then
    if s.sectFenced (sectorOf areaLeap) then none else some (s.program (areaLeap + 0x800) s.calendarBytes)
  else
    let s' := s.setProfile n none false false
    if s.sectFenced (sectorOf (profileAt n)) then none else some (s'.program (profileAt n) (List.replicate 1024 erased))

/-- The step of an NVM job that does its work: it waits while the NVM is out of service; a fault in the NVM or a fenced sector ends it in FAILED. (DESIGN CHOICE, notes/assumptions 79) -/
def State.nvmWork (s : State) (k : Fin 8) (fault : Bool) : State :=
  let j := s.slot k
  if !s.nvmReady then s
  else
    match fault, s.nvmEffect j.typ j.arg0.toNat with
    | false, some t => t.endJob k .done 0
    | _, _ => s.endJob k .failed errFault

/-- Whether slot k runs an NVM job of a type with an argument. -/
def State.nvmRuns (s : State) (k : Fin 8) (typ : Byte) (a : Nat → Bool) : Bool :=
  let j := s.slot k
  j.st == .run && j.typ == typ && a j.arg0.toNat && !s.fenced (.dev .job)

/-- NVM_COMMIT_STAGING (R454): the staged words reach their own addresses, and the buffer is empty. -/
def execNvmCommitStaging (k : Fin 8) (s : State) : Host.Outcome State Fault Refusal :=
  if s.nvmRuns k 3 (· == 1) then .next (s.takeStep k (fun s => s.nvmWork k false)) else .next s

/-- NVM_COMMIT_PROFILE_ERASE (R226): the slot becomes all ones, and the channel has no profile. -/
def execNvmCommitProfileErase (k : Fin 8) (s : State) : Host.Outcome State Fault Refusal :=
  if s.nvmRuns k 3 (fun a => 0x100 ≤ a && a ≤ 0x10F) then .next (s.takeStep k (fun s => s.nvmWork k false)) else .next s

/-- NVM_COMMIT_LEAP_TABLE (R322). -/
def execNvmCommitLeapTable (k : Fin 8) (s : State) : Host.Outcome State Fault Refusal :=
  if s.nvmRuns k 3 (· == 0x200) then .next (s.takeStep k (fun s => s.nvmWork k false)) else .next s

/-- NVM_COMMIT_CALENDAR (R325). -/
def execNvmCommitCalendar (k : Fin 8) (s : State) : Host.Outcome State Fault Refusal :=
  if s.nvmRuns k 3 (· == 0x201) then .next (s.takeStep k (fun s => s.nvmWork k false)) else .next s

/-- NVM_READ_BACK_PROFILE (R226). -/
def execNvmReadBackProfile (k : Fin 8) (s : State) : Host.Outcome State Fault Refusal :=
  if s.nvmRuns k 4 (fun a => 0x100 ≤ a && a ≤ 0x10F) then .next (s.takeStep k (fun s => s.nvmWork k false)) else .next s

/-- NVM_READ_BACK_LEAP_TABLE (R322). -/
def execNvmReadBackLeapTable (k : Fin 8) (s : State) : Host.Outcome State Fault Refusal :=
  if s.nvmRuns k 4 (· == 0x200) then .next (s.takeStep k (fun s => s.nvmWork k false)) else .next s

/-! ### Repair records (R397 to R400) -/

/-- A repair record (14 Table 7). -/
structure Repair where
  kind : Nat
  dom : Nat
  inst : Nat
  addr : Nat
  bit : Nat
  deriving DecidableEq, Repr

/-- The 16 bytes of a record, as one number: SPARE 0, SEC, and a CRC-8 (R60). -/
def Repair.word (r : Repair) (sec_ : Nat) : BitVec 128 :=
  let l := beBytes 1 r.kind ++ beBytes 1 r.dom ++ beBytes 2 r.inst ++ beBytes 4 r.addr ++ beBytes 2 r.bit ++ [0] ++ beBytes 4 sec_
  BitVec.ofNat 128 (beNat (l ++ [crc8 l]))

/-- The record that 128 bits hold, where its CRC-8 is right. -/
def repairOf (b : BitVec 128) : Option Repair :=
  let f (hi lo : Nat) : Nat := (b >>> lo).toNat % 2 ^ (hi + 1 - lo)
  let l := beBytes 16 b.toNat
  if crc8 (l.take 15) == (l.getD 15 0) then
    some { kind := f 127 120, dom := f 119 112, inst := f 111 96, addr := f 95 64, bit := f 63 48 }
  else none

/-- The bits of a place of the repair area. -/
def State.repairAt (s : State) (i : Nat) : BitVec 128 := BitVec.ofNat 128 (s.nvm.num (areaRepair + 16 * i) 16)

/-- Places of the area in sectors that are not fenced, in order. -/
def State.repairPlaces (s : State) : List Nat := (List.range 1024).filter (fun i => !s.sectFenced (sectorOf (areaRepair + 16 * i)))

/-- Records in the area and those that wait, as they stand. (DEDUCED, notes/assumptions 87) -/
def State.repairsKnown (s : State) : List Repair :=
  ((s.repairPlaces.map s.repairAt) ++ s.bist.pend).filterMap repairOf

/-- Whether two records name one unit: the same kind, domain and instance. -/
def Repair.same (a b : Repair) : Bool := a.kind == b.kind && a.dom == b.dom && a.inst == b.inst

/-- REC_STAT.USED and PEND brought to what holds. -/
def State.showRepairs (s : State) : State :=
  let used := (s.repairPlaces.filter (fun i => s.repairAt i != BitVec.allOnes 128)).length
  (s.setFld Reg.bistRecStat 31 21 used).setFld Reg.bistRecStat 20 14 s.bist.pend.length

/-- The pending records are appended to the area, in order; one that finds no room is not written (R399, 15 Table 8). -/
def State.writeRepairs (s : State) : State :=
  let t := s.bist.pend.foldl (fun (s : State) b =>
    match s.repairPlaces.find? (fun i => s.repairAt i == BitVec.allOnes 128) with
    | some i => (s.program (areaRepair + 16 * i) (beBytes 16 b.toNat)).intr (.dev .bist) 1
    | none => s) s
  { t with bist := { t.bist with pend := [] } }.showRepairs

/-- A device-started commit of pending records does its work. -/
def State.repairJob (s : State) (k : Fin 8) : State :=
  if s.nvmReady then s.writeRepairs.endJob k .done 0 else s

/-- REPAIR_RECORD_WRITE (R399): records that wait, and the NVM domain is ON; by a device-started NVM commit job. (DESIGN CHOICE, notes/assumptions 78) -/
def execRepairRecordWrite (s : State) : Host.Outcome State Fault Refusal :=
  if !s.bist.pend.isEmpty && s.nvmReady && !s.fenced (.dev .job) && !s.devHas 3 0 argRepair then
    let s := s.devRequest 3 0 argRepair
    match s.devRunning 3 argRepair with
    | some k => .next (s.takeStep k (fun s => s.repairJob k))
    | none => .next s
  else .next s

/-! ### Spares (R397) -/

/-- The value that occurs most often, the lowest on a tie. -/
def mostOf (l : List Nat) : Nat :=
  let v := l.mergeSort (· ≤ ·)
  v.foldl (fun b x => if v.count b < v.count x then x else b) (v.headD 0)

/-- All the numbers of a list are one number. -/
def oneOf (l : List Nat) : Bool := l.all (fun x => x == l.headD x)

/-- Spares for the failing cells (row, column) of an instance: the column and the row taken; none where it is exhausted. -/
def allocate (colFree rowFree : Bool) (cells : List (Nat × Nat)) : Option (Option Nat × Option Nat) :=
  let c := mostOf (cells.map (·.2))
  let restC := cells.filter (fun x => x.2 != c)
  let r := mostOf (cells.map (·.1))
  let restR := cells.filter (fun x => x.1 != r)
  if 8 < cells.length then none
  else if colFree && (restC.isEmpty || (rowFree && oneOf (restC.map (·.1)))) then some (some c, (restC.head?).map (·.1))
  else if rowFree && (restR.isEmpty || (colFree && oneOf (restR.map (·.2)))) then some ((restR.head?).map (·.2), some r)
  else none

/-- Records for the failing cells of instance i of domain d: repairs, or the exhaustion where none names it yet. (DEDUCED, notes/assumptions 87) -/
def State.repairsFor (s : State) (d i : Nat) (cells : List (Nat × Nat)) : List Repair × Bool :=
  let free (kind : Nat) : Bool := !s.repairsKnown.any (fun r => r.kind == kind && r.dom == d && r.inst == i)
  match allocate (free 2) (free 1) cells with
  | some (c, r) =>
    let col := match c with
      | some c => [{ kind := 2, dom := d, inst := i, addr := ((cells.find? (fun x => x.2 == c)).map (·.1)).getD 0, bit := c : Repair }]
      | none => []
    let row := match r with
      | some r => [{ kind := 1, dom := d, inst := i, addr := r, bit := 0 : Repair }]
      | none => []
    (col ++ row, false)
  | none => ((if free 3 then [{ kind := 3, dom := d, inst := i, addr := 0, bit := 0 : Repair }] else []), true)

/-! ### The fail log (R401) -/

/-- FAIL_STATUS and FAIL_W of the selected sequence. -/
def State.showFail (s : State) : State :=
  let q := BitVec.ofNat 16 (s.fld Reg.bistFailSel 15 0)
  match s.bist.failLog.find? (fun e => e.1 == q) with
  | some e => (((s.setReg Reg.bistFailStatus 1).setReg (Reg.bistFailW 0) e.2.1).setReg (Reg.bistFailW 1) e.2.2.1).setReg (Reg.bistFailW 2) e.2.2.2
  | none => (((s.setReg Reg.bistFailStatus 0).setReg (Reg.bistFailW 0) 0).setReg (Reg.bistFailW 1) 0).setReg (Reg.bistFailW 2) 0

/-- An entry added; the log keeps the newest 32. -/
def State.failEntry (s : State) (d inst code row bit : Nat) : State :=
  let q := BitVec.ofNat 16 (s.fld Reg.bistFailSeq 15 0)
  let t := (s.timeOf 0).1
  let e := (q, (BitVec.ofNat 32 (d * 2 ^ 24 + inst * 256 + code) : Word), (BitVec.ofNat 32 row : Word), (BitVec.ofNat 32 (bit * 65536 + t % 65536) : Word))
  { s with bist := { s.bist with failLog := (e :: s.bist.failLog).take 32 } }.wrap Reg.bistFailSeq 15 0 1

/-! ### The verdict of a test (R393, R395, R397, R399) -/

/-- What a completed test found: failing cells (instance, row, column), LDPC units, and the cell at which the restore failed. -/
structure Found where
  cells : List (Nat × Nat × Nat)
  logic : List Nat
  restore : Option (Nat × Nat × Nat)
  restored : Bool

/-- The fail log's entries of a completed test (R401): up to eight cells of each instance, the cell at which the restore failed, the LDPC units. (DEDUCED, notes/assumptions 87) -/
def State.logFails (s : State) (d : Nat) (insts : List Nat) (x : Found) : State :=
  let s := insts.foldl (fun (s : State) i =>
    ((x.cells.filter (fun c => c.1 == i)).take 8).foldl (fun (s : State) c => s.failEntry d i 1 c.2.1 c.2.2) s) s
  let s := x.restore.elim s (fun c => s.failEntry d c.1 2 c.2.1 c.2.2)
  x.logic.foldl (fun (s : State) u => s.failEntry d (0x100 + u) (4 + u) 0 0) s

/-- Whether the records of a test fit in the pending list of 64; where they do not, all of them are discarded (15 Table 12). -/
def State.recordsFit (s : State) (recs : List Repair) : Bool := s.bist.pend.length + recs.length ≤ 64

/-- Repair records of a completed test wait, and are written at once where the NVM is ready (R397, R399). -/
def State.logRecords (s : State) (d : Nat) (recs : List Repair) (repair : Bool) : State :=
  let t := (s.timeOf 0).1 % 2 ^ 32
  let s := { s with bist := { s.bist with
    pend := s.bist.pend ++ recs.map (fun (r : Repair) => r.word t)
    saved := s.bist.saved.filter (· != d) } }.showFail
  if repair && s.nvmReady && !recs.isEmpty then s.writeRepairs else s.showRepairs

/-- DOM_STATUS of a completed test, and the interrupts of a failure and of an element that no spare replaces (R393, R395); a test whose records were discarded sets no REPAIR_PEND (R422). -/
def State.showVerdict (s : State) (d : Nat) (pass fits named : Bool) (total : Nat) (spent : Bool) : State :=
  let a := Reg.bistDomStatus d
  let w := withBits (withBits (withBits (withBits (s.reg a) 31 30 (2 + b2n pass)) 29 29 (b2n ((!pass && fits) || s.bit a 29))) 28 27 (b2n named * 2)) 23 16 (min total 255)
  let s := (s.setReg a w).wrap a 15 0 1
  let s := s.when (!pass) (fun s => s.intr (.dev .bist) 0)
  s.when spent (fun s => s.intr (.dev .bist) 2)

/-- A domain after its test: a self-test of entry ends with the transition it belongs to, any other shows the domain (R391, R393). (DEDUCED, notes/assumptions 87) -/
def State.testLeaves (s : State) (k : Fin 8) (n : Ch) (j : JobSlot) : State :=
  if 6 ≤ k.val then
    s.mapDom n (targetDom j.target) (fun c => c.go c.aim s.now)
  else s.showPwr n

/-- A test has completed: fail log, repair records, DOM_STATUS and results; its port is free. (DEDUCED, notes/assumptions 86 and 88) -/
def State.testDone (s : State) (k : Fin 8) (x : Found) : State :=
  let j := s.slot k
  let d := j.target.toNat
  let n : Ch := Fin.ofNat 16 (d / 3)
  let repair := j.arg0.getLsbD 0
  let first := s.fld Reg.bistFailSeq 15 0
  let insts := ((x.cells ++ x.restore.toList).map (·.1)).eraseDups
  let of (i : Nat) : List (Nat × Nat) := ((x.cells ++ x.restore.toList).filter (fun c => c.1 == i)).map (·.2)
  let pass := insts.isEmpty && x.logic.isEmpty
  let s := x.restore.elim s (fun _ => s.dropCoefs n)
  let plans := insts.map (fun i => s.repairsFor d i (of i))
  let lone (u : Nat) : Repair := { kind := 4, dom := d, inst := 0x100 + u, addr := 0, bit := 0 }
  let logic := (x.logic.map lone).filter (fun r => !s.repairsKnown.any r.same)
  let plan := if repair then plans.flatMap (·.1) ++ logic else []
  let fits := s.recordsFit plan
  let recs := if fits then plan else []
  let spent := (plans.filter (·.2)).length
  let repairs := (plan.filter (fun r => r.kind == 1 || r.kind == 2)).length
  let named := (s.repairsKnown ++ recs).any (fun r => r.dom == d && (r.kind == 3 || r.kind == 4))
  let total := ((insts.map of).map List.length).sum
  let s := (s.logFails d insts x).logRecords d recs repair
  let s := s.showVerdict d pass fits named total (0 < spent || !x.logic.isEmpty)
  let r0 := min total 255 * 2 ^ 24 + min repairs 255 * 65536 + min spent 255 * 256 + b2n (!x.logic.isEmpty) * 4 + b2n x.restored * 2 + b2n pass
  let s := (s.mapSlot k (fun j => { j with res0 := BitVec.ofNat 32 r0, res1 := BitVec.ofNat 32 first })).dropPort d
  (s.endJob k .done 0).testLeaves k n j

end Sys2Proof.Machine
end

