-- ==== Sys2Proof/Machine/Steps.lean ====
section
/-! DEFINITION. Job steps of every job type (R50, R53, R54, R227, R230 to R234, R329, R392 to R395). -/

namespace Sys2Proof.Machine

/-! ### TDR (R231, R232, R234) -/

/-- A TDR event: distance in mm, type of 08 Table 3, Γ in 1/1,024. -/
abbrev TdrEvent := Nat × Nat × Int

/-- The event of a change of Γ in 1/1,024 at a distance in mm (08 Table 3). (DEDUCED, notes/assumptions 110) -/
def tdrEvent (d g : Int) : TdrEvent :=
  if d < 300 then (0, 5, g)
  else (d.toNat, (if 6144 ≤ 10 * g then 1 else if 10 * g ≤ -6144 then 2 else if 0 < g then 3 else 4), g)

/-- The changes of Γ in an averaged step response, from the MDI on, by sample, in 1/1,024 (R232): the difference of successive samples over the incident step, which is 10 levels of a full reflection at the MDI. -/
def gammaSteps (k0 : Nat) (inc : Rat) : Nat → List Rat → List (Nat × Int)
  | i, a :: b :: r =>
    let g := roundInt (1024 * (b - a) / inc)
    if k0 < i + 1 && g != 0 then (i + 1, g) :: gammaSteps k0 inc (i + 1) (b :: r) else gammaSteps k0 inc (i + 1) (b :: r)
  | _, _ => []

/-- Changes of Γ by their distances in mm; those closer than 20 cm count as one: the larger. (DEDUCED, notes/assumptions 110) -/
def mergeTdr : List (Int × Int) → List (Int × Int)
  | a :: r =>
    match mergeTdr r with
    | b :: q => if b.1 < a.1 + 200 then (if b.2.natAbs ≤ a.2.natAbs then a :: q else b :: q) else a :: b :: q
    | [] => [a]
  | [] => []

/-- An open or a short ends the list. -/
def toEnd : List TdrEvent → List TdrEvent
  | a :: r => if a.2.1 == 1 || a.2.1 == 2 then [a] else a :: toEnd r
  | [] => []

/-- The events of a sweep, changes of at least THRESH within 40 m, up to 8 in ascending order of distance (R231, R232): k0 in sixteenths of a sample at 22.56 GS/s. -/
def tdrList (delay th k0 : Nat) (inc : Rat) (resp : List Rat) : List TdrEvent :=
  let at_ (i : Nat) : Int := roundInt (((i : Rat) - (k0 : Rat) / 16) * samplePs 0 * 1000 / (2 * (delay : Rat)))
  let l := ((gammaSteps (k0 / 16) inc 0 resp).map (fun x => (at_ x.1, x.2))).filter (fun x => decide (th ≤ x.2.natAbs) && decide (x.1 ≤ 40000))
  (toEnd ((mergeTdr l).map (fun x => tdrEvent x.1 x.2))).take 8

/-- Shots a job step discards: those whose listen period brought more than −40 dBm (R231). -/
def discards (vals : List Int) : List Bool := (List.range 8).map (fun i => decide (-400 < vals.getD i (-2000)))

/-- A step of a sweep adds the captures of the shots that it keeps, successive shots with alternating sign (R231): key 0 of the sums counts discarded shots, key i + 1 holds sample i. -/
def tdrAdd (acc : List (Nat × Int)) (vals : List Int) : List (Nat × Int) :=
  let bad := discards vals
  let sum (i : Nat) : Int := ((List.range 8).map (fun k =>
    if bad.getD k false then 0 else (if k % 2 == 0 then 1 else -1) * vals.getD (8 + 9216 * k + i) 0)).sum
  let get (k : Nat) : Int := Store.get (fun _ => 0) acc k
  (0, get 0 + (bad.filter id).length) :: ((List.range 9216).map (fun i => (i + 1, get (i + 1) + sum i))).filter (fun x => x.2 != 0)

/-- The last step of a sweep: results and registers at one instant; FAILED where every shot was discarded. The distance in RESULT0 is rounded to the nearest cm. (DESIGN CHOICE, notes/assumptions 159) -/
def State.tdrEnd (s : State) (k : Fin 8) (n : Ch) : State :=
  let j := s.slot k
  let get (i : Nat) : Int := Store.get (fun _ => 0) j.acc i
  let shots := 8 * (j.total - 1)
  let disc := min (get 0).toNat shots
  if disc == shots then s.endJob k .failed errUnavail
  else
    let delay := if bits j.arg1 15 0 == 0 then s.cableDelay n else bits j.arg1 15 0
    let used := shots - disc
    let t := s.trimK0At n 0
    let inc : Rat := 10 * (scaledTap (s.gain2 n) t.2 : Rat) / 1024
    let resp := (List.range 9216).map (fun i => (get (i + 1) : Rat) / used)
    let ev := tdrList delay (max 10 (s.fld (Reg.diagTdrCtrl n) 9 0)) t.1 inc resp
    let first := ev.headD (0, 0, 0)
    let pa := b2n (0 < disc)
    let s := s.setReg (Reg.diagTdrStatus n) (BitVec.ofNat 32 (2 ^ 31 + pa * 2 ^ 30 + ev.length * 2 ^ 24 + used))
    let s := s.setReg (Reg.diagTdrDisc n) (BitVec.ofNat 32 disc)
    let s := (List.range 8).foldl (fun (s : State) e =>
      match ev[e]? with
      | some x => (s.setReg (Reg.diagTdrEDist n e) (BitVec.ofNat 32 x.1)).setReg (Reg.diagTdrEInfo n e)
          (BitVec.ofNat 32 (2 ^ 31 + x.2.1 * 65536 + twos 12 x.2.2))
      | none => (s.setReg (Reg.diagTdrEDist n e) 0).setReg (Reg.diagTdrEInfo n e) 0) s
    let r0 := ev.length * 2 ^ 28 + first.2.1 * 2 ^ 25 + pa * 2 ^ 24 + min ((first.1 + 5) / 10) 65535
    let s := s.mapSlot k (fun j => { j with res0 := BitVec.ofNat 32 r0, res1 := BitVec.ofNat 32 used })
    (s.cint n .diag 4).endJob k .done 0

/-- What 8 shots send at 22.56 GBd (R231): before each step the channel listens for one capture of 9,216 samples without transmitting; the step goes from −5 to +5 in even shots and back in odd ones, and holds for one capture. (DEDUCED, notes/assumptions 110) -/
def tdrShots : List Int :=
  (List.range 8).flatMap (fun k => List.replicate 9216 0 ++ (if k % 2 == 0 then -5 else 5) :: List.replicate 9216 (if k % 2 == 0 then 5 else -5))

/-- A step of a sweep: 8 shots with their listen periods; the last step evaluates. -/
def State.tdrStep (s : State) (k : Fin 8) (vals : List Int) : State :=
  let j := s.slot k
  match targetCh 1 j.target with
  | none => s
  | some n =>
    if j.total ≤ j.steps then s.tdrEnd k n
    else (s.mapSlot k (fun j => { j with acc := tdrAdd j.acc vals })).transmit n (plainOut tdrShots)

/-! ### Cable-profile learning (R227) -/

/-- The bytes of a profile slot (08 Table 2). -/
def State.profileBytes (s : State) (n : Ch) (m : DMap) (flags delay path len : Nat) : List Byte :=
  let t := s.timeOf 0
  let ev := lowestEvents 16 m.events
  let il := s.lossWords n
  let nf := flags / 2 % 2 == 1
  let head := beBytes 4 0x5A435031 ++ beBytes 1 1 ++ beBytes 1 n.val ++ beBytes 1 (s.lineMode n) ++ beBytes 1 flags
    ++ beBytes 6 t.1 ++ beBytes 4 t.2.1 ++ beBytes 2 t.2.2 ++ beBytes 4 path ++ beBytes 2 delay
    ++ beBytes 1 (if nf then s.fld (Reg.eqNfStatus n) 27 24 else 0) ++ beBytes 1 ev.length ++ beBytes 4 len
    ++ beBytes 2 (bits il.1 11 0) ++ beBytes 2 (bits il.1 27 16) ++ beBytes 4 0
  let evs := ev.flatMap (fun e => beBytes 4 e.1 ++ beBytes 2 e.2.1 ++ beBytes 1 (b2n e.2.2) ++ [0])
  let bands := if nf then (List.range 4).flatMap (fun b =>
    let w := s.reg (Reg.eqNfBand n b)
    beBytes 2 (bits w 15 0) ++ beBytes 2 (bits w 31 16)) else List.replicate 16 0
  sealed 0x3FC (head ++ evs ++ List.replicate (128 - evs.length) 0 ++ (List.range 64).map (fun b => BitVec.ofNat 8 (m.bins.getD b 255)) ++ bands)

/-- Step 65: the delay, where length and path delay are known, then the profile's contents, kept as the slot's bytes. (DEDUCED, notes/assumptions 112) -/
def State.learnForm (s : State) (k : Fin 8) (n : Ch) : State :=
  let j := s.slot k
  let known := isZ (s.lineMode n) && s.engineOk n && !(s.chan n).ktl.ds.isEmpty
  let path := if known then s.fld (Reg.ktlPathDelay n) 31 0 else 0
  let len := j.arg1.toNat
  let d := if known && len != 0 then (roundInt ((1000 * path : Nat) / (len : Rat))).toNat else 0
  let want := known && len != 0
  let fits := 3500 ≤ d && d ≤ 7000
  let s := if want && fits then s.postOwn .job (Reg.diagCable n) (BitVec.ofNat 32 d) 0xFFFF0000 else s
  let flags := b2n (len != 0) + 2 * b2n (s.bit (Reg.eqNfStatus n) 31) + 4 * b2n known
  let delay := if want && fits then d else s.cableDelay n
  let m := s.formMap n delay (j.acc.map (fun t => (t.1, (t.2 : Rat) / 64)))
  let l := s.profileBytes n m flags delay path len
  let r0 := min m.events.length 16 * 2 ^ 24 + flags
  s.mapSlot k (fun j => { j with
    acc := l.zipIdx.map (fun x => (x.2, (x.1.toNat : Int)))
    res0 := BitVec.ofNat 32 r0
    res1 := BitVec.ofNat 32 (b2n (want && !fits) * 2 ^ 31 + delay) })

/-- Step 66: the profile is installed and, with STORE = 1, written to its slot. -/
def State.learnStore (s : State) (k : Fin 8) (n : Ch) : State :=
  let j := s.slot k
  let l := j.acc.map (fun x => BitVec.ofNat 8 x.2.toNat)
  let s := s.setProfile n (some (slotProfile l)) false true
  if !j.arg0.getLsbD 0 then s.endJob k .done 0
  else if s.sectFenced (sectorOf (profileAt n)) then s.endJob k .failed errFault
  else (s.program (profileAt n) l).endJob k .done 0

/-- A step of a learning job: 64 refreshes are summed tap by tap, then the profile is formed and installed. -/
def State.learnStep (s : State) (k : Fin 8) : State :=
  let j := s.slot k
  match targetCh 2 j.target with
  | none => s
  | some n =>
    let d := (s.chan n).diag
    if j.steps ≤ 64 then
      if d.skipped || !s.linkUp n then s.endJob k .failed errUnavail
      else
        let sum := d.taps.foldl (fun a t => Store.put (fun _ => (0 : Int)) a t.1 (Store.get (fun _ => 0) a t.1 + t.2)) j.acc
        (s.mapSlot k (fun j => { j with acc := sum })).mapDiag n (fun d => { d with fresh := false })
    else if j.steps == 65 then s.learnForm k n
    else s.learnStore k n

/-! ### Ledger update (R327 to R331) -/

/-- The slot of the next record in rotation, past fenced sectors; the first one where no record was ever written or loaded. -/
def State.nextLedger (s : State) : Option Nat :=
  let last := s.fld Reg.lifeStatus 1 0
  let from_ := if s.bit Reg.lifeStatus 30 && s.reg Reg.lifeRecSeq == 0 then 3 else last
  ((List.range 4).map (fun i => (from_ + 1 + i) % 4)).find? (fun k => !s.sectFenced (sectorOf (ledgerAt k)))

/-- Trend entries due are written, those in fenced sectors left out. -/
def State.writeTrend (s : State) (due : Option (Nat × Word)) : State :=
  match due with
  | some (d, v) =>
    (trendEntries (s.reg Reg.lifeTrendDay).toNat d v).foldl (fun (s : State) e =>
      if s.sectFenced (sectorOf (trendAt e.1)) then s else s.program (trendAt e.1) (beBytes 4 e.2.toNat)) s
  | none => s

/-- Success: the base takes over what this job copied, which leaves the accumulators and what another update in progress copied, so that the totals do not move. (DEDUCED, notes/assumptions 133) -/
def State.ledgerDone (s : State) (k : Fin 8) (slot : Nat) : State :=
  let q := s.nvm.num (ledgerAt slot + 8) 4
  let a := (s.slot k).copied
  let due := (s.slot k).due
  let add (m : List (Nat × Nat)) (x : Nat × Nat) : List (Nat × Nat) := Store.put (fun _ => 0) m x.1 (Store.get (fun _ => 0) m x.1 + x.2)
  let sub (m : List (Nat × Nat)) (x : Nat × Nat) : List (Nat × Nat) := Store.put (fun _ => 0) m x.1 (Store.get (fun _ => 0) m x.1 - x.2)
  let s := allSlots.foldl (fun (s : State) i => if i == k || (s.slot i).typ != 6 then s
    else s.mapSlot i (fun j => { j with copied := a.foldl sub j.copied })) s
  let s := s.mapLife (fun l => { l with
    base := a.foldl add l.base
    acc := a.foldl sub l.acc
    trendDue := if l.trendDue == due then none else l.trendDue })
  let s := match due with
    | some (d, _) => (s.setReg Reg.lifeTrendDay (BitVec.ofNat 32 d)).wrap32 Reg.lifeTrendCount 1
    | none => s
  let s := (s.setReg Reg.lifeRecSeq (BitVec.ofNat 32 q)).setFld Reg.lifeStatus 1 0 slot
  (s.mapSlot k (fun j => { j with res0 := BitVec.ofNat 32 q, res1 := BitVec.ofNat 32 slot })).endJob k .done 0

/-- A step of an update: 1 copies the accumulators, 2 to 33 write a 32nd of the record each, and the trend entries with the last of them, 34 reads back. (DEDUCED, notes/assumptions 133) -/
def State.ledgerStep (s : State) (k : Fin 8) (fault : Bool) : State :=
  let i := (s.slot k).steps
  let slot := if i ≤ 1 then s.nextLedger else some (Store.get (fun _ => (0 : Int)) (s.slot k).acc 4096).toNat
  match slot.filter (fun x => !fault && !s.sectFenced (sectorOf (ledgerAt x))) with
  | none => s.endJob k .failed errFault
  | some slot =>
    if i ≤ 1 then
      let due := s.life.trendDue
      let a := s.life.acc
      let day := (due.map (·.1)).getD (s.reg Reg.lifeTrendDay).toNat
      let l := s.ledgerRecord ((s.reg Reg.lifeRecSeq).toNat + 1) day ((s.reg Reg.lifeTrendCount).toNat + b2n due.isSome) a
      s.mapSlot k (fun j => { j with
        acc := l.zipIdx.map (fun x => (x.2, (x.1.toNat : Int))) ++ [(4096, (slot : Int))]
        copied := a
        due := due })
    else if i ≤ 33 then
      let part := ((s.slot k).acc.filter (fun x => 128 * (i - 2) ≤ x.1 && x.1 < 128 * (i - 1) && x.1 < 4096)).map (fun x => BitVec.ofNat 8 x.2.toNat)
      let s := s.program (ledgerAt slot + 128 * (i - 2)) part
      if i == 33 then s.writeTrend (s.slot k).due else s
    else if s.ledgerPasses slot then s.ledgerDone k slot
    else s.endJob k .failed errFault

/-! ### Self-test (R392, R393) -/

/-- Whether a test saves and restores: into RETAIN, or in RETAIN. -/
def State.testSaves (s : State) (k : Fin 8) : Bool :=
  let j := s.slot k
  let n : Ch := Fin.ofNat 16 (j.target.toNat / 3)
  let i := targetDom j.target
  if 6 ≤ k.val then ((s.chan n).dom i).aim == .retain else ((s.chan n).dom i).eff == .retain

/-- The step of 14 Table 4 that follows another; 0 after the last. -/
def testNext (dsp saves : Bool) (ph : Nat) : Nat :=
  match ph with
  | 1 => 2
  | 2 => if dsp then 3 else if saves then 4 else 0
  | 3 => if saves then 4 else 0
  | _ => 0

/-- A job step of a self-test: what it found is kept, and the last job step of a step of Table 4 leads to the next. -/
def State.testStep (s : State) (k : Fin 8) (e : StepEnv) : State :=
  let j := s.slot k
  let saves := s.testSaves k
  let at_ := (Store.get (fun _ => (0 : Int)) j.acc 0).toNat
  let ph : Nat := if at_ == 0 then (if saves then 1 else 2) else at_
  let d := j.target.toNat
  let dsp := d % 3 == 0
  let cells := if ph == 2 then j.cells ++ e.cells else j.cells
  let logic := if ph == 3 then j.logic ++ e.logic.map Fin.val else j.logic
  let s := s.mapSlot k (fun j => { j with cells := cells, logic := logic, acc := [(0, (ph : Int))] })
  if !e.last then s
  else
    let s := if ph == 1 then { s with bist := { s.bist with saved := s.bist.saved ++ [d] } } else s
    let nx := testNext dsp saves ph
    if nx == 0 then
      let bad := if ph == 4 && e.fault then some (e.cells.headD (0, 0, 0)) else none
      s.testDone k { cells := cells, logic := logic.eraseDups, restore := bad, restored := ph == 4 && !e.fault }
    else s.mapSlot k (fun j => { j with acc := [(0, (nx : Int))] })

/-! ### A step of any job (R50, R53) -/

/-- The step itself; a fault in a unit that it uses ends the job in FAILED. A trim re-check (0x07) has one step, and the spec states neither its effect nor its results: free values. (DESIGN CHOICE, notes/assumptions 18 and 79) -/
def State.runStep (s : State) (k : Fin 8) (e : StepEnv) : State :=
  let j := s.slot k
  if j.typ == 5 then s.testStep k e
  else if j.typ == 6 then s.ledgerStep k e.fault
  else if e.fault then s.endJob k .failed errFault
  else if j.typ == 1 then s.tdrStep k e.vals
  else if j.typ == 2 then s.learnStep k
  else if j.typ == 3 && j.arg0 == argJournal then s.journalJob k
  else if j.typ == 3 && j.arg0 == argRepair then s.repairJob k
  else if j.typ == 7 then
    let v := Config.freeBits s.freeCtr
    let w := Config.freeBits (s.freeCtr + 1)
    ((s.tookFree.tookFree).mapSlot k (fun j => { j with res0 := BitVec.ofNat 32 v, res1 := BitVec.ofNat 32 w })).endJob k .done 0
  else s.nvmWork k false

/-- JOB_STEP (R50, R53): the next step of the job in a slot, at its turn. Where foreground work holds a unit, it yields until the next moon edge; after 64 yields it runs all the same. -/
def execJobStep (k : Fin 8) (held : Bool) (e : StepEnv) (s : State) : Host.Outcome State Fault Refusal :=
  let j := s.slot k
  if !s.stepDue k then .next s
  else if held && j.stepYields < 64 then
    .next (s.mapSlot k (fun j => { j with yields := j.yields + 1, stepYields := j.stepYields + 1, tryAt := s.moonEdge + ns 500 }))
  else .next ((s.stepTaken k).runStep k e)

end Sys2Proof.Machine
end

