-- ==== Sys2Proof/Machine/Faults.lean ====
section
/-! DEFINITION. Faults and fences of the device pages, the driver and port fences, sensors, crossings and the device safe state (R357, R403 to R418, R75). -/

namespace Sys2Proof.Machine

/-! ### What a fence of a device page does (R417) -/

/-- Domains whose self-test of entry waits go on without it (R417). -/
def State.testsSkipped (s : State) : State :=
  let s := ({ s with jobs := { s.jobs with waiting := s.jobs.waiting.filter (fun j => j.typ != 5) } }).showJobs
  s.forCh (fun n s =>
    let skip (s : State) (k : Fin 3) : State :=
      s.when (((s.chan n).dom k).test == .waiting) (fun s => s.mapDom n k (fun d => { d with test := .none }))
    (skip (skip s 0) 2).settlePower n)

/-- Jobs that p picks end in FAILED. -/
def State.failJobs (s : State) (err : Nat) (p : JobSlot → Bool) : State :=
  allSlots.foldl (fun s k => if p (s.slot k) then s.endJob k .failed err else s) s

/-- The staging buffer emptied and the trend read port cleared: what a loss of the NVM does at once (R16, R454). -/
def State.nvmGone (s : State) : State :=
  { s with nvm := { s.nvm with staged := [], stageBlock := 0 } }

/-- Trigger pins and the PPS output shown anew, and the groups steered by a PPS input settled. -/
def State.showTrig (s : State) : State :=
  let s := s.showPpsOut
  let s := allCh.foldl (fun (s : State) k => s.showPin k) s
  s.forTg (fun g s => if (s.srcPps g).isSome then s.settleGroup g else s)

/-- What a device page's fence that has just begun does (R417): the others stop at once without a further effect. (DEDUCED, notes/assumptions 82) -/
def State.devFenceActs (s : State) (p : DevPage) : State :=
  match p with
  | .nvm | .nvmw => s.nvmGone.setReg Reg.lifeTrendRd 0
  | .bist => (s.failJobs errUnavail (fun j => j.busy && j.typ == 5)).testsSkipped
  | .job => (s.failJobs errFault JobSlot.busy).testsSkipped
  | .trig => s.showTrig
  | .cmt | .cmtw => (s.forCh (fun n s => s.emptyQueue n)).emptyFire
  | _ => s

/-- A page's own fence has just been stored: the other page of a pair shows it, and the unit stops; was tells whether the channel was fenced before. (DEDUCED, notes/assumptions 35) -/
def State.pageFenced (s : State) (p : Page) (was : Bool) : State :=
  match p with
  | .chan n q => s.chFenced n q was
  | .dev q =>
    let s := match pairPage p with | some o => if s.ownFence o then s else s.devFld (hdr o hFence) 0 0 1 | none => s
    s.devFenceActs q

/-- The device fences a device page, as a write by origin 0x20 to its FENCE register. -/
def State.fenceDev (s : State) (q : DevPage) : State :=
  if s.ownFence (.dev q) then s else (s.devFld (hdr (.dev q) hFence) 0 0 1).pageFenced (.dev q) false

/-! ### Ports and drivers (R75, R304) -/

/-- Serial port p of the host port. -/
def State.sport (s : State) (p : SPort) : Port := match p with | .hsa => s.host.hsa | .hsb => s.host.hsb

/-- The state with a serial port changed. -/
def State.mapPort (s : State) (p : SPort) (f : Port → Port) : State :=
  match p with
  | .hsa => { s with host := { s.host with hsa := f s.host.hsa } }
  | .hsb => { s with host := { s.host with hsb := f s.host.hsb } }

/-- Bit of a serial port in PORT_FENCE. -/
def portBit : SPort → Nat
  | .hsa => 0 | .hsb => 1

/-- Whether a serial port is fenced (R75). -/
def State.portFenced (s : State) (p : SPort) : Bool := s.bit Reg.hostPortFence (portBit p)

/-- HSA_STAT or HSB_STAT. -/
def portStatReg : SPort → Nat
  | .hsa => Reg.hostHsaStat | .hsb => Reg.hostHsbStat

/-- The origin of a serial port's accesses. -/
def portOrigin : SPort → Origin
  | .hsa => .hsa | .hsb => .hsb

/-- The port of a frame that executes ends it: a write that the fabric already holds takes effect, no further register of a burst is accessed (R65, R75). -/
def State.portStops (s : State) (p : SPort) : State :=
  match (s.sport p).executing with
  | some e =>
    let s := s.when e.isBurst (fun s => s.setFld (portStatReg p) 6 0 e.made)
    let held := s.heldWrites.map (fun w => if w.origin == portOrigin p then { w with orphan := true } else w)
    { s with heldWrites := held }.mapPort p (fun x => { x with executing := none, tail := e.isBurst })
  | none => s

/-- The device fences serial port p (R75, 15 Table 2). -/
def State.fencePort (s : State) (p : SPort) : State :=
  if s.portFenced p then s else (s.devFld Reg.hostPortFence (portBit p) (portBit p) 1).portStops p

/-- The device fences the driver of pin k (15 Table 9). -/
def State.fencePin (s : State) (k : Fin 16) : State :=
  if s.bit Reg.trigDrvFence k.val then s else (s.devFld Reg.trigDrvFence k.val k.val 1).showPin k

/-! ### The device safe state (R410 to R413) -/

/-- The device enters the safe state for a cause, 15 Table 6 (R411, R412): links drop, Local Fault, pins and outputs at their safe levels. (DEDUCED, notes/assumptions 137) -/
def State.enterSafe (s : State) (cause : Nat) : State :=
  if s.safeState then s
  else
    let s := ((s.setAlarm 3).setFld Reg.alrmStatus 27 24 cause).intr (.dev .alrm) 1
    let s := s.forCh (fun n s => (s.settleLink n).showLf n)
    let s := (s.setOut 0 false true).setOut 1 false true
    s.showTrig

/-- A parity error in the alarm unit's registers, or a failed check of its state (R405, R410, R411): fault bit 4, whose action is fixed. -/
def State.alarmSelf (s : State) (parity : Bool) : State :=
  ((s.setBit (hdr (.dev .alrm) hFaultStatus) 4 true).intr (.dev .alrm) intFault).enterSafe (if parity then 1 else 2)

/-- ALARM_SELF_FAULT (R411). -/
def execAlarmSelfFault (parity : Bool) (s : State) : Host.Outcome State Fault Refusal := .next (s.alarmSelf parity)

/-! ### Detection in device pages (R403 to R406) -/

/-- Whether the unit of a device page's fault bit is fenced, so that it detects no further fault (R406); k names the sector or pin. -/
def State.devMuted (s : State) (p : DevPage) (i k : Nat) : Bool :=
  s.fenced (.dev p) || (match p, i with
    | .nvm, 4 => s.sectFenced k
    | .trig, 4 => s.bit Reg.trigDrvFence k
    | .host, 4 => s.portFenced .hsa
    | .host, 5 => s.portFenced .hsb
    | _, _ => false)

/-- The unit of 15 Table 2 fenced; a bit without a unit, and a block that cannot be fenced, stay in service. -/
def State.fenceUnitOf (s : State) (p : DevPage) (i k : Nat) : State :=
  match p, i with
  | .nvm, 4 => s.fenceSector (k % 128)
  | .trig, 4 => s.fencePin (Fin.ofNat 16 k)
  | .host, 4 => s.fencePort .hsa
  | .host, 5 => s.fencePort .hsb
  | p, i => if i < 4 && fenceable (.dev p) then s.fenceDev p else s

/-- What the condition itself sets before any action: DRV_FAULT for a driver, the failing entry of the journal's ring. -/
def State.faultShows (s : State) (p : DevPage) (i k : Nat) : State :=
  match p, i with
  | .trig, 4 => s.setBit Reg.trigDrvFault (k % 16) true
  | .jrnl, 0 => { s with jrnl := { s.jrnl with ring := s.jrnl.ring.map (fun r => if r.e.seq == BitVec.ofNat 32 k then { r with bad := true } else r) } }
  | _, _ => s

/-- A fault detected in a device page takes the action that ACT selects (R405). -/
def State.detectDev (s : State) (p : DevPage) (i k : Nat) : State :=
  if p == .alrm && i == 4 then s.alarmSelf (k == 0)
  else if !hasFault (.dev p) i || s.devMuted p i k then s
  else
    let act := s.faultAct (.dev p) i
    let s := (s.faultShows p i k).recordFault (.dev p) i
    let s := s.when (decide (2 ≤ act)) (fun s => s.fenceUnitOf p i k)
    s.when (act == 3) (fun s => s.selectFault (.dev p) i)

/-- A single-bit error corrected: counted, and no fault (R403); in an LDPC unit also in ECC1_COUNT (R123). -/
def State.corrected (s : State) (p : Page) (ldpc : Bool) : State :=
  match p with
  | .dev _ => s.sat32 Reg.alrmEcc1Dev 1
  | .chan n q =>
    let s := s.sat32 (Reg.alrmEcc1Ch n.val) 1
    s.when (ldpc && q == .fec) (fun s => s.sat32 (Reg.fecEcc1Count n) 1)

/-- FAULT_DETECTED (R403 to R406): a block detects the condition of fault bit i, in the unit k where the bit has several (NVM sector, TRIG pin, journal sequence); or, where ecc1 is set, a single-bit error, which the device corrects and counts. -/
def execFaultDetected (p : Page) (i : Fin 16) (k : Nat) (ecc1 : Bool) (s : State) : Host.Outcome State Fault Refusal :=
  if ecc1 then .next (s.corrected p (k == 1))
  else match p with
    | .chan n q => .next (s.detectCh n q i.val)
    | .dev q => .next (s.detectDev q i.val k)

/-! ### Sensors (15 Table 3) -/

/-- WARN of a sensor after its reading: rises above TH, falls 2.0 °C or more below it. -/
def warnNext (was : Bool) (th t : Int) : Bool := if th < t then true else if t ≤ th - 20 then false else was

/-- One sensor's reading taken. -/
def State.sense (s : State) (i : Nat) (t : BitVec 16) : State :=
  let s := s.setFld (Reg.thrmTemp i) 15 0 t.toNat
  let was := s.bit Reg.thrmWarnStatus i
  let now := warnNext was (s.sfld Reg.thrmWarnCtrl 15 0) t.toInt
  let s := s.setBit Reg.thrmWarnStatus i now
  s.when (now && !was) (fun s => s.detectDev .thrm 4 0)

/-- THERMAL_SENSOR_UPDATE (15 Table 3, Table 7): every 10 ms the 18 sensors' readings, in 0.1 °C; a fenced page holds its readings. (DESIGN CHOICE, notes/assumptions 12) -/
def execThermalSensorUpdate (t : Vector (BitVec 16) 18) (s : State) : Host.Outcome State Fault Refusal :=
  if s.fenced (.dev .thrm) then .next s
  else .next (t.toList.zipIdx.foldl (fun (s : State) x => s.sense x.2 x.1) s)

/-! ### Crossings (R355 to R357) -/

/-- What the live side of a crossing into a page's block discards in DRAIN: posted writes in the journal, codewords in DISCARD, frames of the eclipse buffer in EBUF_FLUSH, any other item in XING_DISCARD. (DEDUCED, notes/assumptions 136) -/
def State.drained (s : State) (p : Page) (items : Nat) : State :=
  let s := s.discardAt (fun a => pageOf a == some p)
  match p with
  | .chan n .fec => s.discardFlight n
  | .chan n .an => s.flushEbuf n
  | _ => s.sat32 Reg.clkXingDiscard items

/-- The request and acknowledge that follow in a four-phase handshake (R18). -/
def nextPhases : Bool × Bool → Bool × Bool
  | (false, false) => (true, false)
  | (true, false) => (true, true)
  | (true, true) => (false, true)
  | (false, true) => (false, false)

/-- Whether what a side has sampled is a crossing fault (R357): a handshake phase out of order, a gray-coded pointer that changes by more than one bit, or a pointer stepped past the other. (DEDUCED, notes/assumptions 136) -/
def crossBad : CrossSeen → Bool
  | .phases was now => now != was && now != nextPhases was
  | .gray was now => 1 < ((List.range 16).filter (fun i => (was ^^^ now).getLsbD i)).length
  | .pointers own other size => decide (other < own ∨ own + size < other)

/-- CROSSING_FAULT (R357): the fault of the block that owns the receiving side; the crossing enters DRAIN with so many items of no counter of their own. (DEDUCED, notes/assumptions 136) -/
def execCrossingFault (p : Page) (e : CrossSeen) (items : Nat) (s : State) : Host.Outcome State Fault Refusal :=
  if crossBad e then
    let s := match p with
      | .chan n q => s.detectCh n q 2
      | .dev q => s.detectDev q 2 0
    .next ((s.enterDrain [p]).drained p items)
  else .next s

/-- Whether both sides of the crossings into a page's block are out of reset, ON and clocked (R356). -/
def State.crossReady (s : State) (p : Page) : Bool :=
  s.pagePower p == .on && (match p with
    | .chan _ .ch | .dev _ => true
    | .chan n .hl => (s.chan n).hpll.gate
    | .chan n _ => (s.chan n).cpll.gate)

/-- CROSSING_RESYNC (R356): the crossing returns to RUN. -/
def execCrossingResync (p : Page) (s : State) : Host.Outcome State Fault Refusal :=
  if s.crossReady p then .next (s.mapClk (fun c => { c with drain := c.drain.filter (· != p) })) else .next s

/-! ### Conserved quantities (R419) -/

/-- A count of two registers with a high half of 16 bits. -/
def State.wide48 (s : State) (lo hi : Nat) : Nat := s.wideVal lo hi 16

/-- Decoder credits and codewords balance (R124, R125): the second while no 32-bit counter in it has saturated. -/
def State.codewordsBalance (s : State) (n : Ch) : Bool :=
  let c := s.reg (Reg.fecCredits n)
  let lost : List Nat := [Reg.fecUncorr n, Reg.fecEngLost n, Reg.fecCreditStall n, Reg.fecDiscard n]
  let hist := ((List.range 17).map (fun k => s.wide48 (Reg.fecHistLo n k) (Reg.fecHistHi n k))).sum
  let sum := hist + (lost.map (fun a => (s.reg a).toNat)).sum + bits c 19 16 + bits c 3 0 + (s.chan n).fec.rs
  bits c 27 24 + bits c 19 16 == 8 && bits c 11 8 + bits c 3 0 == 8
    && (lost.any (fun a => s.reg a == 0xFFFFFFFF) || s.wide48 (Reg.fecCwRxLo n) (Reg.fecCwRxHi n) == sum % 2 ^ 48)

/-- Whether the conserved quantities of a page balance (15 Table 10). (DEDUCED, notes/assumptions 162) -/
def State.balanced (s : State) : Page → Bool
  | .chan n .an =>
    s.wideVal (Reg.anEbufInLo n) (Reg.anEbufInHi n) 32
      == (s.wideVal (Reg.anEbufOutLo n) (Reg.anEbufOutHi n) 32 + s.fld (Reg.anEbufOcc n) 10 0) % 2 ^ 64
  | .chan n .fec => s.codewordsBalance n
  | .chan n .hl =>
    s.wide48 (Reg.hlRmRxLo n) (Reg.hlRmRxHi n)
      == (s.wide48 (Reg.hlRmSentLo n) (Reg.hlRmSentHi n) + s.wide48 (Reg.hlRmDropLo n) (Reg.hlRmDropHi n) + s.fld (Reg.hlRmQueued n) 15 0) % 2 ^ 48
  | .dev .cmt => allTg.all (fun g =>
    (s.reg (Reg.cmtGrpAdmit g.val)) == s.reg (Reg.cmtGrpFwd g.val) + s.reg (Reg.cmtGrpFired g.val) + s.reg (Reg.cmtGrpExpire g.val)
      + s.reg (Reg.cmtGrpQueued g.val))
  | .dev .jrnl => decide (s.jrnl.tokens ≤ 8)
  | _ => true

/-- A failed identity raises LOGIC in its page (R419). -/
def State.checkBalance (s : State) (p : Page) : State :=
  if s.balanced p then s else match p with | .chan n q => s.detectCh n q 3 | .dev q => s.detectDev q 3 0

/-- The device checks the conserved quantities of the device pages (R419). (DEDUCED, notes/assumptions 162) -/
def State.checkDevices (s : State) : State := (s.checkBalance (.dev .cmt)).checkBalance (.dev .jrnl)

/-! ### Time (R34, R296, R312) -/

/-- A moon edge (R34, R296): every moon copy is refreshed, schedule partitions written since the last edge take effect, and the conserved quantities of the device pages are checked. -/
def State.moonRise (s : State) : State :=
  let copied (a : Nat) : Bool := match pageOf a with
    | some p => isMoon p (a % 0x1000)
    | none => false
  let due : Bool := s.cmt.partPend.toList.any Option.isSome
  let s := { s with cmt := { s.cmt with partPend := Vector.replicate 4 none } }
  let s := ((s.when due State.showCmtw).showLive).checkDevices
  { s with moon := Store.keep copied s.regs }

/-- Whether a port reset is still in progress (R66). -/
def State.portResetting (s : State) (p : SPort) : Bool :=
  match (s.sport p).resetBy with
  | some t => decide (s.now < t)
  | none => false

/-- LOCK_NOTE (03 Table 5): the page of the port's last register access is held by another origin. -/
def State.lockNote (s : State) (p : SPort) : Bool :=
  match (s.sport p).lastPage with
  | some g => s.lockHeld g && s.lockHolder g != originCode (portOrigin p)
  | none => false

/-- What READY needs beside an idle port: start-up ended, no port reset, no fence (R62). -/
def State.portUp (s : State) (p : SPort) : Bool := s.rst.phase == .ready && !s.portResetting p && !s.portFenced p

/-- What a port shows at this instant: the parts of its status byte that no frame of its own fixes (03 Table 5), and whether it ignores frames (R75). -/
def State.portView (s : State) (p : SPort) : PortView :=
  { deaf := s.portFenced p || s.rst.phase == .inReset
    up := s.portUp p
    irq := match p with | .hsa => s.irqaPin | .hsb => s.irqbPin
    note := s.lockNote p
    safe := s.safeState
    gap := (s.sport p).gap }

/-- The instant that ends enters the record of each port, and of each channel's receive loops, that shows something new (R57, R161). -/
def State.noteViews (s : State) : State :=
  let note (s : State) (p : SPort) : State :=
    let v := s.portView p
    if (s.sport p).views.head?.any (fun x => x.2 == v) then s
    else s.mapPort p (fun x => { x with views := (s.now, v) :: x.views })
  let s := note (note s .hsa) .hsb
  allCh.foldl (fun s n => s.noteRx n) s

/-- What an empty queue leaves to time: one TPLL cycle passes, with the moon edge that falls in it; the capture log takes the oldest capture of its input buffer. (DESIGN CHOICE, notes/assumptions 2; DEDUCED, notes/assumptions 161) -/
def State.tick (s : State) : State :=
  let s := (s.noteViews.slewOut 0).slewOut 1
  let s' := ({ s.advance with now := s.now + s.cycle } : State).capDrain
  s'.when (s.moonEdge != s'.moonEdge) State.moonRise

/-! ### Groups of channels (R21 to R23) -/

/-- A write of CH_MAP has taken effect: channels begin to wait for their new group, PAIR_SPLIT follows (R22, R23). -/
def State.mapWritten (s : State) : State := s.forCh (fun n s => (s.showSplit n).markTg n)

/-- TG_CHANGE_TAKES_EFFECT (R23): at the channel's next orbit boundary in a Z mode, within 1 µs of the write otherwise. -/
def execTgChangeTakesEffect (n : Ch) (s : State) : Host.Outcome State Fault Refusal :=
  if (s.chan n).tgPend.isSome then .next (s.moveTg n) else .next s

end Sys2Proof.Machine
end

