-- ==== Sys2Proof/Machine/Reset.lean ====
section
/-! DEFINITION. Channel and block resets, returns to service after a fence, and the resets of the system domain (R309, R364, R370 to R373, R416). -/

namespace Sys2Proof.Machine

/-! ### Host-lane mode (R206) -/

/-- Whether the line mode in force fits the host lane (R180, R206). -/
def State.laneFits (s : State) (n : Ch) : Bool :=
  (s.rlyActive n && !s.tapOn n) || modeRate (modeBit (s.lineMode n)) ≤ hlRate (s.hlMode n)

/-- The host lane spreads no more (R352). -/
def State.laneStill (s : State) (n : Ch) : State := { s with clk := { s.clk with hlSsc := s.clk.hlSsc.set n (0, 63) } }

/-- MODE of the host lane has changed from old (R206): HPLL relocks, so the host lane restarts alone; a live link whose mode no longer fits negotiates again. -/
def State.hlModeWritten (s : State) (n : Ch) (old : Word) : State :=
  let was := if bits old 3 0 ≤ 0xA then bits old 3 0 else 0
  if was == s.hlMode n then s
  else
    let s := s.mapChan n (fun c => { c with hpll := {} })
    let s := s.when (!(1 ≤ s.hlMode n && s.hlMode n ≤ 6)) (fun s => s.laneStill n)
    let s := (s.setBit Reg.clkHpllStatus n.val false).setBit Reg.clkHpllStatus (16 + n.val) true
    let s := s.showLf n
    if s.linkUp n then (if s.laneFits n then s.showLatency n else s.renegotiate n) else s.settleLink n

/-! ### Registers of a page at their reset values (R372) -/

/-- Header registers that a channel or block reset leaves. -/
def resetKeeps (off : Nat) : Bool :=
  off == hViewSel || off == hFaultAction || off == hFence || off == hLock || off == hChangeSeq

/-- The registers of a page at reset value, but those of R372 and those that keep picks; its snapshot is dropped. -/
def State.clearPage (s : State) (p : Page) (keep : Nat → Bool) : State :=
  let b := pageBase p
  let stays (a : Nat) : Bool := a < b || b + 0x1000 ≤ a || resetKeeps (a - b) || keep a
  let other (a : Nat) : Bool := a < b || b + 0x1000 ≤ a
  { s.keepRegs stays with moon := Store.keep stays s.moon, snap := Store.keep other s.snap }

/-- Status registers of a channel page that show what lies outside the page: the loaded profile (R226), and the interrupts of the other pages. (DEDUCED, notes/assumptions 39) -/
def liveReg (n : Ch) (a : Nat) : Bool :=
  ([Reg.diagProfile n, Reg.chIrqPages n] : List Nat).contains a

/-- FAULT_STATUS of a page is kept by a return to service (R416). -/
def faultReg (unfence : Bool) (p : Page) (a : Nat) : Bool := unfence && a == hdr p hFaultStatus

/-- The trims in force shown again in the AFE registers (R173, R385). (DEDUCED, notes/assumptions 39) -/
def State.showAfe (s : State) (n : Ch) : State :=
  if (s.chan n).afe.eff == .on && (s.chan n).trim.sect.isSome then
    let s := s.setFld (Reg.afeHybBal n) 7 0 (((s.chan n).trim.rx.getD 0 0).toNat)
    let s := s.setFld (Reg.afeAdcStatus n) 13 8 ((s.chan n).rx.fresh.headD 0)
    s.showMaps n false
  else s

/-! ### Block resets of channel pages (R107, R133, R137, R162, R215 to R217, R239, R276, R425) -/

/-- What a block reset of a channel's page does, without its event entry; also what a page does that returns to service (R416). (DEDUCED, notes/assumptions 39 and 55 and 56) -/
def State.chPageReset (s : State) (n : Ch) (p : ChPage) (unfence : Bool) : State :=
  let g : Page := .chan n p
  let keep (a : Nat) : Bool := liveReg n a || faultReg unfence g a
  let s := (s.discardAt (fun a => pageOf a == some g)).enterDrain [g]
  match p with
  | .fec =>
    let s := (s.discardFlight n).clearPage g keep
    let s := s.mapFec n (fun f =>
      { startAt := f.startAt, endAt := f.endAt, outA := f.outA, outB := f.outB, solo := f.solo })
    (((s.iterWritten n).showLatency n).showEngines n).unitFenceActs n
  | .afe =>
    let s := (s.setReg (Reg.afeRxGain n) (resetWord (Reg.afeRxGain n))).applyGain n
    let s := (s.clearPage g keep).mapRx n (fun r => { r with corr := [] })
    let s := (s.showAfe n).showLatency n
    if s.linkUp n then s.renegotiate n else s
  | .eq =>
    let oldN := s.reg (Reg.eqNfCtrl n)
    let s := (s.clearPage g keep).mapRx n (fun r =>
      { corr := r.corr
        badSlices := r.badSlices
        badSegs := r.badSegs
        fresh := r.fresh
        sliceSwap := r.sliceSwap
        segSwap := r.segSwap })
    let s := s.mapChan n (fun c => { c with coefKept := false })
    (s.listenWritten n oldN).showEcl n
  | .an =>
    let s := (s.dropLink n).linkIdle n
    let s := s.mapChan n (fun c => { c with
      coefKept := false
      link := { removed := c.link.removed }
      rx := { c.rx with trained := false } })
    ((s.setOrbitLock n false).clearPage g keep).startNeg n
  | .hl =>
    let old := s.reg (Reg.hlMode n)
    let s := (s.clearPage g keep).mapChan n (fun c => { c with buf := c.buf.noHost })
    (s.hlModeWritten n old).showLf n
  | .ktl =>
    let s := (s.clearPage g keep).mapKtl n (fun k => { realign := true, align := k.align })
    let s := ((s.showEngine n).showLatency n).setFld (Reg.ktlStatus n) 19 16 (s.fld (Reg.pcsLineStatus n) 23 20)
    s.when (s.takes n) (fun s => s.settleGroup (s.tgOf n))
  | .diag =>
    let s := allSlots.foldl (fun s k =>
      let j := s.slot k
      if (j.typ == 1 || j.typ == 2) && targetCh j.typ j.target == some n then s.endJob k .failed errReset else s) s
    let lb := s.reg (Reg.diagLbCtrl n)
    let tp := s.reg (Reg.diagTpCtrl n)
    let s := (s.clearPage g keep).mapChan n (fun c => { c with diag := { profile := c.diag.profile } })
    (s.lbWritten n lb).tpWritten n tp
  | .rly =>
    let o := partnerCh n
    let s := ((s.discardAt (fun a => pageOf a == some (.chan o .rly))).clearPage g (fun a => keep a || a == Reg.rlyStatus n)).keepRegs
      (fun a => !(pageOf a == some (.chan o .rly) && 0x100 ≤ a % 0x1000) || a == Reg.rlyStatus o)
    ((s.setPair n false).showPartner n).showPartner o
  | _ => s.clearPage g keep

/-! ### Channel reset (R372) -/

/-- What a channel reset does, without its event entry: the link drops and the next train is cold, coefficients go, the comet queue expires, jobs end, every page takes its reset values, the relay registers of the pair too (R217); an active pair stays active, its STATUS shows so, and the partner has lost the channel (R12, R211, R372); then the channel's functions start again. (DESIGN CHOICE, notes/assumptions 145) -/
def State.chanResetActs (s : State) (n : Ch) (unfence : Bool) : State :=
  let o := partnerCh n
  let s := (((s.dropLink n).linkIdle n).setOrbitLock n false).endJobsOf n errReset true
  let s := (s.emptyQueue n).discardAt (fun a => match pageOf a with | some (.chan m _) => m == n | _ => false)
  let s := s.drainChan n allChPages
  let hpll := if s.hlMode n == 9 then (s.chan n).hpll else {}
  let s := s.mapChan n (fun c => { c with
    coefKept := false
    hpll := hpll
    line := {}
    fec := {}
    rx := { badSlices := c.rx.badSlices
            badSegs := c.rx.badSegs
            fresh := c.rx.fresh
            sliceSwap := c.rx.sliceSwap
            segSwap := c.rx.segSwap }
    link := {}
    ecl := {}
    buf := {}
    diag := { profile := c.diag.profile }
    ktl := { realign := true, align := c.ktl.align }
    remQ := [] })
  let pair : Bool := s.rlyActive n
  let shown (a : Nat) : Bool := pair && (a == Reg.rlyStatus n || a == Reg.rlyStatus o)
  let s := allChPages.foldl (fun (s : State) p =>
    s.clearPage (.chan n p) (fun a => a == Reg.diagProfile n || shown a || faultReg unfence (.chan n p) a)) s
  let s := s.keepRegs (fun a => !(pageOf a == some (.chan o .rly) && 0x100 ≤ a % 0x1000) || shown a)
  let s := s.when pair (fun s => s.mapChan o (fun c => { c with buf := { c.buf with lost := true } }))
  let s := s.setBit Reg.clkHpllStatus n.val hpll.gate
  let s := ((s.showAfe n).showLatency n).showPwr n
  let s := (((s.showForced n).showEngine n).settlePair n).showPartner o
  let s := s.when (s.takes n) (fun s => s.settleGroup (s.tgOf n))
  (s.showLf n).bringUp n

/-- Whether a domain transition of a channel is in progress. -/
def Chan.moving (c : Chan) : Bool := c.dsp.busy || c.afe.busy || c.hl.busy

/-- CHANGE_SEQ of the pages that a reset reaches takes the sequence of its event entry, the newest (R372). -/
def State.stampPages (s : State) (l : List Page) : State :=
  l.foldl (fun (s : State) p => s.setReg (hdr p hChangeSeq) (s.jrnl.seqNext - 1)) s

/-- A channel reset by an origin, with its event; during a domain transition of the channel it waits (R373). (DEDUCED, notes/assumptions 57) -/
def State.chanReset (s : State) (n : Ch) (o : Origin) : State :=
  if (s.chan n).moving then s.mapChan n (fun c => { c with resetOwed := some o })
  else
    let s := s.mapChan n (fun c => { c with resetOwed := none })
    ((s.jEvent 4 (pageBase (.chan n .ch)) (BitVec.ofNat 32 (originCode o))).stampPages (allChPages.map (.chan n ·))).chanResetActs n false

/-- A channel reset that waited for the channel's transitions takes place once they are over (R373). -/
def State.resetDue (s : State) (n : Ch) : State :=
  match (s.chan n).resetOwed with
  | some o => if (s.chan n).moving then s else s.chanReset n o
  | none => s

/-- A group whose PPS inputs have been reset (R309). -/
def Group.noPps (x : Group) : Group := { x with pps := Vector.replicate 2 {} }

/-! ### Block resets of device pages (R309, R371, R416) -/

/-- Registers of a device page that show state which a reset of the page leaves. (DEDUCED, notes/assumptions 39) -/
def devLive (a : Nat) : Bool :=
  (0x4180 ≤ a && a ≤ 0x418C) || a == Reg.bistPorts || a == Reg.bistRecStat || (0x7114 ≤ a && a ≤ 0x715C) || (0x7100 ≤ a && a ≤ 0x710C)
    || a == Reg.jobDevPending

/-- What a reset of a device block does, without an event entry. (DEDUCED, notes/assumptions 54) -/
def State.devPageReset (s : State) (q : DevPage) (unfence : Bool) : State :=
  let clear (s : State) (p : DevPage) : State := s.clearPage (.dev p) (fun a => devLive a || faultReg unfence (.dev p) a)
  let s := s.enterDrain [.dev q]
  match q with
  | .cmt | .cmtw =>
    let s := (s.forCh (fun n s => s.emptyQueue n)).emptyFire
    let s := s.mapCmt (fun m => { routes := m.routes, sched := m.sched, lastSrc := m.lastSrc, repLost := m.repLost })
    ((clear (clear s .cmt) .cmtw).showCmt).showCmtw
  | .cap | .capw => (clear (clear { s with cap := {} } .cap) .capw).showCap
  | .trig =>
    let s := { clear s .trig with trig := {} }
    let s := { s with groups := s.groups.map Group.noPps }
    (s.showTrig).showPps
  | .nvm | .nvmw => clear (clear s .nvm) .nvmw
  | .job =>
    let s := clear s .job
    (({ s with jobs := { s.jobs with slots := Vector.replicate 8 {} } } : State).showJobs).devDispatch
  | .bist =>
    let s := clear s .bist
    ({ s with bist := { s.bist with failLog := [] } } : State).showRepairs
  | q => clear s q

/-- A block reset of a device page by an origin, with its event (R371). -/
def State.devReset (s : State) (q : DevPage) (o : Origin) : State :=
  ((s.jEvent 5 (devBase q) (BitVec.ofNat 32 (originCode o))).stampPages ((pairPage (.dev q)).toList)).devPageReset q false

/-! ### Return to service (R416) -/

/-- A page's own fence has just been removed; was tells whether the channel was fenced before. A page returns as after a block reset, a channel, when the last of its fences has gone, as after a channel reset. (DEDUCED, notes/assumptions 39 and 54) -/
def State.pageReturns (s : State) (p : Page) (was : Bool) : State :=
  match p with
  | .chan n q =>
    if chanFencePages.contains q then
      if was && !s.chanFenced n then
        ((s.showChanFence n).showForced n).chanResetActs n true
      else s
    else if s.chanFenced n then s
    else (s.chPageReset n q true).settleLink n
  | .dev q =>
    let s := match pairPage p with | some o => if s.ownFence o then s.devFld (hdr o hFence) 0 0 0 else s | none => s
    s.devPageReset q true

/-! ### Resets of the system domain (R370) -/

/-- The memories of the system domain that a RESET_N or a keyed DEV.RESET keeps in a channel: failed elements, and with keep its coefficients and stored resolution in a DSP domain in RETAIN (R371, R385). -/
def Chan.afterReset (c : Chan) (keep : Bool) : Chan :=
  { dsp := { eff := if keep then .retain else .off, want := if keep then .retain else .off }
    coefKept := keep
    vco := if keep then c.vco else 22500
    rx := { badSlices := c.rx.badSlices
            badSegs := c.rx.badSegs
            ec := if keep then c.rx.ec else []
            frac := if keep then c.rx.frac else []
            main := if keep then c.rx.main else 10
            trained := keep }
    link := if keep then { nonce := c.link.nonce, lpNonce := c.link.lpNonce, zlpi := c.link.zlpi, ssc := c.link.ssc } else {} }

/-- Registers that the island holds: the block registers of TK and LIFE (R10). -/
def islandReg (a : Nat) : Bool := (0x10100 ≤ a && a < 0x11000) || (0x11100 ≤ a && a < 0x12000)

/-- Registers that show the commit state, which survives with the ring (R45). -/
def ringReg (a : Nat) : Bool := a == Reg.jrnlCommitStatus

/-- Locks held now, with their contents: breaks that are owed after the event entry (R40). -/
def State.heldLocks (s : State) : List (Nat × Word) :=
  (allPages.filter s.lockHeld).map (fun p => (pageBase p, s.lockWord p))

/-- What the next start owes to the journal after a reset of a kind (R373): the first reset that it has not recorded, and how many RESET_N interrupted a start. (DEDUCED, notes/assumptions 43 and 44) -/
def Rst.owe (r : Rst) (k : StartKind) : Option StartKind × Nat :=
  match r.owed, k with
  | _, .vao => (some .vao, 0)
  | some .vao, .corePower => (some .vao, r.interrupted)
  | some _, .corePower => (some .corePower, r.interrupted)
  | none, .corePower => (some .corePower, 0)
  | some .devReset, .resetN => (some .resetN, r.interrupted)
  | some x, _ => (some x, r.interrupted + 1)
  | none, k => (some k, 0)

/-- Entries that a function appends to the journal are taken out of it and owed to the time after the next event entry (R36, R373). (DEDUCED, notes/assumptions 44) -/
def State.owing (s : State) (f : State → State) : State :=
  let t := f s
  let k := (t.jrnl.seqNext - s.jrnl.seqNext).toNat
  { t with jrnl := s.jrnl, rst := { t.rst with owedIsland := t.rst.owedIsland ++ ((t.jrnl.ring.take k).map (·.e)).reverse } }

/-- A ledger update and a trend fetch that a reset of the system domain ends (R54, R328). -/
def State.lifeStops (s : State) : State :=
  ((s.mapLife (fun l => { l with fetchBy := none })).setBit Reg.lifeStatus 28 false).setReg Reg.lifeTrendRd 0

/-- RESET_N or a keyed DEV.RESET takes effect, from an origin where keys caused it (R45, R54, R254, R309, R358, R370, R371): the island, the ring, the failed elements and the pending repair records stay; everything else of the system domain and of the channels restarts. (DEDUCED, notes/assumptions 43 and 46 and 53 and 73) -/
def State.systemReset (s : State) (k : StartKind) (by_ : Nat) (keepCoef : Bool) : State :=
  let kept (n : Ch) : Bool := keepCoef && (s.chan n).dsp.eff == .on && s.linkUp n
  let counted : Bool := s.rst.owed == some .devReset
  let s := s.discardPosted (fun q => q != .tpll)
  let locks := s.heldLocks
  let owed := s.rst.owe k
  let rst : Rst :=
    { kind := k
      owed := owed.1
      interrupted := owed.2
      afterVao := s.rst.afterVao
      straps := s.rst.straps
      owedBreaks := if s.rst.owed.isSome then s.rst.owedBreaks else locks
      byOrigin := by_
      owedIsland := if s.rst.owed.isSome then s.rst.owedIsland else [] }
  let keptRegs (a : Nat) : Bool := islandReg a || ringReg a || allCh.any (fun n => kept n && keptReg n a)
  let s := { s with
    regs := Store.keep keptRegs s.regs
    moon := Store.keep islandReg s.moon
    retained := Store.keep (fun a => allCh.any (fun n => kept n && keptReg n a)) s.regs
    snap := []
    heldWrites := []
    leases := []
    jobs := {}
    jrnl := { s.jrnl with fetch := none }
    nvm := { s.nvm with staged := [], stageBlock := 0 }
    nvmDom := { eff := .off, want := .on }
    rst := rst
    clk := { lineSsc := Vector.ofFn (fun n => if kept n then s.clk.lineSsc[n] else (0, 63)) }
    cmt := {}
    trig := {}
    cap := {}
    bist := { pend := s.bist.pend }
    alrm := {}
    host := { jtag := { s.host.jtag with stalled := false } }
    chans := Vector.ofFn (fun n => (s.chan n).afterReset (kept n))
    groups := s.groups.map Group.noPps }
  let s := s.forCh (fun n s => if kept n then (s.setReg (Reg.pwrChReq n.val) 0x10).showPwr n else s)
  (s.lifeStops.lifeAdd 2 (b2n !counted)).owing (fun s => s.forTg (fun g s => s.settleGroup g))

/-- CORE_POWER_LOSS (R364): the system, NVM and channel domains go OFF and lose their memories; the island runs on, the posted writes that wait in it too (R10, R36). The RESET_N that R362 holds low across the loss is one reset with it. -/
def State.coreLoss (s : State) : State :=
  let owed := s.rst.owe .corePower
  let counted : Bool := s.rst.owed.isSome
  let s := { s with
    regs := Store.keep islandReg s.regs
    moon := Store.keep islandReg s.moon
    retained := []
    snap := []
    posted := s.posted.filter (fun w => pdomAt w.addr == PDom.tpll)
    heldWrites := []
    leases := []
    jrnl := {}
    jobs := {}
    nvm := { s.nvm with staged := [], stageBlock := 0 }
    nvmDom := { eff := .off, want := .on }
    rst :=
      { kind := .corePower
        owed := owed.1
        interrupted := owed.2
        afterVao := s.rst.afterVao
        straps := s.rst.straps
        owedIsland := s.rst.owedIsland }
    clk := {}
    cmt := {}
    trig := {}
    cap := {}
    bist := {}
    alrm := {}
    host := { jtag := { s.host.jtag with stalled := false } }
    chans := Vector.replicate 16 {}
    groups := s.groups.map Group.noPps }
  (s.lifeStops.lifeAdd 2 (b2n !counted)).owing (fun s => s.forTg (fun g s => s.settleGroup g))

/-- What happens where an analog quantity lies beyond a limit surely or not at all, and a free choice between (R362, R363). (DESIGN CHOICE, notes/assumptions 4) -/
def State.ifBeyond (s : State) (surely never : Bool) (act : State → State) : State :=
  if surely then act s
  else if never then s
  else if Config.freeBits s.freeCtr % 2 == 1 then act s.tookFree else s.tookFree

/-- The falling threshold of a supply detector, 0.58 V within ±0.03 V (R363), against a rail's voltage in mV. -/
def State.ifRailLow (s : State) (mv : Nat) (act : State → State) : State := s.ifBeyond (mv < 550) (610 < mv) act

/-- CORE_POWER_LOSS (R363, R364): VCORE, at so many mV, while VAO stays up. -/
def execCorePowerLoss (mv : Nat) (s : State) : Host.Outcome State Fault Refusal := .next (s.ifRailLow mv State.coreLoss)

/-- RESET_N (R362, R370): a low pulse of so many ns: from 10 µs on it always resets, below 1 µs never, and between it can do either. -/
def execResetN (low : Nat) (s : State) : Host.Outcome State Fault Refusal :=
  .next (s.ifBeyond (10000 ≤ low) (low < 1000) (fun s => s.systemReset .resetN 0 false))

/-- The state after a VAO power-on reset (R370): the whole device restarts, the island included; the NVM array keeps its bytes and its fenced sectors. -/
def State.vaoReset (s : State) : State :=
  { State.reset with
    now := s.now
    freeCtr := s.freeCtr
    pending := s.pending
    nvm := { mem := s.nvm.mem, sectFence := s.nvm.sectFence }
    tk := { judgeAt := s.now, tkrAt := s.now } }

/-- VAO_POWER_ON_RESET (R363, R370): VAO, at so many mV. (DESIGN CHOICE, notes/assumptions 3) -/
def execVaoPowerOnReset (mv : Nat) (s : State) : Host.Outcome State Fault Refusal := .next (s.ifRailLow mv State.vaoReset)

/-- DEV_RESET_BEGIN (R371): 1 µs after the second write. -/
def execDevResetBegin (s : State) : Host.Outcome State Fault Refusal :=
  match s.rst.go with
  | some (o, t, keep) => if t + us 1 ≤ s.now then .next (s.systemReset .devReset (originCode o) keep) else .next s
  | none => .next s

/-- DEV_RESET_LAPSE (R371): an armed sequence without its second write lapses at 1 ms, as a write by origin 0x20. -/
def execDevResetLapse (s : State) : Host.Outcome State Fault Refusal :=
  match s.rst.armed with
  | some (_, t) =>
    if t + ms 1 ≤ s.now then
      .next ({ s with rst := { s.rst with armed := none } }.jAppend (originCode .device) 0 Reg.devReset 1 0)
    else .next s
  | none => .next s

end Sys2Proof.Machine
end

