-- ==== Sys2Proof/Machine/View.lean ====
section
/-! DEFINITION. What a read of a register returns: contents that follow from other state, views, copies and snapshots (R2, R13, R30, R32 to R34, R37, R407, R427, R428). -/

namespace Sys2Proof.Machine

/-! ### PAGE_STATUS (02 Table 8) -/

/-- Whether the clock source of a page's block is locked and not coasting: CPLLn, HPLLn, TPLL in the island, SPLL elsewhere (01 Tables 4 and 5, R347). (DEDUCED, notes/assumptions 34) -/
def State.clockOk (s : State) : Page → Bool
  | .chan _ .ch => s.clk.spll.gate
  | .chan n .hl => (s.chan n).hpll.gate
  | .chan n _ => (s.chan n).cpll.gate
  | .dev .tk | .dev .life => s.tk.tpll.gate && !s.coasting
  | .dev _ => s.clk.spll.gate

/-- Whether the block of a page is enabled, by the one enable that its page has. DEDUCED. (DEDUCED, notes/assumptions 34) -/
def State.enabled (s : State) : Page → Bool
  | .chan n .an => s.bit (Reg.anAnCtrl n) 0
  | .chan n .rly => s.rlyActive n
  | .dev .cap => s.bit Reg.capCtrl 0
  | .dev .trim => s.bit Reg.trimCtrl 0
  | _ => true

/-- PAGE_STATUS of a page. (DEDUCED, notes/assumptions 34) -/
def State.pageStatus (s : State) (p : Page) : Word :=
  let on := s.pagePower p == .on
  let ck := s.clockOk p
  let fe := s.fenced p
  BitVec.ofNat 32 (bitList [on && ck && !fe && s.enabled p, fe, ck, on, pageMoon p, s.posted.any (fun w => pageOf w.addr == some p), false, false,
    s.fld (hdr p hFaultStatus) 15 0 != 0])

/-! ### Contents -/

/-- Address in the user area that DATAi of NVMW shows (R454). -/
def State.nvmwAddr (s : State) (i : Nat) : Nat := s.fld Reg.nvmwBase 16 0 + 4 * i

/-- What DATAi of NVMW reads: the staged word, or the NVM's bytes; all ones past the area and in a fenced sector (R418, R454). -/
def State.nvmwWord (s : State) (i : Nat) : Word :=
  let a := s.nvmwAddr i
  if 0x18000 ≤ s.fld Reg.nvmwBase 16 0 then 0xFFFFFFFF
  else match s.nvm.staged.find? (fun w => w.1 == a) with
    | some w => w.2
    | none => if s.sectFenced (sectorOf (areaUser + a)) then 0xFFFFFFFF else BitVec.ofNat 32 (s.nvm.num (areaUser + a) 4)

/-- HSx_STAT: BURST_COUNT as stored, V1 and FENCED as they hold (03 Table 12). -/
def State.portStat (s : State) (p : SPort) (w : Word) : Word :=
  withBits (withBits w 16 16 (b2n (s.sport p).v1)) 17 17 (b2n (s.portFenced p))

/-- The device pages, or a channel's pages, that contribute to an interrupt pin, as bits in address order (R407). -/
def irqBits (l : List Page) (f : Page → Bool) : Nat := bitList (l.map f)

/-- Pages of channel n. -/
def pagesOf (n : Ch) : List Page := allChPages.map (Page.chan n)

/-- The contents of a register at this instant in view 2, before any copy: the stored contents, or what follows from other state. -/
def State.contents (s : State) (a : Nat) : Word :=
  match pageOf a with
  | none => 0
  | some p =>
    let w := s.reg a
    if a % 0x1000 == hStatus then s.pageStatus p
    else if a % 0x1000 == hLock then s.lockWord p
    else match p with
      | .dev .dev =>
        if a == Reg.devChipId then withBits w 7 0 (if Config.gradeE then 2 else 1)
        else if a == Reg.devReset then BitVec.ofNat 32 (b2n s.rst.armed.isSome) else w
      | .dev .host =>
        if a == Reg.hostHsaStat then s.portStat .hsa w else if a == Reg.hostHsbStat then s.portStat .hsb w else w
      | .dev .jrnl =>
        let j := s.jrnl
        if a == Reg.jrnlSeqNext then j.seqNext
        else if a == Reg.jrnlSeqCommit then j.seqCommit
        else if a == Reg.jrnlRingOldest then j.oldest
        else if a == Reg.jrnlGapTotal then j.gapTotal
        else if a == Reg.jrnlWrapCount then j.wrapCount
        else if a == Reg.jrnlCommitStatus then withBits w 6 0 j.nextPage
        else if a == Reg.jrnlTokens then BitVec.ofNat 32 j.tokens
        else w
      | .dev .alrm =>
        if a == Reg.alrmIrqDevA then BitVec.ofNat 32 (irqBits (allDevPages.map Page.dev) s.irqA)
        else if a == Reg.alrmIrqDevB then BitVec.ofNat 32 (irqBits (allDevPages.map Page.dev) s.irqB)
        else if a == Reg.alrmIrqCh then
          BitVec.ofNat 32 (bitList (allCh.map (fun n => (pagesOf n).any s.irqB)) * 2 ^ 16 + bitList (allCh.map (fun n => (pagesOf n).any s.irqA)))
        else w
      | .dev .cmt =>
        if Reg.cmtQstatus 0 ≤ a ∧ a ≤ Reg.cmtQstatus 15 ∧ (a - Reg.cmtQstatus 0) % (Reg.cmtQstatus 1 - Reg.cmtQstatus 0) == 0 then
          withBits w 15 15 (b2n (!s.carries (Fin.ofNat 16 ((a - Reg.cmtQstatus 0) / (Reg.cmtQstatus 1 - Reg.cmtQstatus 0)))))
        else w
      | .dev .nvmw => if 0x200 ≤ a % 0x1000 then s.nvmwWord ((a % 0x1000 - 0x200) / 4) else w
      | .chan n .ch =>
        if a == Reg.chIrqPages n then BitVec.ofNat 32 (irqBits (pagesOf n) s.irqB * 2 ^ 16 + irqBits (pagesOf n) s.irqA) else w
      | _ => w

/-! ### Snapshots (R37) -/

/-- Whether a register is held by a snapshot (R37). -/
def isHeld (p : Page) (off : Nat) : Bool := 0x100 ≤ off && ((regRow p off).map RegRow.held).getD false

/-- The page whose ALL covers a page: CHn.CH or DEV. (DEDUCED, notes/assumptions 32) -/
def coverOf : Page → Page
  | .chan n _ => .chan n .ch
  | .dev _ => .dev .dev

/-- Whether a page's held registers read from its snapshot: its own HOLD, or ALL and HOLD of the page that covers it. (DEDUCED, notes/assumptions 32) -/
def State.snapped (s : State) (p : Page) : Bool :=
  let own := s.reg (hdr p hSnap)
  let up := s.reg (hdr (coverOf p) hSnap)
  own.getLsbD 1 && (own.getLsbD 2 || (up.getLsbD 3 && up.getLsbD 2))

/-! ### Views (R32, R33, R427, R428) -/

/-- Whether an origin uses view 1 of a page (R32). (DEDUCED, notes/assumptions 37) -/
def State.view1 (s : State) (o : Origin) (p : Page) : Bool :=
  match originView o with
  | some i => hasView1 p && s.fld (hdr p hViewSel) (i + 3) i == 1
  | none => false

/-- A MODE code as view 1 shows it: 0x8 to 0xB read 0xF. -/
def mode1 (m : Nat) : Nat := if 8 ≤ m ∧ m ≤ 0xB then 0xF else m

/-- A register's contents as view 1 reads them (16 Table 7). -/
def view1Read (p : Page) (off : Nat) (w : Word) : Word :=
  let at_ (a : Nat) : Bool := off == a % 0x1000
  if off == hPageId then withBits w 15 0 0x0103
  else match p with
    | .dev .tg => if at_ Reg.tgChMap then w &&& 0xFFFF else w
    | .dev .tk => if (allTg.any (fun g => at_ (Reg.tkGrpDevId g.val))) then w &&& 0x3FF else w
    | .chan _ .pcs => if at_ (Reg.pcsLineStatus 0) then withBits (withBits w 23 16 0) 3 0 (mode1 (bits w 3 0)) else w
    | .chan _ .an =>
      if at_ (Reg.anAdv 0) then w &&& 0x1F
      else if at_ (Reg.anResolved 0) then withBits (withBits (withBits w 23 16 0) 15 15 0) 27 24 (mode1 (bits w 27 24))
      else w
    | .chan _ .hl => if at_ (Reg.hlMode 0) then (if 7 ≤ bits w 3 0 ∧ bits w 3 0 ≤ 0xA then withBits w 3 0 0xF else w) else w
    | .chan _ .ktl =>
      if at_ (Reg.ktlCtrl 0) then withBits w 8 8 0
      else if at_ (Reg.ktlPartnerInfo 0) ∨ at_ (Reg.ktlPartnerRoot 0) then withBits w 13 10 0
      else w
    | _ => w

/-- The data of a view 1 write as view 2 takes them, for a register that holds old (16 Table 7). (DEDUCED, notes/assumptions 37) -/
def view1Data (p : Page) (off : Nat) (old d : Word) : Word :=
  let at_ (a : Nat) : Bool := off == a % 0x1000
  match p with
  | .dev .tg => if at_ Reg.tgChMap then withBits d 31 16 (bits old 31 16) else d
  | .dev .tk => if (allTg.any (fun g => at_ (Reg.tkGrpDevId g.val))) then d &&& 0x3FF else d
  | .chan _ .an => if at_ (Reg.anAdv 0) then withBits d 31 5 (bits old 31 5) else d
  | .chan _ .hl => if at_ (Reg.hlMode 0) ∧ bits d 3 0 == 0xF then withBits d 3 0 (bits old 3 0) else d
  | .chan _ .ktl => if at_ (Reg.ktlCtrl 0) then withBits d 8 8 (bits old 8 8) else d
  | _ => d

/-! ### Reads -/

/-- What a permitted read by an origin returns, without its side effect. (DEDUCED, notes/assumptions 32) -/
def State.readReg (s : State) (o : Origin) (a : Nat) : Word :=
  match pageOf a with
  | none => 0
  | some p =>
    let off := a % 0x1000
    let w :=
      if isHeld p off && s.snapped p then Store.get resetWord s.snap a
      else if 0x100 ≤ off && s.regPower p off == .retain then Store.get resetWord s.retained a
      else if isMoon p off then Store.get resetWord s.moon a
      else s.contents a
    if s.view1 o p then view1Read p off w else w

/-- A read's side effects: the next journal entry, the next capture entries (R49, R307). -/
def State.afterRead (s : State) (a : Nat) : State :=
  if a == Reg.jrnlEntryW 7 then s.nextEntry
  else if a == Reg.capwEntryWord 63 then s.capwAdvance
  else s

end Sys2Proof.Machine
end

