-- ==== Sys2Proof/Machine/Write.lean ====
section
/-! DEFINITION. What a register write makes of its register and what follows from it: access codes, keys, refusals, the journal entry and the consequences (R20, R28 to R41, R44, and the write rules of every chapter). -/

namespace Sys2Proof.Machine

/-! ### Results (03 Table 6) -/

abbrev rOk : BitVec 3 := 0
/-- WRITE_POSTED. -/
abbrev rPosted : BitVec 3 := 1
/-- BUS_ERROR. -/
abbrev rBus : BitVec 3 := 2
/-- FENCED. -/
abbrev rFenced : BitVec 3 := 3
/-- CRC_ERR. -/
abbrev rCrc : BitVec 3 := 4
/-- BAD_OP. -/
abbrev rBadOp : BitVec 3 := 5
/-- NOT_ACCEPTED. -/
abbrev rNot : BitVec 3 := 6
/-- ABORTED. -/
abbrev rAborted : BitVec 3 := 7

/-! ### Keys -/

/-- KEY of a write. -/
def keyOf (d : Word) : Nat := bits d 31 16

abbrev keyFence : Nat := 0xFE9C
/-- KEY of CHn.CH.RESET and DEV.BLK_RESET. -/
abbrev keyReset : Nat := 0xC3A5
/-- KEY of ALRM.SAFE_CMD. -/
abbrev keySafe : Nat := 0x5AFE

/-! ### Bits that exist -/

/-- Block bits of INT_STATUS that a page has (R108, R134, R174, R176, R218, R240, R279, R311, R333, R359 and the tables of the other chapters). -/
def blockInts : Page → Nat
  | .dev .host => 0x1F
  | .dev .jrnl => 0x7
  | .dev .job => 0xFF
  | .dev .clk => 0x3FF
  | .dev .pwr => 0x7
  | .dev .trim => 0x7
  | .dev .bist => 0xF
  | .dev .alrm => 0x3
  | .dev .tk => 0xFFFF1FF
  | .dev .life => 0x7
  | .dev .cmt => 0xF
  | .dev .cap => 0x1F
  | .dev .trig => 0x701FFFF
  | .dev .tg => 0x1
  | .dev _ => 0
  | .chan _ .pcs => 0x1F
  | .chan _ .fec => 0x7F
  | .chan _ .afe => 0x1F
  | .chan _ .eq => 0x1F
  | .chan _ .an => 0x3F
  | .chan _ .hl => 0x7
  | .chan _ .ktl => 0x3F
  | .chan _ .diag => 0x3F
  | .chan _ .rly => 0x3
  | .chan _ _ => 0

/-- All bits of INT_STATUS that a page has: FAULT, LOCK_EVT, SNAP_DONE and the block's. -/
def intMask (p : Page) : Word := BitVec.ofNat 32 (0xE0000000 + blockInts p)

/-- The ACT fields of FAULT_ACTION that a page has (R405). -/
def actMask (p : Page) : Word :=
  BitVec.ofNat 32 (((List.range 16).map (fun i => if hasFault p i then 3 * 4 ^ i else 0)).sum)

/-! ### What a write makes of its register -/

/-- What a write makes of its register: whether it changes nothing by rule (IGNORED), whether its entry shows the data (DATA), and the contents after it. -/
structure WriteResult where
  ignored : Bool := false
  data : Bool := false
  new : Word := 0
  deriving DecidableEq, Repr

/-- A write that changes nothing. -/
def WriteResult.none (old : Word) : WriteResult := { ignored := true, data := true, new := old }

/-- A write whose contents after it are known. -/
def WriteResult.to (w : Word) : WriteResult := { new := w }

/-- Contents after a write by the access codes of 00 Table 6: RW takes the data, W1C clears; W1S, WO and RWK bits are left to the register's own rule. (DEDUCED, notes/assumptions 40) -/
def RegRow.after (r : RegRow) (old d : Word) : Word := (old &&& ~~~r.rw &&& ~~~(r.w1c &&& d)) ||| (d &&& r.rw)

/-- Whether a register has any writable bit. -/
def RegRow.writable (r : RegRow) : Bool := (r.rw ||| r.w1c ||| r.w1s ||| r.wo ||| r.rwk) != 0

/-- PAGE_VIEW_SEL after a write: each field judged on its own (R32). -/
def viewSel (p : Page) (old d : Word) : Word :=
  [0, 4, 8, 12].foldl (fun (w : Word) i => if (pageViews p).getLsbD (bits d (i + 3) i) then withBits w (i + 3) i (bits d (i + 3) i) else w) old

/-- Whether some field of a PAGE_VIEW_SEL write is refused. -/
def viewTurned (p : Page) (d : Word) : Bool := ([0, 4, 8, 12] : List Nat).any (fun i => !(pageViews p).getLsbD (bits d (i + 3) i))

/-- LOCK after a write by an origin that can hold locks (R38). (DEDUCED, notes/assumptions 26 and 63) -/
def lockAfter (o : Origin) (old d : Word) : Word :=
  let w := old &&& ~~~(d &&& 0x60000000)
  let lease := min (bits d 13 0) 16000
  if !old.getLsbD 31 then
    (if lease == 0 then w else withBits (withBits (withBits w 31 31 1) 23 16 (originCode o)) 13 0 lease)
  else if bits old 23 16 == originCode o then
    (if lease == 0 then lockGone w else withBits w 13 0 lease)
  else withBits w 30 30 1

/-- Whether a channel's own fence may not be removed (R416): BAD trims, or too few elements. (DEDUCED, notes/assumptions 41) -/
def State.mustFence (s : State) (n : Ch) : Bool :=
  s.bit (Reg.trimChStatus n.val) 29 || decide (4 < (s.chan n).rx.badSlices.length) || decide (8 < (s.chan n).rx.badSegs.length)

/-- A write to a header register (R30 to R41). (DEDUCED, notes/assumptions 26 and 52) -/
def State.headerResult (s : State) (o : Origin) (p : Page) (off : Nat) (old d : Word) : WriteResult :=
  if off == hViewSel then
    let w := viewSel p old d
    if viewTurned p d && w == old then .none old else .to w
  else if off == hIntStatus then .to (old &&& ~~~d)
  else if off == hIntEnA || off == hIntEnB then .to d
  else if off == hIntTest then { data := true, new := 0 }
  else if off == hFaultStatus then .to (old &&& ~~~(d &&& 0xFFFF))
  else if off == hFaultAction then .to ((old &&& ~~~(actMask p)) ||| (d &&& actMask p))
  else if off == hFence then
    if keyOf d != keyFence then .none old
    else if d.getLsbD 0 && !fenceable p then .none old
    else if !d.getLsbD 0 && (match p with | .chan n .ch => s.mustFence n | _ => false) then .none old
    else .to (withBits old 0 0 (bits d 0 0))
  else if off == hLock then (if originExternal o then .to (lockAfter o old d) else .none old)
  else if off == hSnap then
    let all := p == coverOf p
    if d.getLsbD 0 && (s.fenced p || s.pagePower p != .on) then .none old
    else
      let w := withBits (withBits old 2 2 (bits d 2 2)) 3 3 (if all then bits d 3 3 else 0)
      .to (if d.getLsbD 0 then withBits w 1 0 1 else w)
  else .none old

/-- DEV.RESET: which step of R371 a write by an origin is; 1 arms, 2 goes, 0 is any other. (DEDUCED, notes/assumptions 52) -/
def State.resetStep (s : State) (o : Origin) (d : Word) : Nat :=
  match s.rst.armed with
  | none => if keyOf d == 0x5A17 && d.getLsbD 0 then 1 else 0
  | some (by_, t) => if keyOf d == 0xA5E8 && d.getLsbD 1 && by_ == o && s.now ≤ t + ms 1 then 2 else 0

/-- A write of SLOT_CTRL with START that is refused (R51): the slot is in WAIT or RUN and the same write does not end its job, or an external origin starts slot 6 or 7. -/
def State.startTurned (s : State) (o : Origin) (k : Fin 8) (d : Word) : Bool :=
  d.getLsbD 16 && (((s.slot k).busy && !d.getLsbD 17) || (6 ≤ k.val && originExternal o))

/-- Whether the mailbox waits for a reply (R73). -/
def State.rmtWaiting (s : State) : Bool := s.fld Reg.hostRmtStatus 31 30 == 1

/-- A write to DATAi of NVMW is refused at another block than the staged one, and past the user area (R454). -/
def State.stageTurned (s : State) : Bool :=
  let o := s.fld Reg.nvmwBase 16 0
  0x18000 ≤ o || (!s.nvm.staged.isEmpty && s.nvm.stageBlock != o)

/-- The register index of a slot register. -/
def slotAt (off : Nat) : Fin 8 := Fin.ofNat 8 ((off - 0x200) / 0x20)

/-- The group of a GRP register at a stride of 0x40. -/
def grpAt (base off : Nat) : Tg := Fin.ofNat 4 ((off - base) / 0x40)

/-- Whether a write to a block register of a device page is refused by a rule of its own. -/
def State.devTurned (s : State) (o : Origin) (q : DevPage) (off : Nat) (d : Word) : Bool :=
  let at_ (a : Nat) : Bool := off == a % 0x1000
  match q with
  | .dev =>
    if at_ Reg.devReset then s.resetStep o d == 0
    else if at_ Reg.devBlkReset then keyOf d != keyReset
    else false
  | .host =>
    if at_ Reg.hostPortFence then keyOf d != keyFence
    else if at_ Reg.hostRmtCtrl then d.getLsbD 31 && s.rmtWaiting
    else false
  | .job => decide (0x200 ≤ off) && off % 0x20 == 0 && s.startTurned o (slotAt off) d
  | .nvmw => decide (0x200 ≤ off) && s.stageTurned
  | .alrm => at_ Reg.alrmSafeCmd && keyOf d != keySafe
  | .trig => at_ Reg.trigDrvFence && keyOf d != keyFence
  | .cmt => (allTg.any (fun g => at_ (Reg.cmtGrpPart g.val) && s.partRefused g d))
  | .cmtw => at_ Reg.cmtwCmd && s.cmtwRefused (bits d 2 0)
  | .tk =>
    if at_ Reg.tkSetCmd then s.timeRefused (Fin.ofNat 4 (bits d 5 4)) (bits d 1 0)
    else if at_ Reg.tkTaiUtc then s.leapValid
    else if at_ Reg.tkLeapCmd then s.leapRefused (bits d 1 0)
    else false
  | _ => false

/-- Whether a write to a block register of a channel page is refused by a rule of its own. -/
def State.chTurned (s : State) (n : Ch) (q : ChPage) (off : Nat) (d : Word) : Bool :=
  let at_ (a : Nat) : Bool := off == a % 0x1000
  match q with
  | .ch => at_ (Reg.chReset 0) && keyOf d != keyReset
  | .fec => at_ (Reg.fecUnitFence 0) && keyOf d != keyFence
  | .eq =>
    if at_ (Reg.eqTrCtrl 0) then s.timingRefused n d
    else at_ (Reg.eqNfCtrl 0) && d.getLsbD 0 && s.linkUp n
  | .diag =>
    if at_ (Reg.diagLbCtrl 0) then s.lbRefused n d
    else at_ (Reg.diagTpCtrl 0) && s.tpRefused n d
  | .rly => at_ (Reg.rlyCtrl 0) && n.val % 2 == 1
  | _ => false

/-- Contents of a block register after a write that is not refused, where they are not those of the access codes alone. (DEDUCED, notes/assumptions 36 and 40) -/
def State.blockNew (s : State) (o : Origin) (p : Page) (off : Nat) (r : RegRow) (old d : Word) : Word :=
  let at_ (a : Nat) : Bool := off == a % 0x1000
  let w := r.after old d
  match p with
  | .dev .dev => if at_ Reg.devReset then BitVec.ofNat 32 (b2n (s.resetStep o d == 1)) else w
  | .dev .host =>
    if at_ Reg.hostPortFence then d &&& 3
    else if at_ Reg.hostBuserrMdio || at_ Reg.hostBuserrRmt then (if d.getLsbD 31 then 0 else old)
    else w
  | .dev .jrnl => if at_ Reg.jrnlCommitCtrl && d.getLsbD 31 then withBits w 31 31 1 else w
  | .dev .nvmw => if at_ Reg.nvmwBase then d &&& 0x1FF00 else w
  | .dev .trig => if at_ Reg.trigDrvFence then d &&& 0xFFFF else w
  | .dev .cap => if at_ Reg.capAckSeq then s.ackActs d else w
  | .chan _ .fec => if at_ (Reg.fecUnitFence 0) then d &&& 7 else w
  | _ => w

/-- A write to a block register: refused, or stored by its access codes and keys. -/
def State.blockResult (s : State) (o : Origin) (p : Page) (off : Nat) (old d : Word) : WriteResult :=
  match regRow p off with
  | none => .none old
  | some r =>
    let turned := match p with | .dev q => s.devTurned o q off d | .chan n q => s.chTurned n q off d
    if !r.writable || turned then .none old
    else { data := r.wo != 0, new := s.blockNew o p off r old d }

/-- What a write by an origin makes of a register that holds old. -/
def State.writeResult (s : State) (o : Origin) (p : Page) (off : Nat) (old d : Word) : WriteResult :=
  if off < 0x100 then s.headerResult o p off old d else s.blockResult o p off old d

/-- Contents stored: DATAi of NVMW goes to the staging buffer, a lease is timed from now, everything else is the register's own. -/
def State.storeReg (s : State) (o : Origin) (p : Page) (off : Nat) (d w : Word) : State :=
  if off == hLock then
    let mine : Bool := bits d 13 0 != 0 && (!s.lockHeld p || s.lockHolder p == originCode o)
    (s.setReg (hdr p hLock) (withBits w 13 0 0)).setLease p
      (if !w.getLsbD 31 then 0 else if mine then s.now + ms (bits w 13 0) else Store.get (fun _ => 0) s.leases (pageBase p))
  else if p == .dev .nvmw && 0x200 ≤ off then
    let a := s.nvmwAddr ((off - 0x200) / 4)
    { s with nvm := { s.nvm with
        stageBlock := s.fld Reg.nvmwBase 16 0
        staged := s.nvm.staged.filter (fun x => x.1 != a) ++ [(a, w)] } }
  else if p == .dev .dev && off == 0x110 then s
  else s.setReg (hdr p off) w

/-! ### What follows from a write -/

/-- INT_TEST: the bits written 1 are set as by their events. -/
def State.intTested (s : State) (p : Page) (d : Word) : State :=
  s.setReg (hdr p hIntStatus) (s.reg (hdr p hIntStatus) ||| (d &&& intMask p))

/-- A snapshot request begins to wait (R37): a later one joins it. -/
def State.snapAsked (s : State) (p : Page) : State :=
  let next : Word := match p with | .chan n _ => (s.chan n).line.txNext | .dev _ => 0
  { s with host := { s.host with snapAt := Store.put (fun _ => (0, (0 : Word))) s.host.snapAt (pageBase p) (s.now, next) } }

/-- What follows from a write to a header register that held old; fe tells whether the page's channel was fenced before. -/
def State.headerWrote (s : State) (o : Origin) (p : Page) (off : Nat) (old d : Word) (fe : Bool) : State :=
  if off == hIntTest then s.intTested p d
  else if off == hFence then
    if old.getLsbD 0 == s.ownFence p then s else if s.ownFence p then s.pageFenced p fe else s.pageReturns p fe
  else if off == hLock then
    if old.getLsbD 31 && bits old 23 16 != originCode o then s.intr p intLock else s
  else if off == hSnap then (if d.getLsbD 0 && !old.getLsbD 0 then s.snapAsked p else s)
  else s

/-- The serial port as a port reset leaves it (R66, R75): v2 framing, nothing unreported, executing, buffered or latched, and JRNL_GAP clear. -/
def Port.cleared (x : Port) : Port := { miso := x.miso, lastPage := x.lastPage, tail := x.tail, views := x.views }

/-- A write of PORT_FENCE has taken effect: a port newly fenced stops, one no longer fenced is left as by a port reset without its event (R75). (DEDUCED, notes/assumptions 65) -/
def State.portFenceWritten (s : State) (old : Word) : State :=
  let one (s : State) (p : SPort) : State :=
    let was := old.getLsbD (portBit p)
    let now := s.portFenced p
    if now && !was then s.portStops p else if !now && was then (s.mapPort p Port.cleared).breakLocksOf (portOrigin p) else s
  one (one s .hsa) .hsb

/-- GO of the mailbox (R73): one request leaves with the next TAG, and STATE is WAITING; without a Z link on the channel it can only time out. (DEDUCED, notes/assumptions 72) -/
def State.rmtGo (s : State) : State :=
  let n : Ch := Fin.ofNat 16 (s.fld Reg.hostRmtCtrl 11 8)
  let tag := s.host.tagNext
  let op := s.fld Reg.hostRmtCtrl 1 0
  let m : BitVec 128 := BitVec.ofNat 128 (1 * 2 ^ 120 + tag.toNat * 2 ^ 112 + (if op == 1 || op == 2 then op else 0) * 2 ^ 108
    + s.fld Reg.hostRmtAddr 23 0 * 2 ^ 72 + s.fld Reg.hostRmtWdata 31 0 * 2 ^ 40)
  let due := s.now + us (max 32 (s.fld Reg.hostRmtTimeout 15 0))
  let s := { s with host := { s.host with tagNext := tag + 1, mail := some (n, due) } }
  let s := s.setReg Reg.hostRmtStatus (BitVec.ofNat 32 (1 * 2 ^ 30 + tag.toNat * 2 ^ 16))
  if s.zUp n then s.oamPush n m else s

/-- A write of SLOT_CTRL has taken effect (R51, R54): ABORT ends the slot's job, START starts the one its registers name. (DESIGN CHOICE, notes/assumptions 38) -/
def State.slotWritten (s : State) (k : Fin 8) (d : Word) : State :=
  let s := if d.getLsbD 17 then s.endJob k .aborted 0 else s
  if d.getLsbD 16 then
    let w := s.reg (Reg.jobSlotCtrl k.val)
    s.startJob k false (BitVec.ofNat 8 (bits w 7 0)) (BitVec.ofNat 8 (bits w 15 8)) (s.reg (Reg.jobSlotArg0 k.val)) (s.reg (Reg.jobSlotArg1 k.val))
  else s

/-- A write of ALRM.CTRL has taken effect (R408): PIN follows SW_LEVEL, and REARM in SOFTWARE returns to ARMED. -/
def State.alarmWritten (s : State) (d : Word) : State :=
  if d.getLsbD 30 && s.alarm == 2 then s.setAlarm 0 else s.setAlarm s.alarm

/-- A write of TRIM.CTRL has taken effect (R389): with APPLY_EN = 0 no change waits any more but a spare or the second side of an application. (DEDUCED, notes/assumptions 140) -/
def State.applyEnWritten (s : State) : State :=
  if s.bit Reg.trimCtrl 0 then s
  else s.forCh (fun n s =>
    if (s.chan n).trim.newest.isSome then
      let holds := s.trimHolds n
      ((s.mapTrim n (fun t => { t with newest := none, since := t.since.filter (fun _ => holds), rxDue := false, txDue := false })).setBit (Reg.trimChStatus n.val) 27 holds).showEcl n
    else s)

/-- A write of TRIGk_CTRL has taken effect (R301, R303): a pin that enters output mode starts at its inactive base level; one that leaves a mode has no pulse or window; the records of a pin that changes its group become times of the new one. (DEDUCED, notes/assumptions 124) -/
def State.pinWritten (s : State) (k : Fin 16) (old : Word) : State :=
  let m (w : Word) : Nat := if bits w 1 0 == 3 then 0 else bits w 1 0
  let w := s.reg (Reg.trigPinCtrl k.val)
  let s := if m w == m old then s
    else (s.mapPin k (fun p => { p with pulse := none, armed := none })).setBit (Reg.trigPinStatus k.val) 0 false
  let g : Tg := Fin.ofNat 4 (bits old 9 8)
  let s := s.when (g != s.pinGroup k) (fun s => s.shiftPin k ((s.time16 (s.pinGroup k) : Int) - s.time16 g))
  s.showPin k

/-- A write of PPS_IN_CTRL has taken effect: an input that is off has no valid pulse (R261, R262). -/
def State.ppsInWritten (s : State) (old : Word) : State :=
  let off (k : Fin 2) : Bool := old.getLsbD k.val && !s.bit Reg.trigPpsInCtrl k.val
  let one (s : State) (k : Fin 2) : State :=
    if off k then
      let s := s.forTg (fun g s => s.mapGroup g (fun x => { x with pps := x.pps.set k.val ({ raw := x.pps[k].raw } : PpsCap) }))
      s.forTg (fun g s => if s.srcKind g == 2 then s.settleGroup g else s)
    else s
  (one (one s 0) 1).showPps

/-- A write of PPS_OUT_CTRL has taken effect: an output that is off is low. -/
def State.ppsOutWritten (s : State) : State := s.showPpsOut

/-- A write of FREQ_SET has taken effect (R257): in FREE the rate follows. (DEDUCED, notes/assumptions 139) -/
def State.freqWritten (s : State) (g : Tg) : State :=
  if s.grpState g == 1 then (s.mapGroup g (fun x => { x with y := s.freqSet g })).showRate g else s

/-- A write of CMTW.INDEX, CMD or W has taken effect. -/
def State.cmtwWrote (s : State) (off : Nat) (d : Word) : State :=
  if off == Reg.cmtwCmd % 0x1000 then s.cmtwCmd d else if off == Reg.cmtwIndex % 0x1000 then s.showCmtw else s

/-- What follows from a write to a block register of a device page that held old. -/
def State.devWrote (s : State) (o : Origin) (q : DevPage) (off : Nat) (old d : Word) : State :=
  let at_ (a : Nat) : Bool := off == a % 0x1000
  match q with
  | .dev =>
    if at_ Reg.devReset then
      match s.resetStep o d with
      | 1 => { s with rst := { s.rst with armed := some (o, s.now) } }
      | 2 => { s with rst := { s.rst with armed := none, go := some (o, s.now, d.getLsbD 2) } }
      | _ => s
    else if at_ Reg.devBlkReset then
      let s := s.when (d.getLsbD 0) (fun s => s.devReset .cmt o)
      let s := s.when (d.getLsbD 1) (fun s => s.devReset .cap o)
      s.when (d.getLsbD 2) (fun s => s.devReset .trig o)
    else s
  | .host =>
    if at_ Reg.hostPortFence then s.portFenceWritten old
    else if at_ Reg.hostRmtCtrl && d.getLsbD 31 then s.rmtGo
    else s
  | .jrnl => if at_ Reg.jrnlRdCtrl || at_ Reg.jrnlRdSeq then s.loadEntry else s
  | .job => if 0x200 ≤ off && off % 0x20 == 0 then s.slotWritten (slotAt off) d else s
  | .clk => if at_ (Reg.clkClkoutCtrl 0) then s.outWritten 0 old else if at_ (Reg.clkClkoutCtrl 1) then s.outWritten 1 old else s
  | .pwr =>
    if s.rst.phase != .ready then s
    else if at_ Reg.pwrNvmReq then s.nvmReqWritten
    else if 0x100 ≤ off && off ≤ 0x13C then
      let n : Ch := Fin.ofNat 16 ((off - 0x100) / 4)
      (s.powerWritten n).resetDue n
    else s
  | .trim => if at_ Reg.trimCtrl then s.applyEnWritten else s
  | .bist => if at_ Reg.bistFailSel then s.showFail else s
  | .alrm =>
    if at_ Reg.alrmCtrl then s.alarmWritten d
    else if at_ Reg.alrmSafeCmd && d.getLsbD 0 then s.enterSafe 3
    else s
  | .tg => if at_ Reg.tgChMap then s.mapWritten else s
  | .tk =>
    if at_ Reg.tkCapCtrl then s.capAsked d
    else if at_ Reg.tkSetCmd then s.timeDone (Fin.ofNat 4 (bits d 5 4)) (bits d 1 0)
    else if at_ Reg.tkTaiUtc then (if bits old 15 0 == bits d 15 0 then s.showLeap else s.showLeap.tkInt 6)
    else if at_ Reg.tkLeapCmd then s.leapDone (bits d 1 0)
    else if at_ Reg.tkCalCtrl then s.showLeap
    else
      match allTg.find? (fun g => at_ (Reg.tkGrpFreqSet g.val) || at_ (Reg.tkGrpDevId g.val)) with
      | some g => if at_ (Reg.tkGrpFreqSet g.val) then s.freqWritten g else s.settleGroup g
      | none => s
  | .life =>
    if at_ Reg.lifeHistSel then s.showHist
    else if at_ Reg.lifeWearSel then s.showWear
    else if at_ Reg.lifeTrendSel then s.trendSelected
    else s
  | .cmt =>
    if at_ Reg.cmtRtCmd then s.routeCmd d
    else
      match allTg.find? (fun g => at_ (Reg.cmtGrpPart g.val)) with
      | some g => ({ s with cmt := { s.cmt with partPend := s.cmt.partPend.set g (some ((s.cmt.partPend[g]).getD old)) } } : State).showCmtw
      | none => s
  | .cmtw => s.cmtwWrote off d
  | .cap =>
    if at_ Reg.capAckSeq then s.capAcked
    else if at_ Reg.capCtrl && d.getLsbD 3 then s.capClear
    else s
  | .capw => if at_ Reg.capwRdSeq then s.capwLoad else s
  | .trig =>
    if off < 0x200 && off % 0x10 == 0 then s.pinWritten (Fin.ofNat 16 ((off - 0x100) / 0x10)) old
    else if at_ Reg.trigPpsInCtrl then s.ppsInWritten old
    else if at_ Reg.trigPpsOutCtrl then s.ppsOutWritten
    else if at_ Reg.trigDrvFence then allCh.foldl (fun (s : State) k => s.showPin k) s
    else s
  | _ => s

/-- Block resets by CHn.CH.RESET (R372): their events in ascending order, then all of them together. (DEDUCED, notes/assumptions 36) -/
def State.blockResets (s : State) (n : Ch) (o : Origin) (d : Word) : State :=
  let ps := (allChPages.zipIdx.filter (fun x => 1 ≤ x.2 && d.getLsbD x.2)).map Prod.fst
  let s := ps.foldl (fun (s : State) p => s.jEvent 5 (pageBase (.chan n p)) (BitVec.ofNat 32 (originCode o))) s
  ps.foldl (fun (s : State) p => s.chPageReset n p false) s

/-- A write of AN_CTRL has taken effect (R178, R180): EN rises or falls, or RESTART with EN = 1. -/
def State.anWritten (s : State) (n : Ch) (old d : Word) : State :=
  let en := s.bit (Reg.anAnCtrl n) 0
  if !en then (if old.getLsbD 0 then s.anDisable n else s)
  else if d.getLsbD 1 then s.anRestart n
  else if !old.getLsbD 0 then s.anEnable n
  else s

/-- A write of CH2k.RLY.CTRL has taken effect: the odd channel's register mirrors it, and the pair follows (R211, R214). -/
def State.rlyWritten (s : State) (n : Ch) : State :=
  let s := s.mirrorRly n
  if s.bit (Reg.rlyCtrl n) 0 then s.settlePair n else s.setPair n false

/-- What follows from a write to a block register of a channel page that held old. -/
def State.chWrote (s : State) (o : Origin) (n : Ch) (q : ChPage) (off : Nat) (old d : Word) : State :=
  let at_ (a : Nat) : Bool := off == a % 0x1000
  match q with
  | .ch =>
    if at_ (Reg.chReset 0) then (if d.getLsbD 0 then s.chanReset n o else s.blockResets n o d) else s
  | .fec =>
    if at_ (Reg.fecCtrl 0) then s.iterWritten n
    else if at_ (Reg.fecUnitFence 0) && bits old 2 0 != s.fld (Reg.fecUnitFence n) 2 0 then s.unitFenceActs n
    else s
  | .afe =>
    if at_ (Reg.afeRxGain 0) then s.gainWritten n
    else if at_ (Reg.afeSliceSel 0) then s.showCorr n
    else s
  | .eq =>
    if at_ (Reg.eqAdaptCtrl 0) then s.showAdapt n
    else if at_ (Reg.eqDfeCtrl 0) then s.tapsWritten n old
    else if at_ (Reg.eqEcSel 0) then s.showTap n
    else if at_ (Reg.eqTrCtrl 0) then s.timingWritten n old
    else if at_ (Reg.eqNfCtrl 0) then s.listenWritten n old
    else s
  | .an =>
    if at_ (Reg.anAnCtrl 0) then s.anWritten n old d
    else if at_ (Reg.anAdv 0) then s.advWritten n
    else s
  | .hl => if at_ (Reg.hlMode 0) then s.hlModeWritten n old else s
  | .ktl => if at_ (Reg.ktlPtpPop 0) && d.getLsbD 0 then s.ptpPop n else s
  | .diag =>
    if at_ (Reg.diagDiagCtrl 0) then s.holdWritten n
    else if at_ (Reg.diagLbCtrl 0) then s.lbWritten n old
    else if at_ (Reg.diagTpCtrl 0) then s.tpWritten n old
    else s
  | .rly => if at_ (Reg.rlyCtrl 0) then s.rlyWritten n else s
  | _ => s

/-- What a refused write still does: a refused time operation and a refused command of CMTW show REFUSED (R310, R314); any other write to DEV.RESET disarms its sequence (R371). -/
def State.turnedAway (s : State) (p : Page) (off : Nat) : State :=
  if p == .dev .tk && off == Reg.tkSetCmd % 0x1000 then s.timeTurned
  else if p == .dev .cmtw && off == Reg.cmtwCmd % 0x1000 then s.setBit Reg.cmtwStatus 30 true
  else if p == .dev .dev && off == Reg.devReset % 0x1000 then { s with rst := { s.rst with armed := none } }
  else s

/-- What follows from a write that was not refused. -/
def State.wrote (s : State) (o : Origin) (p : Page) (off : Nat) (old d : Word) (fe : Bool) : State :=
  if off < 0x100 then s.headerWrote o p off old d fe
  else match p with
    | .dev q => s.devWrote o q off old d
    | .chan n q => s.chWrote o n q off old d

/-- A write takes effect at its register (R20, R33, R35, R39, R41, R44): its contents change, its entry is journaled, and then its consequences follow. -/
def State.applyWrite (s : State) (w : PostedWrite) (posted : Bool) : State :=
  match pageOf w.addr with
  | none => s
  | some p =>
    let off := w.addr % 0x1000
    let old := s.contents w.addr
    let d := (w.data &&& ~~~w.keep) ||| (old &&& w.keep)
    let d := if w.view1 then view1Data p off old d else d
    let r := s.writeResult w.origin p off old d
    let fe := match p with | .chan n _ => s.chanFenced n | .dev _ => false
    let flags := b2n w.foreign * fForeign + b2n r.ignored * fIgnored + b2n posted * fPosted + b2n r.data * fData
    let e (s : State) : State := s.jAppend (originCode w.origin) flags w.addr old (if r.data then d else r.new)
    if r.ignored then (e s).turnedAway p off
    else (e (s.storeReg w.origin p off d r.new)).wrote w.origin p off old d fe

end Sys2Proof.Machine
end

