-- ==== Sys2Proof/Machine/Fabric.lean ====
section
/-! DEFINITION. The register fabric: which accesses it serves, bus errors, foreign writes, posted and held writes (R27 to R29, R32, R35, R36, R39, R59, R71 to R74). -/

namespace Sys2Proof.Machine

/-! ### Bus errors (R28, R29) -/

/-- The place of an external origin in the cyclic order in which the fabric takes accesses (R74). (DESIGN CHOICE, notes/assumptions 144) -/
def fabricPlace : Origin → Nat
  | .hsa => 0
  | .hsb => 1
  | .mdio => 2
  | .remote n => 3 + n.val
  | _ => 19

/-- An origin's access is the one that the fabric serves (R74). -/
def State.servedFor (s : State) (o : Origin) : State := { s with host := { s.host with served := fabricPlace o } }

/-- Whether an origin can make accesses now: a serial port once the host port is ready and while it is not fenced, every other origin once the system domain has started. (DEDUCED, notes/assumptions 73) -/
def State.mayAccess (s : State) (o : Origin) : Bool :=
  match o with
  | .hsa => s.rst.phase == .ready && !s.portFenced .hsa
  | .hsb => s.rst.phase == .ready && !s.portFenced .hsb
  | _ => s.rst.phase != .inReset

/-- Whether a page has a register at an offset in a view (R29, R33, R427). (DEDUCED, notes/assumptions 37) -/
def hasReg (v1 : Bool) (p : Page) (off : Nat) : Bool :=
  off % 4 == 0 && implemented p off
    && !(0x100 ≤ off && v1 && (view1Absent p).any (fun x => x.1 ≤ off && off ≤ x.2))

/-- Whether an origin's access to an address is in view 1 (R32). -/
def State.view1At (s : State) (o : Origin) (a : Nat) : Bool := (pageOf a).any (s.view1 o)

/-- The bus error that an access raises, if it raises one: FENCED outside the header of a fenced page, else BUS_ERROR (R13, R28, R29, R59). (DEDUCED, notes/assumptions 31) -/
def State.accessErr (s : State) (v1 : Bool) (a : Nat) (write : Bool) : Option (BitVec 3) :=
  match pageOf a with
  | none => some rBus
  | some p =>
    let off := a % 0x1000
    if 0x038 ≤ off && s.fenced p then some rFenced
    else if !hasReg v1 p off then some rBus
    else if off < 0x100 then none
    else match s.regPower p off with
      | .on => none
      | .retain => if write then some rBus else none
      | .off => some rBus

/-- What a bus error of an MDIO or remote access leaves in the HOST page (R71, R72, 03 Table 15). (DEDUCED, notes/assumptions 27) -/
def State.busErr (s : State) (o : Origin) (a : Nat) : State :=
  match o with
  | .mdio =>
    let s := if s.bit Reg.hostBuserrMdio 31 then s else s.setReg Reg.hostBuserrMdio (BitVec.ofNat 32 (2 ^ 31 + a % 2 ^ 24))
    (s.sat Reg.hostBuserrCount 15 0 1).intr (.dev .host) 0
  | .remote n =>
    let s := if s.bit Reg.hostBuserrRmt 31 then s
      else s.setReg Reg.hostBuserrRmt (BitVec.ofNat 32 (2 ^ 31 + n.val * 2 ^ 24 + a % 2 ^ 24))
    (s.sat Reg.hostBuserrCount 31 16 1).intr (.dev .host) 1
  | _ => s

/-! ### Foreign writes (R39) -/

/-- Whether a write by an origin is foreign. -/
def State.foreignWrite (s : State) (o : Origin) (p : Page) (off : Nat) : Bool :=
  off != hLock && s.lockHeld p && s.lockHolder p != originCode o && originExternal o

/-- CONTENDED and LOCK_EVT of a page after a foreign write. (DEDUCED, notes/assumptions 28) -/
def State.contend (s : State) (p : Page) (foreign : Bool) : State :=
  if foreign then (s.setBit (hdr p hLock) 30 true).intr p intLock else s

/-! ### Accesses -/

/-- A read that the fabric serves: its result code and data; 0 with a bus error. -/
def State.fabricRead (s : State) (o : Origin) (a : Nat) : State × BitVec 3 × Word :=
  match s.accessErr (s.view1At o a) a false with
  | some c => (s.busErr o a, c, 0)
  | none => (s.afterRead a, rOk, s.readReg o a)

/-- A write that the fabric serves in a view, keeping the register's contents in the bits of keep: its result code; none where the fabric holds it, because its domain's queue is full (R35, R36). (DEDUCED, notes/assumptions 27 and 28) -/
def State.fabricWrite (s : State) (o : Origin) (v1 : Bool) (a : Nat) (d keep : Word) : State × Option (BitVec 3) :=
  match s.accessErr v1 a true, pageOf a with
  | none, some p =>
    let off := a % 0x1000
    let foreign := s.foreignWrite o p off
    let w : PostedWrite :=
      { origin := o
        addr := a
        data := d
        view1 := v1
        foreign := foreign
        keep := keep }
    if isMoon p off then
      let q := pdomOf p off
      if 8 ≤ (s.postedIn q).length || !(s.heldIn q).isEmpty then ({ s with heldWrites := s.heldWrites ++ [w] }, none)
      else (({ s with posted := s.posted ++ [w] } : State).contend p foreign, some rPosted)
    else ((s.applyWrite w false).contend p foreign, some rOk)
  | c, _ => ((s.jAppend (originCode o) (fBusErr + fData) (a % 2 ^ 24) 0 d).busErr o a, some (c.getD rBus))

/-- A posted write takes effect; while the system domain is in reset, its entry is owed to the time after the reset's event entry (R36). (DEDUCED, notes/assumptions 29) -/
def State.landed (s : State) (w : PostedWrite) : State :=
  if s.rst.phase == .inReset then s.owing (fun s => s.applyWrite w true) else s.applyWrite w true

/-- The oldest posted write of a domain takes effect, unless its crossing is being re-initialised (R416). -/
def State.popPosted (s : State) (q : PDom) : State :=
  match s.postedIn q with
  | [] => s
  | w :: _ =>
    if (pageOf w.addr).any s.drains then s
    else ({ s with posted := s.posted.erase w } : State).landed w

end Sys2Proof.Machine
end

