-- ==== Sys2Proof/Machine/HostPort.lean ====
section
/-! DEFINITION. The two serial ports: frames, replies, bursts, PORT_CTRL and v1 framing (R55 to R68, R75). A frame is one command, at the instant SS_N rises. -/

namespace Sys2Proof.Machine

/-! ### Status byte and replies (R57, R58, R61, R62) -/

/-- Bits [15:0] of the sequence of the newest journal entry. -/
def State.seq16 (s : State) : BitVec 16 := BitVec.ofNat 16 (s.jrnl.seqNext - 1).toNat

/-- A result reported with the journal's newest sequence now. (DESIGN CHOICE, notes/assumptions 8) -/
def State.report (s : State) (tag : BitVec 5) (r : BitVec 3) (d : Word) : Report :=
  { tag := tag
    result := r
    data := d
    seq := s.seq16
    burst := false
    doneAt := s.now }

/-- READY (R62). -/
def State.portReady (s : State) (p : SPort) : Bool := s.portUp p && (s.sport p).executing.isNone

/-- What a port showed at an instant, by its record of changes: now, what it shows. (DESIGN CHOICE, notes/assumptions 8) -/
def State.viewAt (s : State) (p : SPort) (t : Nat) : PortView :=
  let l := (s.sport p).views
  if s.now ≤ t then s.portView p
  else (((l.find? (fun x => decide (x.1 ≤ t))).orElse (fun _ => l.getLast?)).map (·.2)).getD (s.portView p)

/-- Whether the port's last accepted frame completed after the falling edge of SS_N: at that edge it still executed (R61, R65). (DESIGN CHOICE, notes/assumptions 8) -/
def Port.late (x : Port) (fall : Nat) : Bool := x.unreported.any (fun r => decide (fall < r.doneAt))

/-- What the reply reports (R61): a frame executed by the falling edge of SS_N; else, unless one then still executes, the refused frame just before. (DEDUCED, notes/assumptions 62) -/
def Port.reported (x : Port) (fall : Nat) : Option Report :=
  if x.late fall then none
  else match x.unreported with
    | some r => some r
    | none => if x.executing.isSome then none else x.refused

/-- A status byte of seven bits, most significant first, with its odd parity bit (03 Table 5). -/
def withPar (l : List Bool) : Byte :=
  BitVec.ofNat 8 (bitList (decide ((l.filter id).length % 2 = 0) :: l.reverse))

/-- The status byte at the falling edge of SS_N, at the instant fall (R57). (DEDUCED, notes/assumptions 59) -/
def State.statusByte (s : State) (p : SPort) (fall : Nat) : Byte :=
  let r := (s.sport p).reported fall
  let v := s.viewAt p fall
  withPar [v.up && (s.sport p).executing.isNone && !(s.sport p).late fall, r.isSome,
    r.any (fun x => x.result != rOk && x.result != rPosted), v.irq, v.note, v.safe, v.gap]

/-- Bytes of a reply with its CRC-8. -/
def withCrc (l : List Byte) : List Byte := l ++ [BitVec.ofNat 8 (spiCrc l)]

/-- The nine bytes of a v2 reply (03 Table 4). -/
def reply2 (st : Byte) (r : Option Report) : List Byte :=
  withCrc (st :: (match r with
    | some r => BitVec.ofNat 8 (r.result.toNat * 32 + r.tag.toNat) :: beBytes 4 r.data.toNat ++ beBytes 2 r.seq.toNat
    | none => List.replicate 7 0))

/-- The six bytes of a v1 reply (03 Table 8). (DEDUCED, notes/assumptions 62) -/
def reply1 (st : Byte) (r : Option Report) : List Byte :=
  withCrc (st :: (match r with
    | some r => BitVec.ofNat 8 (r.result.toNat * 32) :: beBytes 2 (r.data.toNat % 65536) ++ beBytes 1 (r.seq.toNat % 256)
    | none => List.replicate 4 0))

/-- Extension groups after a v2 reply: the words of a burst read, then words of 0, each with its CRC-8 (R64). -/
def replyGroups (r : Option Report) (buf : List Word) (k : Nat) : List Byte :=
  let words := if r.any (fun x => x.burst) then buf else []
  (List.range k).flatMap (fun j => withCrc (beBytes 4 (words.getD j 0).toNat))

/-- What a port shifts out in a frame of so many edges (R61, R64, R68): the reply of the version held at the falling edge, a v1 reply followed by 24 zeros, then the extension groups; cut off at the frame's end. (DESIGN CHOICE, notes/assumptions 8) -/
def State.misoBytes (s : State) (p : SPort) (edges fall : Nat) : List Byte :=
  let x := s.sport p
  let r := x.reported fall
  let st := s.statusByte p fall
  let l := if x.v1 then reply1 st r ++ List.replicate 3 0 ++ replyGroups none [] (edges / 40)
    else reply2 st r ++ replyGroups r x.buf (edges / 40)
  let n := (edges + 7) / 8
  (l ++ List.replicate n 0).take n

/-! ### Counters and results -/

/-- CRC_ERR counter of a port raised, with its interrupt (03 Tables 13 and 17). -/
def State.crcCount (s : State) (p : SPort) : State :=
  match p with
  | .hsa => (s.wrap32 Reg.hostHsaCrcErr 1).intr (.dev .host) 3
  | .hsb => (s.wrap32 Reg.hostHsbCrcErr 1).intr (.dev .host) 4

/-- REFUSED counter of a port raised. -/
def State.refuseCount (s : State) (p : SPort) : State :=
  s.wrap32 (match p with | .hsa => Reg.hostHsaRefused | .hsb => Reg.hostHsbRefused) 1

/-- A frame of a port has its result (R61); a port that its own frame has fenced keeps none that a reply could show. -/
def State.finish (s : State) (p : SPort) (tag : BitVec 5) (r : BitVec 3) (d : Word) : State :=
  s.mapPort p (fun x => { x with unreported := some (s.report tag r d), executing := none })

/-- A frame of a port fails a check (R59): with another frame executing at its falling edge it is never reported. (DEDUCED, notes/assumptions 61) -/
def State.failFrame (s : State) (p : SPort) (tag : BitVec 5) (r : BitVec 3) : State :=
  let s := s.when (r == rCrc) (fun s => s.crcCount p)
  if (s.sport p).executing.isSome || (s.sport p).unreported.isSome then s else s.finish p tag r 0

/-- BURST_COUNT of a port (R64). (DEDUCED, notes/assumptions 66) -/
def State.burstCount (s : State) (p : SPort) (k : Nat) : State :=
  (s.setFld (portStatReg p) 6 0 k).mapPort p (fun x => { x with tail := false })

/-- A port's register access: its page is that of LOCK_NOTE (03 Table 5), and the fabric has served the port (R74). -/
def State.touched (s : State) (p : SPort) (a : Nat) : State :=
  (s.mapPort p (fun x => { x with lastPage := pageOf a })).servedFor (portOrigin p)

/-! ### Execution (R59, R63, R64) -/

/-- One register write of a frame. -/
def State.portWrite (s : State) (p : SPort) (a : Nat) (d keep : Word) : State × Option (BitVec 3) :=
  (s.touched p a).fabricWrite (portOrigin p) (s.view1At (portOrigin p) a) a d keep

/-- A single write of a frame, with the data its reply echoes. -/
def State.frameWrite (s : State) (p : SPort) (tag : BitVec 5) (a : Nat) (d keep echo : Word) : State :=
  match s.portWrite p a d keep with
  | (s, some c) => s.finish p tag c (if c == rOk || c == rPosted then echo else 0)
  | (s, none) => s.mapPort p (fun x => { x with executing := some { tag := tag, rest := [], made := 0, posted := false, isBurst := false, data := echo } })

/-- A single read of a frame; half picks a halfword of it. -/
def State.frameRead (s : State) (p : SPort) (tag : BitVec 5) (a : Nat) (half : Option Bool) : State :=
  match (s.touched p a).fabricRead (portOrigin p) a with
  | (s, c, w) => s.finish p tag c (match half with
    | none => w
    | some hi => BitVec.ofNat 32 (if hi then bits w 31 16 else bits w 15 0))

/-- Registers of a burst write, in ascending order, from the given place on: it stops at a failing CRC, at a register that fails, when the port is fenced, and while the fabric holds a write (R63, R65, R75). -/
def State.burstWrite (s : State) (p : SPort) (tag : BitVec 5) (made : Nat) (posted : Bool) : List (Nat × Word × Bool) → State
  | [] => (s.burstCount p made).finish p tag (if posted then rPosted else rOk) (BitVec.ofNat 32 made)
  | (a, d, ok) :: rest =>
    if s.portFenced p then s.burstCount p made
    else if !ok then ((s.crcCount p).burstCount p made).finish p tag rCrc (BitVec.ofNat 32 made)
    else match s.portWrite p a d 0 with
      | (s, some c) =>
        if c == rOk || c == rPosted then s.burstWrite p tag (made + 1) (posted || c == rPosted) rest
        else (s.burstCount p made).finish p tag c (BitVec.ofNat 32 made)
      | (s, none) => s.mapPort p (fun x => { x with executing := some { tag := tag, rest := rest, made := made, posted := posted, isBurst := true, data := 0 } })

/-- Registers of a burst read, in ascending order: the words read, the result, and how many were read without failure (R64). (DESIGN CHOICE, notes/assumptions 146) -/
def State.burstRead (s : State) (p : SPort) (a : Nat) : Nat → State × List Word × BitVec 3
  | 0 => (s, [], rOk)
  | k + 1 =>
    match (s.touched p a).fabricRead (portOrigin p) a with
    | (s, c, w) =>
      if c == rOk then
        match s.burstRead p ((a + 4) % 2 ^ 24) k with
        | (s, ws, c) => (s, w :: ws, c)
      else (s, [], c)

/-- A burst read of n registers executes: word 0 goes into the reply, the others into the buffer (R64). -/
def State.frameBurstRead (s : State) (p : SPort) (tag : BitVec 5) (a n : Nat) : State :=
  match s.burstRead p a n with
  | (s, ws, c) =>
    let s := s.burstCount p ws.length
    s.mapPort p (fun x => { x with
      unreported := some { s.report tag c (ws.headD 0) with burst := true }
      buf := (ws ++ List.replicate n 0).take n |>.drop 1 })

/-- The write that the fabric held for a port has its result (R36): its frame goes on; the write of an aborted frame only counts. (DEDUCED, notes/assumptions 66) -/
def State.resumePort (s : State) (p : SPort) (orphan : Bool) (c : BitVec 3) : State :=
  let x := s.sport p
  let good := c == rOk || c == rPosted
  if orphan then (if x.tail then s.burstCount p (s.fld (portStatReg p) 6 0 + b2n good) else s)
  else match x.executing with
  | some e =>
    if e.isBurst then
      if good then (s.mapPort p (fun x => { x with executing := none })).burstWrite p e.tag (e.made + 1) (e.posted || c == rPosted) e.rest
      else (s.burstCount p e.made).finish p e.tag c (BitVec.ofNat 32 e.made)
    else s.finish p e.tag c (if good then e.data else 0)
  | none => s

/-! ### PORT_CTRL (R65, R66) -/

/-- ABORT (R65): it ends the executing frame and reports its tag; a frame that completed before SS_N rose and is unreported keeps its place, and the ABORT is never reported; with neither it answers OK. (DEDUCED, notes/assumptions 66) -/
def State.portAbort (s : State) (p : SPort) (tag : BitVec 5) : State :=
  match (s.sport p).executing with
  | some e => (s.portStops p).finish p tag rAborted (BitVec.ofNat 32 e.tag.toNat)
  | none => if (s.sport p).unreported.isSome then s else s.finish p tag rOk 0

/-- PORT_RESET: the event, the locks of the port, and v2 framing with nothing kept; READY is 0 until the reset completes. (DEDUCED, notes/assumptions 64) -/
def State.portReset (s : State) (p : SPort) (tag : BitVec 5) : State :=
  let s := (s.portStops p).mapPort p (fun x => { x.cleared with resetBy := some (s.now + us 1) })
  let s := s.jEvent 6 (devBase .host) (BitVec.ofNat 32 (originCode (portOrigin p)))
  (s.breakLocksOf (portOrigin p)).finish p tag rOk 0

/-! ### Frames (R56, R59) -/

/-- A byte of a frame. -/
def mosiByte (l : List Byte) (i : Nat) : Nat := (l.getD i 0).toNat

/-- A big-endian number of k bytes of a frame, from byte i. -/
def mosiNum (l : List Byte) (i k : Nat) : Nat := (List.range k).foldl (fun v j => v * 256 + mosiByte l (i + j)) 0

/-- Extension groups of a frame of so many edges (R56); none where the count is no v2 frame. -/
def groupsOf (edges : Nat) : Option Nat :=
  if 72 ≤ edges ∧ (edges - 72) % 40 = 0 ∧ (edges - 72) / 40 ≤ 63 then some ((edges - 72) / 40) else none

/-- Execution of a v2 frame that passed steps 1 to 3 (R59); a burst that runs past address 0xFF_FFFC goes on at 0x00_0000 (R63 does not say). (DEDUCED, notes/assumptions 60; DESIGN CHOICE, notes/assumptions 146) -/
def State.exec2 (s : State) (p : SPort) (k : Nat) (m : List Byte) : State :=
  let tag : BitVec 5 := BitVec.ofNat 5 (mosiByte m 0 % 32)
  let a := mosiNum m 1 3
  let d : Word := BitVec.ofNat 32 (mosiNum m 4 4)
  match mosiByte m 0 / 32 with
  | 0 => s.finish p tag rOk 0
  | 1 => s.frameRead p tag a none
  | 2 => s.frameWrite p tag a d 0 d
  | 3 => if bits d 31 6 == 0 then s.frameBurstRead p tag a (bits d 5 0 + 1) else s.failFrame p tag rBadOp
  | 4 =>
    s.burstWrite p tag 0 false ((a, d, true) :: (List.range k).map (fun j =>
      ((a + 4 * (j + 1)) % 2 ^ 24, BitVec.ofNat 32 (mosiNum m (9 + 5 * j) 4), spiCrc ((m.drop (9 + 5 * j)).take 5) == 0)))
  | 5 =>
    if a == 1 && d == 0 then s.portAbort p tag
    else if a == 2 && d == 0xA5A5 then s.portReset p tag
    else s.failFrame p tag rBadOp
  | _ => s.failFrame p tag rBadOp

/-- RW bits of a register: what a halfword write leaves in the half it does not write (R67). -/
def rwMask (p : Page) (off : Nat) : Word :=
  if off == hViewSel then 0xFFFF
  else if off == hIntEnA || off == hIntEnB || off == hFaultAction then 0xFFFFFFFF
  else if off == hLock then 0x3FFF
  else if off == hSnap then 0xC
  else if off < 0x100 then 0
  else ((regRow p off).map (fun r => r.rw)).getD 0

/-- Whether a register holds RWK fields. -/
def rwkReg (p : Page) (off : Nat) : Bool := off == hFence || (0x100 ≤ off && ((regRow p off).map (fun r => r.rwk != 0)).getD false)

/-- A v1 WRITE executes (R67): the upper half of a keyed register only loads the latch; any other halfword is one 32-bit access. (DEDUCED, notes/assumptions 61 and 63) -/
def State.write1 (s : State) (p : SPort) (b : Nat) (h : BitVec 16) (latch : Option (BitVec 16 × Nat)) : State :=
  let a := if b % 2 == 1 then b else b / 4 * 4
  let hi : Bool := b % 4 == 2
  let off := a % 0x1000
  let v1 := s.view1At (portOrigin p) a
  let keyed : Bool := b % 2 == 0 && (pageOf a).any (fun g => hasReg v1 g off && rwkReg g off)
  if keyed && hi then (s.mapPort p (fun x => { x with latch := some (h, a) })).finish p 0 rOk (h.setWidth 32)
  else
    let key := match latch with | some (k, at_) => if at_ == a then k.toNat else 0 | none => 0
    let d : Word := BitVec.ofNat 32 (if hi then h.toNat * 2 ^ 16 else (if keyed then key * 2 ^ 16 else 0) + h.toNat)
    let other : Word := if hi then 0xFFFF else 0xFFFF0000
    let keep := ((pageOf a).map (fun g => rwMask g off &&& other)).getD 0
    s.frameWrite p 0 a d (if b % 2 == 1 then 0 else keep) (h.setWidth 32)

/-- Execution of a v1 frame that passed steps 1 to 3 (R67). (DEDUCED, notes/assumptions 60 and 61) -/
def State.exec1 (s : State) (p : SPort) (m : List Byte) : State :=
  let latch := (s.sport p).latch
  let s := s.mapPort p (fun x => { x with latch := none })
  let b := mosiByte m 0 % 64 * 0x10000 + mosiNum m 1 2
  match mosiByte m 0 / 64 with
  | 0 => s.finish p 0 rOk 0
  | 1 => s.frameRead p 0 (if b % 2 == 1 then b else b / 4 * 4) (some (b % 4 == 2))
  | 2 => s.write1 p b (BitVec.ofNat 16 (mosiNum m 3 2)) latch
  | _ => s.failFrame p 0 rBadOp

/-- What a frame does at the rising edge of SS_N, when READY was as given at its falling edge (R56, R59, R68). -/
def State.frameEnds (s : State) (p : SPort) (ready : Bool) (edges : Nat) (m : List Byte) : State :=
  let op := mosiByte m 0 / 32
  let tag : BitVec 5 := if edges == 48 then 0 else BitVec.ofNat 5 (mosiByte m 0 % 32)
  let k := groupsOf edges
  let v2 := match k with | some k => k == 0 || op == 0 || op == 4 | none => false
  let v1 := edges == 48
  let good := if v1 then spiCrc (m.take 6) == 0 else v2 && spiCrc (m.take 9) == 0
  let s := if v1 || v2 then s.mapPort p (fun x => { x with v1 := v1 }) else s
  if !ready && !(op == 5 && !v1) then
    (s.refuseCount p).mapPort p (fun x => { x with refused := some (s.report tag rNot 0), latch := none })
  else if !v1 && !v2 then (s.mapPort p (fun x => { x with latch := none })).failFrame p tag rCrc
  else if !good then (s.mapPort p (fun x => { x with latch := none })).failFrame p tag rCrc
  else if v1 then s.exec1 p m
  else (s.mapPort p (fun x => { x with latch := none })).exec2 p (k.getD 0) m

/-- A whole frame of a port (R55 to R68), SS_N low for a time low: the reply is fixed at the falling edge, then the frame is classified, checked and executed; READY and the other bits of the status byte are those of the falling edge (R57, R59); a port that is fenced then or now, its MISO high-impedance, and a port whose domain is in reset ignore it (R75). The header's CRC alone decides whether a frame clears JRNL_GAP (R58). (DESIGN CHOICE, notes/assumptions 8; DEDUCED, notes/assumptions 166) -/
def State.frame (s : State) (p : SPort) (edges : Nat) (m : List Byte) (low : Nat) : State :=
  let fall := s.now - low
  let v := s.viewAt p fall
  if v.deaf || s.portFenced p || s.rst.phase == .inReset then s.mapPort p (fun x => { x with miso := [], views := x.views.take 1 })
  else
    let late := (s.sport p).late fall
    let ready := v.up && s.portReady p && !late
    let miso := s.misoBytes p edges fall
    let gap := v.gap && decide ((s.sport p).gapAt ≤ fall)
    let good := if edges == 48 then spiCrc (m.take 6) == 0 else (groupsOf edges).isSome && spiCrc (m.take 9) == 0
    let s := s.mapPort p (fun x => { x with
      miso := miso
      unreported := if late then x.unreported else none
      refused := none
      buf := if late then x.buf else []
      views := x.views.take 1
      gap := x.gap && !(gap && good) })
    s.frameEnds p ready edges m

/-! ### Commands -/

/-- The nine bytes of a v2 frame (03 Table 2). (DEDUCED, notes/assumptions 60) -/
def frame2 (op : Nat) (tag : BitVec 5) (a : Addr) (d : Word) (crc : Byte) : List Byte :=
  BitVec.ofNat 8 (op * 32 + tag.toNat) :: beBytes 3 a.toNat ++ beBytes 4 d.toNat ++ [crc]

/-- The six bytes of a v1 frame (03 Table 8). (DEDUCED, notes/assumptions 60) -/
def frame1 (op : Nat) (region : BitVec 6) (off d : BitVec 16) (crc : Byte) : List Byte :=
  BitVec.ofNat 8 (op * 64 + region.toNat) :: beBytes 2 off.toNat ++ beBytes 2 d.toNat ++ [crc]

/-- V2_NOP (R56, R59): a frame of so many edges with these bytes; also the frames whose count, CRC or OP makes them execute nothing. -/
def execV2Nop (p : SPort) (edges : Nat) (m : List Byte) (low : Nat) (s : State) : Host.Outcome State Fault Refusal := .next (s.frame p edges m low)

/-- V2_READ (R59). -/
def execV2Read (p : SPort) (tag : BitVec 5) (a : Addr) (d : Word) (crc : Byte) (low : Nat) (s : State) : Host.Outcome State Fault Refusal :=
  .next (s.frame p 72 (frame2 1 tag a d crc) low)

/-- V2_WRITE (R59). -/
def execV2Write (p : SPort) (tag : BitVec 5) (a : Addr) (d : Word) (crc : Byte) (low : Nat) (s : State) : Host.Outcome State Fault Refusal :=
  .next (s.frame p 72 (frame2 2 tag a d crc) low)

/-- V2_BURST_READ (R64). -/
def execV2BurstRead (p : SPort) (tag : BitVec 5) (a : Addr) (d : Word) (crc : Byte) (low : Nat) (s : State) : Host.Outcome State Fault Refusal :=
  .next (s.frame p 72 (frame2 3 tag a d crc) low)

/-- V2_BURST_WRITE (R63): with its extension groups, at most 63 of them fit a frame. -/
def execV2BurstWrite (p : SPort) (tag : BitVec 5) (a : Addr) (d : Word) (crc : Byte) (ext : List (Word × Byte)) (low : Nat) (s : State) :
    Host.Outcome State Fault Refusal :=
  .next (s.frame p (72 + 40 * ext.length) (frame2 4 tag a d crc ++ ext.flatMap (fun x => beBytes 4 x.1.toNat ++ [x.2])) low)

/-- PORT_CTRL_ABORT (R65). -/
def execPortCtrlAbort (p : SPort) (tag : BitVec 5) (crc : Byte) (low : Nat) (s : State) : Host.Outcome State Fault Refusal :=
  .next (s.frame p 72 (frame2 5 tag 1 0 crc) low)

/-- PORT_RESET (R66). -/
def execPortReset (p : SPort) (tag : BitVec 5) (crc : Byte) (low : Nat) (s : State) : Host.Outcome State Fault Refusal :=
  .next (s.frame p 72 (frame2 5 tag 2 0xA5A5 crc) low)

/-- PORT_RESET_COMPLETE (R66): not later than 1 µs after SS_N rose. (DESIGN CHOICE, notes/assumptions 10) -/
def execPortResetComplete (p : SPort) (s : State) : Host.Outcome State Fault Refusal :=
  .next (s.mapPort p (fun x => { x with resetBy := none }))

/-- V1_NOP (R67): a six-byte frame with these bytes. -/
def execV1Nop (p : SPort) (m : List Byte) (low : Nat) (s : State) : Host.Outcome State Fault Refusal := .next (s.frame p 48 m low)

/-- V1_READ (R67). -/
def execV1Read (p : SPort) (region : BitVec 6) (off d : BitVec 16) (crc : Byte) (low : Nat) (s : State) : Host.Outcome State Fault Refusal :=
  .next (s.frame p 48 (frame1 1 region off d crc) low)

/-- V1_WRITE (R67). -/
def execV1Write (p : SPort) (region : BitVec 6) (off d : BitVec 16) (crc : Byte) (low : Nat) (s : State) : Host.Outcome State Fault Refusal :=
  .next (s.frame p 48 (frame1 2 region off d crc) low)

end Sys2Proof.Machine
end

