-- ==== Sys2Proof/Machine/Access.lean ====
section
/-! DEFINITION. MDIO, remote and JTAG access, and the writes that the fabric holds for any origin (R36, R69 to R74, R429, R433). -/

namespace Sys2Proof.Machine

/-! ### MDIO (R69 to R71, R429) -/

/-- Base of the PHY addresses (R69). -/
def State.phyBase (s : State) : Nat := s.fld Reg.hostMdioStat 20 16

/-- The channel that answers at a PHY address, if one does; before the system domain starts none does. -/
def State.phyCh (s : State) (phy : BitVec 5) : Option Ch :=
  if s.phyBase ≤ phy.toNat ∧ phy.toNat < s.phyBase + 16 ∧ s.mayAccess .mdio then some (Fin.ofNat 16 (phy.toNat - s.phyBase)) else none

/-- The MMD 30 window of a channel's PHY address. -/
def State.win (s : State) (n : Ch) : MdioWin := s.host.win[n]

/-- The state with a window changed. -/
def State.mapWin (s : State) (n : Ch) (f : MdioWin → MdioWin) : State :=
  { s with host := { s.host with win := s.host.win.set n (f (s.win n)) } }

/-- What a standard register corresponds to (16 Table 8). -/
inductive StdReg where
  /-- 1.0 and 3.0, 1.1 and 3.1. -/
  | control | status
  /-- The two identifier registers: false for the first. -/
  | ident (second : Bool)
  | typeSel | rsFec
  | anControl | anStatus | anAbility
  | none
  deriving DecidableEq, Repr

/-- The counterpart of a register of MMD 1, 3 or 7 (R429). Numbers that 16 Table 8 gives by name alone are IEEE 802.3's: 1.2100 for the type selection; the technology ability bits lie in 7.515. PRESUMED. (PRESUMED, notes/assumptions 68) -/
def stdReg (mmd reg : Nat) : StdReg :=
  if reg == 2 then .ident false
  else if reg == 3 then .ident true
  else if reg == 0 && mmd != 7 then .control
  else if reg == 1 && mmd != 7 then .status
  else if mmd == 1 && reg == 2100 then .typeSel
  else if mmd == 7 && reg == 512 then .anControl
  else if mmd == 7 && reg == 513 then .anStatus
  else if mmd == 7 && 514 ≤ reg && reg ≤ 516 then .anAbility
  else if Config.rsFecCounter == (mmd, reg) then .rsFec
  else .none

/-- Identifier registers: OUI 0xDA_7C41, model 0x32, revision 0xB, in the packing of IEEE 802.3. PRESUMED. (PRESUMED, notes/assumptions 68) -/
def phyIdent (second : Bool) : Nat :=
  if second then 0xDA7C41 % 0x40 * 0x400 + 0x32 * 0x10 + 0xB else 0xDA7C41 / 0x40 % 0x10000

/-- Type selection code of IEEE 802.3 for a line mode; the Z modes show 10GBASE-T1 (16 Table 8). PRESUMED. (PRESUMED, notes/assumptions 68) -/
def typeCode (mode : Nat) : Nat :=
  match mode with
  | 0 | 1 => 0
  | 2 => 1
  | 3 => 4
  | 4 => 5
  | _ => 6

/-- Whether the channel is in a Z mode: by its line mode, or by the stored resolution while it is down. -/
def zMode (line : Word) : Bool := 8 ≤ bits line 3 0

/-- A read by MDIO of a register in view 2, with 0 on a bus error. (DESIGN CHOICE, notes/assumptions 23; DEDUCED, notes/assumptions 67; PRESUMED, notes/assumptions 68) -/
def State.mdioReg (s : State) (a : Nat) : State × Word :=
  match s.accessErr false a false with
  | some _ => (s.busErr .mdio a, 0)
  | none =>
    let p := pageOf a
    let off := a % 0x1000
    (s, if p.any (fun p => 0x100 ≤ off && s.regPower p off == .retain) then Store.get resetWord s.retained a
      else if p.any (fun p => isMoon p off) then Store.get resetWord s.moon a else s.contents a)

/-- What a standard register reads. (DEDUCED, notes/assumptions 67) -/
def State.stdRead (s : State) (n : Ch) (mmd reg : Nat) : State × Nat :=
  match stdReg mmd reg with
  | .ident b => (s, phyIdent b)
  | .status => let (s, w) := s.mdioReg (Reg.anTrnStatus n); (s, b2n (w.getLsbD 31) * 4)
  | .typeSel => let (s, w) := s.mdioReg (Reg.pcsLineStatus n); (s, typeCode (bits w 3 0))
  | .rsFec =>
    let (s, l) := s.mdioReg (Reg.pcsLineStatus n)
    if zMode l then (s, 0) else let (s, w) := s.mdioReg (Reg.fecUncorr n); (s, bits w 15 0)
  | .anControl => let (s, w) := s.mdioReg (Reg.anAnCtrl n); (s, b2n (w.getLsbD 0) * 2 ^ 12)
  | .anStatus =>
    let (s, r) := s.mdioReg (Reg.anResolved n)
    let (s, t) := s.mdioReg (Reg.anTrnStatus n)
    (s, b2n (r.getLsbD 31) * 32 + b2n (t.getLsbD 31) * 4)
  | .anAbility => let (s, w) := s.mdioReg (Reg.anAdv n); (s, bits w 4 0 * 32)
  | .control | .none => (s, 0)

/-- A write by MDIO to a register in view 2, keeping the bits of keep; where the fabric holds it, MDIO does not wait. (DEDUCED, notes/assumptions 69) -/
def State.mdioWrite (s : State) (a : Nat) (d keep : Word) : State := (s.fabricWrite .mdio false a d keep).1

/-- A write to a standard register (R70, R429): its counterpart with the key applied, a read-only counterpart as it is, or an ignored write at the base of CHn.CH. (DEDUCED, notes/assumptions 69 and 70) -/
def State.stdWrite (s : State) (n : Ch) (mmd reg : Nat) (d : BitVec 16) : State :=
  let w : Word := d.setWidth 32
  match stdReg mmd reg with
  | .control => s.mdioWrite (Reg.chReset n) (BitVec.ofNat 32 (keyReset * 2 ^ 16 + bits w 15 15)) 0
  | .status => s.mdioWrite (Reg.anTrnStatus n) w 0
  | .typeSel => s.mdioWrite (Reg.pcsLineStatus n) w 0
  | .rsFec => s.mdioWrite (Reg.fecUncorr n) w 0
  | .anControl => s.mdioWrite (Reg.anAnCtrl n) (BitVec.ofNat 32 (bits w 9 9 * 2 + bits w 12 12)) 0xFFFFFFFC
  | .anStatus => (s.mdioWrite (Reg.anResolved n) w 0).mdioWrite (Reg.anTrnStatus n) w 0
  | .anAbility => s.mdioWrite (Reg.anAdv n) (BitVec.ofNat 32 (bits w 9 5)) 0xFFFFFFE0
  | .ident _ | .none =>
    s.jAppend (originCode .mdio) (fIgnored + fData) (pageBase (.chan n .ch)) (BitVec.ofNat 32 (mmd * 0x10000 + reg)) w

/-- A window register as it reads (03 Table 9). -/
def MdioWin.read (x : MdioWin) (reg : Nat) : Nat :=
  match reg with
  | 0 => x.addrH.toNat
  | 1 => x.addrL.toNat
  | 2 => x.dataH.toNat
  | 3 => x.dataL.toNat
  | 4 => b2n x.busy.isSome * 2 ^ 15 + x.result.toNat * 2 ^ 12 + b2n x.inc * 4
  | _ => 0

/-- A window register written while no access runs; register 4 can start one (03 Table 9). -/
def MdioWin.write (x : MdioWin) (reg : Nat) (d : BitVec 16) : MdioWin :=
  match reg with
  | 0 => { x with addrH := d.setWidth 8 }
  | 1 => { x with addrL := d }
  | 2 => { x with dataH := d }
  | 3 => { x with dataL := d }
  | 4 =>
    let cmd := d.toNat % 4
    { x with inc := d.getLsbD 2, busy := if cmd == 1 then some false else if cmd == 2 then some true else none }
  | _ => x

/-- A write to a window register of a PHY address (R71): dropped and counted while an access runs. -/
def State.winWrite (s : State) (phy : BitVec 5) (reg : Nat) (d : BitVec 16) : State :=
  match s.phyCh phy with
  | none => s
  | some n =>
    if (s.win n).busy.isSome then (if reg ≤ 4 then s.sat Reg.hostMdioStat 15 0 1 else s)
    else s.mapWin n (fun x => x.write reg d)

/-- The address a window holds. -/
def MdioWin.addr (x : MdioWin) : Nat := x.addrH.toNat * 0x10000 + x.addrL.toNat

/-- A window access has its result: RESULT, the data of a read, BUSY 0, and the next address under INC. (DEDUCED, notes/assumptions 70) -/
def MdioWin.done (x : MdioWin) (c : BitVec 3) (d : Option Word) : MdioWin :=
  let a := if x.inc then (x.addr + 4) % 2 ^ 24 else x.addr
  { x with
    result := c
    busy := none
    stalled := false
    addrH := BitVec.ofNat 8 (a / 0x10000)
    addrL := BitVec.ofNat 16 a
    dataH := match d with | some w => BitVec.ofNat 16 (bits w 31 16) | none => x.dataH
    dataL := match d with | some w => BitVec.ofNat 16 (bits w 15 0) | none => x.dataL }

/-- The started access of a window executes, unless the fabric already holds it. (DEDUCED, notes/assumptions 70) -/
def State.winRun (s : State) (n : Ch) : State :=
  let x := s.win n
  let a := x.addr
  if x.stalled then s
  else match x.busy with
    | none => s
    | some false => match s.fabricRead .mdio a with | (s, c, w) => s.mapWin n (fun x => x.done c (some w))
    | some true =>
      match s.fabricWrite .mdio (s.view1At .mdio a) a (BitVec.ofNat 32 (x.dataH.toNat * 0x10000 + x.dataL.toNat)) 0 with
      | (s, some c) => s.mapWin n (fun x => x.done c none)
      | (s, none) => s.mapWin n (fun x => { x with stalled := true })

/-- MDIO_STD_READ (R69, R70): what the PHY address answers; MMD 30 is the window; nothing answers for another MMD or address. (DEDUCED, notes/assumptions 67) -/
def execMdioStdRead (phy mmd : BitVec 5) (reg : BitVec 16) (s : State) : Host.Outcome State Fault Refusal :=
  let out (s : State) (v : Option (BitVec 16)) : Host.Outcome State Fault Refusal := .next { s with host := { s.host with mdioOut := v } }
  match s.phyCh phy with
  | none => out s none
  | some n =>
    if mmd == 30 then out s (some (BitVec.ofNat 16 ((s.win n).read reg.toNat)))
    else if mmd == 1 || mmd == 3 || mmd == 7 then
      match s.stdRead n mmd.toNat reg.toNat with | (s, v) => out s (some (BitVec.ofNat 16 v))
    else out s none

/-- MDIO_STD_WRITE (R70, R429). -/
def execMdioStdWrite (phy mmd : BitVec 5) (reg d : BitVec 16) (s : State) : Host.Outcome State Fault Refusal :=
  match s.phyCh phy with
  | none => .next s
  | some n =>
    if mmd == 30 then .next (s.winWrite phy reg.toNat d)
    else if mmd == 1 || mmd == 3 || mmd == 7 then .next (s.stdWrite n mmd.toNat reg.toNat d)
    else .next s

/-- MDIO_WINDOW_REG_WRITE (R70, R71). -/
def execMdioWindowRegWrite (phy : BitVec 5) (reg d : BitVec 16) (s : State) : Host.Outcome State Fault Refusal :=
  .next (s.winWrite phy reg.toNat d)

/-- MDIO_WINDOW_READ (R71): CMD 0b01, with INC as written. -/
def execMdioWindowRead (phy : BitVec 5) (inc : Bool) (s : State) : Host.Outcome State Fault Refusal :=
  .next (s.winWrite phy 4 (BitVec.ofNat 16 (b2n inc * 4 + 1)))

/-- MDIO_WINDOW_WRITE (R71): CMD 0b10, with INC as written. -/
def execMdioWindowWrite (phy : BitVec 5) (inc : Bool) (s : State) : Host.Outcome State Fault Refusal :=
  .next (s.winWrite phy 4 (BitVec.ofNat 16 (b2n inc * 4 + 2)))

/-- A window access of a lower PHY address waits: the fabric serves that one first (R74). (DESIGN CHOICE, notes/assumptions 144) -/
def State.winBefore (s : State) (n : Ch) : Bool :=
  allCh.any (fun m => decide (m < n) && (s.win m).busy.isSome && !(s.win m).stalled)

/-- Whether an origin has an access waiting for the fabric: a started window access, or the head of a channel's queue of remote requests, that the fabric does not hold (R36, R74). -/
def State.waits (s : State) (o : Origin) : Bool :=
  match o with
  | .mdio => allCh.any (fun m => (s.win m).busy.isSome && !(s.win m).stalled)
  | .remote n => (s.chan n).remQ.head?.any (fun r => r.result != rNot && (r.op == 1 || r.op == 2)) && !s.heldWrites.any (fun w => w.origin == o)
  | _ => false

/-- Whether the fabric serves an origin next: the first with an access waiting after the origin served last, in cyclic order (R74). (DESIGN CHOICE, notes/assumptions 144) -/
def State.fabricTurn (s : State) (o : Origin) : Bool :=
  let l := ((Origin.mdio :: allCh.map Origin.remote).filter s.waits).map fabricPlace
  ((l.find? (fun k => decide (s.host.served < k))).getD (l.headD (fabricPlace o))) == fabricPlace o

/-- MDIO_WINDOW_DONE (R71, R74): at MDIO's turn the fabric serves the started access of a PHY address, those of lower addresses before it. -/
def execMdioWindowDone (phy : BitVec 5) (s : State) : Host.Outcome State Fault Refusal :=
  match s.phyCh phy with
  | none => .next s
  | some n =>
    let x := s.win n
    if x.busy.isNone || x.stalled || s.winBefore n || !s.fabricTurn .mdio then .next s else .next ((s.servedFor .mdio).winRun n)

/-! ### Remote access (R72, R73) -/

/-- The payload of a remote-access message (03 Table 10). -/
def remoteOf (m : BitVec 128) : Remote :=
  { tag := m.extractLsb' 112 8
    op := m.extractLsb' 108 4
    result := m.extractLsb' 105 3
    addr := m.extractLsb' 72 24
    data := m.extractLsb' 40 32
    seq := m.extractLsb' 24 16 }

/-- A reply message (03 Table 10): type 2. -/
def remoteReply (r : Remote) : BitVec 128 :=
  BitVec.ofNat 128 (2 * 2 ^ 120 + r.tag.toNat * 2 ^ 112 + r.op.toNat * 2 ^ 108 + r.result.toNat * 2 ^ 105
    + r.addr.toNat * 2 ^ 72 + r.data.toNat * 2 ^ 40 + r.seq.toNat * 2 ^ 24)

/-- Outstanding requests of a channel (R72): accepted ones not executed, and replies to accepted ones not sent. (DEDUCED, notes/assumptions 71) -/
def State.outstanding (s : State) (n : Ch) : Nat :=
  ((s.chan n).remQ.filter (fun r => r.result != rNot)).length
    + ((s.chan n).line.oamQ.filter (fun m => oamType m == 2 && (remoteOf m).result != rNot)).length

/-- REMOTE_REQUEST (R72): a request message is taken; the fifth outstanding one is to be answered NOT_ACCEPTED, in its place among the replies. (DEDUCED, notes/assumptions 71) -/
def execRemoteRequest (n : Ch) (s : State) : Host.Outcome State Fault Refusal :=
  match s.takeMsg n 1 with
  | none => .next s
  | some (m, s) =>
    let r := { remoteOf m with result := if 4 ≤ s.outstanding n then rNot else rOk }
    .next (s.mapChan n (fun c => { c with remQ := c.remQ ++ [r] }))

/-- The head request of a channel is answered. (DEDUCED, notes/assumptions 71) -/
def State.remoteAnswer (s : State) (n : Ch) (r : Remote) (c : BitVec 3) (d : Word) : State :=
  let s := s.mapChan n (fun x => { x with remQ := x.remQ.drop 1 })
  s.oamPush n (remoteReply { r with result := c, data := d, seq := s.seq16 })

/-- The head request has executed with a result (R72): it counts and is answered. -/
def State.remoteDone (s : State) (n : Ch) (r : Remote) (c : BitVec 3) (d : Word) : State :=
  (s.wrap32 Reg.hostRmtServed 1).remoteAnswer n r c d

/-- What a write answers: its data, 0 on failure. -/
def writeEcho (c : BitVec 3) (d : Word) : Word := if c == rOk || c == rPosted then d else 0

/-- REMOTE_REQUEST_EXECUTE (R72, R74): at the channel's turn the head of its queue, unless the fabric already holds its write. -/
def execRemoteRequestExecute (n : Ch) (s : State) : Host.Outcome State Fault Refusal :=
  let o : Origin := .remote n
  match (s.chan n).remQ with
  | [] => .next s
  | r :: _ =>
    let a := r.addr.toNat
    if s.heldWrites.any (fun w => w.origin == o) then .next s
    else if r.result == rNot then .next (s.remoteAnswer n r rNot 0)
    else if !(r.op == 1 || r.op == 2) then .next (s.remoteAnswer n r rBadOp 0)
    else if !s.fabricTurn o then .next s
    else
      let s := s.servedFor o
      if r.op == 1 then match s.fabricRead o a with | (s, c, w) => .next (s.remoteDone n r c w)
      else match s.fabricWrite o (s.view1At o a) a r.data 0 with
        | (s, some c) => .next (s.remoteDone n r c (writeEcho c r.data))
        | (s, none) => .next s

/-- REMOTE_REPLY_RECEIVE (R73): the reply that the mailbox waits for; any other is discarded. (DEDUCED, notes/assumptions 72) -/
def execRemoteReplyReceive (n : Ch) (s : State) : Host.Outcome State Fault Refusal :=
  match s.takeMsg n 2 with
  | none => .next s
  | some (m, s) =>
    let r := remoteOf m
    if (s.host.mail.any (fun x => x.1 == n)) && s.fld Reg.hostRmtStatus 23 16 == r.tag.toNat then
      let s := { s with host := { s.host with mail := none } }
      let s := s.setReg Reg.hostRmtStatus (BitVec.ofNat 32 (2 * 2 ^ 30 + r.result.toNat * 2 ^ 27 + r.tag.toNat * 2 ^ 16 + r.seq.toNat))
      .next ((s.setReg Reg.hostRmtRdata r.data).intr (.dev .host) 2)
    else .next s

/-- REMOTE_TIMEOUT (R73). -/
def execRemoteTimeout (s : State) : Host.Outcome State Fault Refusal :=
  match s.host.mail with
  | some (_, t) => if t ≤ s.now then .next s.mailFailed else .next s
  | none => .next s

/-! ### JTAG (R433) -/

/-- The REG_ACCESS data register as Capture-DR takes it (17 Table 6). -/
def Jtag.capture (j : Jtag) : BitVec 58 :=
  BitVec.ofNat 58 (b2n j.done * 2 ^ 57 + b2n (j.done && j.result != rOk && j.result != rPosted) * 2 ^ 56
    + j.addr.toNat * 2 ^ 32 + (if j.result == rOk then j.data.toNat else 0))

/-- The data register that the instruction selects, as its length and what Capture-DR puts into it (17 Table 5); none for the boundary scan, whose cells are the levels at the balls. A code that Table 5 does not list acts as BYPASS. (PRESUMED, notes/assumptions 142) -/
def Jtag.dataReg (j : Jtag) : Option (Nat × Nat) :=
  match j.ir.toNat with
  | 0x00 | 0x01 => none
  | 0x40 => some (58, j.capture.toNat)
  | 0xFE => some (32, 0xB165074B)
  | _ => some (1, 0)

/-- What JTAG's register access becomes when it has a result. -/
def Jtag.complete (j : Jtag) (c : BitVec 3) (d : Word) : Jtag :=
  { j with result := c, data := d, done := true, stalled := false }

/-- The state with the JTAG port changed. -/
def State.mapJtag (s : State) (f : Jtag → Jtag) : State := { s with host := { s.host with jtag := f s.host.jtag } }

/-- A scan of the REG_ACCESS data register, with REG_ACCESS in the instruction register: Capture-DR takes the last access's fields, Update-DR starts the access that was shifted in, unless the previous one has not completed. (DEDUCED, notes/assumptions 73; PRESUMED, notes/assumptions 142) -/
def State.jtagScan (s : State) (a : Addr) (write : Option Word) : State :=
  let s := s.mapJtag (fun j => { j with out := j.capture, ir := 0x40 })
  if s.host.jtag.stalled || !s.mayAccess .jtag then s
  else
    let s := (s.mapJtag (fun j => { j with addr := a, done := false })).servedFor .jtag
    match write with
    | none => match s.fabricRead .jtag a.toNat with | (s, c, w) => s.mapJtag (fun j => j.complete c w)
    | some d =>
      match s.fabricWrite .jtag false a.toNat d 0 with
      | (s, some c) => s.mapJtag (fun j => j.complete c 0)
      | (s, none) => s.mapJtag (fun j => { j with stalled := true })

/-- JTAG_TAP_RESET (R433): TRST_N low: the instruction register holds IDCODE; the registers of the device are as they were. (PRESUMED, notes/assumptions 142) -/
def execJtagTapReset (s : State) : Host.Outcome State Fault Refusal := .next (s.mapJtag (fun j => { j with out := 0, ir := 0xFE }))

/-- JTAG_REG_READ (R433). -/
def execJtagRegRead (a : Addr) (s : State) : Host.Outcome State Fault Refusal := .next (s.jtagScan a none)

/-- JTAG_REG_WRITE (R433). -/
def execJtagRegWrite (a : Addr) (d : Word) (s : State) : Host.Outcome State Fault Refusal := .next (s.jtagScan a (some d))

/-! ### Held writes (R36) -/

/-- The origin of a write that the fabric held goes on with its result. (DEDUCED, notes/assumptions 30) -/
def State.resumed (s : State) (w : PostedWrite) (c : BitVec 3) : State :=
  match w.origin with
  | .hsa => s.resumePort .hsa w.orphan c
  | .hsb => s.resumePort .hsb w.orphan c
  | .mdio =>
    match allCh.find? (fun n => (s.win n).stalled && (s.win n).addr == w.addr) with
    | some n => s.mapWin n (fun x => x.done c none)
    | none => s
  | .remote n =>
    match (s.chan n).remQ with
    | r :: _ => s.remoteDone n r c (writeEcho c r.data)
    | [] => s
  | .jtag => if s.host.jtag.stalled then s.mapJtag (fun j => j.complete c 0) else s
  | _ => s

/-- The oldest write that the fabric holds for a domain is tried again. (DEDUCED, notes/assumptions 30) -/
def State.unhold (s : State) (q : PDom) : State :=
  match s.heldIn q with
  | [] => s
  | w :: _ =>
    if 8 ≤ (s.postedIn q).length then s
    else
      let rest := s.heldWrites.erase w
      let others := rest.filter (fun x => pdomAt x.addr != q)
      let s := { s with heldWrites := others }
      match s.fabricWrite w.origin w.view1 w.addr w.data w.keep with
      | (s, some c) => ({ s with heldWrites := rest } : State).resumed w c
      | (s, none) => { s with heldWrites := w :: rest }

/-- POSTED_WRITE_TAKES_EFFECT (R35, R36): the oldest posted write of a domain takes effect, and the place it frees is taken by the next write that the fabric holds. -/
def execPostedWriteTakesEffect (q : PDom) (s : State) : Host.Outcome State Fault Refusal := .next ((s.popPosted q).unhold q)

end Sys2Proof.Machine
end

