-- ==== Sys2Proof/Machine/Start.lean ====
section
/-! DEFINITION. Start-up of the system domain: the NVM load, the journal's owed entries, the configuration record, the ready host port; and the end of a domain transition (R46, R226, R322, R325, R328, R339, R340, R365 to R368, R373 to R377, R382, R383, R385, R400, R418, R431). -/

namespace Sys2Proof.Machine

/-! ### Trim sets (R381 to R383) -/

/-- Base of a generation's header. -/
def genAt (g : Nat) : Nat := areaTrim + 0x8000 * g + 0x7C00

/-- A generation's header passes: MAGIC, FORMAT and CRC; a fenced sector fails it (15 Table 8). (DEDUCED, notes/assumptions 48) -/
def State.genPasses (s : State) (g : Nat) : Bool :=
  let a := genAt g
  s.sectsFree a 0x400 && s.nvm.num a 4 == 0x54524D31 && s.nvm.byte (a + 4) == 0x01
    && s.nvm.num (a + 0x3FC) 4 == crc32 (s.nvm.bytes a 0x3FC)

/-- GEN_SEQ of a generation, 0 if its header fails. -/
def State.genSeq (s : State) (g : Nat) : Nat := if s.genPasses g then s.nvm.num (genAt g + 8) 4 else 0

/-- The section of channel n in a generation whose header passes, where it passes its checks. -/
def State.section? (s : State) (g : Nat) (n : Ch) : Option (List Byte) :=
  let a := trimAt g n
  if s.genPasses g && s.sectsFree a 1984 then
    let l := s.nvm.bytes a 1984
    if sectionPasses n l then some l else none
  else none

/-- The generation with the higher GEN_SEQ among those whose header passes; the lower-numbered one where they do not differ in order (R43, R382). (DEDUCED, notes/assumptions 48) -/
def State.newGen (s : State) : Nat :=
  if s.genPasses 0 then (if s.genPasses 1 && seqNewer (s.genSeq 1) (s.genSeq 0) then 1 else 0) else 1

/-- The trim set of a channel loaded, with LOADED, FALLBACK, BAD and GEN (R382). -/
def State.loadTrims (s : State) (n : Ch) (g : Nat) : State :=
  let put (s : State) (l : Option (List Byte)) (w : Nat) : State :=
    (s.mapTrim n (fun _ => { sect := l })).setReg (Reg.trimChStatus n.val) (BitVec.ofNat 32 w)
  match s.section? g n, s.section? (1 - g) n with
  | some l, _ => put s (some l) (2 ^ 31 + g * 2 ^ 24)
  | none, some l => (put s (some l) (2 ^ 31 + 2 ^ 30 + (1 - g) * 2 ^ 24)).intr (.dev .trim) 1
  | none, none => (put s none (2 ^ 29)).intr (.dev .trim) 1

/-- TRIM.CAL_COUNT and CAL_TIME show the ledger's values (R383). -/
def State.showCal (s : State) : State :=
  let t := s.life.calTime
  let s := s.setReg Reg.trimCalCount (BitVec.ofNat 32 (s.life.cals % 65536))
  let s := s.setReg Reg.trimCalTimeSecLo (BitVec.ofNat 32 (numAt t 2 4))
  let s := s.setReg Reg.trimCalTimeSecHi (BitVec.ofNat 32 (numAt t 10 2 * 65536 + numAt t 0 2))
  s.setReg Reg.trimCalTimeNs (BitVec.ofNat 32 (numAt t 6 4))

/-- The generations and the calibration they record (R382, R383). (DEDUCED, notes/assumptions 48) -/
def State.loadGens (s : State) : State :=
  let g := s.newGen
  let s := (s.setReg Reg.trimGen0Seq (BitVec.ofNat 32 (s.genSeq 0))).setReg Reg.trimGen1Seq (BitVec.ofNat 32 (s.genSeq 1))
  let a := genAt g
  let s := if s.genPasses g && s.life.cals < s.nvm.num (a + 0xC) 4 then
      s.mapLife (fun l => { l with cals := s.nvm.num (a + 0xC) 4, calTime := s.nvm.bytes (a + 0x10) 12 })
    else s
  (s.forCh (fun n s => s.loadTrims n g)).showCal

/-! ### Repair records (R400) -/

/-- Records read from the area, in order: those in force, and how many are discarded for their CRC-8 or for a spare used before. -/
def keepRepairs : List (BitVec 128) → List Repair × Nat
  | l => l.foldl (fun acc b =>
    match repairOf b with
    | some r => if (r.kind == 1 || r.kind == 2) && acc.1.any r.same then (acc.1, acc.2 + 1) else (acc.1 ++ [r], acc.2)
    | none => (acc.1, acc.2 + 1)) ([], 0)

/-- The LDPC unit that a record takes out of service, if it does (R400). (DEDUCED, notes/assumptions 51) -/
def Repair.unit (r : Repair) : Option (Fin 3) :=
  if r.dom % 3 != 0 then none
  else if r.kind == 4 then (match r.inst with | 0x100 => some 0 | 0x101 => some 1 | 0x102 => some 2 | _ => none)
  else if r.kind == 3 then (match r.inst with | 6 | 7 => some 0 | 8 | 9 => some 1 | 10 => some 2 | _ => none)
  else none

/-- The page that a record of an exhausted instance fences, CH for the whole channel (R400, 14 Table 6). -/
def Repair.page (r : Repair) : Option ChPage :=
  if r.kind != 3 then none
  else if r.dom % 3 == 2 then some .hl
  else if r.dom % 3 != 0 then none
  else match r.inst with
    | 13 => some .rly
    | 15 => some .diag
    | 6 | 7 | 8 | 9 | 10 => none
    | _ => some .ch

/-- The repair area read at a start: records in force, REC_STAT, EXHAUSTED of the domains that records name. -/
def State.loadRepairs (s : State) : State :=
  let raw := (s.repairPlaces.map s.repairAt).filter (fun b => b != BitVec.allOnes 128)
  let k := keepRepairs raw
  let named := k.1.filter (fun (r : Repair) => r.kind == 3 || r.kind == 4)
  let s := { s with bist := { s.bist with
    inForce := raw.filter (fun b => (repairOf b).any k.1.contains)
    units := named.filterMap (fun (r : Repair) => r.unit.map (fun u => ((Fin.ofNat 16 (r.dom / 3) : Ch), u))) } }
  let s := (s.showRepairs.setFld Reg.bistRecStat 13 0 k.2).when (0 < k.2) (fun s => s.intr (.dev .bist) 3)
  named.foldl (fun (s : State) r => s.setBit (Reg.bistDomStatus (r.dom % 48)) 28 true) s

/-- The fences of a start, as writes by origin 0x20: channels without trims or elements, units that records name (R382, R385, R400). (DEDUCED, notes/assumptions 42 and 49) -/
def State.startFences (s : State) : State :=
  let s := s.forCh (fun n s => if s.mustFence n then s.fenceChannel n else s)
  let s := s.bist.units.foldl (fun (s : State) u => s.fenceUnit u.1 u.2.val) s
  (s.bist.inForce.filterMap repairOf).foldl (fun (s : State) r =>
    match r.page with | some p => s.fenceCh (Fin.ofNat 16 (r.dom / 3)) p | none => s) s

/-! ### The journal's owed entries (R46, R373) -/

/-- An entry written now that keeps the time at which its write took effect. -/
def State.jLate (s : State) (e : JEntry) : State :=
  let s := s.jAppend e.origin.toNat e.flags.toNat e.addr.toNat e.old e.new
  let fix : List RingEntry → List RingEntry
    | x :: r => { x with e := { x.e with sec := e.sec, ns := e.ns, frac := e.frac } } :: r
    | [] => []
  { s with jrnl := { s.jrnl with ring := fix s.jrnl.ring } }

/-- The event entries that a start owes: the reset it follows, after a new ring where the old one was lost, then one RESET_N for each that interrupted a start. (DEDUCED, notes/assumptions 42 and 43) -/
def State.startEvents (s : State) : State :=
  let ev (s : State) (code : Nat) (v : Nat) : State := s.jEvent code 0 (BitVec.ofNat 32 v)
  let s := match s.rst.owed with
    | some .vao => ev s.newRing 1 0
    | some .corePower => ev s.newRing 2 0
    | some .resetN => ev s 2 0
    | some .devReset => ev s 3 s.rst.byOrigin
    | none => s
  (List.range s.rst.interrupted).foldl (fun (s : State) _ => ev s 2 0) s

/-- CHANGE_SEQ of every page takes the sequence of the reset's event entry (02 Table 16). (DEDUCED, notes/assumptions 45) -/
def State.markReset (s : State) : State :=
  allPages.foldl (fun (s : State) p => s.setReg (hdr p hChangeSeq) (s.jrnl.seqNext - 1)) s

/-- Lock breaks that were owed, after the event entry (R40). -/
def State.owedBreaksDone (s : State) : State :=
  s.rst.owedBreaks.foldl (fun (s : State) x =>
    match pageOf x.1 with
    | some p => (s.jAppend (originCode .device) fBroken (x.1 + hLock) x.2 (lockGone x.2)).lockBroken p
    | none => s) s

/-- Everything that the journal is owed, in the order of R373. (DEDUCED, notes/assumptions 42 and 46 and 53) -/
def State.owedEntries (s : State) : State :=
  let isl := s.rst.owedIsland
  let s := s.startEvents.markReset
  let s := (isl.foldl State.jLate s).owedBreaksDone
  { s with rst := { s.rst with owed := none, interrupted := 0, owedBreaks := [], owedIsland := [] } }

/-! ### Writes by origin 0x22 (R325, R374, R375) -/

/-- Posted and held writes of a domain brought to their effect, oldest first. (DEDUCED, notes/assumptions 46 and 50) -/
def State.drainPosted (s : State) (q : PDom) : State :=
  (List.range ((s.postedIn q).length + (s.heldIn q).length)).foldl (fun (s : State) _ => (s.popPosted q).unhold q) s

/-- A write by origin 0x22, and whether it raised a bus error; one that the fabric would hold waits until its queue has a place. (DEDUCED, notes/assumptions 50) -/
def State.restoreWrite (s : State) (a : Nat) (d : Word) : State × Bool :=
  match s.fabricWrite .restore false a d 0 with
  | (t, some c) => (t, c == rBus || c == rFenced)
  | (_, none) => match (s.drainPosted (pdomAt a)).fabricWrite .restore false a d 0 with | (t, c) => (t, c == some rBus || c == some rFenced)

/-- The calendar settings restored after a VAO power-on reset, where their record is valid (R325). (DEDUCED, notes/assumptions 42) -/
def State.restoreCalendar (s : State) : State :=
  let l := s.nvm.bytes (areaLeap + 0x800) 0x800
  let ok := !s.sectFenced (sectorOf (areaLeap + 0x800)) && numAt l 0 4 == 0x43414C31 && byteAt l 4 == 1 && numAt l 0x7FC 4 == crc32 (l.take 0x7FC)
  if ok then
    let s := (s.restoreWrite Reg.tkCalCtrl (BitVec.ofNat 32 (numAt l 6 2 * 65536 + byteAt l 5 % 4 * 16))).1
    (List.range 4).foldl (fun (s : State) a =>
      let w (k : Nat) : Word := BitVec.ofNat 32 (numAt l (8 + 12 * a + 4 * k) 4)
      let s := (s.restoreWrite (Reg.tkAlmDate a) (w 0)).1
      let s := (s.restoreWrite (Reg.tkAlmTime a) (w 1)).1
      (s.restoreWrite (Reg.tkAlmCtrl a) (w 2)).1) s
  else s

/-- The start-up configuration record: its entries (address, LATE, value); none where it is not valid. (DEDUCED, notes/assumptions 49) -/
def State.configRecord (s : State) : Option (List (Nat × Bool × Word)) :=
  let l := s.nvm.bytes areaUser 0x2000
  let k := numAt l 6 2
  if s.sectsFree areaUser 0x2000 && numAt l 0 4 == 0x53434631 && byteAt l 4 == 1 && k ≤ 1021 && numAt l 0x1FFC 4 == crc32 (l.take 0x1FFC) then
    some ((List.range k).map (fun e =>
      (numAt l (0x10 + 8 * e) 3, byteAt l (0x13 + 8 * e) % 2 == 1, BitVec.ofNat 32 (numAt l (0x14 + 8 * e) 4))))
  else none

/-- Whether an entry is applied in the early phase (R375). -/
def isEarly (e : Nat × Bool × Word) : Bool :=
  !e.2.1 && match pageOf e.1 with
    | some p => e.1 % 0x1000 < 0x038 || p == .dev .host || p == .dev .jrnl || p == .dev .clk
    | none => false

/-- Whether an entry is applied at this start: those of TK and LIFE only after a VAO power-on reset. -/
def State.entryApplies (s : State) (e : Nat × Bool × Word) : Bool :=
  s.rst.afterVao || !(pageOf e.1 == some (.dev .tk) || pageOf e.1 == some (.dev .life))

/-- Entries applied in order, with CFG_COUNT and CFG_BUSERR. -/
def State.applyEntries (s : State) (l : List (Nat × Bool × Word)) : State :=
  l.foldl (fun (s : State) e =>
    if s.entryApplies e then
      match s.restoreWrite e.1 e.2.2 with
      | (s, err) => (s.sat Reg.pwrStartStatus 25 16 1).when err (fun s => s.sat Reg.pwrCfgBuserr 15 0 1)
    else s) s

/-! ### START_UP (R376) -/

/-- Code of START_STATUS.KIND. -/
def kindCode : StartKind → Nat
  | .vao => 0 | .resetN => 1 | .devReset => 2 | .corePower => 3

/-- What the NVM load brings (R376, step 3). -/
def State.loadNvm (s : State) : State :=
  let s := (s.showSects.showArea).loadLedger
  let s := s.loadGens.loadRepairs
  let s := s.forCh (fun n s => s.loadProfile n)
  s.loadLeap

/-- START_STATUS of the start, with CFG_VALID or CFG_BAD of the record found (R369, R374, R375). -/
def State.showStart (s : State) : State :=
  let present := s.nvm.num areaUser 4 == 0x53434631
  let valid := s.configRecord.isSome
  let w := BitVec.ofNat 32 (kindCode s.rst.kind * 2 ^ 30 + b2n valid * 2 ^ 29 + b2n (present && !valid) * 2 ^ 28)
  ((s.setReg Reg.pwrStartStatus w).setReg Reg.pwrCfgBuserr 0).when (present && !valid) (fun s => s.intr (.dev .pwr) 1)

/-- START_UP (R376, R431): the system domain leaves reset with these straps; the NVM load, the owed entries, the fences, the calendar and the early phase follow; judgment starts. (DEDUCED, notes/assumptions 42) -/
def execStartUp (straps : BitVec 3) (s : State) : Host.Outcome State Fault Refusal :=
  if s.rst.phase != .inReset then .next s
  else
    let vao : Bool := s.rst.owed == some .vao
    let s := { s with
      rst := { s.rst with phase := .started, leftAt := s.now, straps := straps, armed := none, go := none }
      nvmDom := { eff := .on, want := .on } }
    let s := (s.setFld Reg.hostMdioStat 20 16 (b2n (straps.getLsbD 1) * 16)).setBit Reg.clkClkStatus 16 (straps.getLsbD 0)
    let s := (s.when vao (fun s => s.lifeAdd 1 1)).loadNvm
    let s := s.owedEntries.startFences
    let s := (s.when vao State.restoreCalendar).showStart
    let l := s.configRecord.getD []
    let s := s.applyEntries (l.filter isEarly)
    .next ({ s with rst := { s.rst with record := l.filter (fun e => !isEarly e) } }.startJudging)

/-! ### HOST_PORT_READY (R377) -/

/-- HOST_PORT_READY: SPLL's gate is open, or 40 ms have passed; the late phase is applied, the event journaled, and the requests of the NVM domain and of the channels take effect. (DEDUCED, notes/assumptions 47) -/
def execHostPortReady (s : State) : Host.Outcome State Fault Refusal :=
  let lock := s.clk.spll.gate
  if s.rst.phase == .started && (lock || s.rst.leftAt + ms 40 ≤ s.now) then
    let s := s.applyEntries s.rst.record
    let t := (s.now - s.rst.leftAt) / us 1
    let s := (s.setFld Reg.pwrStartStatus 15 0 t).when (!lock) (fun s => (s.setBit Reg.pwrStartStatus 27 true).intr (.dev .pwr) 2)
    let s := s.jEvent 7 0 (BitVec.ofNat 32 (s.fld Reg.pwrStartStatus 15 0))
    let s := { s with rst := { s.rst with phase := .ready, record := [], afterVao := false } }
    .next (s.nvmReqWritten.forCh (fun n s => s.powerWritten n))
  else .next s

/-! ### POWER_TRANSITION_DONE (R366 to R368, R373) -/

/-- POWER_TRANSITION_DONE: the transition of domain d in progress completes; 3n + k is domain k of channel n, 48 the NVM domain; the channel moves on toward the newest request, or takes a reset that waited. (DESIGN CHOICE, notes/assumptions 10) -/
def execPowerTransitionDone (d : Fin 49) (s : State) : Host.Outcome State Fault Refusal :=
  if d.val == 48 then
    match s.nvmDom.moving with
    | none => .next s
    | some (t, _) =>
      let s := ({ s with nvmDom := { s.nvmDom with eff := t, moving := none } }).intr (.dev .pwr) 0
      .next s.settleNvm
  else
    let n : Ch := Fin.ofNat 16 (d.val / 3)
    let k : Fin 3 := Fin.ofNat 3 d.val
    match ((s.chan n).dom k).moving with
    | none => .next s
    | some (t, _) =>
      let s := s.domArrive n k t
      .next ((s.resetDue n).settlePower n)

end Sys2Proof.Machine
end

