-- ==== Sys2Proof/Machine/Rows.lean ====
section
/-! DEFINITION. The commands that are writes, or reads, of one register: the access and its whole effect at once (R20, R35), and snapshots, leases and the host lane's lock (R37, R40, R216). -/

namespace Sys2Proof.Machine

/-! ### A write as one command -/

/-- A write by an origin, keeping the bits of keep, with its whole effect: a posted write takes effect after the older ones of its domain (R20, R35). DESIGN CHOICE. (DESIGN CHOICE, notes/assumptions 9) -/
def State.writeKeep (s : State) (o : Origin) (a : Nat) (d keep : Word) : State :=
  if !s.mayAccess o then s
  else
    let q := pdomAt a
    let moon : Bool := (pageOf a).any (fun p => isMoon p (a % 0x1000))
    let s := s.when moon (fun s => s.drainPosted q)
    ((s.fabricWrite o (s.view1At o a) a d keep).1).when moon (fun s => s.popPosted q)

/-- A write of a whole register. (DESIGN CHOICE, notes/assumptions 9) -/
def State.writeNow (s : State) (o : Origin) (a : Nat) (d : Word) : State := s.writeKeep o a d 0

/-- A write of one field, with every other field at its contents. (DESIGN CHOICE, notes/assumptions 9) -/
def State.writeFld (s : State) (o : Origin) (a hi lo v : Nat) : State :=
  s.writeKeep o a (withBits 0 hi lo v) (withBits 0xFFFFFFFF hi lo 0)

/-- A keyed write that sets or clears one bit, with the other bits of its field at their contents. (DESIGN CHOICE, notes/assumptions 9) -/
def State.writeKeyed (s : State) (o : Origin) (a hi i : Nat) (b : Bool) : State :=
  s.writeKeep o a (withBits (withBits 0 31 16 keyFence) i i (b2n b)) (withBits (withBits 0 hi 0 (2 ^ (hi + 1) - 1)) i i 0)

/-- The reset bit of a channel page in CHn.CH.RESET; 0 for CH, which no block reset reaches (13 Table 7). (DEDUCED, notes/assumptions 36) -/
def blockBit (q : ChPage) : Nat := if q == .ch then 0 else 2 ^ (allChPages.idxOf q)

/-! ### Snapshots and leases (R37, R40) -/

/-- Held registers of a page. (DEDUCED, notes/assumptions 33) -/
def heldRegs (p : Page) : List Nat :=
  ((pageRows p).filter RegRow.held).flatMap (fun r => (List.range r.count).map (fun k => hdr p (r.off + r.stride * k)))

/-- The held registers of a page captured. (DEDUCED, notes/assumptions 33) -/
def State.capturePage (s : State) (p : Page) : State :=
  let b := pageBase p
  let snap := Store.keep (fun a => a < b || b + 0x1000 ≤ a) s.snap
  { s with snap := (heldRegs p).foldl (fun t a => Store.put resetWord t a (s.contents a)) snap }

/-- SNAP_ID, DONE and SNAP_DONE of a page that has been captured. (DEDUCED, notes/assumptions 33) -/
def State.snapShown (s : State) (p : Page) : State :=
  let w := s.reg (hdr p hSnap)
  (s.setReg (hdr p hSnap) (withBits (withBits w 31 16 (bits w 31 16 + 1)) 1 0 2)).intr p intSnap

/-! ### Commands -/

/-- REGISTER_WRITE (R20): the fabric serves a write by an origin; a posted write then waits for its domain, one that finds the queue full is held. -/
def execRegisterWrite (o : Origin) (a : Addr) (d : Word) (s : State) : Host.Outcome State Fault Refusal :=
  if s.mayAccess o then .next (s.fabricWrite o (s.view1At o a.toNat) a.toNat d 0).1 else .next s

/-- PAGE_FENCE_SET (R414, R415, R417). -/
def execPageFenceSet (o : Origin) (p : Page) (s : State) : Host.Outcome State Fault Refusal :=
  .next (s.writeNow o (hdr p hFence) 0xFE9C0001)

/-- PAGE_FENCE_REMOVE (R416). -/
def execPageFenceRemove (o : Origin) (p : Page) (s : State) : Host.Outcome State Fault Refusal :=
  .next (s.writeNow o (hdr p hFence) 0xFE9C0000)

/-- PAGE_VIEW_SEL_WRITE (R32). -/
def execPageViewSelWrite (o : Origin) (p : Page) (d : Word) (s : State) : Host.Outcome State Fault Refusal :=
  .next (s.writeNow o (hdr p hViewSel) d)

/-- INT_TEST_WRITE (R30, 02 Table 11). -/
def execIntTestWrite (o : Origin) (p : Page) (d : Word) (s : State) : Host.Outcome State Fault Refusal :=
  .next (s.writeNow o (hdr p hIntTest) d)

/-- SNAP_REQUEST (R37): a write of SNAP with REQ = 1, and ALL and HOLD as given. -/
def execSnapRequest (o : Origin) (p : Page) (all : Bool) (hold : Bool) (s : State) : Host.Outcome State Fault Refusal :=
  .next (s.writeNow o (hdr p hSnap) (BitVec.ofNat 32 (b2n all * 8 + b2n hold * 4 + 1)))

/-- The capture instant of a page's request has come (R37): an orbit boundary of a channel in a Z mode with its link up, a moon edge in every other case, since the REQ. -/
def State.snapDue (s : State) (p : Page) : Bool :=
  let t := Store.get (fun _ => (0, (0 : Word))) s.host.snapAt (pageBase p)
  match p with
  | .chan n _ => if s.zUp n then (s.chan n).line.txNext != t.2 else decide (t.1 < s.moonEdge)
  | .dev _ => decide (t.1 < s.moonEdge)

/-- SNAP_TAKEN (R37): the capture instant of the request that waits at a page, for the page or for every page that its ALL covers; the conserved quantities of what is captured are checked (R419). (DEDUCED, notes/assumptions 33) -/
def execSnapTaken (p : Page) (s : State) : Host.Outcome State Fault Refusal :=
  let w := s.reg (hdr p hSnap)
  if w.getLsbD 0 && s.snapDue p then
    let l : List Page := if p == coverOf p && w.getLsbD 3 then (match p with | .chan n _ => pagesOf n | .dev _ => allDevPages.map Page.dev) else [p]
    .next (l.foldl State.checkBalance (l.foldl State.snapShown (l.foldl State.capturePage s)))
  else .next s

/-- LOCK_WRITE (R38). -/
def execLockWrite (o : Origin) (p : Page) (d : Word) (s : State) : Host.Outcome State Fault Refusal :=
  .next (s.writeNow o (hdr p hLock) d)

/-- LEASE_EXPIRY (R40): the lease of a page has run out. (DESIGN CHOICE, notes/assumptions 11) -/
def execLeaseExpiry (p : Page) (s : State) : Host.Outcome State Fault Refusal :=
  if s.lockHeld p && Store.get (fun _ => 0) s.leases (pageBase p) ≤ s.now then .next (s.breakLock p) else .next s

/-- NVMW_DATA_WRITE (R454). -/
def execNvmwDataWrite (o : Origin) (i : Fin 64) (d : Word) (s : State) : Host.Outcome State Fault Refusal :=
  .next (s.writeNow o (Reg.nvmwData i.val) d)

/-- JOURNAL_FLUSH (R47). (DEDUCED, notes/assumptions 77) -/
def execJournalFlush (o : Origin) (s : State) : Host.Outcome State Fault Refusal :=
  .next (s.writeFld o Reg.jrnlCommitCtrl 31 31 1)

/-- JOURNAL_READ_LOAD (R49): a write of RD_CTRL or of RD_SEQ. -/
def execJournalReadLoad (o : Origin) (ctrl : Bool) (d : Word) (s : State) : Host.Outcome State Fault Refusal :=
  .next (s.writeNow o (if ctrl then Reg.jrnlRdCtrl else Reg.jrnlRdSeq) d)

/-- ENTRY_W7_READ (R49). -/
def execEntryW7Read (o : Origin) (s : State) : Host.Outcome State Fault Refusal :=
  if s.mayAccess o then .next (s.fabricRead o (Reg.jrnlEntryW 7)).1 else .next s

/-- JOB_TDR_SWEEP (R51, R230): START of type 0x01, with the arguments in the slot's registers. -/
def execJobTdrSweep (o : Origin) (slot : Fin 8) (target : Byte) (s : State) : Host.Outcome State Fault Refusal :=
  .next (s.writeNow o (Reg.jobSlotCtrl slot.val) (BitVec.ofNat 32 (2 ^ 16 + target.toNat * 256 + 1)))

/-- JOB_CABLE_PROFILE_LEARNING (R51, R227): START of type 0x02. -/
def execJobCableProfileLearning (o : Origin) (slot : Fin 8) (target : Byte) (s : State) : Host.Outcome State Fault Refusal :=
  .next (s.writeNow o (Reg.jobSlotCtrl slot.val) (BitVec.ofNat 32 (2 ^ 16 + target.toNat * 256 + 2)))

/-- JOB_BIST (R51, R395): START of type 0x05. -/
def execJobBist (o : Origin) (slot : Fin 8) (target : Byte) (s : State) : Host.Outcome State Fault Refusal :=
  .next (s.writeNow o (Reg.jobSlotCtrl slot.val) (BitVec.ofNat 32 (2 ^ 16 + target.toNat * 256 + 5)))

/-- JOB_LEDGER_UPDATE (R51, R329): START of type 0x06. -/
def execJobLedgerUpdate (o : Origin) (slot : Fin 8) (target : Byte) (s : State) : Host.Outcome State Fault Refusal :=
  .next (s.writeNow o (Reg.jobSlotCtrl slot.val) (BitVec.ofNat 32 (2 ^ 16 + target.toNat * 256 + 6)))

/-- JOB_TRIM_RECHECK (R50, R51): START of type 0x07. -/
def execJobTrimRecheck (o : Origin) (slot : Fin 8) (target : Byte) (s : State) : Host.Outcome State Fault Refusal :=
  .next (s.writeNow o (Reg.jobSlotCtrl slot.val) (BitVec.ofNat 32 (2 ^ 16 + target.toNat * 256 + 7)))

/-- JOB_ABORT (R54). -/
def execJobAbort (o : Origin) (slot : Fin 8) (s : State) : Host.Outcome State Fault Refusal :=
  .next (s.writeFld o (Reg.jobSlotCtrl slot.val) 17 17 1)

/-- BUSERR_STICKY_CLEAR (R71, 03 Table 15): of BUSERR_RMT, or of BUSERR_MDIO. -/
def execBuserrStickyClear (o : Origin) (rmt : Bool) (s : State) : Host.Outcome State Fault Refusal :=
  .next (s.writeNow o (if rmt then Reg.hostBuserrRmt else Reg.hostBuserrMdio) 0x80000000)

/-- REMOTE_GO (R73). -/
def execRemoteGo (o : Origin) (n : Ch) (op : BitVec 2) (s : State) : Host.Outcome State Fault Refusal :=
  .next (s.writeNow o Reg.hostRmtCtrl (BitVec.ofNat 32 (2 ^ 31 + n.val * 256 + op.toNat)))

/-- PORT_FENCE_SET (R75). -/
def execPortFenceSet (o : Origin) (p : SPort) (s : State) : Host.Outcome State Fault Refusal :=
  .next (s.writeKeyed o Reg.hostPortFence 1 (portBit p) true)

/-- PORT_FENCE_REMOVE (R75). -/
def execPortFenceRemove (o : Origin) (p : SPort) (s : State) : Host.Outcome State Fault Refusal :=
  .next (s.writeKeyed o Reg.hostPortFence 1 (portBit p) false)

/-- ITER_MAX_WRITE (R122). -/
def execIterMaxWrite (o : Origin) (n : Ch) (v : BitVec 5) (s : State) : Host.Outcome State Fault Refusal :=
  .next (s.writeFld o (Reg.fecCtrl n) 4 0 v.toNat)

/-- FEC_UNIT_FENCE_SET (R127): unit 0 engine A, 1 engine B, 2 encoder. -/
def execFecUnitFenceSet (o : Origin) (n : Ch) (u : Fin 3) (s : State) : Host.Outcome State Fault Refusal :=
  .next (s.writeKeyed o (Reg.fecUnitFence n) 2 u.val true)

/-- FEC_UNIT_FENCE_REMOVE (R128). -/
def execFecUnitFenceRemove (o : Origin) (n : Ch) (u : Fin 3) (s : State) : Host.Outcome State Fault Refusal :=
  .next (s.writeKeyed o (Reg.fecUnitFence n) 2 u.val false)

/-- RX_GAIN_WRITE (R138). -/
def execRxGainWrite (o : Origin) (n : Ch) (d : Word) (s : State) : Host.Outcome State Fault Refusal :=
  .next (s.writeNow o (Reg.afeRxGain n) d)

/-- DFE_TAPS_WRITE (R156). -/
def execDfeTapsWrite (o : Origin) (n : Ch) (d : Word) (s : State) : Host.Outcome State Fault Refusal :=
  .next (s.writeNow o (Reg.eqDfeCtrl n) d)

/-- TIMING_MODE_WRITE (R163). -/
def execTimingModeWrite (o : Origin) (n : Ch) (mode : Bool) (s : State) : Host.Outcome State Fault Refusal :=
  .next (s.writeFld o (Reg.eqTrCtrl n) 0 0 (b2n mode))

/-- TIMING_BW_WRITE (R166). -/
def execTimingBwWrite (o : Origin) (n : Ch) (bw : BitVec 2) (s : State) : Host.Outcome State Fault Refusal :=
  .next (s.writeFld o (Reg.eqTrCtrl n) 5 4 bw.toNat)

/-- NF_LISTEN_WRITE (R170). -/
def execNfListenWrite (o : Origin) (n : Ch) (d : Word) (s : State) : Host.Outcome State Fault Refusal :=
  .next (s.writeNow o (Reg.eqNfCtrl n) d)

/-- AN_ENABLE (R178). -/
def execAnEnable (o : Origin) (n : Ch) (s : State) : Host.Outcome State Fault Refusal :=
  .next (s.writeFld o (Reg.anAnCtrl n) 0 0 1)

/-- AN_DISABLE (R178). -/
def execAnDisable (o : Origin) (n : Ch) (s : State) : Host.Outcome State Fault Refusal :=
  .next (s.writeFld o (Reg.anAnCtrl n) 0 0 0)

/-- AN_RESTART (R180). -/
def execAnRestart (o : Origin) (n : Ch) (s : State) : Host.Outcome State Fault Refusal :=
  .next (s.writeFld o (Reg.anAnCtrl n) 1 1 1)

/-- ADV_WRITE (R180, R184). -/
def execAdvWrite (o : Origin) (n : Ch) (d : Word) (s : State) : Host.Outcome State Fault Refusal :=
  .next (s.writeNow o (Reg.anAdv n) d)

/-- HL_MODE_WRITE (R206). -/
def execHlModeWrite (o : Origin) (n : Ch) (d : Word) (s : State) : Host.Outcome State Fault Refusal :=
  .next (s.writeNow o (Reg.hlMode n) d)

/-- RELAY_ENABLE (R211): CTRL of channel 2k. -/
def execRelayEnable (o : Origin) (k : Fin 8) (s : State) : Host.Outcome State Fault Refusal :=
  .next (s.writeFld o (Reg.rlyCtrl (2 * k.val)) 0 0 1)

/-- RELAY_DISABLE (R211). -/
def execRelayDisable (o : Origin) (k : Fin 8) (s : State) : Host.Outcome State Fault Refusal :=
  .next (s.writeFld o (Reg.rlyCtrl (2 * k.val)) 0 0 0)

/-- RELAY_TAP_WRITE (R214). -/
def execRelayTapWrite (o : Origin) (k : Fin 8) (tap : Bool) (s : State) : Host.Outcome State Fault Refusal :=
  .next (s.writeFld o (Reg.rlyCtrl (2 * k.val)) 1 1 (b2n tap))

/-- RELAY_PAIR_ACTIVATE (R211): pair k becomes what its channels now allow. -/
def execRelayPairActivate (k : Fin 8) (s : State) : Host.Outcome State Fault Refusal :=
  .next (s.settlePair (Fin.ofNat 16 (2 * k.val)))

/-- DIAG_HOLD_WRITE (R223). -/
def execDiagHoldWrite (o : Origin) (n : Ch) (hold : Bool) (s : State) : Host.Outcome State Fault Refusal :=
  .next (s.writeFld o (Reg.diagDiagCtrl n) 1 1 (b2n hold))

/-- LOOPBACK_NEAR_DIGITAL (R235). -/
def execLoopbackNearDigital (o : Origin) (n : Ch) (s : State) : Host.Outcome State Fault Refusal :=
  .next (s.writeFld o (Reg.diagLbCtrl n) 1 0 1)

/-- LOOPBACK_NEAR_ANALOG (R235). -/
def execLoopbackNearAnalog (o : Origin) (n : Ch) (s : State) : Host.Outcome State Fault Refusal :=
  .next (s.writeFld o (Reg.diagLbCtrl n) 1 0 2)

/-- LOOPBACK_FAR_END (R235). -/
def execLoopbackFarEnd (o : Origin) (n : Ch) (s : State) : Host.Outcome State Fault Refusal :=
  .next (s.writeFld o (Reg.diagLbCtrl n) 1 0 3)

/-- LOOPBACK_OFF (R235). -/
def execLoopbackOff (o : Origin) (n : Ch) (s : State) : Host.Outcome State Fault Refusal :=
  .next (s.writeFld o (Reg.diagLbCtrl n) 1 0 0)

/-- TEST_PATTERN_SELECT (R236). -/
def execTestPatternSelect (o : Origin) (n : Ch) (pat : BitVec 3) (s : State) : Host.Outcome State Fault Refusal :=
  .next (s.writeFld o (Reg.diagTpCtrl n) 2 0 pat.toNat)

/-- SRC_CTRL_WRITE (R253). -/
def execSrcCtrlWrite (o : Origin) (g : Tg) (d : Word) (s : State) : Host.Outcome State Fault Refusal :=
  .next (s.writeNow o (Reg.tkGrpSrcCtrl g.val) d)

/-- PTP_POP (R271). -/
def execPtpPop (o : Origin) (n : Ch) (s : State) : Host.Outcome State Fault Refusal :=
  .next (s.writeNow o (Reg.ktlPtpPop n) 1)

/-- ROUTE_LOAD (R288). -/
def execRouteLoad (o : Origin) (inc : Bool) (s : State) : Host.Outcome State Fault Refusal :=
  .next (s.writeNow o Reg.cmtRtCmd (BitVec.ofNat 32 (b2n inc * 16 + 1)))

/-- ROUTE_COMMIT (R288). -/
def execRouteCommit (o : Origin) (inc : Bool) (s : State) : Host.Outcome State Fault Refusal :=
  .next (s.writeNow o Reg.cmtRtCmd (BitVec.ofNat 32 (b2n inc * 16 + 2)))

/-- PART_WRITE (R296). -/
def execPartWrite (o : Origin) (g : Tg) (d : Word) (s : State) : Host.Outcome State Fault Refusal :=
  .next (s.writeNow o (Reg.cmtGrpPart g.val) d)

/-- SCHEDULE_LOAD (R300). -/
def execScheduleLoad (o : Origin) (inc : Bool) (s : State) : Host.Outcome State Fault Refusal :=
  .next (s.writeNow o Reg.cmtwCmd (BitVec.ofNat 32 (b2n inc * 16 + 1)))

/-- SCHEDULE_COMMIT (R300). -/
def execScheduleCommit (o : Origin) (inc : Bool) (s : State) : Host.Outcome State Fault Refusal :=
  .next (s.writeNow o Reg.cmtwCmd (BitVec.ofNat 32 (b2n inc * 16 + 2)))

/-- SCHEDULE_COMMIT_W0 (R300). -/
def execScheduleCommitW0 (o : Origin) (inc : Bool) (s : State) : Host.Outcome State Fault Refusal :=
  .next (s.writeNow o Reg.cmtwCmd (BitVec.ofNat 32 (b2n inc * 16 + 4)))

/-- SCHEDULE_CLEAR (R300). -/
def execScheduleClear (o : Origin) (inc : Bool) (s : State) : Host.Outcome State Fault Refusal :=
  .next (s.writeNow o Reg.cmtwCmd (BitVec.ofNat 32 (b2n inc * 16 + 3)))

/-- CAPTURE_ACK (R306). -/
def execCaptureAck (o : Origin) (d : Word) (s : State) : Host.Outcome State Fault Refusal :=
  .next (s.writeNow o Reg.capAckSeq d)

/-- CAPTURE_CLEAR (R306). -/
def execCaptureClear (o : Origin) (s : State) : Host.Outcome State Fault Refusal :=
  .next (s.writeFld o Reg.capCtrl 3 3 1)

/-- CAPTURE_READ_LOAD (R307). -/
def execCaptureReadLoad (o : Origin) (d : Word) (s : State) : Host.Outcome State Fault Refusal :=
  .next (s.writeNow o Reg.capwRdSeq d)

/-- CAPTURE_READ_ADVANCE (R307): a read of CAPW 0x2FC. -/
def execCaptureReadAdvance (o : Origin) (s : State) : Host.Outcome State Fault Refusal :=
  if s.mayAccess o then .next (s.fabricRead o (Reg.capwEntryWord 63)).1 else .next s

/-- TIME_CAPTURE_REQUEST (R313). -/
def execTimeCaptureRequest (o : Origin) (s : State) : Host.Outcome State Fault Refusal :=
  .next (s.writeNow o Reg.tkCapCtrl 1)

/-- TIME_SET (R314, R315). -/
def execTimeSet (o : Origin) (g : Tg) (s : State) : Host.Outcome State Fault Refusal :=
  .next (s.writeNow o Reg.tkSetCmd (BitVec.ofNat 32 (g.val * 16 + 1)))

/-- TIME_STEP (R314, R315). -/
def execTimeStep (o : Origin) (g : Tg) (s : State) : Host.Outcome State Fault Refusal :=
  .next (s.writeNow o Reg.tkSetCmd (BitVec.ofNat 32 (g.val * 16 + 2)))

/-- TIME_SET_SEC (R314, R315). -/
def execTimeSetSec (o : Origin) (g : Tg) (s : State) : Host.Outcome State Fault Refusal :=
  .next (s.writeNow o Reg.tkSetCmd (BitVec.ofNat 32 (g.val * 16 + 3)))

/-- TAI_UTC_WRITE (R320). -/
def execTaiUtcWrite (o : Origin) (d : Word) (s : State) : Host.Outcome State Fault Refusal :=
  .next (s.writeNow o Reg.tkTaiUtc d)

/-- LEAP_ADD (R322). -/
def execLeapAdd (o : Origin) (s : State) : Host.Outcome State Fault Refusal :=
  .next (s.writeNow o Reg.tkLeapCmd 1)

/-- LEAP_CLEAR (R322). -/
def execLeapClear (o : Origin) (s : State) : Host.Outcome State Fault Refusal :=
  .next (s.writeNow o Reg.tkLeapCmd 2)

/-- LEAP_SET_EXPIRY (R322). -/
def execLeapSetExpiry (o : Origin) (s : State) : Host.Outcome State Fault Refusal :=
  .next (s.writeNow o Reg.tkLeapCmd 3)

/-- TREND_SEL_WRITE (R332). -/
def execTrendSelWrite (o : Origin) (d : Word) (s : State) : Host.Outcome State Fault Refusal :=
  .next (s.writeNow o Reg.lifeTrendSel d)

/-- CLKOUT_CTRL_WRITE (R349). -/
def execClkoutCtrlWrite (o : Origin) (k : Fin 2) (d : Word) (s : State) : Host.Outcome State Fault Refusal :=
  .next (s.writeNow o (Reg.clkClkoutCtrl k.val) d)

/-- POWER_REQUEST (R365). -/
def execPowerRequest (o : Origin) (n : Ch) (d : Word) (s : State) : Host.Outcome State Fault Refusal :=
  .next (s.writeNow o (Reg.pwrChReq n.val) d)

/-- NVM_POWER_REQUEST (R16, R365). -/
def execNvmPowerRequest (o : Origin) (d : Word) (s : State) : Host.Outcome State Fault Refusal :=
  .next (s.writeNow o Reg.pwrNvmReq d)

/-- TRIM_APPLY_EN_WRITE (R389). -/
def execTrimApplyEnWrite (o : Origin) (en : Bool) (s : State) : Host.Outcome State Fault Refusal :=
  .next (s.writeFld o Reg.trimCtrl 0 0 (b2n en))

/-- FAIL_LOG_SELECT (R401). -/
def execFailLogSelect (o : Origin) (d : Word) (s : State) : Host.Outcome State Fault Refusal :=
  .next (s.writeNow o Reg.bistFailSel d)

/-- ALARM_SW_LEVEL_WRITE (R408). -/
def execAlarmSwLevelWrite (o : Origin) (level : Bool) (s : State) : Host.Outcome State Fault Refusal :=
  .next (s.writeFld o Reg.alrmCtrl 31 31 (b2n level))

/-- ALARM_REARM (R408). -/
def execAlarmRearm (o : Origin) (s : State) : Host.Outcome State Fault Refusal :=
  .next (s.writeFld o Reg.alrmCtrl 30 30 1)

/-- SAFE_CMD (R411). -/
def execSafeCmd (o : Origin) (s : State) : Host.Outcome State Fault Refusal :=
  .next (s.writeNow o Reg.alrmSafeCmd 0x5AFE0001)

/-- TRIG_DRIVER_FENCE_SET (R414): of one pin. -/
def execTrigDriverFenceSet (o : Origin) (k : Fin 16) (s : State) : Host.Outcome State Fault Refusal :=
  .next (s.writeKeyed o Reg.trigDrvFence 15 k.val true)

/-- TRIG_DRIVER_FENCE_REMOVE (R416). -/
def execTrigDriverFenceRemove (o : Origin) (k : Fin 16) (s : State) : Host.Outcome State Fault Refusal :=
  .next (s.writeKeyed o Reg.trigDrvFence 15 k.val false)

/-- TG_CH_MAP_WRITE (R21 to R23). -/
def execTgChMapWrite (o : Origin) (d : Word) (s : State) : Host.Outcome State Fault Refusal :=
  .next (s.writeNow o Reg.tgChMap d)

/-- DEV_RESET_ARM (R371). -/
def execDevResetArm (o : Origin) (s : State) : Host.Outcome State Fault Refusal :=
  .next (s.writeNow o Reg.devReset 0x5A170001)

/-- DEV_RESET_GO (R371). -/
def execDevResetGo (o : Origin) (keep : Bool) (s : State) : Host.Outcome State Fault Refusal :=
  .next (s.writeNow o Reg.devReset (BitVec.ofNat 32 (0xA5E80002 + b2n keep * 4)))

/-- CHANNEL_RESET (R372). -/
def execChannelReset (o : Origin) (n : Ch) (s : State) : Host.Outcome State Fault Refusal :=
  .next (s.writeNow o (Reg.chReset n) 0xC3A50001)

/-- BLOCK_RESET (R371, R372): of a channel's page, or of CMT, CAP or TRIG; of any other page, a keyed write that names no block. -/
def execBlockReset (o : Origin) (p : Page) (s : State) : Host.Outcome State Fault Refusal :=
  match p with
  | .chan n q => .next (s.writeNow o (Reg.chReset n) (BitVec.ofNat 32 (keyReset * 2 ^ 16 + blockBit q)))
  | .dev q =>
    let b := match q with | .cmt | .cmtw => 1 | .cap | .capw => 2 | .trig => 4 | _ => 0
    .next (s.writeNow o Reg.devBlkReset (BitVec.ofNat 32 (keyReset * 2 ^ 16 + b)))

/-- HOST_LANE_LOCK_CHANGE (R216, R218): the receiver gains or loses lock; it has none while the HL domain is not ON or HPLL has no gate. -/
def execHostLaneLockChange (n : Ch) (lock : Bool) (s : State) : Host.Outcome State Fault Refusal :=
  let v := lock && (s.chan n).hl.eff == .on && (s.chan n).hpll.gate
  if s.bit (Reg.hlStatus n) 0 == v then .next s else .next ((s.setBit (Reg.hlStatus n) 0 v).cint n .hl 2)

end Sys2Proof.Machine
end

