-- ==== Sys2Proof/Machine/Dispatch.lean ====
section
/-! DEFINITION. One arm for each command: the direct call of its meaning, or its rejection by name (R20). -/

namespace Sys2Proof.Machine

/-- What a command does to everything but the queue of waiting commands. (DESIGN CHOICE, notes/assumptions 6) -/
def exec (i : Instr) (s : State) : Host.Outcome State Fault Refusal :=
  match i with
  | .registerWrite o a d => Sys2Proof.Machine.execRegisterWrite o a d s
  | .vaoPowerOnReset mv => Sys2Proof.Machine.execVaoPowerOnReset mv s
  | .corePowerLoss mv => Sys2Proof.Machine.execCorePowerLoss mv s
  | .resetN low => Sys2Proof.Machine.execResetN low s
  | .startUp straps => Sys2Proof.Machine.execStartUp straps s
  | .hostPortReady => Sys2Proof.Machine.execHostPortReady s
  | .devResetArm o => Sys2Proof.Machine.execDevResetArm o s
  | .devResetGo o keep => Sys2Proof.Machine.execDevResetGo o keep s
  | .devResetBegin => Sys2Proof.Machine.execDevResetBegin s
  | .devResetLapse => Sys2Proof.Machine.execDevResetLapse s
  | .channelReset o n => Sys2Proof.Machine.execChannelReset o n s
  | .blockReset o p => Sys2Proof.Machine.execBlockReset o p s
  | .pageFenceSet o p => Sys2Proof.Machine.execPageFenceSet o p s
  | .pageFenceRemove o p => Sys2Proof.Machine.execPageFenceRemove o p s
  | .pageViewSelWrite o p d => Sys2Proof.Machine.execPageViewSelWrite o p d s
  | .intTestWrite o p d => Sys2Proof.Machine.execIntTestWrite o p d s
  | .postedWriteTakesEffect q => Sys2Proof.Machine.execPostedWriteTakesEffect q s
  | .snapRequest o p all hold => Sys2Proof.Machine.execSnapRequest o p all hold s
  | .snapTaken p => Sys2Proof.Machine.execSnapTaken p s
  | .lockWrite o p d => Sys2Proof.Machine.execLockWrite o p d s
  | .leaseExpiry p => Sys2Proof.Machine.execLeaseExpiry p s
  | .nvmwDataWrite o k d => Sys2Proof.Machine.execNvmwDataWrite o k d s
  | .tokenIssue => Sys2Proof.Machine.execTokenIssue s
  | .flushAgeExpiry => Sys2Proof.Machine.execFlushAgeExpiry s
  | .journalFlush o => Sys2Proof.Machine.execJournalFlush o s
  | .journalCommit => Sys2Proof.Machine.execJournalCommit s
  | .journalReadLoad o ctrl d => Sys2Proof.Machine.execJournalReadLoad o ctrl d s
  | .archiveFetchDone => Sys2Proof.Machine.execArchiveFetchDone s
  | .entryW7Read o => Sys2Proof.Machine.execEntryW7Read o s
  | .jobTdrSweep o slot target => Sys2Proof.Machine.execJobTdrSweep o slot target s
  | .jobCableProfileLearning o slot target => Sys2Proof.Machine.execJobCableProfileLearning o slot target s
  | .nvmCommitStaging slot => Sys2Proof.Machine.execNvmCommitStaging slot s
  | .nvmCommitProfileErase slot => Sys2Proof.Machine.execNvmCommitProfileErase slot s
  | .nvmCommitLeapTable slot => Sys2Proof.Machine.execNvmCommitLeapTable slot s
  | .nvmCommitCalendar slot => Sys2Proof.Machine.execNvmCommitCalendar slot s
  | .nvmReadBackProfile slot => Sys2Proof.Machine.execNvmReadBackProfile slot s
  | .nvmReadBackLeapTable slot => Sys2Proof.Machine.execNvmReadBackLeapTable slot s
  | .jobBist o slot target => Sys2Proof.Machine.execJobBist o slot target s
  | .jobLedgerUpdate o slot target => Sys2Proof.Machine.execJobLedgerUpdate o slot target s
  | .jobTrimRecheck o slot target => Sys2Proof.Machine.execJobTrimRecheck o slot target s
  | .jobAbort o slot => Sys2Proof.Machine.execJobAbort o slot s
  | .jobWaitClears slot => Sys2Proof.Machine.execJobWaitClears slot s
  | .jobStep slot held env => Sys2Proof.Machine.execJobStep slot held env s
  | .deviceJobDispatch => Sys2Proof.Machine.execDeviceJobDispatch s
  | .v2Nop p edges m low => Sys2Proof.Machine.execV2Nop p edges m low s
  | .v2Read p tag a d crc low => Sys2Proof.Machine.execV2Read p tag a d crc low s
  | .v2Write p tag a d crc low => Sys2Proof.Machine.execV2Write p tag a d crc low s
  | .v2BurstRead p tag a d crc low => Sys2Proof.Machine.execV2BurstRead p tag a d crc low s
  | .v2BurstWrite p tag a d crc ext low => Sys2Proof.Machine.execV2BurstWrite p tag a d crc ext low s
  | .portCtrlAbort p tag crc low => Sys2Proof.Machine.execPortCtrlAbort p tag crc low s
  | .portReset p tag crc low => Sys2Proof.Machine.execPortReset p tag crc low s
  | .portResetComplete p => Sys2Proof.Machine.execPortResetComplete p s
  | .v1Nop p m low => Sys2Proof.Machine.execV1Nop p m low s
  | .v1Read p region off d crc low => Sys2Proof.Machine.execV1Read p region off d crc low s
  | .v1Write p region off d crc low => Sys2Proof.Machine.execV1Write p region off d crc low s
  | .mdioStdRead phy mmd reg => Sys2Proof.Machine.execMdioStdRead phy mmd reg s
  | .mdioStdWrite phy mmd reg d => Sys2Proof.Machine.execMdioStdWrite phy mmd reg d s
  | .mdioWindowRegWrite phy reg d => Sys2Proof.Machine.execMdioWindowRegWrite phy reg d s
  | .mdioWindowRead phy inc => Sys2Proof.Machine.execMdioWindowRead phy inc s
  | .mdioWindowWrite phy inc => Sys2Proof.Machine.execMdioWindowWrite phy inc s
  | .mdioWindowDone phy => Sys2Proof.Machine.execMdioWindowDone phy s
  | .buserrStickyClear o rmt => Sys2Proof.Machine.execBuserrStickyClear o rmt s
  | .remoteRequest n => Sys2Proof.Machine.execRemoteRequest n s
  | .remoteRequestExecute n => Sys2Proof.Machine.execRemoteRequestExecute n s
  | .remoteGo o n op => Sys2Proof.Machine.execRemoteGo o n op s
  | .remoteReplyReceive n => Sys2Proof.Machine.execRemoteReplyReceive n s
  | .remoteTimeout => Sys2Proof.Machine.execRemoteTimeout s
  | .portFenceSet o p => Sys2Proof.Machine.execPortFenceSet o p s
  | .portFenceRemove o p => Sys2Proof.Machine.execPortFenceRemove o p s
  | .orbitTransmit n late => Sys2Proof.Machine.execOrbitTransmit n late s
  | .ktlFieldReceive n mark field late errs => Sys2Proof.Machine.execKtlFieldReceive n mark field late errs s
  | .oamMessageSend n late => Sys2Proof.Machine.execOamMessageSend n late s
  | .oamMessageReceive n => Sys2Proof.Machine.execOamMessageReceive n s
  | .codewordReceive n k r => Sys2Proof.Machine.execCodewordReceive n k r s
  | .codewordRelease n => Sys2Proof.Machine.execCodewordRelease n s
  | .berWindowEnd n => Sys2Proof.Machine.execBerWindowEnd n s
  | .iterMaxWrite o n v => Sys2Proof.Machine.execIterMaxWrite o n v s
  | .fecUnitFenceSet o n u => Sys2Proof.Machine.execFecUnitFenceSet o n u s
  | .fecUnitFenceRemove o n u => Sys2Proof.Machine.execFecUnitFenceRemove o n u s
  | .singleEngineStart n => Sys2Proof.Machine.execSingleEngineStart n s
  | .singleEngineEnd n => Sys2Proof.Machine.execSingleEngineEnd n s
  | .rxGainWrite o n d => Sys2Proof.Machine.execRxGainWrite o n d s
  | .powerMeasurementUpdate n m => Sys2Proof.Machine.execPowerMeasurementUpdate n m s
  | .shadowAdvance n pairs => Sys2Proof.Machine.execShadowAdvance n pairs s
  | .sliceFault n e => Sys2Proof.Machine.execSliceFault n e s
  | .segmentMonitor n cur => Sys2Proof.Machine.execSegmentMonitor n cur s
  | .dfeTapsWrite o n d => Sys2Proof.Machine.execDfeTapsWrite o n d s
  | .timingModeWrite o n mode => Sys2Proof.Machine.execTimingModeWrite o n mode s
  | .timingBwWrite o n bw => Sys2Proof.Machine.execTimingBwWrite o n bw s
  | .timingLockChange n => Sys2Proof.Machine.execTimingLockChange n s
  | .sscModelLock n corner obs => Sys2Proof.Machine.execSscModelLock n corner obs s
  | .sscModelFail n depth rate => Sys2Proof.Machine.execSscModelFail n depth rate s
  | .adaptFreezeEnd n => Sys2Proof.Machine.execAdaptFreezeEnd n s
  | .nfListenWrite o n d => Sys2Proof.Machine.execNfListenWrite o n d s
  | .noiseFloorComplete n blocks => Sys2Proof.Machine.execNoiseFloorComplete n blocks s
  | .anEnable o n => Sys2Proof.Machine.execAnEnable o n s
  | .anDisable o n => Sys2Proof.Machine.execAnDisable o n s
  | .anRestart o n => Sys2Proof.Machine.execAnRestart o n s
  | .advWrite o n d => Sys2Proof.Machine.execAdvWrite o n d s
  | .negotiationComplete n lp np => Sys2Proof.Machine.execNegotiationComplete n lp np s
  | .phase1Timer n => Sys2Proof.Machine.execPhase1Timer n s
  | .tswReceive n mark signs errs => Sys2Proof.Machine.execTswReceive n mark signs errs s
  | .trainingPhaseAdvance n => Sys2Proof.Machine.execTrainingPhaseAdvance n s
  | .trainingTimeout n => Sys2Proof.Machine.execTrainingTimeout n s
  | .abortTswEnd n => Sys2Proof.Machine.execAbortTswEnd n s
  | .fastHoldExpiry n => Sys2Proof.Machine.execFastHoldExpiry n s
  | .lpiEnter n => Sys2Proof.Machine.execLpiEnter n s
  | .lpiWake n => Sys2Proof.Machine.execLpiWake n s
  | .eclipseRequest n => Sys2Proof.Machine.execEclipseRequest n s
  | .eclipseAnnounce n => Sys2Proof.Machine.execEclipseAnnounce n s
  | .eclipseStart n => Sys2Proof.Machine.execEclipseStart n s
  | .eclipseReceive n => Sys2Proof.Machine.execEclipseReceive n s
  | .eclipseMiss n unannounced => Sys2Proof.Machine.execEclipseMiss n unannounced s
  | .eclipseDefer n => Sys2Proof.Machine.execEclipseDefer n s
  | .eclipseStale n => Sys2Proof.Machine.execEclipseStale n s
  | .hlModeWrite o n d => Sys2Proof.Machine.execHlModeWrite o n d s
  | .hostFrameReceive n f => Sys2Proof.Machine.execHostFrameReceive n f s
  | .rmXoff n => Sys2Proof.Machine.execRmXoff n s
  | .rmPauseRepeat n => Sys2Proof.Machine.execRmPauseRepeat n s
  | .rmXon n => Sys2Proof.Machine.execRmXon n s
  | .relayEnable o k => Sys2Proof.Machine.execRelayEnable o k s
  | .relayDisable o k => Sys2Proof.Machine.execRelayDisable o k s
  | .relayTapWrite o k tap => Sys2Proof.Machine.execRelayTapWrite o k tap s
  | .relayPairActivate k => Sys2Proof.Machine.execRelayPairActivate k s
  | .relayFrameForward n room sec nsec frac => Sys2Proof.Machine.execRelayFrameForward n room sec nsec frac s
  | .relayForwardResume n => Sys2Proof.Machine.execRelayForwardResume n s
  | .mapRefresh n held => Sys2Proof.Machine.execMapRefresh n held s
  | .diagHoldWrite o n hold => Sys2Proof.Machine.execDiagHoldWrite o n hold s
  | .loopbackNearDigital o n => Sys2Proof.Machine.execLoopbackNearDigital o n s
  | .loopbackNearAnalog o n => Sys2Proof.Machine.execLoopbackNearAnalog o n s
  | .loopbackFarEnd o n => Sys2Proof.Machine.execLoopbackFarEnd o n s
  | .loopbackOff o n => Sys2Proof.Machine.execLoopbackOff o n s
  | .testPatternSelect o n pat => Sys2Proof.Machine.execTestPatternSelect o n pat s
  | .patternSyncChange n ok => Sys2Proof.Machine.execPatternSyncChange n ok s
  | .capabilityMessageSend n => Sys2Proof.Machine.execCapabilityMessageSend n s
  | .infoExpiry n => Sys2Proof.Machine.execInfoExpiry n s
  | .srcCtrlWrite o g d => Sys2Proof.Machine.execSrcCtrlWrite o g d s
  | .servoUpdate g => Sys2Proof.Machine.execServoUpdate g s
  | .discrepancyTick g => Sys2Proof.Machine.execDiscrepancyTick g s
  | .ppsInPulse k falling late => Sys2Proof.Machine.execPpsInPulse k falling late s
  | .ppsInTimeout k => Sys2Proof.Machine.execPpsInTimeout k s
  | .ppsOutPulse => Sys2Proof.Machine.execPpsOutPulse s
  | .ppsOutPulseEnd => Sys2Proof.Machine.execPpsOutPulseEnd s
  | .ptpIngress n f late => Sys2Proof.Machine.execPtpIngress n f late s
  | .ptpEgress n f late ing => Sys2Proof.Machine.execPtpEgress n f late ing s
  | .ptpPop o n => Sys2Proof.Machine.execPtpPop o n s
  | .cometReceive n => Sys2Proof.Machine.execCometReceive n s
  | .cometLoading n => Sys2Proof.Machine.execCometLoading n s
  | .cometQueueExpiry => Sys2Proof.Machine.execCometQueueExpiry s
  | .cometFire => Sys2Proof.Machine.execCometFire s
  | .lateReportReceive n => Sys2Proof.Machine.execLateReportReceive n s
  | .routeLoad o inc => Sys2Proof.Machine.execRouteLoad o inc s
  | .routeCommit o inc => Sys2Proof.Machine.execRouteCommit o inc s
  | .partWrite o g d => Sys2Proof.Machine.execPartWrite o g d s
  | .cometInject e => Sys2Proof.Machine.execCometInject e s
  | .scheduleLoad o inc => Sys2Proof.Machine.execScheduleLoad o inc s
  | .scheduleCommit o inc => Sys2Proof.Machine.execScheduleCommit o inc s
  | .scheduleCommitW0 o inc => Sys2Proof.Machine.execScheduleCommitW0 o inc s
  | .scheduleClear o inc => Sys2Proof.Machine.execScheduleClear o inc s
  | .pulseEnd k => Sys2Proof.Machine.execPulseEnd k s
  | .armWindowEnd k => Sys2Proof.Machine.execArmWindowEnd k s
  | .trigEdgeCapture k falling late => Sys2Proof.Machine.execTrigEdgeCapture k falling late s
  | .captureReportReceive n => Sys2Proof.Machine.execCaptureReportReceive n s
  | .captureAck o d => Sys2Proof.Machine.execCaptureAck o d s
  | .captureClear o => Sys2Proof.Machine.execCaptureClear o s
  | .captureReadLoad o d => Sys2Proof.Machine.execCaptureReadLoad o d s
  | .captureReadAdvance o => Sys2Proof.Machine.execCaptureReadAdvance o s
  | .timeCaptureRequest o => Sys2Proof.Machine.execTimeCaptureRequest o s
  | .timeCapture => Sys2Proof.Machine.execTimeCapture s
  | .timeSet o g => Sys2Proof.Machine.execTimeSet o g s
  | .timeStep o g => Sys2Proof.Machine.execTimeStep o g s
  | .timeSetSec o g => Sys2Proof.Machine.execTimeSetSec o g s
  | .tkxJudgeAttempt counts => Sys2Proof.Machine.execTkxJudgeAttempt counts s
  | .tkxJudged => Sys2Proof.Machine.execTkxJudged s
  | .tkrMeasurement ppb => Sys2Proof.Machine.execTkrMeasurement ppb s
  | .tkxFail e fLow => Sys2Proof.Machine.execTkxFail e fLow s
  | .coastMeasurement fLow => Sys2Proof.Machine.execCoastMeasurement fLow s
  | .tkxRelock => Sys2Proof.Machine.execTkxRelock s
  | .taiUtcWrite o d => Sys2Proof.Machine.execTaiUtcWrite o d s
  | .leapAdd o => Sys2Proof.Machine.execLeapAdd o s
  | .leapClear o => Sys2Proof.Machine.execLeapClear o s
  | .leapSetExpiry o => Sys2Proof.Machine.execLeapSetExpiry o s
  | .calendarUpdate => Sys2Proof.Machine.execCalendarUpdate s
  | .ledgerSecond => Sys2Proof.Machine.execLedgerSecond s
  | .ledgerUpdatePeriod => Sys2Proof.Machine.execLedgerUpdatePeriod s
  | .trendSample => Sys2Proof.Machine.execTrendSample s
  | .trendSelWrite o d => Sys2Proof.Machine.execTrendSelWrite o d s
  | .xaJudgeAttempt xa xb cross => Sys2Proof.Machine.execXaJudgeAttempt xa xb cross s
  | .xbCrossCheck cross => Sys2Proof.Machine.execXbCrossCheck cross s
  | .xbRejudge xb => Sys2Proof.Machine.execXbRejudge xb s
  | .fallbackExpiry => Sys2Proof.Machine.execFallbackExpiry s
  | .fallbackNoLock => Sys2Proof.Machine.execFallbackNoLock s
  | .referenceFail which e => Sys2Proof.Machine.execReferenceFail which e s
  | .spllLossOfLock errs => Sys2Proof.Machine.execSpllLossOfLock errs s
  | .cpllLossOfLock n errs => Sys2Proof.Machine.execCpllLossOfLock n errs s
  | .hpllLossOfLock n errs => Sys2Proof.Machine.execHpllLossOfLock n errs s
  | .pllLockAcquired p => Sys2Proof.Machine.execPllLockAcquired p s
  | .pllGateOpen p => Sys2Proof.Machine.execPllGateOpen p s
  | .clkoutCtrlWrite o k d => Sys2Proof.Machine.execClkoutCtrlWrite o k d s
  | .clkoutRampEnd k => Sys2Proof.Machine.execClkoutRampEnd k s
  | .sscChangeApply o => Sys2Proof.Machine.execSscChangeApply o s
  | .crossingResync p => Sys2Proof.Machine.execCrossingResync p s
  | .crossingFault p e items => Sys2Proof.Machine.execCrossingFault p e items s
  | .powerRequest o n d => Sys2Proof.Machine.execPowerRequest o n d s
  | .nvmPowerRequest o d => Sys2Proof.Machine.execNvmPowerRequest o d s
  | .selfTestOfEntry d => Sys2Proof.Machine.execSelfTestOfEntry d s
  | .powerTransitionDone d => Sys2Proof.Machine.execPowerTransitionDone d s
  | .trimEvaluation n => Sys2Proof.Machine.execTrimEvaluation n s
  | .trimIntervalExpiry n => Sys2Proof.Machine.execTrimIntervalExpiry n s
  | .trimApplication n tx => Sys2Proof.Machine.execTrimApplication n tx s
  | .trimStale n => Sys2Proof.Machine.execTrimStale n s
  | .trimApplyEnWrite o en => Sys2Proof.Machine.execTrimApplyEnWrite o en s
  | .repairRecordWrite => Sys2Proof.Machine.execRepairRecordWrite s
  | .failLogSelect o d => Sys2Proof.Machine.execFailLogSelect o d s
  | .thermalSensorUpdate t => Sys2Proof.Machine.execThermalSensorUpdate t s
  | .faultDetected p bit k ecc1 => Sys2Proof.Machine.execFaultDetected p bit k ecc1 s
  | .alarmPulseEnd => Sys2Proof.Machine.execAlarmPulseEnd s
  | .alarmSwLevelWrite o level => Sys2Proof.Machine.execAlarmSwLevelWrite o level s
  | .alarmRearm o => Sys2Proof.Machine.execAlarmRearm o s
  | .alarmSelfFault parity => Sys2Proof.Machine.execAlarmSelfFault parity s
  | .safeCmd o => Sys2Proof.Machine.execSafeCmd o s
  | .trigDriverFenceSet o k => Sys2Proof.Machine.execTrigDriverFenceSet o k s
  | .trigDriverFenceRemove o k => Sys2Proof.Machine.execTrigDriverFenceRemove o k s
  | .tgChMapWrite o d => Sys2Proof.Machine.execTgChMapWrite o d s
  | .tgChangeTakesEffect n => Sys2Proof.Machine.execTgChangeTakesEffect n s
  | .jtagTapReset => Sys2Proof.Machine.execJtagTapReset s
  | .jtagRegRead a => Sys2Proof.Machine.execJtagRegRead a s
  | .jtagRegWrite a d => Sys2Proof.Machine.execJtagRegWrite a d s
  | .orbitLockAcquired n => Sys2Proof.Machine.execOrbitLockAcquired n s
  | .hostLaneLockChange n lock => Sys2Proof.Machine.execHostLaneLockChange n lock s
  | .opllLossOfLock k errs => Sys2Proof.Machine.execOpllLossOfLock k errs s
  | .trendFetchDone => Sys2Proof.Machine.execTrendFetchDone s
  | .partnerNegotiationSignal n => Sys2Proof.Machine.execPartnerNegotiationSignal n s
  | .standardModeLinkUp n => Sys2Proof.Machine.execStandardModeLinkUp n s
  | .standardModeLinkDrop n retrain => Sys2Proof.Machine.execStandardModeLinkDrop n retrain s
  | .standardModeLpiQuiet n partner => Sys2Proof.Machine.execStandardModeLpiQuiet n partner s

end Sys2Proof.Machine
end

