-- ==== Sys2Proof/Machine/Step.lean ====
section
/-! DEFINITION. One step of the block: the command at the front of the queue, or one cycle of the time base where none waits. -/

namespace Sys2Proof.Machine

/-- One step: exec of the command at the front with the queue's rest; on an empty queue time goes on by one cycle of the time base (R312), DESIGN CHOICE. (DESIGN CHOICE, notes/assumptions 1) -/
def step (s : State) : Host.Outcome State Fault Refusal :=
  match s.pending with
  | [] => .next s.tick
  | c :: rest => exec c { s with pending := rest }

/-- The state with the command that a word spells put at the front of its queue; unchanged where it spells none. (DESIGN CHOICE, notes/assumptions 14) -/
def State.withFetchWord (s : State) (nbits w : Nat) : State :=
  match decodeTableWord nbits w with
  | some c => { s with pending := c :: s.pending }
  | none => s

end Sys2Proof.Machine
end

