-- ==== Sys2Proof/WellFormed.lean ====
section
/-! DEFINITION. Which commands a sender can send: the widths of operands are in their types; these are the bounds that the types do not say, and who may be the origin of an access from outside. -/

namespace Sys2Proof

/-- The origins of accesses from outside the device (02 Table 18, R38): the serial ports, MDIO, a remote device and JTAG. -/
def sends : Origin → Bool
  | .device | .job | .restore => false
  | .hsa | .hsb | .mdio | .remote _ | .jtag => true

/-- The origin of a command that is an access of a register. -/
def Instr.origin : Instr → Option Origin
  | .registerWrite o _ _ => some o
  | .vaoPowerOnReset _ => none
  | .corePowerLoss _ => none
  | .resetN _ => none
  | .startUp _ => none
  | .hostPortReady => none
  | .devResetArm o => some o
  | .devResetGo o _ => some o
  | .devResetBegin => none
  | .devResetLapse => none
  | .channelReset o _ => some o
  | .blockReset o _ => some o
  | .pageFenceSet o _ => some o
  | .pageFenceRemove o _ => some o
  | .pageViewSelWrite o _ _ => some o
  | .intTestWrite o _ _ => some o
  | .postedWriteTakesEffect _ => none
  | .snapRequest o _ _ _ => some o
  | .snapTaken _ => none
  | .lockWrite o _ _ => some o
  | .leaseExpiry _ => none
  | .nvmwDataWrite o _ _ => some o
  | .tokenIssue => none
  | .flushAgeExpiry => none
  | .journalFlush o => some o
  | .journalCommit => none
  | .journalReadLoad o _ _ => some o
  | .archiveFetchDone => none
  | .entryW7Read o => some o
  | .jobTdrSweep o _ _ => some o
  | .jobCableProfileLearning o _ _ => some o
  | .nvmCommitStaging _ => none
  | .nvmCommitProfileErase _ => none
  | .nvmCommitLeapTable _ => none
  | .nvmCommitCalendar _ => none
  | .nvmReadBackProfile _ => none
  | .nvmReadBackLeapTable _ => none
  | .jobBist o _ _ => some o
  | .jobLedgerUpdate o _ _ => some o
  | .jobTrimRecheck o _ _ => some o
  | .jobAbort o _ => some o
  | .jobWaitClears _ => none
  | .jobStep _ _ _ => none
  | .deviceJobDispatch => none
  | .v2Nop _ _ _ _ => none
  | .v2Read _ _ _ _ _ _ => none
  | .v2Write _ _ _ _ _ _ => none
  | .v2BurstRead _ _ _ _ _ _ => none
  | .v2BurstWrite _ _ _ _ _ _ _ => none
  | .portCtrlAbort _ _ _ _ => none
  | .portReset _ _ _ _ => none
  | .portResetComplete _ => none
  | .v1Nop _ _ _ => none
  | .v1Read _ _ _ _ _ _ => none
  | .v1Write _ _ _ _ _ _ => none
  | .mdioStdRead _ _ _ => none
  | .mdioStdWrite _ _ _ _ => none
  | .mdioWindowRegWrite _ _ _ => none
  | .mdioWindowRead _ _ => none
  | .mdioWindowWrite _ _ => none
  | .mdioWindowDone _ => none
  | .buserrStickyClear o _ => some o
  | .remoteRequest _ => none
  | .remoteRequestExecute _ => none
  | .remoteGo o _ _ => some o
  | .remoteReplyReceive _ => none
  | .remoteTimeout => none
  | .portFenceSet o _ => some o
  | .portFenceRemove o _ => some o
  | .orbitTransmit _ _ => none
  | .ktlFieldReceive _ _ _ _ _ => none
  | .oamMessageSend _ _ => none
  | .oamMessageReceive _ => none
  | .codewordReceive _ _ _ => none
  | .codewordRelease _ => none
  | .berWindowEnd _ => none
  | .iterMaxWrite o _ _ => some o
  | .fecUnitFenceSet o _ _ => some o
  | .fecUnitFenceRemove o _ _ => some o
  | .singleEngineStart _ => none
  | .singleEngineEnd _ => none
  | .rxGainWrite o _ _ => some o
  | .powerMeasurementUpdate _ _ => none
  | .shadowAdvance _ _ => none
  | .sliceFault _ _ => none
  | .segmentMonitor _ _ => none
  | .dfeTapsWrite o _ _ => some o
  | .timingModeWrite o _ _ => some o
  | .timingBwWrite o _ _ => some o
  | .timingLockChange _ => none
  | .sscModelLock _ _ _ => none
  | .sscModelFail _ _ _ => none
  | .adaptFreezeEnd _ => none
  | .nfListenWrite o _ _ => some o
  | .noiseFloorComplete _ _ => none
  | .anEnable o _ => some o
  | .anDisable o _ => some o
  | .anRestart o _ => some o
  | .advWrite o _ _ => some o
  | .negotiationComplete _ _ _ => none
  | .phase1Timer _ => none
  | .tswReceive _ _ _ _ => none
  | .trainingPhaseAdvance _ => none
  | .trainingTimeout _ => none
  | .abortTswEnd _ => none
  | .fastHoldExpiry _ => none
  | .lpiEnter _ => none
  | .lpiWake _ => none
  | .eclipseRequest _ => none
  | .eclipseAnnounce _ => none
  | .eclipseStart _ => none
  | .eclipseReceive _ => none
  | .eclipseMiss _ _ => none
  | .eclipseDefer _ => none
  | .eclipseStale _ => none
  | .hlModeWrite o _ _ => some o
  | .hostFrameReceive _ _ => none
  | .rmXoff _ => none
  | .rmPauseRepeat _ => none
  | .rmXon _ => none
  | .relayEnable o _ => some o
  | .relayDisable o _ => some o
  | .relayTapWrite o _ _ => some o
  | .relayPairActivate _ => none
  | .relayFrameForward _ _ _ _ _ => none
  | .relayForwardResume _ => none
  | .mapRefresh _ _ => none
  | .diagHoldWrite o _ _ => some o
  | .loopbackNearDigital o _ => some o
  | .loopbackNearAnalog o _ => some o
  | .loopbackFarEnd o _ => some o
  | .loopbackOff o _ => some o
  | .testPatternSelect o _ _ => some o
  | .patternSyncChange _ _ => none
  | .capabilityMessageSend _ => none
  | .infoExpiry _ => none
  | .srcCtrlWrite o _ _ => some o
  | .servoUpdate _ => none
  | .discrepancyTick _ => none
  | .ppsInPulse _ _ _ => none
  | .ppsInTimeout _ => none
  | .ppsOutPulse => none
  | .ppsOutPulseEnd => none
  | .ptpIngress _ _ _ => none
  | .ptpEgress _ _ _ _ => none
  | .ptpPop o _ => some o
  | .cometReceive _ => none
  | .cometLoading _ => none
  | .cometQueueExpiry => none
  | .cometFire => none
  | .lateReportReceive _ => none
  | .routeLoad o _ => some o
  | .routeCommit o _ => some o
  | .partWrite o _ _ => some o
  | .cometInject _ => none
  | .scheduleLoad o _ => some o
  | .scheduleCommit o _ => some o
  | .scheduleCommitW0 o _ => some o
  | .scheduleClear o _ => some o
  | .pulseEnd _ => none
  | .armWindowEnd _ => none
  | .trigEdgeCapture _ _ _ => none
  | .captureReportReceive _ => none
  | .captureAck o _ => some o
  | .captureClear o => some o
  | .captureReadLoad o _ => some o
  | .captureReadAdvance o => some o
  | .timeCaptureRequest o => some o
  | .timeCapture => none
  | .timeSet o _ => some o
  | .timeStep o _ => some o
  | .timeSetSec o _ => some o
  | .tkxJudgeAttempt _ => none
  | .tkxJudged => none
  | .tkrMeasurement _ => none
  | .tkxFail _ _ => none
  | .coastMeasurement _ => none
  | .tkxRelock => none
  | .taiUtcWrite o _ => some o
  | .leapAdd o => some o
  | .leapClear o => some o
  | .leapSetExpiry o => some o
  | .calendarUpdate => none
  | .ledgerSecond => none
  | .ledgerUpdatePeriod => none
  | .trendSample => none
  | .trendSelWrite o _ => some o
  | .xaJudgeAttempt _ _ _ => none
  | .xbCrossCheck _ => none
  | .xbRejudge _ => none
  | .fallbackExpiry => none
  | .fallbackNoLock => none
  | .referenceFail _ _ => none
  | .spllLossOfLock _ => none
  | .cpllLossOfLock _ _ => none
  | .hpllLossOfLock _ _ => none
  | .pllLockAcquired _ => none
  | .pllGateOpen _ => none
  | .clkoutCtrlWrite o _ _ => some o
  | .clkoutRampEnd _ => none
  | .sscChangeApply _ => none
  | .crossingResync _ => none
  | .crossingFault _ _ _ => none
  | .powerRequest o _ _ => some o
  | .nvmPowerRequest o _ => some o
  | .selfTestOfEntry _ => none
  | .powerTransitionDone _ => none
  | .trimEvaluation _ => none
  | .trimIntervalExpiry _ => none
  | .trimApplication _ _ => none
  | .trimStale _ => none
  | .trimApplyEnWrite o _ => some o
  | .repairRecordWrite => none
  | .failLogSelect o _ => some o
  | .thermalSensorUpdate _ => none
  | .faultDetected _ _ _ _ => none
  | .alarmPulseEnd => none
  | .alarmSwLevelWrite o _ => some o
  | .alarmRearm o => some o
  | .alarmSelfFault _ => none
  | .safeCmd o => some o
  | .trigDriverFenceSet o _ => some o
  | .trigDriverFenceRemove o _ => some o
  | .tgChMapWrite o _ => some o
  | .tgChangeTakesEffect _ => none
  | .jtagTapReset => none
  | .jtagRegRead _ => none
  | .jtagRegWrite _ _ => none
  | .orbitLockAcquired _ => none
  | .hostLaneLockChange _ _ => none
  | .opllLossOfLock _ _ => none
  | .trendFetchDone => none
  | .partnerNegotiationSignal _ => none
  | .standardModeLinkUp _ => none
  | .standardModeLinkDrop _ _ => none
  | .standardModeLpiQuiet _ _ => none

/-- A received codeword of a clause has at most 80 blocks (R115). -/
def CwIn.wf : CwIn → Bool
  | .soft _ _ => true
  | .clause _ blks => decide (blks.length ≤ 80)

/-- A host lane brings something (R207). -/
def HostIn.wf : HostIn → Bool
  | .blocks l => !l.isEmpty
  | .codes l => !l.isEmpty

/-- Well-formed commands: accesses come from outside; a serial frame has as many bytes as its clock edges complete (R56), a v1 frame six (R67), a burst at most 63 extension groups (R63); a codeword has at most 80 blocks and stands in one of an orbit's 20 places (R79, R115); a host lane brings something (R207), a measurement of power has samples (R141); an attempt counts 16 windows (R316, R339); times have nanoseconds below 10^9 (R8). (DESIGN CHOICE, notes/assumptions 5) -/
def Instr.wf : Instr → Bool
  | .registerWrite o _ _ => sends o
  | .vaoPowerOnReset _ => true
  | .corePowerLoss _ => true
  | .resetN _ => true
  | .startUp _ => true
  | .hostPortReady => true
  | .devResetArm o => sends o
  | .devResetGo o _ => sends o
  | .devResetBegin => true
  | .devResetLapse => true
  | .channelReset o _ => sends o
  | .blockReset o _ => sends o
  | .pageFenceSet o _ => sends o
  | .pageFenceRemove o _ => sends o
  | .pageViewSelWrite o _ _ => sends o
  | .intTestWrite o _ _ => sends o
  | .postedWriteTakesEffect _ => true
  | .snapRequest o _ _ _ => sends o
  | .snapTaken _ => true
  | .lockWrite o _ _ => sends o
  | .leaseExpiry _ => true
  | .nvmwDataWrite o _ _ => sends o
  | .tokenIssue => true
  | .flushAgeExpiry => true
  | .journalFlush o => sends o
  | .journalCommit => true
  | .journalReadLoad o _ _ => sends o
  | .archiveFetchDone => true
  | .entryW7Read o => sends o
  | .jobTdrSweep o _ _ => sends o
  | .jobCableProfileLearning o _ _ => sends o
  | .nvmCommitStaging _ => true
  | .nvmCommitProfileErase _ => true
  | .nvmCommitLeapTable _ => true
  | .nvmCommitCalendar _ => true
  | .nvmReadBackProfile _ => true
  | .nvmReadBackLeapTable _ => true
  | .jobBist o _ _ => sends o
  | .jobLedgerUpdate o _ _ => sends o
  | .jobTrimRecheck o _ _ => sends o
  | .jobAbort o _ => sends o
  | .jobWaitClears _ => true
  | .jobStep _ _ _ => true
  | .deviceJobDispatch => true
  | .v2Nop _ edges m _ => decide (m.length * 8 ≤ edges) && decide (edges < m.length * 8 + 8)
  | .v2Read _ _ _ _ _ _ => true
  | .v2Write _ _ _ _ _ _ => true
  | .v2BurstRead _ _ _ _ _ _ => true
  | .v2BurstWrite _ _ _ _ _ ext _ => decide (ext.length ≤ 63)
  | .portCtrlAbort _ _ _ _ => true
  | .portReset _ _ _ _ => true
  | .portResetComplete _ => true
  | .v1Nop _ m _ => m.length == 6
  | .v1Read _ _ _ _ _ _ => true
  | .v1Write _ _ _ _ _ _ => true
  | .mdioStdRead _ _ _ => true
  | .mdioStdWrite _ _ _ _ => true
  | .mdioWindowRegWrite _ _ _ => true
  | .mdioWindowRead _ _ => true
  | .mdioWindowWrite _ _ => true
  | .mdioWindowDone _ => true
  | .buserrStickyClear o _ => sends o
  | .remoteRequest _ => true
  | .remoteRequestExecute _ => true
  | .remoteGo o _ _ => sends o
  | .remoteReplyReceive _ => true
  | .remoteTimeout => true
  | .portFenceSet o _ => sends o
  | .portFenceRemove o _ => sends o
  | .orbitTransmit _ _ => true
  | .ktlFieldReceive _ _ _ _ _ => true
  | .oamMessageSend _ _ => true
  | .oamMessageReceive _ => true
  | .codewordReceive _ k r => decide (k < 20) && r.wf
  | .codewordRelease _ => true
  | .berWindowEnd _ => true
  | .iterMaxWrite o _ _ => sends o
  | .fecUnitFenceSet o _ _ => sends o
  | .fecUnitFenceRemove o _ _ => sends o
  | .singleEngineStart _ => true
  | .singleEngineEnd _ => true
  | .rxGainWrite o _ _ => sends o
  | .powerMeasurementUpdate _ m => !m.codes.isEmpty
  | .shadowAdvance _ _ => true
  | .sliceFault _ _ => true
  | .segmentMonitor _ _ => true
  | .dfeTapsWrite o _ _ => sends o
  | .timingModeWrite o _ _ => sends o
  | .timingBwWrite o _ _ => sends o
  | .timingLockChange _ => true
  | .sscModelLock _ _ _ => true
  | .sscModelFail _ _ _ => true
  | .adaptFreezeEnd _ => true
  | .nfListenWrite o _ _ => sends o
  | .noiseFloorComplete _ _ => true
  | .anEnable o _ => sends o
  | .anDisable o _ => sends o
  | .anRestart o _ => sends o
  | .advWrite o _ _ => sends o
  | .negotiationComplete _ _ _ => true
  | .phase1Timer _ => true
  | .tswReceive _ _ _ _ => true
  | .trainingPhaseAdvance _ => true
  | .trainingTimeout _ => true
  | .abortTswEnd _ => true
  | .fastHoldExpiry _ => true
  | .lpiEnter _ => true
  | .lpiWake _ => true
  | .eclipseRequest _ => true
  | .eclipseAnnounce _ => true
  | .eclipseStart _ => true
  | .eclipseReceive _ => true
  | .eclipseMiss _ _ => true
  | .eclipseDefer _ => true
  | .eclipseStale _ => true
  | .hlModeWrite o _ _ => sends o
  | .hostFrameReceive _ f => f.wf
  | .rmXoff _ => true
  | .rmPauseRepeat _ => true
  | .rmXon _ => true
  | .relayEnable o _ => sends o
  | .relayDisable o _ => sends o
  | .relayTapWrite o _ _ => sends o
  | .relayPairActivate _ => true
  | .relayFrameForward _ _ _ nsec _ => decide (nsec.toNat < 1000000000)
  | .relayForwardResume _ => true
  | .mapRefresh _ _ => true
  | .diagHoldWrite o _ _ => sends o
  | .loopbackNearDigital o _ => sends o
  | .loopbackNearAnalog o _ => sends o
  | .loopbackFarEnd o _ => sends o
  | .loopbackOff o _ => sends o
  | .testPatternSelect o _ _ => sends o
  | .patternSyncChange _ _ => true
  | .capabilityMessageSend _ => true
  | .infoExpiry _ => true
  | .srcCtrlWrite o _ _ => sends o
  | .servoUpdate _ => true
  | .discrepancyTick _ => true
  | .ppsInPulse _ _ _ => true
  | .ppsInTimeout _ => true
  | .ppsOutPulse => true
  | .ppsOutPulseEnd => true
  | .ptpIngress _ _ _ => true
  | .ptpEgress _ _ _ _ => true
  | .ptpPop o _ => sends o
  | .cometReceive _ => true
  | .cometLoading _ => true
  | .cometQueueExpiry => true
  | .cometFire => true
  | .lateReportReceive _ => true
  | .routeLoad o _ => sends o
  | .routeCommit o _ => sends o
  | .partWrite o _ _ => sends o
  | .cometInject _ => true
  | .scheduleLoad o _ => sends o
  | .scheduleCommit o _ => sends o
  | .scheduleCommitW0 o _ => sends o
  | .scheduleClear o _ => sends o
  | .pulseEnd _ => true
  | .armWindowEnd _ => true
  | .trigEdgeCapture _ _ _ => true
  | .captureReportReceive _ => true
  | .captureAck o _ => sends o
  | .captureClear o => sends o
  | .captureReadLoad o _ => sends o
  | .captureReadAdvance o => sends o
  | .timeCaptureRequest o => sends o
  | .timeCapture => true
  | .timeSet o _ => sends o
  | .timeStep o _ => sends o
  | .timeSetSec o _ => sends o
  | .tkxJudgeAttempt counts => counts.length == 16
  | .tkxJudged => true
  | .tkrMeasurement _ => true
  | .tkxFail _ _ => true
  | .coastMeasurement _ => true
  | .tkxRelock => true
  | .taiUtcWrite o _ => sends o
  | .leapAdd o => sends o
  | .leapClear o => sends o
  | .leapSetExpiry o => sends o
  | .calendarUpdate => true
  | .ledgerSecond => true
  | .ledgerUpdatePeriod => true
  | .trendSample => true
  | .trendSelWrite o _ => sends o
  | .xaJudgeAttempt xa xb _ => xa.length == 16 && (xb.length == 0 || xb.length == 16)
  | .xbCrossCheck _ => true
  | .xbRejudge xb => xb.length == 16
  | .fallbackExpiry => true
  | .fallbackNoLock => true
  | .referenceFail _ _ => true
  | .spllLossOfLock _ => true
  | .cpllLossOfLock _ _ => true
  | .hpllLossOfLock _ _ => true
  | .pllLockAcquired _ => true
  | .pllGateOpen _ => true
  | .clkoutCtrlWrite o _ _ => sends o
  | .clkoutRampEnd _ => true
  | .sscChangeApply _ => true
  | .crossingResync _ => true
  | .crossingFault _ _ _ => true
  | .powerRequest o _ _ => sends o
  | .nvmPowerRequest o _ => sends o
  | .selfTestOfEntry _ => true
  | .powerTransitionDone _ => true
  | .trimEvaluation _ => true
  | .trimIntervalExpiry _ => true
  | .trimApplication _ _ => true
  | .trimStale _ => true
  | .trimApplyEnWrite o _ => sends o
  | .repairRecordWrite => true
  | .failLogSelect o _ => sends o
  | .thermalSensorUpdate _ => true
  | .faultDetected _ _ _ _ => true
  | .alarmPulseEnd => true
  | .alarmSwLevelWrite o _ => sends o
  | .alarmRearm o => sends o
  | .alarmSelfFault _ => true
  | .safeCmd o => sends o
  | .trigDriverFenceSet o _ => sends o
  | .trigDriverFenceRemove o _ => sends o
  | .tgChMapWrite o _ => sends o
  | .tgChangeTakesEffect _ => true
  | .jtagTapReset => true
  | .jtagRegRead _ => true
  | .jtagRegWrite _ _ => true
  | .orbitLockAcquired _ => true
  | .hostLaneLockChange _ _ => true
  | .opllLossOfLock _ _ => true
  | .trendFetchDone => true
  | .partnerNegotiationSignal _ => true
  | .standardModeLinkUp _ => true
  | .standardModeLinkDrop _ _ => true
  | .standardModeLpiQuiet _ _ => true

end Sys2Proof
end

