-- ==== Sys2Proof/Safety.lean ====
section
/-! DEFINITION. What counts as a sound state and a safe run: the canonical form of everything held by key, the bounds of the memories, and commands that a sender can send. -/

namespace Sys2Proof.Machine

/-- Everything held by key is in its one canonical form: registers, their copies and snapshots, leases, the NVM array, the schedule and the routes. -/
structure State.Canonical (s : State) : Prop where
  regs : Store.Wf resetWord s.regs
  moon : Store.Wf resetWord s.moon
  retained : Store.Wf resetWord s.retained
  snap : Store.Wf resetWord s.snap
  leases : Store.Wf (fun _ => 0) s.leases
  nvm : Memory.wf s.nvm.mem
  sched : Store.Wf (fun _ => 0) s.cmt.sched
  routes : Store.Wf (fun _ => (0, 0)) s.cmt.routes

/-- The bounds of the device's memories: 65,536 places of the journal ring and 8 commit tokens (R43, R47), 8 posted writes to a domain (R36), 32 fail-log entries (R401), the capture log's places (R305). -/
structure State.Bounded (s : State) : Prop where
  ring : s.jrnl.ring.length ≤ ringSize
  tokens : s.jrnl.tokens ≤ 8
  posted : ∀ q, (s.postedIn q).length ≤ 8
  failLog : s.bist.failLog.length ≤ 32
  capture : s.cap.log.length ≤ capSize

/-- A sound state: canonical and within its bounds. -/
structure State.Sound (s : State) : Prop where
  canonical : s.Canonical
  bounded : s.Bounded

/-- A safe run's state: sound, and every command that waits is one that a sender can send. (DESIGN CHOICE, notes/assumptions 5) -/
def State.Safe (s : State) : Prop := s.Sound ∧ ∀ c ∈ s.pending, c.wf = true

/-! ### The terms statements use -/

/-- The fabric serves a write by an origin of the register at an offset of a page at once: the origin may make accesses, the write raises no bus error and is not foreign, and where it is posted nothing waits before it and its crossing is not being re-initialised. -/
structure State.Serves (s : State) (o : Origin) (p : Page) (off : Nat) : Prop where
  may : s.mayAccess o = true
  noErr : s.accessErr (s.view1At o (hdr p off)) (hdr p off) true = none
  own : s.foreignWrite o p off = false
  clear : isMoon p off = true → s.postedIn (pdomOf p off) = [] ∧ s.heldIn (pdomOf p off) = [] ∧ s.drains p = false

/-- The data of a write as its register takes them: with the bits of keep at the register's contents, and as view 1 gives them where the origin uses it (R32, R67). -/
def State.sentIn (s : State) (v1 : Bool) (p : Page) (off : Nat) (d keep : Word) : Word :=
  let old := s.contents (hdr p off)
  let d := (d &&& ~~~keep) ||| (old &&& keep)
  if v1 then view1Data p off old d else d

/-- As sentIn, in the view that the origin uses at the page. -/
def State.sent (s : State) (o : Origin) (p : Page) (off : Nat) (d keep : Word) : Word :=
  s.sentIn (s.view1At o (hdr p off)) p off d keep

/-- The newest entry of the journal's ring. -/
def State.newest (s : State) : Option JEntry := s.jrnl.ring.head?.map RingEntry.e

/-- The parts of a state, one for each of its fields. -/
inductive Part where
  | now | freeCtr | pending | regs | moon | retained | snap | posted | heldWrites | leases | jrnl | jobs | nvm
  | nvmDom | rst | clk | cmt | trig | cap | tk | life | bist | alrm | host | chans | groups
  deriving DecidableEq, Repr

/-- Whether a part is the same in two states. -/
def Part.same (x : Part) (s t : State) : Prop :=
  match x with
  | .now => t.now = s.now
  | .freeCtr => t.freeCtr = s.freeCtr
  | .pending => t.pending = s.pending
  | .regs => t.regs = s.regs
  | .moon => t.moon = s.moon
  | .retained => t.retained = s.retained
  | .snap => t.snap = s.snap
  | .posted => t.posted = s.posted
  | .heldWrites => t.heldWrites = s.heldWrites
  | .leases => t.leases = s.leases
  | .jrnl => t.jrnl = s.jrnl
  | .jobs => t.jobs = s.jobs
  | .nvm => t.nvm = s.nvm
  | .nvmDom => t.nvmDom = s.nvmDom
  | .rst => t.rst = s.rst
  | .clk => t.clk = s.clk
  | .cmt => t.cmt = s.cmt
  | .trig => t.trig = s.trig
  | .cap => t.cap = s.cap
  | .tk => t.tk = s.tk
  | .life => t.life = s.life
  | .bist => t.bist = s.bist
  | .alrm => t.alrm = s.alrm
  | .host => t.host = s.host
  | .chans => t.chans = s.chans
  | .groups => t.groups = s.groups

/-- Every part of the state but those listed is the same. -/
def Unchanged (l : List Part) (s t : State) : Prop := ∀ x : Part, l.contains x = false → x.same s t

/-- Every register but those that P picks reads as before. -/
def RegFrame (P : Nat → Prop) (s t : State) : Prop := ∀ a, ¬ P a → t.reg a = s.reg a

/-- The registers that an entry about a page may change beside its own register: CHANGE_SEQ of the page and the journal's INT_STATUS. -/
def entryRegs (p : Page) (a : Nat) : Prop := a = hdr p hChangeSeq ∨ a = hdr (.dev .jrnl) hIntStatus

/-- The newest entry of the journal is the one that a write, or an event, of this origin, address, OLD, NEW and FLAGS makes in the state s: it takes the next sequence and TG0's time (R41, R42). -/
def Entered (s u : State) (o addr : Nat) (old new : Word) (flags : Nat) : Prop :=
  u.newest = some
    { sec := BitVec.ofNat 32 (s.timeOf 0).1
      ns := BitVec.ofNat 32 (s.timeOf 0).2.1
      frac := BitVec.ofNat 16 (s.timeOf 0).2.2
      seq := s.jrnl.seqNext
      origin := BitVec.ofNat 8 o
      flags := BitVec.ofNat 8 flags
      addr := BitVec.ofNat 24 addr
      old := old
      new := new }

/-- A write with these data has reached its register in the state s, leading to t (R20, R39, R41): first its entry, with OLD, and NEW or the data, and the flags of Table 19; a write that a rule turns away changes nothing beside it, any other stores what the access rules make of it in its one register; then its consequences. -/
def Took (s t : State) (o : Origin) (p : Page) (off : Nat) (w : Word) (foreign posted : Bool) : Prop :=
  let old := s.contents (hdr p off)
  let r := s.writeResult o p off old w
  ∃ u : State,
    Entered s u (originCode o) (hdr p off) old (if r.data then w else r.new)
      (b2n foreign * fForeign + b2n r.ignored * fIgnored + b2n posted * fPosted + b2n r.data * fData)
    ∧ Unchanged [.regs, .jrnl, .leases, .nvm] s u
    ∧ RegFrame (fun a => (a = hdr p off ∧ r.ignored = false) ∨ entryRegs p a) s u
    ∧ (r.ignored = false → off ≠ hLock → (p ≠ .dev .jrnl ∨ off ≠ hIntStatus) → (p ≠ .dev .nvmw ∨ off < 0x200) → (p ≠ .dev .dev ∨ off ≠ 0x110) →
        u.reg (hdr p off) = r.new)
    ∧ t = if r.ignored then u.turnedAway p off
          else u.wrote o p off old w (match p with | .chan n _ => s.chanFenced n | .dev _ => false)

/-- The ENTRY words and RD_STATUS show an entry, most significant word first, or none. -/
def State.ShowsEntry (t : State) (e : Option (BitVec 256)) : Prop :=
  (∀ k, k < 8 → t.reg (Reg.jrnlEntryW k) = BitVec.extractLsb' (224 - 32 * k) 32 (e.getD 0))
  ∧ t.reg Reg.jrnlRdStatus = (if e.isSome then 1 else 0)

/-- The job in slot k has ended in a state with an error: its slot shows it, and JOB.INT_STATUS bit k is set. -/
def State.JobEnded (t : State) (k : Fin 8) (st : JState) (err : Nat) : Prop :=
  (t.slot k).st = st ∧ (t.slot k).err = err ∧ t.bit (hdr (.dev .job) hIntStatus) k.val = true
    ∧ t.fld (Reg.jobSlotStatus k.val) 15 8 = err % 256 ∧ t.fld (Reg.jobSlotStatus k.val) 7 0 = jcode st

/-- A port was ready at the falling edge of SS_N, a time low before now, and is ready at its rise: it was up and not fenced or in reset then, is so now, and its last frame had completed by then (R59, R61, R62). -/
def State.hears (s : State) (p : SPort) (low : Nat) : Prop :=
  (s.viewAt p (s.now - low)).deaf = false ∧ (s.viewAt p (s.now - low)).up = true ∧ s.portReady p = true ∧ (s.sport p).late (s.now - low) = false

/-- A port that was ready has taken a frame of so many edges whose CRC is right: it has shifted out its reply, which leaves nothing unreported, holds the frame's version, and has no latched halfword and no JRNL_GAP any more but for a gap record that came after the falling edge; its record of what it showed before begins anew. (DEDUCED, notes/assumptions 60) -/
def State.heard (s : State) (p : SPort) (edges : Nat) (v1 : Bool) (low : Nat) : State :=
  s.mapPort p (fun x => { x with
    v1 := v1, unreported := none, refused := none, buf := [], latch := none
    gap := x.gap && !((s.viewAt p (s.now - low)).gap && decide ((s.sport p).gapAt ≤ s.now - low))
    views := x.views.take 1, miso := s.misoBytes p edges (s.now - low) })

/-- The port's next reply reports a frame: its tag, result and data, with the journal's newest sequence in t, and no burst words. -/
def State.Reports (t : State) (p : SPort) (tag : BitVec 5) (r : BitVec 3) (d : Word) : Prop :=
  (t.sport p).unreported = some { tag := tag, result := r, data := d, seq := t.seq16, burst := false, doneAt := t.now } ∧ (t.sport p).executing = none

/-- A count that stops at its end has been raised by k. -/
def Raised (s t : State) (a k : Nat) : Prop := (t.reg a).toNat = min ((s.reg a).toNat + k) (2 ^ 32 - 1)

/-- An event has raised a count by one, with the interrupt bit of a page that an increment sets: a count at its end stays there, and sets no bit. -/
def Counted (s t : State) (a : Nat) (p : Page) (i : Nat) : Prop :=
  Raised s t a 1 ∧ (s.reg a ≠ 0xFFFFFFFF → t.bit (hdr p hIntStatus) i = true)

/-- A count that wraps has been raised by k. -/
def Wrapped (s t : State) (a k : Nat) : Prop := t.reg a = s.reg a + BitVec.ofNat 32 k

/-- Every channel but n holds what it held beyond its registers. -/
def OnlyChan (n : Ch) (s t : State) : Prop := ∀ m, m ≠ n → t.chan m = s.chan m

/-- The registers of the pages of channel n. -/
def ofChan (n : Ch) (a : Nat) : Prop := ∃ p off, off < 0x1000 ∧ a = hdr (.chan n p) off

/-- An instant of the receive side has passed (R386, R387): the fields and spares that waited for it are in force, unless an application waits for the transmit side alone. -/
def TrimRxTaken (n : Ch) (s t : State) : Prop :=
  let held := (s.chan n).trim.held
  ((∀ x, held ≠ some (true, x)) → (t.chan n).rx.sliceSwap = [])
  ∧ (held = none → (t.chan n).trim.rxDue = false) ∧ (∀ x, held = some (false, x) → (t.chan n).trim.held = none)

/-- As TrimRxTaken, for the transmit side. -/
def TrimTxTaken (n : Ch) (s t : State) : Prop :=
  let held := (s.chan n).trim.held
  ((∀ x, held ≠ some (false, x)) → (t.chan n).rx.segSwap = [])
  ∧ (held = none → (t.chan n).trim.txDue = false) ∧ (∀ x, held = some (true, x) → (t.chan n).trim.held = none)

/-- A training of channel n has failed with a cause of LAST_FAIL (R190): it counts, orbit lock is lost, and the end sends 64 ABORT words from phase 2 or 3, else negotiates where it may. -/
structure TrainFailed (n : Ch) (cause : Nat) (s t : State) : Prop where
  cause : t.fld (Reg.anTrnStatus n) 23 20 = cause
  counted : Counted s t (Reg.anTrainFails n) (.chan n .an) 1
  lock : t.orbitLock n = false
  aborts : (s.phase n = 2 ∨ s.phase n = 3) → (t.chan n).link.abort = some 64 ∧ (t.chan n).link.limitAt = none
  again : s.phase n ≠ 2 → s.phase n ≠ 3 → t.phase n = 0 ∧ t.kind n = 0 ∧ (t.chan n).link.neg = s.mayNegotiate n

/-- The state after the commands of a list, one after the other, each with nothing else between. -/
def runs (l : List Instr) (s : State) : State :=
  l.foldl (fun s c => match exec c s with | .next t => t | _ => s) s

/-- The even channel of relay pair k. -/
def evenCh (k : Fin 8) : Ch := ⟨2 * k.val, by omega⟩

/-- The register write that a command of one register makes: its origin, the page, the offset, the data, and the bits that it leaves at the register's contents; commands that are no such write have none. -/
def writeOf : Instr → Option (Origin × Page × Nat × Word × Word)
  | .devResetArm o => some (o, .dev .dev, 0x110, 0x5A170001, 0)
  | .devResetGo o keep => some (o, .dev .dev, 0x110, if keep then 0xA5E80006 else 0xA5E80002, 0)
  | .channelReset o n => some (o, .chan n .ch, 0x140, 0xC3A50001, 0)
  | .blockReset o (.chan n q) => some (o, .chan n .ch, 0x140, 0xC3A50000 + BitVec.ofNat 32 (blockBit q), 0)
  | .blockReset o (.dev q) => some (o, .dev .dev, 0x114, 0xC3A50000 + (match q with | .cmt | .cmtw => 1 | .cap | .capw => 2 | .trig => 4 | _ => 0), 0)
  | .pageFenceSet o p => some (o, p, 0x028, 0xFE9C0001, 0)
  | .pageFenceRemove o p => some (o, p, 0x028, 0xFE9C0000, 0)
  | .pageViewSelWrite o p d => some (o, p, 0x008, d, 0)
  | .intTestWrite o p d => some (o, p, 0x01C, d, 0)
  | .snapRequest o p all hold => some (o, p, 0x030, BitVec.ofNat 32 (1 + 4 * b2n hold + 8 * b2n all), 0)
  | .lockWrite o p d => some (o, p, 0x02C, d, 0)
  | .nvmwDataWrite o k d => some (o, .dev .nvmw, 0x200 + 4 * k.val, d, 0)
  | .journalFlush o => some (o, .dev .jrnl, 0x114, 0x80000000, 0x7FFFFFFF)
  | .journalReadLoad o ctrl d => some (o, .dev .jrnl, if ctrl then 0x120 else 0x124, d, 0)
  | .jobTdrSweep o slot target => some (o, .dev .job, 0x200 + 0x20 * slot.val, BitVec.ofNat 32 (0x10000 + 0x100 * target.toNat + 1), 0)
  | .jobCableProfileLearning o slot target => some (o, .dev .job, 0x200 + 0x20 * slot.val, BitVec.ofNat 32 (0x10000 + 0x100 * target.toNat + 2), 0)
  | .jobBist o slot target => some (o, .dev .job, 0x200 + 0x20 * slot.val, BitVec.ofNat 32 (0x10000 + 0x100 * target.toNat + 5), 0)
  | .jobLedgerUpdate o slot target => some (o, .dev .job, 0x200 + 0x20 * slot.val, BitVec.ofNat 32 (0x10000 + 0x100 * target.toNat + 6), 0)
  | .jobTrimRecheck o slot target => some (o, .dev .job, 0x200 + 0x20 * slot.val, BitVec.ofNat 32 (0x10000 + 0x100 * target.toNat + 7), 0)
  | .jobAbort o slot => some (o, .dev .job, 0x200 + 0x20 * slot.val, 0x00020000, 0xFFFDFFFF)
  | .buserrStickyClear o rmt => some (o, .dev .host, if rmt then 0x134 else 0x130, 0x80000000, 0)
  | .remoteGo o n op => some (o, .dev .host, 0x180, BitVec.ofNat 32 (0x80000000 + 0x100 * n.val + op.toNat), 0)
  | .portFenceSet o p => some (o, .dev .host, 0x120, if p = .hsa then 0xFE9C0001 else 0xFE9C0002, if p = .hsa then 2 else 1)
  | .portFenceRemove o p => some (o, .dev .host, 0x120, 0xFE9C0000, if p = .hsa then 2 else 1)
  | .iterMaxWrite o n v => some (o, .chan n .fec, 0x100, v.setWidth 32, 0xFFFFFFE0)
  | .fecUnitFenceSet o n u => some (o, .chan n .fec, 0x108, 0xFE9C0000 + 1 <<< u.val, 7 - 1 <<< u.val)
  | .fecUnitFenceRemove o n u => some (o, .chan n .fec, 0x108, 0xFE9C0000, 7 - 1 <<< u.val)
  | .rxGainWrite o n d => some (o, .chan n .afe, 0x100, d, 0)
  | .dfeTapsWrite o n d => some (o, .chan n .eq, 0x124, d, 0)
  | .timingModeWrite o n mode => some (o, .chan n .eq, 0x150, if mode then 1 else 0, 0xFFFFFFFE)
  | .timingBwWrite o n bw => some (o, .chan n .eq, 0x150, bw.setWidth 32 <<< 4, 0xFFFFFFCF)
  | .nfListenWrite o n d => some (o, .chan n .eq, 0x170, d, 0)
  | .anEnable o n => some (o, .chan n .an, 0x100, 1, 0xFFFFFFFE)
  | .anDisable o n => some (o, .chan n .an, 0x100, 0, 0xFFFFFFFE)
  | .anRestart o n => some (o, .chan n .an, 0x100, 2, 0xFFFFFFFD)
  | .advWrite o n d => some (o, .chan n .an, 0x104, d, 0)
  | .hlModeWrite o n d => some (o, .chan n .hl, 0x100, d, 0)
  | .relayEnable o k => some (o, .chan (evenCh k) .rly, 0x100, 1, 0xFFFFFFFE)
  | .relayDisable o k => some (o, .chan (evenCh k) .rly, 0x100, 0, 0xFFFFFFFE)
  | .relayTapWrite o k tap => some (o, .chan (evenCh k) .rly, 0x100, if tap then 2 else 0, 0xFFFFFFFD)
  | .diagHoldWrite o n hold => some (o, .chan n .diag, 0x100, if hold then 2 else 0, 0xFFFFFFFD)
  | .loopbackNearDigital o n => some (o, .chan n .diag, 0x210, 1, 0xFFFFFFFC)
  | .loopbackNearAnalog o n => some (o, .chan n .diag, 0x210, 2, 0xFFFFFFFC)
  | .loopbackFarEnd o n => some (o, .chan n .diag, 0x210, 3, 0xFFFFFFFC)
  | .loopbackOff o n => some (o, .chan n .diag, 0x210, 0, 0xFFFFFFFC)
  | .testPatternSelect o n pat => some (o, .chan n .diag, 0x214, pat.setWidth 32, 0xFFFFFFF8)
  | .srcCtrlWrite o g d => some (o, .dev .tk, 0x400 + 0x40 * g.val, d, 0)
  | .ptpPop o n => some (o, .chan n .ktl, 0x188, 1, 0)
  | .routeLoad o inc => some (o, .dev .cmt, 0x10C, if inc then 0x11 else 1, 0)
  | .routeCommit o inc => some (o, .dev .cmt, 0x10C, if inc then 0x12 else 2, 0)
  | .partWrite o g d => some (o, .dev .cmt, 0x204 + 0x40 * g.val, d, 0)
  | .scheduleLoad o inc => some (o, .dev .cmtw, 0x104, if inc then 0x11 else 1, 0)
  | .scheduleCommit o inc => some (o, .dev .cmtw, 0x104, if inc then 0x12 else 2, 0)
  | .scheduleCommitW0 o inc => some (o, .dev .cmtw, 0x104, if inc then 0x14 else 4, 0)
  | .scheduleClear o inc => some (o, .dev .cmtw, 0x104, if inc then 0x13 else 3, 0)
  | .captureAck o d => some (o, .dev .cap, 0x10C, d, 0)
  | .captureClear o => some (o, .dev .cap, 0x100, 8, 0xFFFFFFF7)
  | .captureReadLoad o d => some (o, .dev .capw, 0x100, d, 0)
  | .timeCaptureRequest o => some (o, .dev .tk, 0x120, 1, 0)
  | .timeSet o g => some (o, .dev .tk, 0x18C, BitVec.ofNat 32 (0x10 * g.val + 1), 0)
  | .timeStep o g => some (o, .dev .tk, 0x18C, BitVec.ofNat 32 (0x10 * g.val + 2), 0)
  | .timeSetSec o g => some (o, .dev .tk, 0x18C, BitVec.ofNat 32 (0x10 * g.val + 3), 0)
  | .taiUtcWrite o d => some (o, .dev .tk, 0x200, d, 0)
  | .leapAdd o => some (o, .dev .tk, 0x218, 1, 0)
  | .leapClear o => some (o, .dev .tk, 0x218, 2, 0)
  | .leapSetExpiry o => some (o, .dev .tk, 0x218, 3, 0)
  | .trendSelWrite o d => some (o, .dev .life, 0x190, d, 0)
  | .clkoutCtrlWrite o k d => some (o, .dev .clk, 0x200 + 0x10 * k.val, d, 0)
  | .powerRequest o n d => some (o, .dev .pwr, 0x100 + 4 * n.val, d, 0)
  | .nvmPowerRequest o d => some (o, .dev .pwr, 0x180, d, 0)
  | .trimApplyEnWrite o en => some (o, .dev .trim, 0x110, if en then 1 else 0, 0xFFFFFFFE)
  | .failLogSelect o d => some (o, .dev .bist, 0x110, d, 0)
  | .alarmSwLevelWrite o level => some (o, .dev .alrm, 0x100, if level then 0x80000000 else 0, 0x7FFFFFFF)
  | .alarmRearm o => some (o, .dev .alrm, 0x100, 0x40000000, 0xBFFFFFFF)
  | .safeCmd o => some (o, .dev .alrm, 0x110, 0x5AFE0001, 0)
  | .trigDriverFenceSet o k => some (o, .dev .trig, 0x344, 0xFE9C0000 + 1 <<< k.val, 0xFFFF - 1 <<< k.val)
  | .trigDriverFenceRemove o k => some (o, .dev .trig, 0x344, 0xFE9C0000, 0xFFFF - 1 <<< k.val)
  | .tgChMapWrite o d => some (o, .dev .tg, 0x100, d, 0)
  | .registerWrite _ _ _ => none
  | .vaoPowerOnReset _ => none
  | .corePowerLoss _ => none
  | .resetN _ => none
  | .startUp _ => none
  | .hostPortReady => none
  | .devResetBegin => none
  | .devResetLapse => none
  | .postedWriteTakesEffect _ => none
  | .snapTaken _ => none
  | .leaseExpiry _ => none
  | .tokenIssue => none
  | .flushAgeExpiry => none
  | .journalCommit => none
  | .archiveFetchDone => none
  | .entryW7Read _ => none
  | .nvmCommitStaging _ => none
  | .nvmCommitProfileErase _ => none
  | .nvmCommitLeapTable _ => none
  | .nvmCommitCalendar _ => none
  | .nvmReadBackProfile _ => none
  | .nvmReadBackLeapTable _ => none
  | .jobWaitClears _ => none
  | .jobStep _ _ _ => none
  | .deviceJobDispatch => none
  | .v2Nop _ _ _ _ => none
  | .v2Read _ _ _ _ _ _ => none
  | .v2Write _ _ _ _ _ _ => none
  | .v2BurstRead _ _ _ _ _ _ => none
  | .v2BurstWrite _ _ _ _ _ _ _ => none
  | .portCtrlAbort _ _ _ _ => none
  | .portReset _ _ _ _ => none
  | .portResetComplete _ => none
  | .v1Nop _ _ _ => none
  | .v1Read _ _ _ _ _ _ => none
  | .v1Write _ _ _ _ _ _ => none
  | .mdioStdRead _ _ _ => none
  | .mdioStdWrite _ _ _ _ => none
  | .mdioWindowRegWrite _ _ _ => none
  | .mdioWindowRead _ _ => none
  | .mdioWindowWrite _ _ => none
  | .mdioWindowDone _ => none
  | .remoteRequest _ => none
  | .remoteRequestExecute _ => none
  | .remoteReplyReceive _ => none
  | .remoteTimeout => none
  | .orbitTransmit _ _ => none
  | .ktlFieldReceive _ _ _ _ _ => none
  | .oamMessageSend _ _ => none
  | .oamMessageReceive _ => none
  | .codewordReceive _ _ _ => none
  | .codewordRelease _ => none
  | .berWindowEnd _ => none
  | .singleEngineStart _ => none
  | .singleEngineEnd _ => none
  | .powerMeasurementUpdate _ _ => none
  | .shadowAdvance _ _ => none
  | .sliceFault _ _ => none
  | .segmentMonitor _ _ => none
  | .timingLockChange _ => none
  | .sscModelLock _ _ _ => none
  | .sscModelFail _ _ _ => none
  | .adaptFreezeEnd _ => none
  | .noiseFloorComplete _ _ => none
  | .negotiationComplete _ _ _ => none
  | .phase1Timer _ => none
  | .tswReceive _ _ _ _ => none
  | .trainingPhaseAdvance _ => none
  | .trainingTimeout _ => none
  | .abortTswEnd _ => none
  | .fastHoldExpiry _ => none
  | .lpiEnter _ => none
  | .lpiWake _ => none
  | .eclipseRequest _ => none
  | .eclipseAnnounce _ => none
  | .eclipseStart _ => none
  | .eclipseReceive _ => none
  | .eclipseMiss _ _ => none
  | .eclipseDefer _ => none
  | .eclipseStale _ => none
  | .hostFrameReceive _ _ => none
  | .rmXoff _ => none
  | .rmPauseRepeat _ => none
  | .rmXon _ => none
  | .relayPairActivate _ => none
  | .relayFrameForward _ _ _ _ _ => none
  | .relayForwardResume _ => none
  | .mapRefresh _ _ => none
  | .patternSyncChange _ _ => none
  | .capabilityMessageSend _ => none
  | .infoExpiry _ => none
  | .servoUpdate _ => none
  | .discrepancyTick _ => none
  | .ppsInPulse _ _ _ => none
  | .ppsInTimeout _ => none
  | .ppsOutPulse => none
  | .ppsOutPulseEnd => none
  | .ptpIngress _ _ _ => none
  | .ptpEgress _ _ _ _ => none
  | .cometReceive _ => none
  | .cometLoading _ => none
  | .cometQueueExpiry => none
  | .cometFire => none
  | .lateReportReceive _ => none
  | .cometInject _ => none
  | .pulseEnd _ => none
  | .armWindowEnd _ => none
  | .trigEdgeCapture _ _ _ => none
  | .captureReportReceive _ => none
  | .captureReadAdvance _ => none
  | .timeCapture => none
  | .tkxJudgeAttempt _ => none
  | .tkxJudged => none
  | .tkrMeasurement _ => none
  | .tkxFail _ _ => none
  | .coastMeasurement _ => none
  | .tkxRelock => none
  | .calendarUpdate => none
  | .ledgerSecond => none
  | .ledgerUpdatePeriod => none
  | .trendSample => none
  | .xaJudgeAttempt _ _ _ => none
  | .xbCrossCheck _ => none
  | .xbRejudge _ => none
  | .fallbackExpiry => none
  | .fallbackNoLock => none
  | .referenceFail _ _ => none
  | .spllLossOfLock _ => none
  | .cpllLossOfLock _ _ => none
  | .hpllLossOfLock _ _ => none
  | .pllLockAcquired _ => none
  | .pllGateOpen _ => none
  | .clkoutRampEnd _ => none
  | .sscChangeApply _ => none
  | .crossingResync _ => none
  | .crossingFault _ _ _ => none
  | .selfTestOfEntry _ => none
  | .powerTransitionDone _ => none
  | .trimEvaluation _ => none
  | .trimIntervalExpiry _ => none
  | .trimApplication _ _ => none
  | .trimStale _ => none
  | .repairRecordWrite => none
  | .thermalSensorUpdate _ => none
  | .faultDetected _ _ _ _ => none
  | .alarmPulseEnd => none
  | .alarmSelfFault _ => none
  | .tgChangeTakesEffect _ => none
  | .jtagTapReset => none
  | .jtagRegRead _ => none
  | .jtagRegWrite _ _ => none
  | .orbitLockAcquired _ => none
  | .hostLaneLockChange _ _ => none
  | .opllLossOfLock _ _ => none
  | .trendFetchDone => none
  | .partnerNegotiationSignal _ => none
  | .standardModeLinkUp _ => none
  | .standardModeLinkDrop _ _ => none
  | .standardModeLpiQuiet _ _ => none

/-- The command c, one register write that the fabric serves at once, completes in s with its own effect wherever its data w meet cond: exec answers a next state t, the write is one that no rule turns away and leads to t as Took says, and of t Q holds. -/
def Completes (s : State) (c : Instr) (cond : Word → Prop) (Q : Word → State → Prop) : Prop :=
  ∀ (o : Origin) (p : Page) (off : Nat) (d keep : Word), writeOf c = some (o, p, off, d, keep) → s.Serves o p off →
    let w := s.sent o p off d keep
    cond w → ∃ t, exec c s = .next t ∧ Took s t o p off w false (isMoon p off)
      ∧ (s.writeResult o p off (s.contents (hdr p off)) w).ignored = false ∧ Q w t

/-- The parts of the state that a command can change. -/
def partsOf : Instr → List Part
  | .registerWrite _ _ _ | .startUp _ | .hostPortReady | .devResetArm _ | .devResetGo _ _ | .channelReset _ _ | .blockReset _ _ | .pageFenceSet _ _
  | .pageFenceRemove _ _ | .pageViewSelWrite _ _ _ | .intTestWrite _ _ _ | .postedWriteTakesEffect _ | .snapRequest _ _ _ _ | .lockWrite _ _ _
  | .nvmwDataWrite _ _ _ | .journalFlush _ | .journalReadLoad _ _ _ | .jobTdrSweep _ _ _ | .jobCableProfileLearning _ _ _ | .jobBist _ _ _
  | .jobLedgerUpdate _ _ _ | .jobTrimRecheck _ _ _ | .jobAbort _ _ | .v2Nop _ _ _ _ | .v2Read _ _ _ _ _ _ | .v2Write _ _ _ _ _ _
  | .v2BurstRead _ _ _ _ _ _ | .v2BurstWrite _ _ _ _ _ _ _ | .portCtrlAbort _ _ _ _ | .portReset _ _ _ _ | .v1Nop _ _ _ | .v1Read _ _ _ _ _ _
  | .v1Write _ _ _ _ _ _ | .mdioStdWrite _ _ _ _ | .mdioWindowDone _ | .buserrStickyClear _ _ | .remoteRequestExecute _ | .remoteGo _ _ _
  | .portFenceSet _ _ | .portFenceRemove _ _ | .iterMaxWrite _ _ _ | .fecUnitFenceSet _ _ _ | .fecUnitFenceRemove _ _ _ | .rxGainWrite _ _ _
  | .dfeTapsWrite _ _ _ | .timingModeWrite _ _ _ | .timingBwWrite _ _ _ | .nfListenWrite _ _ _ | .anEnable _ _ | .anDisable _ _ | .anRestart _ _
  | .advWrite _ _ _ | .hlModeWrite _ _ _ | .relayEnable _ _ | .relayDisable _ _ | .relayTapWrite _ _ _ | .diagHoldWrite _ _ _
  | .loopbackNearDigital _ _ | .loopbackNearAnalog _ _ | .loopbackFarEnd _ _ | .loopbackOff _ _ | .testPatternSelect _ _ _ | .srcCtrlWrite _ _ _
  | .ptpPop _ _ | .routeLoad _ _ | .routeCommit _ _ | .partWrite _ _ _ | .scheduleLoad _ _ | .scheduleCommit _ _ | .scheduleCommitW0 _ _
  | .scheduleClear _ _ | .captureAck _ _ | .captureClear _ | .captureReadLoad _ _ | .timeCaptureRequest _ | .timeSet _ _ | .timeStep _ _
  | .timeSetSec _ _ | .taiUtcWrite _ _ | .leapAdd _ | .leapClear _ | .leapSetExpiry _ | .trendSelWrite _ _ | .clkoutCtrlWrite _ _ _
  | .powerRequest _ _ _ | .nvmPowerRequest _ _ | .trimApplyEnWrite _ _ | .failLogSelect _ _ | .alarmSwLevelWrite _ _ | .alarmRearm _ | .safeCmd _
  | .trigDriverFenceSet _ _ | .trigDriverFenceRemove _ _ | .tgChMapWrite _ _ | .jtagRegRead _ | .jtagRegWrite _ _ =>
    [.freeCtr, .regs, .moon, .snap, .posted, .heldWrites, .leases, .jrnl, .jobs, .nvm, .nvmDom, .rst, .clk, .cmt, .trig, .cap, .tk, .life, .bist, .host, .chans, .groups]
  | .vaoPowerOnReset _ =>
    [.freeCtr, .regs, .moon, .retained, .snap, .posted, .heldWrites, .leases, .jrnl, .jobs, .nvm, .nvmDom, .rst, .clk, .cmt, .trig, .cap, .tk, .life, .bist, .alrm, .host, .chans, .groups]
  | .corePowerLoss _ | .resetN _ =>
    [.freeCtr, .regs, .moon, .retained, .snap, .posted, .heldWrites, .leases, .jrnl, .jobs, .nvm, .nvmDom, .rst, .clk, .cmt, .trig, .cap, .life, .bist, .alrm, .host, .chans, .groups]
  | .devResetBegin =>
    [.regs, .moon, .retained, .snap, .posted, .heldWrites, .leases, .jrnl, .jobs, .nvm, .nvmDom, .rst, .clk, .cmt, .trig, .cap, .life, .bist, .alrm, .host, .chans, .groups]
  | .devResetLapse =>
    [.regs, .jrnl, .rst]
  | .snapTaken _ =>
    [.freeCtr, .regs, .snap, .heldWrites, .leases, .jrnl, .jobs, .nvm, .clk, .cmt, .trig, .bist, .alrm, .host, .chans, .groups]
  | .leaseExpiry _ =>
    [.regs, .leases, .jrnl]
  | .tokenIssue | .flushAgeExpiry =>
    [.jrnl]
  | .journalCommit | .repairRecordWrite =>
    [.freeCtr, .regs, .heldWrites, .leases, .jrnl, .jobs, .nvm, .clk, .cmt, .trig, .life, .bist, .host, .chans, .groups]
  | .archiveFetchDone | .entryW7Read _ | .captureReadAdvance _ | .alarmPulseEnd =>
    [.regs, .jrnl]
  | .nvmCommitStaging _ | .nvmCommitProfileErase _ | .nvmCommitLeapTable _ | .nvmCommitCalendar _ | .nvmReadBackProfile _ | .nvmReadBackLeapTable _ =>
    [.freeCtr, .regs, .heldWrites, .leases, .jrnl, .jobs, .nvm, .clk, .cmt, .trig, .tk, .life, .bist, .host, .chans, .groups]
  | .jobWaitClears _ =>
    [.freeCtr, .regs, .heldWrites, .leases, .jrnl, .jobs, .clk, .cmt, .trig, .host, .chans, .groups]
  | .jobStep _ _ _ =>
    [.freeCtr, .regs, .posted, .heldWrites, .leases, .jrnl, .jobs, .nvm, .clk, .cmt, .trig, .tk, .life, .bist, .host, .chans, .groups]
  | .deviceJobDispatch | .selfTestOfEntry _ =>
    [.freeCtr, .regs, .heldWrites, .leases, .jrnl, .jobs, .clk, .cmt, .trig, .bist, .host, .chans, .groups]
  | .portResetComplete _ | .jtagTapReset =>
    [.host]
  | .mdioStdRead _ _ _ | .mdioWindowRegWrite _ _ _ | .mdioWindowRead _ _ | .mdioWindowWrite _ _ | .remoteTimeout =>
    [.regs, .host]
  | .remoteRequest _ | .eclipseRequest _ | .capabilityMessageSend _ =>
    [.chans]
  | .remoteReplyReceive _ =>
    [.regs, .host, .chans]
  | .orbitTransmit _ _ | .oamMessageSend _ _ | .oamMessageReceive _ | .berWindowEnd _ | .powerMeasurementUpdate _ _ | .shadowAdvance _ _
  | .timingLockChange _ | .sscModelLock _ _ _ | .adaptFreezeEnd _ | .phase1Timer _ | .lpiEnter _ | .lpiWake _ | .eclipseAnnounce _ | .eclipseMiss _ _
  | .eclipseDefer _ | .hostFrameReceive _ _ | .rmXoff _ | .rmPauseRepeat _ | .rmXon _ | .relayFrameForward _ _ _ _ _ | .relayForwardResume _
  | .mapRefresh _ _ | .patternSyncChange _ _ | .ptpIngress _ _ _ | .ptpEgress _ _ _ _ | .trimEvaluation _ | .trimIntervalExpiry _ =>
    [.regs, .chans]
  | .ktlFieldReceive _ _ _ _ _ | .tswReceive _ _ _ _ | .orbitLockAcquired _ =>
    [.freeCtr, .regs, .heldWrites, .leases, .jrnl, .clk, .cmt, .trig, .life, .host, .chans, .groups]
  | .codewordReceive _ _ _ | .singleEngineStart _ | .singleEngineEnd _ | .trainingPhaseAdvance _ | .eclipseStart _ | .eclipseReceive _
  | .trimApplication _ _ | .standardModeLinkUp _ | .standardModeLpiQuiet _ _ =>
    [.regs, .jrnl, .chans]
  | .codewordRelease _ =>
    [.freeCtr, .regs, .heldWrites, .leases, .jrnl, .jobs, .clk, .cmt, .trig, .life, .bist, .alrm, .host, .chans, .groups]
  | .sliceFault _ _ | .segmentMonitor _ _ | .hpllLossOfLock _ _ =>
    [.freeCtr, .regs, .heldWrites, .leases, .jrnl, .jobs, .clk, .cmt, .trig, .bist, .alrm, .host, .chans, .groups]
  | .sscModelFail _ _ _ | .noiseFloorComplete _ _ | .eclipseStale _ | .infoExpiry _ | .clkoutRampEnd _ | .trimStale _ | .hostLaneLockChange _ _ =>
    [.regs]
  | .negotiationComplete _ _ _ =>
    [.freeCtr, .regs, .jrnl, .clk, .life, .chans]
  | .trainingTimeout _ | .fastHoldExpiry _ | .partnerNegotiationSignal _ =>
    [.freeCtr, .regs, .jrnl, .clk, .chans]
  | .abortTswEnd _ =>
    [.freeCtr, .regs, .clk, .chans]
  | .relayPairActivate _ | .alarmSelfFault _ | .standardModeLinkDrop _ _ =>
    [.freeCtr, .regs, .heldWrites, .leases, .jrnl, .clk, .cmt, .trig, .host, .chans, .groups]
  | .servoUpdate _ | .tgChangeTakesEffect _ =>
    [.regs, .jrnl, .cmt, .trig, .chans, .groups]
  | .discrepancyTick _ | .ppsInPulse _ _ _ | .ppsInTimeout _ =>
    [.regs, .jrnl, .cmt, .trig, .groups]
  | .ppsOutPulse | .pulseEnd _ | .armWindowEnd _ =>
    [.regs, .trig]
  | .ppsOutPulseEnd =>
    [.trig]
  | .cometReceive _ | .cometLoading _ | .cometQueueExpiry | .lateReportReceive _ | .cometInject _ =>
    [.regs, .cmt, .chans]
  | .cometFire =>
    [.regs, .cmt, .trig, .cap]
  | .trigEdgeCapture _ _ _ =>
    [.regs, .cmt, .trig, .cap, .chans]
  | .captureReportReceive _ =>
    [.regs, .cmt, .cap, .chans]
  | .timeCapture | .tkxJudgeAttempt _ | .tkrMeasurement _ =>
    [.regs, .tk]
  | .tkxJudged | .tkxRelock =>
    [.regs, .clk, .tk]
  | .tkxFail _ _ =>
    [.regs, .jrnl, .clk, .tk, .alrm]
  | .coastMeasurement _ =>
    [.tk]
  | .calendarUpdate =>
    [.regs, .jrnl, .tk]
  | .ledgerSecond | .trendFetchDone =>
    [.regs, .life]
  | .ledgerUpdatePeriod | .trendSample =>
    [.freeCtr, .regs, .heldWrites, .leases, .jrnl, .jobs, .clk, .cmt, .trig, .life, .bist, .host, .chans, .groups]
  | .xaJudgeAttempt _ _ _ | .referenceFail _ _ | .spllLossOfLock _ | .cpllLossOfLock _ _ =>
    [.freeCtr, .regs, .posted, .heldWrites, .leases, .jrnl, .jobs, .clk, .cmt, .trig, .life, .bist, .alrm, .host, .chans, .groups]
  | .xbCrossCheck _ | .xbRejudge _ | .fallbackExpiry | .fallbackNoLock =>
    [.regs, .clk]
  | .pllLockAcquired _ =>
    [.regs, .clk, .tk, .chans]
  | .pllGateOpen _ =>
    [.freeCtr, .regs, .heldWrites, .leases, .jrnl, .clk, .cmt, .trig, .tk, .life, .host, .chans, .groups]
  | .sscChangeApply _ | .crossingResync _ =>
    [.clk]
  | .crossingFault _ _ _ =>
    [.freeCtr, .regs, .posted, .heldWrites, .leases, .jrnl, .jobs, .nvm, .clk, .cmt, .trig, .life, .bist, .alrm, .host, .chans, .groups]
  | .powerTransitionDone _ =>
    [.freeCtr, .regs, .moon, .retained, .snap, .posted, .heldWrites, .leases, .jrnl, .jobs, .nvmDom, .clk, .cmt, .trig, .life, .bist, .host, .chans, .groups]
  | .thermalSensorUpdate _ | .faultDetected _ _ _ _ =>
    [.freeCtr, .regs, .heldWrites, .leases, .jrnl, .jobs, .nvm, .clk, .cmt, .trig, .bist, .alrm, .host, .chans, .groups]
  | .opllLossOfLock _ _ =>
    [.regs, .jrnl, .clk, .alrm]

end Sys2Proof.Machine
end

