-- ==== Sys2Proof/Certificates/Slice0/Obligations.lean ====
section
/-! DEFINITION. The statements for the provers: general ones first, then the fabric, locks, resets, the journal and jobs, the host ports, the line, the receiver, training, time, comets, the timekeeper, clocks, power and faults. -/

open Sys2Proof Sys2Proof.Machine

/-- A step runs the command at the front of the queue, with the queue's rest. It rests on the model's choice of notes/assumptions 1. -/
def Obligations.StepRunsTheFrontCommand : Prop :=
  ∀ (c : Instr) (s : State) (rest : List Instr),
    step { s with pending := c :: rest } = exec c { s with pending := rest }

/-- On an empty queue a step is one cycle of the time base: the model's clock moves on by the cycle, and the oldest capture of the log's input buffer leaves it (notes/assumptions 161). Where the conserved quantities of the device pages balance (R419), each group's time moves by I (1 − y) / (1 + c) while the timekeeper runs (R312) and not at all while it does not, each locked clock output moves toward its target by no more than 2 ppm per µs, and beside the clock, the groups, the outputs and the log only registers, their moon copies, the schedule's partitions and the records of what the ports and the receive loops showed can follow; where those of the comet scheduler do not, a moon edge in the cycle raises LOGIC in its page unless it is fenced. It rests on the model's choices of notes/assumptions 2, 3 and 161. -/
def Obligations.IdleStepPassesOneCycle : Prop :=
  ∀ s : State, s.pending = [] →
    ∃ t, step s = .next t ∧ t.now = s.now + s.cycle ∧ t.cap.inBuf = (if s.drains (.dev .cap) then s.cap.inBuf else s.cap.inBuf.tail)
      ∧ (s.balanced (.dev .cmt) = true → s.jrnl.tokens ≤ 8 →
          (∀ g, t.group g = { s.group g with ts :=
            if s.tk.running then (s.group g).ts + s.tk.inc * (1 - (s.group g).y) / (1 + s.tkxCorr) else (s.group g).ts })
          ∧ t.clk = { s.clk with outRel := t.clk.outRel } ∧ (∀ n, t.chan n = { s.chan n with rx := { (s.chan n).rx with views := (t.chan n).rx.views } })
          ∧ (∀ k : Fin 2,
              let most : Rat := 2 * s.cycle / 10 ^ 12
              absR (t.clk.outRel[k] - s.clk.outRel[k]) ≤ most
              ∧ (s.clk.opll[k].locked = true → absR (s.outTarget k - s.clk.outRel[k]) ≤ most → t.clk.outRel[k] = s.outTarget k)
              ∧ (s.clk.opll[k].locked = false → t.clk.outRel[k] = s.clk.outRel[k]))
          ∧ Unchanged [.now, .regs, .moon, .clk, .cmt, .cap, .host, .chans, .groups] s t)
      ∧ (s.Canonical → s.balanced (.dev .cmt) = false → s.fenced (.dev .cmt) = false → t.moonEdge ≠ s.moonEdge →
          t.bit (hdr (.dev .cmt) hFaultStatus) 3 = true)

/-- Every command answers a next state; none touches the queue of waiting commands or the model's clock, and none takes back the fence of an NVM sector. It rests on the model's choices of notes/assumptions 1, 3 and 6. -/
def Obligations.CommandsLeaveQueueClockAndFences : Prop :=
  ∀ (c : Instr) (s : State), ∃ t, exec c s = .next t ∧ t.pending = s.pending ∧ t.now = s.now
    ∧ ∀ k, s.nvm.sectFence.getLsbD k = true → t.nvm.sectFence.getLsbD k = true

/-- Every step keeps the canonical form of everything held by key: registers, their moon, RETAIN and snapshot copies, leases, the NVM array, the schedule and the routes. It rests on the model's choice of notes/assumptions 13. -/
def Obligations.StepKeepsCanonicalForm : Prop :=
  ∀ s t : State, s.Canonical → step s = .next t → t.Canonical

/-- Every step keeps the bounds of the device's memories: the journal ring's places, 8 commit tokens, 8 posted writes to a domain, 32 fail-log entries and the capture log's places. -/
def Obligations.StepKeepsMemoryBounds : Prop :=
  ∀ s t : State, s.Bounded → step s = .next t → t.Bounded

/-- The state after the VAO power-on reset is sound and its queue is empty; every register reads its reset value, the system domain is held in reset, every switched domain is OFF, and the NVM array and the journal ring list nothing. It rests on the model's choices of notes/assumptions 13 and 15. -/
def Obligations.ResetStateIsSound : Prop :=
  State.reset.Safe ∧ State.reset.pending = [] ∧ (∀ a, State.reset.reg a = resetWord a)
    ∧ State.reset.rst.phase = .inReset ∧ State.reset.nvmDom.eff = .off
    ∧ (∀ n, (State.reset.chan n).afe.eff = .off ∧ (State.reset.chan n).dsp.eff = .off ∧ (State.reset.chan n).hl.eff = .off)
    ∧ State.reset.nvm.mem = [] ∧ State.reset.jrnl.ring = []

/-- Each command that is a write of one register, served at once, enters the journal first and then has its consequences: a write that a rule turns away changes no register but the journal's own and is entered with IGNORED; any other stores what the access rules make of it, in its register alone. The commands: devResetArm, devResetGo, channelReset, blockReset, pageFenceSet, pageFenceRemove, pageViewSelWrite, intTestWrite, snapRequest, lockWrite, nvmwDataWrite, journalFlush, journalReadLoad, jobTdrSweep, jobCableProfileLearning, jobBist, jobLedgerUpdate, jobTrimRecheck, jobAbort, buserrStickyClear, remoteGo, portFenceSet, portFenceRemove, iterMaxWrite, fecUnitFenceSet, fecUnitFenceRemove, rxGainWrite, dfeTapsWrite, timingModeWrite, timingBwWrite, nfListenWrite, anEnable, anDisable, anRestart, advWrite, hlModeWrite, relayEnable, relayDisable, relayTapWrite, diagHoldWrite, loopbackNearDigital, loopbackNearAnalog, loopbackFarEnd, loopbackOff, testPatternSelect, srcCtrlWrite, ptpPop, routeLoad, routeCommit, partWrite, scheduleLoad, scheduleCommit, scheduleCommitW0, scheduleClear, captureAck, captureClear, captureReadLoad, timeCaptureRequest, timeSet, timeStep, timeSetSec, taiUtcWrite, leapAdd, leapClear, leapSetExpiry, trendSelWrite, clkoutCtrlWrite, powerRequest, nvmPowerRequest, trimApplyEnWrite, failLogSelect, alarmSwLevelWrite, alarmRearm, safeCmd, trigDriverFenceSet, trigDriverFenceRemove, tgChMapWrite. It rests on the model's choice of notes/assumptions 9. -/
def Obligations.WriteRowsReachTheirRegisters : Prop :=
  ∀ (c : Instr) (s : State) (o : Origin) (p : Page) (off : Nat) (d keep : Word),
    writeOf c = some (o, p, off, d, keep) → s.Serves o p off → s.Canonical →
    ∃ t, exec c s = .next t ∧ Took s t o p off (s.sent o p off d keep) false (isMoon p off)

/-- A command changes no part of the state but those its line of the table names. It rests on the model's choice of notes/assumptions 6. -/
def Obligations.CommandsChangeOnlyTheirParts : Prop :=
  ∀ (c : Instr) (s t : State), exec c s = .next t → Unchanged (partsOf c) s t

/-- A register write that the fabric serves takes effect at once at a register that is not moon-copied; a foreign write does so as if there were no lock, is entered with FOREIGN_LOCK, and leaves CONTENDED and LOCK_EVT of its page set. It rests on the model's choices of notes/assumptions 27 and 28. -/
def Obligations.RegisterWriteTakesEffectAtOnce : Prop :=
  ∀ (o : Origin) (p : Page) (off : Nat) (d : Word) (s : State),
    s.Canonical → s.mayAccess o = true → off < 0x1000 → isMoon p off = false →
    s.accessErr (s.view1At o (hdr p off)) (hdr p off) true = none →
    ∃ t u, exec (.registerWrite o (BitVec.ofNat 24 (hdr p off)) d) s = .next t
      ∧ Took s u o p off (s.sent o p off d 0) (s.foreignWrite o p off) false
      ∧ (if s.foreignWrite o p off = true then
            t.bit (hdr p hLock) 30 = true ∧ t.bit (hdr p hIntStatus) intLock = true
            ∧ Unchanged [.regs] u t ∧ RegFrame (fun a => a = hdr p hLock ∨ a = hdr p hIntStatus) u t
         else t = u)

/-- A write to a moon-copied register that the fabric serves waits in its domain's queue of up to 8 with its data as sent, no register but those of a foreign write's flags changing; where the queue is full, or an earlier write is held, the fabric holds it, and nothing else changes. The oldest posted write of a domain whose crossing is not being re-initialised takes effect, out of reset, with the data it carries, entered with POSTED and the true old contents; the others of its domain stay in their order, and a write held for the domain is then tried again. It rests on the model's choices of notes/assumptions 28 and 30. -/
def Obligations.PostedWritesWaitAndTakeEffectInOrder : Prop :=
  (∀ (o : Origin) (p : Page) (off : Nat) (d : Word) (s : State),
      s.mayAccess o = true → off < 0x1000 → isMoon p off = true →
      s.accessErr (s.view1At o (hdr p off)) (hdr p off) true = none →
      let c : Instr := .registerWrite o (BitVec.ofNat 24 (hdr p off)) d
      let w : PostedWrite := { origin := o, addr := hdr p off, data := d, view1 := s.view1At o (hdr p off), foreign := s.foreignWrite o p off, keep := 0 }
      ((s.postedIn (pdomOf p off)).length < 8 → s.heldIn (pdomOf p off) = [] →
        ∃ t, exec c s = .next t ∧ t.posted = s.posted ++ [w] ∧ Unchanged [.posted, .regs] s t
          ∧ RegFrame (fun a => s.foreignWrite o p off = true ∧ (a = hdr p hLock ∨ a = hdr p hIntStatus)) s t)
      ∧ (8 ≤ (s.postedIn (pdomOf p off)).length ∨ s.heldIn (pdomOf p off) ≠ [] →
        exec c s = .next { s with heldWrites := s.heldWrites ++ [w] }))
  ∧ (∀ (q : PDom) (w : PostedWrite) (rest : List PostedWrite) (p : Page) (off : Nat) (s : State),
      s.Canonical → s.postedIn q = w :: rest → w.addr = hdr p off → off < 0x1000 → s.drains p = false → s.rst.phase ≠ .inReset →
      let s' : State := { s with posted := s.posted.erase w }
      ∃ u, Took s' u w.origin p off (s'.sentIn w.view1 p off w.data w.keep) w.foreign true
        ∧ s'.postedIn q = rest
        ∧ exec (.postedWriteTakesEffect q) s = .next (u.unhold q)
        ∧ (u.heldIn q = [] → exec (.postedWriteTakesEffect q) s = .next u))

/-- A write by a serial port or by JTAG that raises a bus error changes nothing: it is entered with BUS_ERR, OLD 0 and the data, and only the journal follows. It rests on the model's choice of notes/assumptions 27. -/
def Obligations.BusErrorDiscardsTheWrite : Prop :=
  ∀ (o : Origin) (a : Addr) (d : Word) (s : State),
    o = .hsa ∨ o = .hsb ∨ o = .jtag → s.mayAccess o = true →
    s.accessErr (s.view1At o a.toNat) a.toNat true ≠ none →
    ∃ t, exec (.registerWrite o a d) s = .next t
      ∧ Entered s t (originCode o) a.toNat 0 d (fBusErr + fData)
      ∧ Unchanged [.regs, .jrnl] s t ∧ RegFrame (fun x => x = hdr (.dev .jrnl) hIntStatus) s t

/-- A FENCE write with any KEY other than 0xFE9C is entered with IGNORED and the data, and changes nothing: no register but the journal's own, and no part of the state beside the journal (where it is a foreign write, the flags of R39 follow as well). -/
def Obligations.WrongFenceKeyChangesNothing : Prop :=
  ∀ (o : Origin) (p : Page) (d : Word) (s : State),
    s.mayAccess o = true → keyOf d ≠ 0xFE9C →
    ∃ t, exec (.registerWrite o (BitVec.ofNat 24 (hdr p hFence)) d) s = .next t
      ∧ Entered s t (originCode o) (hdr p hFence) (s.contents (hdr p hFence)) d (b2n (s.foreignWrite o p hFence) * fForeign + fIgnored + fData)
      ∧ Unchanged [.regs, .jrnl] s t
      ∧ RegFrame (fun a => a = hdr (.dev .jrnl) hIntStatus ∨ (s.foreignWrite o p hFence = true ∧ (a = hdr p hLock ∨ a = hdr p hIntStatus))) s t

/-- The fabric's commands of one register write complete with their effect under the conditions of their rules: DEV.RESET is armed; a channel or block reset brings registers to reset values, and a channel reset the link down, or waits for the channel's transitions; fences, views, test interrupts, snapshot requests and staged words of NVMW are taken; a flush is asked for; the ENTRY words follow RD_SEQ and RD_CTRL; sticky bus errors clear; the mailbox sends its request and waits; a port fence holds as written. It rests on the model's choices of notes/assumptions 9, 36, 52, 72 and 76. -/
def Obligations.FabricCommandsTakeEffect : Prop :=
  ∀ (s : State) (o : Origin), s.Canonical →
    let always : Word → Prop := fun _ => True
    Completes s (.devResetArm o) (fun _ => s.rst.armed = none) (fun _ t =>
      t.rst = { s.rst with armed := some (o, s.now) } ∧ t.contents (hdr (.dev .dev) 0x110) = 1)
    ∧ (∀ n, Completes s (.channelReset o n) (fun _ => (s.chan n).moving = false) (fun _ t =>
        t.linkUp n = false ∧ (t.chan n).coefKept = false ∧ (t.chan n).resetOwed = none
        ∧ t.reg (Reg.anAnCtrl n) = resetWord (Reg.anAnCtrl n) ∧ t.reg (Reg.hlMode n) = resetWord (Reg.hlMode n)))
    ∧ (∀ n, Completes s (.channelReset o n) (fun _ => (s.chan n).moving = true) (fun _ t =>
        (t.chan n).resetOwed = some o ∧ t.linkUp n = s.linkUp n))
    ∧ (∀ n q, blockBit q ≠ 0 → Completes s (.blockReset o (.chan n q)) always (fun _ t => t.reg (hdr (.chan n q) 0x100) = resetWord (hdr (.chan n q) 0x100)))
    ∧ (∀ q, q ∈ [DevPage.cmt, .cmtw, .cap, .capw, .trig] → Completes s (.blockReset o (.dev q)) always (fun _ t =>
        t.reg (hdr (.dev q) 0x100) = resetWord (hdr (.dev q) 0x100)))
    ∧ (∀ p, fenceable p = true → Completes s (.pageFenceSet o p) always (fun _ t => t.ownFence p = true))
    ∧ (∀ p, (∀ n, p = .chan n .ch → s.mustFence n = false) → Completes s (.pageFenceRemove o p) always (fun _ t => t.ownFence p = false))
    ∧ (∀ p d, Completes s (.pageViewSelWrite o p d) (fun w => viewTurned p w = false) (fun w t =>
        ∀ i ∈ [0, 4, 8, 12], t.fld (hdr p hViewSel) (i + 3) i = bits w (i + 3) i))
    ∧ (∀ p d, Completes s (.intTestWrite o p d) always (fun w t => ∀ i, (w &&& intMask p).getLsbD i = true → t.bit (hdr p hIntStatus) i = true))
    ∧ (∀ p all hold, Completes s (.snapRequest o p all hold) (fun _ => s.fenced p = false ∧ s.pagePower p = .on) (fun _ t =>
        t.bit (hdr p hSnap) 0 = true ∧ t.bit (hdr p hSnap) 2 = hold ∧ t.bit (hdr p hSnap) 3 = (all && p == coverOf p)))
    ∧ (∀ (k : Fin 64) d, Completes s (.nvmwDataWrite o k d) (fun _ => s.stageTurned = false) (fun w t =>
        (s.nvmwAddr k.val, w) ∈ t.nvm.staged ∧ t.nvm.stageBlock = s.fld Reg.nvmwBase 16 0 ∧ t.nvm.mem = s.nvm.mem))
    ∧ Completes s (.journalFlush o) always (fun _ t => t.bit Reg.jrnlCommitCtrl 31 = true)
    ∧ (∀ ctrl d, Completes s (.journalReadLoad o ctrl d) always (fun w t =>
        (ctrl = false → t.reg Reg.jrnlRdSeq = w) ∧ (ctrl = true → t.bit Reg.jrnlRdCtrl 0 = w.getLsbD 0)
        ∧ (t.bit Reg.jrnlRdCtrl 0 = false → t.jrnl.fetch = none
            ∧ t.ShowsEntry ((t.jrnl.ringAt (t.reg Reg.jrnlRdSeq)).bind (fun e => if e.bad then none else some e.e.word)))
        ∧ (t.bit Reg.jrnlRdCtrl 0 = true → s.nvmReady = true →
            t.jrnl.fetch = some (t.reg Reg.jrnlRdSeq, s.now + us 4) ∧ t.reg Reg.jrnlRdStatus = 2)))
    ∧ (∀ rmt, Completes s (.buserrStickyClear o rmt) always (fun _ t => t.reg (hdr (.dev .host) (if rmt = true then 0x134 else 0x130)) = 0))
    ∧ (∀ (n : Ch) op, Completes s (.remoteGo o n op) (fun _ => s.rmtWaiting = false) (fun _ t =>
        t.reg Reg.hostRmtStatus = BitVec.ofNat 32 (2 ^ 30 + s.host.tagNext.toNat * 2 ^ 16)
        ∧ t.host.tagNext = s.host.tagNext + 1 ∧ t.host.mail = some (n, s.now + us (max 32 (s.fld Reg.hostRmtTimeout 15 0)))
        ∧ (s.zUp n = true → ∃ m : BitVec 128, (t.chan n).line.oamQ = (s.chan n).line.oamQ ++ [m]
            ∧ (m >>> 112).toNat = 0x100 + s.host.tagNext.toNat
            ∧ (m >>> 40).toNat % 2 ^ 32 = s.fld Reg.hostRmtWdata 31 0 ∧ (m >>> 72).toNat % 2 ^ 24 = s.fld Reg.hostRmtAddr 23 0)
        ∧ (s.zUp n = false → (t.chan n).line.oamQ = (s.chan n).line.oamQ)))
    ∧ (∀ p, Completes s (.portFenceSet o p) always (fun _ t => t.portFenced p = true))
    ∧ (∀ p, Completes s (.portFenceRemove o p) always (fun _ t => t.portFenced p = false))

/-- A START that its rule accepts puts its job into WAIT, or into RUN where what it needs is available, with the slot's handle, type, target and arguments, whatever the type; ABORT ends the job that a slot has in ABORTED, with its interrupt. It rests on the model's choices of notes/assumptions 38, 81 and 82. -/
def Obligations.JobCommandsStartAndAbort : Prop :=
  ∀ (s : State) (o : Origin) (k : Fin 8) (target : Byte), s.Canonical →
    let accepts (typ : Byte) : Prop :=
      (s.slot k).busy = false ∧ (k.val < 6 ∨ originExternal o = false) ∧ s.startErr false typ target (s.reg (Reg.jobSlotArg0 k.val)) = 0
    let started (typ : Byte) (t : State) : Prop :=
      (t.slot k).st = (if s.jobReady typ (s.reg (Reg.jobSlotArg0 k.val)) = true then .run else .wait)
      ∧ (t.slot k).typ = typ ∧ (t.slot k).target = target ∧ (t.slot k).arg0 = s.reg (Reg.jobSlotArg0 k.val) ∧ (t.slot k).arg1 = s.reg (Reg.jobSlotArg1 k.val)
      ∧ (t.slot k).handle = BitVec.ofNat 16 (k.val * 2 ^ 13 + (s.jobs.starts + 1).toNat) ∧ (t.slot k).steps = 0 ∧ (t.slot k).err = 0
      ∧ t.fld (Reg.jobSlotStatus k.val) 7 0 = jcode (t.slot k).st ∧ t.bit Reg.jobSlotBusy k.val = true
    Completes s (.jobTdrSweep o k target) (fun _ => accepts 1) (fun _ t => started 1 t ∧ ∀ n, targetCh 1 target = some n → (t.chan n).link.neg = false)
    ∧ Completes s (.jobCableProfileLearning o k target) (fun _ => accepts 2) (fun _ t => started 2 t)
    ∧ Completes s (.jobBist o k target) (fun _ => accepts 5) (fun _ t => started 5 t)
    ∧ Completes s (.jobLedgerUpdate o k target) (fun _ => accepts 6) (fun _ t => started 6 t ∧ t.bit Reg.lifeStatus 28 = true)
    ∧ Completes s (.jobTrimRecheck o k target) (fun _ => accepts 7) (fun _ t => started 7 t)
    ∧ Completes s (.jobAbort o k) (fun w => (s.slot k).busy = true ∧ w.getLsbD 16 = false) (fun _ t => t.JobEnded k .aborted 0)

/-- The commands of a channel that are one register write complete with their effect: a value that may act at once does, one that waits for an eclipse or a training shows so; engine fences, LISTEN, negotiation's enable, disable and restart, ADV and the host lane's mode act on the link as their rules say; a relay pair becomes active where both ends are ready, and ends at once; HOLD, the loopbacks and the patterns are taken where their rules do not refuse them. It rests on the model's choices of notes/assumptions 58, 96, 100, 145 and 159. -/
def Obligations.ChannelCommandsTakeEffect : Prop :=
  ∀ (s : State) (o : Origin) (n : Ch), s.Canonical →
    let always : Word → Prop := fun _ => True
    let idle (t : State) : Prop := t.linkUp n = false ∧ (t.chan n).link.neg = false ∧ t.phase n = 0
    (∀ v, Completes s (.iterMaxWrite o n v) always (fun _ t =>
        t.fld (Reg.fecCtrl n) 4 0 = v.toNat
        ∧ (s.zUp n = false → t.iterEff n = iterActs v.toNat ∧ (iterActs v.toNat ≠ s.iterEff n → t.bit (Reg.fecStatus n) 4 = false))
        ∧ (s.zUp n = true → t.iterEff n = s.iterEff n ∧ t.bit (Reg.fecStatus n) 4 = decide (iterActs v.toNat ≠ s.iterEff n))))
    ∧ (∀ u : Fin 3, Completes s (.fecUnitFenceSet o n u) always (fun _ t => t.bit (Reg.fecUnitFence n) u.val = true))
    ∧ (∀ u : Fin 3, Completes s (.fecUnitFenceRemove o n u) always (fun _ t => t.bit (Reg.fecUnitFence n) u.val = false))
    ∧ (∀ d, Completes s (.rxGainWrite o n d) always (fun w t =>
        t.fld (Reg.afeRxGain n) 5 0 = bits w 5 0 ∧ t.fld (Reg.afeRxGain n) 8 8 = bits w 8 8
        ∧ (s.linkUp n = true → t.bit (Reg.afeGainStatus n) 29 = true ∧ t.fld (Reg.afeGainStatus n) 5 0 = s.fld (Reg.afeGainStatus n) 5 0)
        ∧ (s.linkUp n = false → t.bit (Reg.afeGainStatus n) 29 = false ∧ t.fld (Reg.afeGainStatus n) 5 0 = min (bits w 5 0) 48
            ∧ t.fld (Reg.afeGainStatus n) 8 8 = bits w 8 8)))
    ∧ (∀ d, Completes s (.dfeTapsWrite o n d) (fun w => min (bits w 2 0) 4 ≠ s.dfeTaps n) (fun w t =>
        t.fld (Reg.eqDfeCtrl n) 2 0 = bits w 2 0
        ∧ (s.zUp n = true → (t.chan n).rx.dfeWait = true)
        ∧ (s.zUp n = false → (t.chan n).rx.taps = min (bits w 2 0) 4 ∧ (t.chan n).rx.dfeWait = false)))
    ∧ (∀ mode, Completes s (.timingModeWrite o n mode) (fun w => s.timingRefused n w = false) (fun _ t =>
        t.bit (Reg.eqTrCtrl n) 0 = mode ∧ (mode ≠ s.bit (Reg.eqTrCtrl n) 0 → t.bit (Reg.eqTrStatus n) 29 = true)))
    ∧ (∀ bw, Completes s (.timingBwWrite o n bw) (fun w => s.timingRefused n w = false) (fun _ t => t.fld (Reg.eqTrCtrl n) 5 4 = bw.toNat))
    ∧ (∀ d, Completes s (.nfListenWrite o n d) (fun w => w.getLsbD 0 = true → s.linkUp n = false) (fun w t =>
        t.reg (Reg.eqNfCtrl n) &&& 0xFF1 = w &&& 0xFF1 ∧ (w.getLsbD 0 = true → s.bit (Reg.eqNfCtrl n) 0 = false → idle t)))
    ∧ Completes s (.anEnable o n) (fun w => s.bit (Reg.anAnCtrl n) 0 = false ∧ w.getLsbD 1 = false) (fun _ t =>
        t.bit (Reg.anAnCtrl n) 0 = true ∧ (s.linkUp n = false → (t.chan n).link.neg = (s.setBit (Reg.anAnCtrl n) 0 true).mayNegotiate n))
    ∧ Completes s (.anDisable o n) (fun _ => s.bit (Reg.anAnCtrl n) 0 = true) (fun _ t => t.bit (Reg.anAnCtrl n) 0 = false ∧ idle t)
    ∧ Completes s (.anRestart o n) (fun _ => s.bit (Reg.anAnCtrl n) 0 = true) (fun _ t =>
        (s.tdrRuns n = false → t.linkUp n = false) ∧ (s.tdrRuns n = true → (t.chan n).link.owedRestart = true))
    ∧ (∀ d, Completes s (.advWrite o n d) always (fun w t =>
        t.reg (Reg.anAdv n) &&& 0xF00003FF = w &&& 0xF00003FF
        ∧ (s.tdrRuns n = false → (t.chan n).link.removed = 0 ∧ t.bit (Reg.anResolved n) 29 = false)
        ∧ (s.tdrRuns n = true → (t.chan n).link.owedAdv = true)))
    ∧ (∀ d, Completes s (.hlModeWrite o n d) always (fun w t =>
        t.fld (Reg.hlMode n) 3 0 = bits w 3 0 ∧ (t.hlMode n ≠ s.hlMode n → (t.chan n).hpll = {} ∧ t.bit Reg.clkHpllStatus n.val = false)))
    ∧ (∀ k : Fin 8, let e := evenCh k
        let odd := partnerCh e
        Completes s (.relayEnable o k) always (fun _ t =>
          t.bit (Reg.rlyCtrl e) 0 = true ∧ t.reg (Reg.rlyCtrl odd) = t.reg (Reg.rlyCtrl e)
          ∧ (s.pairReady e = true → s.pairReady odd = true → s.ownFence (.chan e .rly) = false → s.ownFence (.chan odd .rly) = false →
              t.rlyActive e = true ∧ t.rlyActive odd = true))
        ∧ Completes s (.relayDisable o k) always (fun _ t =>
          t.bit (Reg.rlyCtrl e) 0 = false ∧ t.reg (Reg.rlyCtrl odd) = t.reg (Reg.rlyCtrl e) ∧ t.rlyActive e = false ∧ t.rlyActive odd = false)
        ∧ ∀ tap, Completes s (.relayTapWrite o k tap) always (fun _ t =>
          t.bit (Reg.rlyCtrl e) 1 = tap ∧ t.reg (Reg.rlyCtrl odd) = t.reg (Reg.rlyCtrl e) ∧ t.bit (Reg.rlyStatus e) 1 = (tap && t.rlyActive e)))
    ∧ (∀ hold, Completes s (.diagHoldWrite o n hold) always (fun _ t => t.bit (Reg.diagDiagCtrl n) 1 = hold ∧ (hold = false → (t.chan n).diag.newest = none)))
    ∧ (let loops (k : Nat) (t : State) : Prop := t.fld (Reg.diagLbCtrl n) 1 0 = k
          ∧ (k ≠ s.fld (Reg.diagLbCtrl n) 1 0 → k ≠ 3 → s.lineReady n = true → s.pattern n = 0 → t.linkUp n = false ∧ t.phase n = (if k = 0 then 0 else 2))
       Completes s (.loopbackNearDigital o n) (fun w => s.lbRefused n w = false) (fun _ t => loops 1 t)
       ∧ Completes s (.loopbackNearAnalog o n) (fun w => s.lbRefused n w = false) (fun _ t => loops 2 t)
       ∧ Completes s (.loopbackFarEnd o n) (fun w => s.lbRefused n w = false) (fun _ t => loops 3 t)
       ∧ Completes s (.loopbackOff o n) (fun _ => s.nearLb n = true) (fun _ t => loops 0 t)
       ∧ Completes s (.loopbackOff o n) (fun _ => s.nearLb n = false) (fun _ t => t.fld (Reg.diagLbCtrl n) 1 0 = 0))
    ∧ (∀ pat, Completes s (.testPatternSelect o n pat) (fun w => s.tpRefused n w = false) (fun _ t =>
        t.fld (Reg.diagTpCtrl n) 2 0 = pat.toNat
        ∧ (s.pattern n = 0 → t.pattern n ≠ 0 → idle t)))

/-- The commands of time, comets and captures that are one register write complete with their effect: a source configuration is stored and changes no timescale yet; a timestamp is popped; routes and schedule entries are loaded, committed or cleared in their staging registers or tables, with their index moved on by INC; a partition waits for its moon edge; captures are released, cleared or read; a capture of time is asked for; the time operations that are not refused give group time its new value and count; the manual offset, the leap table and its expiry, and the trend's selection are taken. It rests on the model's choices of notes/assumptions 126 and 131. -/
def Obligations.TimeAndCometCommandsTakeEffect : Prop :=
  ∀ (s : State) (o : Origin), s.Canonical →
    let always : Word → Prop := fun _ => True
    (∀ (g : Tg) d, Completes s (.srcCtrlWrite o g d) always (fun w t =>
        t.reg (Reg.tkGrpSrcCtrl g.val) &&& 0xFFF3 = w &&& 0xFFF3 ∧ t.groups = s.groups))
    ∧ (∀ n, Completes s (.ptpPop o n) always (fun _ t => (t.chan n).ktl.ptp = (s.chan n).ktl.ptp.drop 1))
    ∧ (∀ inc, let k := s.rtKey
        let moved (t : State) : Prop := t.fld Reg.cmtRtIndex 7 0 = (if inc = true then (k + 1) % 256 else s.fld Reg.cmtRtIndex 7 0)
        Completes s (.routeLoad o inc) always (fun _ t => t.reg Reg.cmtRtRange = (s.route k).1 ∧ t.reg Reg.cmtRtMask = (s.route k).2 ∧ moved t)
        ∧ Completes s (.routeCommit o inc) always (fun _ t =>
            t.route k = (s.reg Reg.cmtRtRange, s.reg Reg.cmtRtMask) ∧ (∀ j, j ≠ k → t.route j = s.route j) ∧ moved t))
    ∧ (∀ (g : Tg) d, Completes s (.partWrite o g d) (fun w => s.partRefused g w = false) (fun w t =>
        t.reg (Reg.cmtGrpPart g.val) &&& 0xFF7F = w &&& 0xFF7F ∧ t.cmt.partPend[g].isSome = true))
    ∧ (∀ inc, let e := s.cmtwEntry
        let moved (t : State) : Prop := t.cmtwEntry = (if inc = true then (e + 1) % 131072 else e) ∧ t.bit Reg.cmtwStatus 30 = false
        let others (t : State) (P : Nat → Nat → Prop) : Prop := ∀ e' w, w < 8 → ¬ P e' w → t.schedWord e' w = s.schedWord e' w
        Completes s (.scheduleLoad o inc) always (fun _ t => (∀ w, w < 8 → t.reg (Reg.cmtwW w) = s.schedWord e w) ∧ t.cmt.sched = s.cmt.sched ∧ moved t)
        ∧ Completes s (.scheduleCommit o inc) (fun _ => s.cmtwRefused 2 = false) (fun _ t =>
            (∀ w, w < 8 → t.schedWord e w = s.reg (Reg.cmtwW w)) ∧ others t (fun e' _ => e' = e) ∧ moved t)
        ∧ Completes s (.scheduleCommitW0 o inc) (fun _ => s.cmtwRefused 4 = false) (fun _ t =>
            t.schedWord e 0 = s.reg (Reg.cmtwW 0) ∧ others t (fun e' w => e' = e ∧ w = 0) ∧ moved t)
        ∧ Completes s (.scheduleClear o inc) (fun _ => s.cmtwRefused 3 = false) (fun _ t =>
            (∀ w, w < 8 → t.schedWord e w = 0) ∧ others t (fun e' _ => e' = e) ∧ moved t))
    ∧ (∀ d, Completes s (.captureAck o d) always (fun w t =>
        t.reg Reg.capAckSeq = s.ackActs w ∧ t.cap.log = s.cap.log.take ((s.reg Reg.capWrSeq - s.ackActs w).toNat) ∧ t.reg Reg.capWrSeq = s.reg Reg.capWrSeq))
    ∧ Completes s (.captureClear o) always (fun _ t =>
        t.cap.log = [] ∧ t.reg Reg.capAckSeq = s.reg Reg.capWrSeq ∧ t.reg Reg.capOldestSeq = s.reg Reg.capWrSeq ∧ t.reg Reg.capFill = 0)
    ∧ (∀ d, Completes s (.captureReadLoad o d) always (fun w t =>
        t.reg Reg.capwRdSeq = w ∧ (∀ e, e < 16 → t.bit Reg.capwStatus e = (s.capAt (w + BitVec.ofNat 32 e)).isSome) ∧ t.cap = s.cap))
    ∧ Completes s (.timeCaptureRequest o) always (fun _ t => t.tk = { s.tk with capReq := some (s.tk.capReq.getD s.now) })
    ∧ (∀ g : Tg, let done (op : Nat) (t : State) : Prop := (t.group g).ts = s.timeAfter g op
          ∧ t.bit Reg.tkSetStatus 31 = false ∧ t.fld Reg.tkSetStatus 15 0 = (s.fld Reg.tkSetStatus 15 0 + 1) % 65536
          ∧ t.bit (Reg.tkGrpTstat g.val) 0 = true ∧ ∀ h, h ≠ g → (t.group h).ts = (s.group h).ts
        Completes s (.timeSet o g) (fun _ => s.timeRefused g 1 = false) (fun _ t => done 1 t)
        ∧ Completes s (.timeStep o g) (fun _ => s.timeRefused g 2 = false) (fun _ t => done 2 t)
        ∧ Completes s (.timeSetSec o g) (fun _ => s.timeRefused g 3 = false) (fun _ t => done 3 t))
    ∧ (∀ d, Completes s (.taiUtcWrite o d) (fun _ => s.leapValid = false) (fun w t => t.fld Reg.tkTaiUtc 15 0 = bits w 15 0 ∧ t.tk = s.tk))
    ∧ Completes s (.leapAdd o) (fun _ => s.tk.leap.length < 200) (fun _ t => t.tk = { s.tk with leap := leapPut s.tk.leap s.leapArg })
    ∧ Completes s (.leapClear o) always (fun _ t => t.tk = { s.tk with leap := [] })
    ∧ Completes s (.leapSetExpiry o) always (fun _ t => t.tk = { s.tk with leapExp := s.leapArg.1 })
    ∧ (∀ d, Completes s (.trendSelWrite o d) always (fun w t =>
        t.fld Reg.lifeTrendSel 11 0 = bits w 11 0
        ∧ t.life.fetchBy = (if s.nvmReady = true then some (s.now + us 4) else none)
        ∧ t.reg Reg.lifeTrendRd = (if s.nvmReady = true then 0x80000000 else 0)))

/-- The commands of clocks, power, trims, the alarm unit, pin drivers and tenancy that are one register write complete with their effect: a clock output that is turned off, or changed in what makes it relock, loses its lock; power requests become what the domains move toward; APPLY_EN = 0 leaves no trim change waiting; the fail log shows the selected entry; SW_LEVEL and REARM act on ALARM_N, and the keyed SAFE_CMD enters the safe state; driver fences hold as written; channels wait for their new group. It rests on the model's choices of notes/assumptions 137 and 140. -/
def Obligations.PowerAndAlarmCommandsTakeEffect : Prop :=
  ∀ (s : State) (o : Origin), s.Canonical →
    let always : Word → Prop := fun _ => True
    (∀ (k : Fin 2) d, Completes s (.clkoutCtrlWrite o k d) always (fun w t =>
        let x := s.reg (Reg.clkClkoutCtrl k.val) ^^^ w
        t.reg (Reg.clkClkoutCtrl k.val) &&& 0xFFBF7F00 = w &&& 0xFFBF7F00
        ∧ (w.getLsbD 31 = false → t.clk.opll[k] = {} ∧ t.bit (Reg.clkClkoutStatus k.val) 1 = true)
        ∧ ((bits x 31 31 ≠ 0 ∨ bits x 29 24 ≠ 0) → t.clk.opll[k] = {} ∧ t.bit (Reg.clkClkoutStatus k.val) 0 = false)))
    ∧ (∀ n d, Completes s (.powerRequest o n d) (fun _ => s.rst.phase = .ready) (fun w t =>
        t.reg (Reg.pwrChReq n.val) &&& 0x3F = w &&& 0x3F
        ∧ (t.chan n).dsp.want = pstateOf (bits w 5 4) ∧ (t.chan n).afe.want = pstateOf (bits w 3 2) ∧ (t.chan n).hl.want = pstateOf (bits w 1 0)))
    ∧ (∀ d, Completes s (.nvmPowerRequest o d) (fun _ => s.rst.phase = .ready) (fun w t =>
        t.fld Reg.pwrNvmReq 1 0 = bits w 1 0 ∧ t.nvmDom.want = pstateOf (bits w 1 0)))
    ∧ (∀ en, Completes s (.trimApplyEnWrite o en) always (fun _ t =>
        t.bit Reg.trimCtrl 0 = en ∧ (en = false → ∀ n, (t.chan n).trim.newest = none)))
    ∧ (∀ d, Completes s (.failLogSelect o d) always (fun w t =>
        let e := s.bist.failLog.find? (fun e => e.1 == BitVec.ofNat 16 (bits w 15 0))
        t.fld Reg.bistFailSel 15 0 = bits w 15 0 ∧ t.reg Reg.bistFailStatus = BitVec.ofNat 32 (b2n e.isSome)
        ∧ t.reg (Reg.bistFailW 0) = (e.map (·.2.1)).getD 0 ∧ t.reg (Reg.bistFailW 1) = (e.map (·.2.2.1)).getD 0 ∧ t.reg (Reg.bistFailW 2) = (e.map (·.2.2.2)).getD 0))
    ∧ (∀ level, Completes s (.alarmSwLevelWrite o level) (fun w => w.getLsbD 30 = false) (fun _ t =>
        t.bit Reg.alrmCtrl 31 = level ∧ t.alarm = s.alarm ∧ t.bit Reg.alrmStatus 29 = (s.alarm == 1 || s.alarm == 3 || level)))
    ∧ Completes s (.alarmRearm o) (fun _ => s.alarm = 2) (fun _ t => t.alarm = 0 ∧ t.bit Reg.alrmStatus 29 = s.bit Reg.alrmCtrl 31)
    ∧ Completes s (.safeCmd o) (fun _ => s.safeState = false) (fun _ t =>
        t.safeState = true ∧ t.fld Reg.alrmStatus 27 24 = 3 ∧ t.bit Reg.alrmStatus 29 = true ∧ t.bit (hdr (.dev .alrm) hIntStatus) 1 = true
        ∧ (∀ n, t.linkUp n = false) ∧ ∀ k : Fin 2, t.bit (Reg.clkClkoutStatus k.val) 1 = true)
    ∧ (∀ k : Fin 16, Completes s (.trigDriverFenceSet o k) always (fun _ t => t.bit Reg.trigDrvFence k.val = true))
    ∧ (∀ k : Fin 16, Completes s (.trigDriverFenceRemove o k) always (fun _ t => t.bit Reg.trigDrvFence k.val = false))
    ∧ (∀ d, Completes s (.tgChMapWrite o d) always (fun w t =>
        t.reg Reg.tgChMap = w
        ∧ ∀ n, (t.chan n).tgPend = (if t.tgWant n = t.tgOf n then none else some ((s.chan n).tgPend.getD s.now))))

/-- A LOCK write by an origin that can hold locks makes it the holder of a page that is not held, renews or releases its own lease, and changes neither holder nor lease of another's, setting CONTENDED; a 1 in CONTENDED or BROKEN clears that bit first. By any other origin it changes no bit of LOCK and no lease, and is entered with IGNORED. When a page's lease has run out, the device breaks the lock: an entry by origin 0x20 with LOCK_BROKEN, HELD and HOLDER 0, BROKEN and LOCK_EVT set, and no deadline left; while the lease runs, or with no lock held, nothing changes. It rests on the model's choices of notes/assumptions 11, 25 and 26. -/
def Obligations.LocksAreTakenKeptAndBroken : Prop :=
  (∀ (o : Origin) (p : Page) (d : Word) (s : State), s.Canonical → s.mayAccess o = true →
      let L := hdr p hLock
      let due (t : State) : Nat := Store.get (fun _ => 0) t.leases (pageBase p)
      let lease := min (bits d 13 0) 16000
      let mine : Prop := s.lockHeld p = true ∧ s.lockHolder p = originCode o
      let other : Prop := s.lockHeld p = true ∧ s.lockHolder p ≠ originCode o
      ∃ t, exec (.lockWrite o p d) s = .next t
        ∧ Unchanged [.regs, .leases, .jrnl] s t
        ∧ RegFrame (fun a => a = L ∨ a = hdr p hIntStatus ∨ entryRegs p a) s t
        ∧ (originExternal o = false →
            t.reg L = s.reg L ∧ t.leases = s.leases ∧ Entered s t (originCode o) L (s.contents L) d (fIgnored + fData))
        ∧ (originExternal o = true →
            ((s.lockHeld p = false ∨ mine) → 1 ≤ bits d 13 0 →
              t.lockHeld p = true ∧ t.lockHolder p = originCode o ∧ due t = s.now + ms lease)
            ∧ (mine → bits d 13 0 = 0 → t.lockHeld p = false ∧ t.lockHolder p = 0 ∧ due t = 0)
            ∧ (s.lockHeld p = false → bits d 13 0 = 0 → t.lockHeld p = false)
            ∧ (other → t.lockHeld p = true ∧ t.lockHolder p = s.lockHolder p ∧ due t = due s
                ∧ t.bit L 30 = true ∧ t.bit (hdr p hIntStatus) intLock = true)
            ∧ (¬ other → t.bit L 30 = (s.bit L 30 && !d.getLsbD 30))
            ∧ t.bit L 29 = (s.bit L 29 && !d.getLsbD 29)))
  ∧ (∀ (p : Page) (s : State), s.Canonical →
      let L := hdr p hLock
      let due : Nat := Store.get (fun _ => 0) s.leases (pageBase p)
      (s.lockHeld p = true → due ≤ s.now →
        ∃ t u, exec (.leaseExpiry p) s = .next t
          ∧ Entered s u 0x20 L (s.lockWord p) (s.lockWord p &&& 0x60000000) fBroken ∧ t.jrnl = u.jrnl
          ∧ t.lockHeld p = false ∧ t.lockHolder p = 0 ∧ Store.get (fun _ => 0) t.leases (pageBase p) = 0
          ∧ t.bit L 29 = true ∧ t.bit (hdr p hIntStatus) intLock = true
          ∧ Unchanged [.regs, .leases, .jrnl] s t
          ∧ RegFrame (fun a => a = L ∨ a = hdr p hIntStatus ∨ entryRegs p a) s t)
      ∧ (s.lockHeld p = false ∨ s.now < due → exec (.leaseExpiry p) s = .next s))

/-- At its instant, a moon edge after the REQ or, for a channel whose link is up in a Z mode, an orbit boundary, a snapshot is taken of the page whose REQ waits, or in CHn.CH and DEV, with ALL, of every page of the channel or of the device: every held register's contents at that instant are what the snapshot holds, and SNAP_ID rises by 1 modulo 2^16, DONE is set, REQ clears and SNAP_DONE is set on each; where the conserved quantities of those pages balance, nothing else changes, and one that fails raises LOGIC in its page (R419). Before that instant, and where no request waits, nothing happens. It rests on the model's choice of notes/assumptions 33. -/
def Obligations.SnapshotHoldsItsPages : Prop :=
  ∀ (p : Page) (s : State), s.Canonical →
    let covered : List Page :=
      if p = coverOf p ∧ s.bit (hdr p hSnap) 3 = true then (match p with | .chan n _ => pagesOf n | .dev _ => allDevPages.map Page.dev) else [p]
    (s.bit (hdr p hSnap) 0 = false ∨ s.snapDue p = false → exec (.snapTaken p) s = .next s)
    ∧ (s.bit (hdr p hSnap) 0 = true → s.snapDue p = true →
      ((∀ q ∈ covered, s.balanced q = true) →
        ∃ t, exec (.snapTaken p) s = .next t
          ∧ (∀ q ∈ covered,
              (∀ a ∈ heldRegs q, Store.get resetWord t.snap a = s.contents a)
              ∧ t.fld (hdr q hSnap) 31 16 = (s.fld (hdr q hSnap) 31 16 + 1) % 2 ^ 16
              ∧ t.fld (hdr q hSnap) 1 0 = 2 ∧ t.fld (hdr q hSnap) 3 2 = s.fld (hdr q hSnap) 3 2
              ∧ t.bit (hdr q hIntStatus) intSnap = true)
          ∧ Unchanged [.regs, .snap] s t
          ∧ RegFrame (fun a => ∃ q ∈ covered, a = hdr q hSnap ∨ a = hdr q hIntStatus) s t)
      ∧ (covered = [p] → s.balanced p = false → (match p with | .chan n q => s.faultMuted n q 3 | .dev q => s.devMuted q 3 0) = false →
          ∃ t, exec (.snapTaken p) s = .next t ∧ (∀ a ∈ heldRegs p, Store.get resetWord t.snap a = s.contents a)
            ∧ t.bit (hdr p hFaultStatus) 3 = true))

/-- RESET_N low for 10 µs or more, or the keyed DEV.RESET 1 µs after its second write, puts the system domain into reset: every switched domain leaves ON, locks, leases, held writes, snapshots, jobs, comets, captures and clock state go, every register outside TK, LIFE, JRNL and the time engines reads its reset value; the island's groups keep their time, the NVM its bytes and fenced sectors, the repairs that wait stay, and where no write was posted outside TK and LIFE the ring and its pointers stay as they were, an archive fetch that ran apart. A low pulse of RESET_N below 1 µs does nothing; one between can reset or not. It rests on the model's choices of notes/assumptions 4, 43 and 46. -/
def Obligations.SystemResetKeepsOnlyTheIsland : Prop :=
  (∀ (low : Nat) (s : State), low < 1000 → exec (.resetN low) s = .next s)
  ∧ (∀ (low : Nat) (s : State), 1000 ≤ low → low < 10000 → ∃ t, exec (.resetN low) s = .next t ∧ (t = s.tookFree ∨ t.rst.phase = .inReset))
  ∧ ∀ (c : Instr) (k : StartKind) (s : State),
    ((∃ low, c = .resetN low ∧ 10000 ≤ low) ∧ k = .resetN) ∨ (c = .devResetBegin ∧ k = .devReset ∧ ∃ o at' keep, s.rst.go = some (o, at', keep) ∧ at' + us 1 ≤ s.now) →
    (∀ o at' keep, c = .devResetBegin → s.rst.go = some (o, at', keep) → keep = false) →
    ∃ t, exec c s = .next t
      ∧ t.rst.phase = .inReset ∧ t.rst.kind = k ∧ t.rst.armed = none ∧ t.rst.go = none ∧ t.rst.straps = s.rst.straps
      ∧ t.nvmDom.eff = .off ∧ (∀ n, (t.chan n).dsp.eff = .off ∧ (t.chan n).afe.eff = .off ∧ (t.chan n).hl.eff = .off)
      ∧ t.leases = [] ∧ t.heldWrites = [] ∧ t.snap = [] ∧ t.jobs = {} ∧ t.clk = {} ∧ t.trig = {} ∧ t.cap = {}
      ∧ (∀ a, (∀ p, pageOf a = some p → p ≠ .dev .tk ∧ p ≠ .dev .life ∧ p ≠ .dev .jrnl ∧ ∀ n, p ≠ .chan n .ktl) → t.reg a = resetWord a)
      ∧ (∀ g, (t.group g).ts = (s.group g).ts)
      ∧ t.nvm.mem = s.nvm.mem ∧ t.nvm.sectFence = s.nvm.sectFence ∧ t.bist.pend = s.bist.pend ∧ t.tk = s.tk
      ∧ (∀ n, (t.chan n).rx.badSlices = (s.chan n).rx.badSlices ∧ (t.chan n).rx.badSegs = (s.chan n).rx.badSegs)
      ∧ ((∀ w ∈ s.posted, pdomAt w.addr = .tpll) → t.jrnl = { s.jrnl with fetch := none } ∧ t.posted = s.posted)

/-- A keyed DEV.RESET whose second write asked to keep coefficients keeps those of every channel whose DSP domain is ON and whose link is up: its DSP domain goes to RETAIN with the echo canceller's coefficients and the FFE's main tap, and the next train may be warm; every other channel loses them. An armed DEV.RESET sequence whose second write has not come within 1 ms lapses: DEV.RESET reads 0 again, entered as a write by origin 0x20 from 1 to 0; before that, and where nothing is armed, nothing happens. It rests on the model's choice of notes/assumptions 6. -/
def Obligations.KeyedResetsLapseOrKeepCoefficients : Prop :=
  (∀ (o : Origin) (at' : Nat) (keep : Bool) (s : State), s.rst.go = some (o, at', keep) → at' + us 1 ≤ s.now →
      ∃ t, exec .devResetBegin s = .next t ∧ t.rst.byOrigin = originCode o
        ∧ ∀ n, if keep = true ∧ (s.chan n).dsp.eff = .on ∧ s.linkUp n = true then
              (t.chan n).dsp.eff = .retain ∧ (t.chan n).coefKept = true ∧ (t.chan n).rx.ec = (s.chan n).rx.ec ∧ (t.chan n).rx.main = (s.chan n).rx.main
            else (t.chan n).dsp.eff = .off ∧ (t.chan n).coefKept = false ∧ (t.chan n).rx.ec = [] ∧ (t.chan n).rx.main = 10)
  ∧ (∀ s : State,
      (∀ o at', s.rst.armed = some (o, at') → at' + ms 1 ≤ s.now →
        ∃ t, exec .devResetLapse s = .next t ∧ t.rst = { s.rst with armed := none } ∧ t.contents (hdr (.dev .dev) 0x110) = 0
          ∧ Entered s t 0x20 (hdr (.dev .dev) 0x110) 1 0 0
          ∧ Unchanged [.regs, .jrnl, .rst] s t ∧ RegFrame (entryRegs (.dev .dev)) s t)
      ∧ (∀ o at', s.rst.armed = some (o, at') → s.now < at' + ms 1 → exec .devResetLapse s = .next s)
      ∧ (s.rst.armed = none → exec .devResetLapse s = .next s))

/-- Losing the core supply, surely below the detector's threshold less its tolerance and never above it plus its tolerance, puts the system domain into reset and loses every memory of the system, NVM and channel domains, the journal's ring among them; the island runs on with the posted writes that wait in it, and the NVM keeps its bytes. A VAO power-on reset restarts the whole device, so that nothing but the NVM's bytes and fenced sectors outlives it (the model's own clock, free-value counter and queue stand beside the device). It rests on the model's choices of notes/assumptions 3 and 4. -/
def Obligations.PowerLossKeepsOnlyWhatIsPowered : Prop :=
  ∀ (mv : Nat) (s : State),
    (610 < mv → exec (.corePowerLoss mv) s = .next s ∧ exec (.vaoPowerOnReset mv) s = .next s)
    ∧ (mv < 550 → ∃ t, exec (.corePowerLoss mv) s = .next t
      ∧ t.rst.phase = .inReset ∧ t.rst.kind = .corePower ∧ t.nvmDom.eff = .off
      ∧ t.chans = Vector.replicate 16 {} ∧ t.jrnl = {} ∧ t.posted = s.posted.filter (fun w => pdomAt w.addr == PDom.tpll) ∧ t.heldWrites = [] ∧ t.leases = [] ∧ t.retained = [] ∧ t.snap = []
      ∧ t.jobs = {} ∧ t.clk = {} ∧ t.bist = {} ∧ t.alrm = {} ∧ t.nvm.mem = s.nvm.mem ∧ t.nvm.sectFence = s.nvm.sectFence ∧ t.tk = s.tk
      ∧ (∀ g, (t.group g).ts = (s.group g).ts)
      ∧ (∀ a, (∀ p, pageOf a = some p → p ≠ .dev .tk ∧ p ≠ .dev .life ∧ p ≠ .dev .jrnl ∧ ∀ n, p ≠ .chan n .ktl) → t.reg a = resetWord a))
    ∧ (mv < 550 → exec (.vaoPowerOnReset mv) s = .next { State.reset with
        now := s.now, freeCtr := s.freeCtr, pending := s.pending
        nvm := { mem := s.nvm.mem, sectFence := s.nvm.sectFence }, tk := { judgeAt := s.now, tkrAt := s.now } })

/-- START_UP takes the system domain out of reset with the straps sampled, the NVM domain ON, nothing owed to the journal any more, and DEV.RESET not armed by what came before; it acts only on a system domain in reset. The host port becomes ready once SPLL's gate is open or 40 ms have passed since reset was left, with nothing left of the start-up record; until then, and before the start or after it, nothing happens. It rests on the model's choice of notes/assumptions 42. -/
def Obligations.StartLeadsToAReadyHostPort : Prop :=
  (∀ (straps : BitVec 3) (s : State),
      (s.rst.phase = .inReset →
        ∃ t, exec (.startUp straps) s = .next t ∧ t.rst.phase = .started ∧ t.rst.leftAt = s.now ∧ t.rst.straps = straps
          ∧ t.nvmDom.eff = .on ∧ t.rst.armed = none ∧ t.contents (hdr (.dev .dev) 0x110) = 0
          ∧ t.rst.owed = none ∧ t.rst.interrupted = 0 ∧ t.rst.owedBreaks = [] ∧ t.rst.owedIsland = [] ∧ t.rst.kind = s.rst.kind)
      ∧ (s.rst.phase ≠ .inReset → exec (.startUp straps) s = .next s))
  ∧ (∀ s : State,
      (s.rst.phase = .started → (s.clk.spll.gate = true ∨ s.rst.leftAt + ms 40 ≤ s.now) →
        ∃ t, exec .hostPortReady s = .next t ∧ t.rst.phase = .ready ∧ t.rst.record = [] ∧ t.rst.afterVao = false)
      ∧ (s.rst.phase = .started → s.clk.spll.gate = false → s.now < s.rst.leftAt + ms 40 → exec .hostPortReady s = .next s)
      ∧ (s.rst.phase ≠ .started → exec .hostPortReady s = .next s))

/-- The system domain leaves ON only under RESET_N, a VAO power-on reset, a loss of the core supply, or the keyed DEV.RESET, 1 µs after its second write; each of these moves it out of ON. The second write, by the origin that armed the sequence and within 1 ms of the first, is taken; no other register write moves the domain. -/
def Obligations.SystemDomainLeavesOnOnlyByItsResets : Prop :=
  (∀ (c : Instr) (s t : State), exec c s = .next t → s.rst.phase ≠ .inReset → t.rst.phase = .inReset →
      (∃ low, c = .resetN low ∧ 1000 ≤ low) ∨ (∃ mv, (c = .vaoPowerOnReset mv ∨ c = .corePowerLoss mv) ∧ mv ≤ 610)
        ∨ (c = .devResetBegin ∧ ∃ o at_ keep, s.rst.go = some (o, at_, keep) ∧ at_ + us 1 ≤ s.now))
  ∧ (∀ s : State,
      (∀ low, 10000 ≤ low → ∃ t, exec (.resetN low) s = .next t ∧ t.rst.phase = .inReset)
      ∧ (∀ mv, mv < 550 → ∃ t, exec (.vaoPowerOnReset mv) s = .next t ∧ t.rst.phase = .inReset)
      ∧ (∀ mv, mv < 550 → ∃ t, exec (.corePowerLoss mv) s = .next t ∧ t.rst.phase = .inReset)
      ∧ (∀ o at_ keep, s.rst.go = some (o, at_, keep) → at_ + us 1 ≤ s.now → ∃ t, exec .devResetBegin s = .next t ∧ t.rst.phase = .inReset))
  ∧ (∀ (s : State) (o : Origin) (at_ : Nat) (keep : Bool),
      s.rst.armed = some (o, at_) → s.now ≤ at_ + ms 1 → s.Serves o (.dev .dev) 0x110 →
      ∃ t, exec (.devResetGo o keep) s = .next t ∧ t.rst.go = some (o, s.now, keep) ∧ t.rst.armed = none ∧ t.rst.phase = s.rst.phase)

/-- A token is issued once the instant for it has come and BUDGET, at most 48 pages per second, is not 0: the bucket gains one, up to 8, and the next may be issued 1 s / BUDGET later; else nothing happens. FLUSH_AGE expires when the oldest entry that awaits its commit took effect longer ago than that age, or has left the ring. When a commit is due, no other job is at the NVM and a device slot is free, one archive page is written: the entries that the page holds from a partial commit stay, the next entries follow in order, the rest reads erased; one token goes, the commit sequence moves on past the entries written and past any that a gap record just reported lost, which sets GAP and both ports' JRNL_GAP, and every NVM byte outside the page stays. When no commit is due, or one is at work, nothing happens. It rests on the model's choices of notes/assumptions 6, 75, 78, 79, 147 and 165. -/
def Obligations.JournalCommitsFollowTokensAndAge : Prop :=
  (∀ s : State,
      let b := min (s.fld Reg.jrnlCommitCtrl 5 0) 48
      (b ≠ 0 → s.jrnl.tokenAt ≤ s.now →
        exec .tokenIssue s = .next { s with jrnl := { s.jrnl with tokens := min (s.jrnl.tokens + 1) 8, tokenAt := s.now + sec 1 / b } })
      ∧ ((b = 0 ∨ s.now < s.jrnl.tokenAt) → exec .tokenIssue s = .next s)
      ∧ (∀ e, s.jrnl.ringAt s.jrnl.seqCommit = some e → s.jrnl.seqCommit ≠ s.jrnl.seqNext →
          exec .flushAgeExpiry s =
            .next (if e.tookAt + sec (max 1 (s.fld Reg.jrnlCommitCtrl 15 8)) < s.moonEdge then { s with jrnl := { s.jrnl with aged := true } } else s))
      ∧ (s.jrnl.ringAt s.jrnl.seqCommit = none → s.jrnl.seqCommit ≠ s.jrnl.seqNext →
          exec .flushAgeExpiry s = .next { s with jrnl := { s.jrnl with aged := true } })
      ∧ (s.jrnl.seqCommit = s.jrnl.seqNext → exec .flushAgeExpiry s = .next s))
  ∧ (∀ s : State, s.Canonical →
      (s.commitDue = true → s.devHas 3 0 argJournal = false → s.jobs.waiting = [] → (∀ i, (s.slot i).busy = true → jobUnit (s.slot i) ≠ 0) →
        ∀ k, s.devSlot = some k →
        ∃ t u v p es, exec .journalCommit s = .next t
          ∧ u = (s.devRequest 3 0 argJournal).stepTaken k ∧ v = u.gapsBefore
          ∧ p = (if v.pageFree v.jrnl.nextPage = true then v.jrnl.nextPage else v.pageAfter v.jrnl.nextPage)
          ∧ (let fill := if p = v.jrnl.nextPage then v.jrnl.pageFill else 0
             let a := areaJournal + 2048 * p
             let body := s.nvm.bytes a (32 * fill) ++ es.flatMap (fun e => e.e.bytes)
             let page := body ++ List.replicate (2048 - body.length) erased
             es = v.jrnl.toCommit (64 - fill) v.jrnl.seqCommit
             ∧ (∀ i (h : i < page.length), t.nvm.byte (a + i) = page[i])
             ∧ (∀ x, x < a ∨ a + page.length ≤ x → t.nvm.byte x = s.nvm.byte x)
             ∧ t.jrnl.seqCommit = v.jrnl.seqCommit + BitVec.ofNat 32 es.length
             ∧ t.jrnl.tokens = s.jrnl.tokens - 1
             ∧ t.jrnl.pageFill = (if 64 ≤ fill + es.length then 0 else fill + es.length)
             ∧ t.jrnl.nextPage = (if 64 ≤ fill + es.length then t.pageAfter p else p)
             ∧ t.nvm.sectFence = s.nvm.sectFence
             ∧ (v.jrnl.seqCommit ≠ u.jrnl.seqCommit →
                t.host.hsa.gap = true ∧ t.host.hsb.gap = true ∧ t.bit (hdr (.dev .jrnl) hIntStatus) 0 = true)))
      ∧ (s.commitDue = false ∨ s.devHas 3 0 argJournal = true → exec .journalCommit s = .next s))

/-- When an archive fetch ends, the ENTRY words hold the archive's newest copy of the sequence with VALID = 1, or 0 with VALID = 0 where the archive does not hold it or the NVM is out of service. A read of ENTRY_W7 with VALID = 1 advances RD_SEQ by 1 and, with the ring selected, loads the next entry; with VALID = 0 it changes nothing. It rests on the model's choices of notes/assumptions 10 and 76. -/
def Obligations.JournalReadingLoadsEntries : Prop :=
  ∀ s : State, s.Canonical →
    (∀ q due, s.jrnl.fetch = some (q, due) →
      ∃ t, exec .archiveFetchDone s = .next t ∧ t.ShowsEntry (if s.nvmReady = true then s.archiveFind q else none)
        ∧ t.jrnl = { s.jrnl with fetch := none }
        ∧ RegFrame (fun a => a = Reg.jrnlRdStatus ∨ ∃ k < 8, a = Reg.jrnlEntryW k) s t)
    ∧ (s.jrnl.fetch = none → exec .archiveFetchDone s = .next s)
    ∧ (∀ o, s.mayAccess o = true → s.accessErr (s.view1At o (Reg.jrnlEntryW 7)) (Reg.jrnlEntryW 7) false = none →
        (s.bit Reg.jrnlRdStatus 0 = false → exec (.entryW7Read o) s = .next s)
        ∧ (s.bit Reg.jrnlRdStatus 0 = true →
            ∃ t, exec (.entryW7Read o) s = .next t ∧ t.reg Reg.jrnlRdSeq = s.reg Reg.jrnlRdSeq + 1
              ∧ (s.bit Reg.jrnlRdCtrl 0 = false →
                  t.ShowsEntry (match s.jrnl.ringAt (s.reg Reg.jrnlRdSeq + 1) with | some e => if e.bad = true then none else some e.e.word | none => none))
              ∧ RegFrame (fun a => a = Reg.jrnlRdSeq ∨ a = Reg.jrnlRdStatus ∨ ∃ k < 8, a = Reg.jrnlEntryW k) s t))

/-- A job that starts takes the slot with a handle of its slot and the device-wide count; with a type, target or arguments that the rules refuse it ends in FAILED with their code, else it waits for the unit it needs, or runs at once; a running self-test takes a test port. A job that waits runs as soon as the unit it needs is available and the JOB page is not fenced; a device-started job that waits takes a free device slot, oldest first, its ARG0 where it has one, TYPE and TARGET written there and journaled with origin 0x20. Where the condition does not hold, nothing happens. It rests on the model's choices of notes/assumptions 81 and 82. -/
def Obligations.JobsStartWaitAndGoOn : Prop :=
  (∀ (s : State) (k : Fin 8) (dev : Bool) (typ target : Byte) (arg0 arg1 : Word), s.Canonical →
      ∃ u, Unchanged [.jobs] s u ∧ u.jobs.starts = s.jobs.starts + 1 ∧ u.jobs.slots = s.jobs.slots
        ∧ (let e := u.startErr dev typ target arg0
           let t := s.startJob k dev typ target arg0 arg1
           (t.slot k).typ = typ ∧ (t.slot k).target = target ∧ (t.slot k).arg0 = arg0 ∧ (t.slot k).arg1 = arg1
           ∧ (t.slot k).handle = BitVec.ofNat 16 (k.val * 2 ^ 13 + (s.jobs.starts + 1).toNat)
           ∧ (e ≠ 0 → t.JobEnded k .failed e)
           ∧ (e = 0 → u.jobReady typ arg0 = false → (t.slot k).st = .wait ∧ Unchanged [.jobs, .regs] s t)
           ∧ (e = 0 → u.jobReady typ arg0 = true → typ = 3 ∨ typ = 4 ∨ typ = 6 ∨ typ = 7 → (t.slot k).st = .run ∧ Unchanged [.jobs, .regs] s t)))
  ∧ (∀ (s : State),
      (∀ k, (s.slot k).st = .wait → s.jobReady (s.slot k).typ (s.slot k).arg0 = true → s.fenced (.dev .job) = false →
        ∃ t u, exec (.jobWaitClears k) s = .next t ∧ u.slot k = { s.slot k with st := .run } ∧ (∀ i, i ≠ k → u.slot i = s.slot i)
          ∧ Unchanged [.jobs, .regs] s u ∧ t = u.jobRuns k (u.slot k)
          ∧ ((s.slot k).typ = 3 ∨ (s.slot k).typ = 4 ∨ (s.slot k).typ = 6 ∨ (s.slot k).typ = 7 → t = u))
      ∧ (∀ k, ((s.slot k).st ≠ .wait ∨ s.jobReady (s.slot k).typ (s.slot k).arg0 = false ∨ s.fenced (.dev .job) = true) → exec (.jobWaitClears k) s = .next s)
      ∧ (∀ j rest k, s.jobs.waiting = j :: rest → s.devSlot = some k → s.fenced (.dev .job) = false →
        ∃ t u v, exec .deviceJobDispatch s = .next t ∧ u.jobs = { s.jobs with waiting := rest }
          ∧ (let a := Reg.jobSlotCtrl k.val
             let b := Reg.jobSlotArg0 k.val
             let w := withBits (withBits (s.reg a) 15 8 j.target.toNat) 7 0 j.typ.toNat
             (if j.typ = 3 ∨ s.reg b = j.arg0 then v.jrnl = s.jrnl ∧ v.regs = s.regs else Entered s v 0x20 b (s.reg b) j.arg0 0 ∧ (s.Canonical → v.reg b = j.arg0))
             ∧ Entered v u 0x20 a (s.reg a) w 0 ∧ (s.Canonical → u.reg a = w) ∧ Unchanged [.jobs, .regs, .jrnl] s u
             ∧ RegFrame (fun x => x = a ∨ (j.typ ≠ 3 ∧ x = b) ∨ entryRegs (.dev .job) x) s u)
          ∧ t = u.startJob k true j.typ j.target j.arg0 0)
      ∧ ((s.jobs.waiting = [] ∨ s.devSlot = none ∨ s.fenced (.dev .job) = true) → exec .deviceJobDispatch s = .next s))

/-- A step of a running job is made at its turn, in ascending slot order among the jobs that attempt one on its unit (a unit for each kind of job: notes/assumptions 148), unless foreground work holds a unit it needs: then it yields until the next moon edge, and after 64 yields it is made all the same and counted as guaranteed. A step counts; one in which a unit has a fault ends any job but a self-test in FAILED with FAULT; a TDR step adds the captures of the shots it keeps; a trim re-check ends in DONE with results that the spec does not state. A job that does not run, or whose turn it is not, makes no step. It rests on the model's choices of notes/assumptions 18, 82 and 148. -/
def Obligations.JobStepsRunYieldOrFail : Prop :=
  ∀ (k : Fin 8) (held : Bool) (e : StepEnv) (s : State), s.Canonical →
    let j := s.slot k
    let ready := j.st = .run ∧ s.fenced (.dev .job) = false ∧ s.stepMay k = true ∧ j.tryAt ≤ s.now ∧ s.itsTurn k = true
    (¬ ready → exec (.jobStep k held e) s = .next s)
    ∧ (ready → held = true → j.stepYields < 64 →
        ∃ t, exec (.jobStep k held e) s = .next t ∧ t.slot k = { j with yields := j.yields + 1, stepYields := j.stepYields + 1, tryAt := s.moonEdge + ns 500 }
          ∧ (∀ i, i ≠ k → t.slot i = s.slot i) ∧ Unchanged [.jobs, .regs] s t)
    ∧ (ready → (held = false ∨ 64 ≤ j.stepYields) →
        ∃ t u, exec (.jobStep k held e) s = .next t ∧ t = u.runStep k e
          ∧ u.slot k = { j with guaranteed := j.guaranteed + (if 64 ≤ j.stepYields then 1 else 0), stepYields := 0, tryAt := 0, steps := j.steps + 1 }
          ∧ (∀ i, i ≠ k → u.slot i = s.slot i) ∧ Unchanged [.jobs, .regs] s u
          ∧ (e.fault = true → j.typ ≠ 5 → t.JobEnded k .failed errFault)
          ∧ (e.fault = false → j.typ = 7 → t.JobEnded k .done 0
              ∧ (t.slot k).res0 = BitVec.ofNat 32 (Config.freeBits s.freeCtr) ∧ (t.slot k).res1 = BitVec.ofNat 32 (Config.freeBits (s.freeCtr + 1)))
          ∧ (e.fault = false → j.typ = 1 → j.target.toNat < 16 → j.steps + 1 < j.total →
              (t.slot k).acc = tdrAdd j.acc e.vals))

/-- NVM jobs that run with the NVM in service, one step each at their turn, end in DONE with their effect: the staged words at their own user-area addresses and the buffer empty; a profile slot all ones and the channel without profile; the leap-second table, or the calendar settings, at their addresses. A fenced sector ends them in FAILED with FAULT and leaves the array as it was; the NVM out of service, or another job's turn, and nothing happens. A read-back that runs with the NVM in service, at its turn, loads what the array holds: a channel's profile where its slot passes its checks, none where the slot is all ones, fails them or lies in a fenced sector; or the leap-second table. Where no other job is at the NVM, waiting repair records are written, in order, to the first places of the area that are all ones in sectors not fenced. It rests on the model's choices of notes/assumptions 78, 79 and 80. -/
def Obligations.NvmJobsReachTheArrayAndLoadIt : Prop :=
  (∀ (k : Fin 8) (s : State), s.Canonical → (s.slot k).st = .run → (s.slot k).typ = 3 → s.fenced (.dev .job) = false →
      (s.nvmReady = false ∨ s.itsTurn k = false ∨ s.now < (s.slot k).tryAt →
        exec (.nvmCommitStaging k) s = .next s ∧ exec (.nvmCommitProfileErase k) s = .next s ∧ exec (.nvmCommitLeapTable k) s = .next s ∧ exec (.nvmCommitCalendar k) s = .next s)
      ∧ (s.nvmReady = true → s.itsTurn k = true → (s.slot k).tryAt ≤ s.now → (s.slot k).arg0 = 1 →
          ∃ t, exec (.nvmCommitStaging k) s = .next t ∧ Unchanged [.nvm, .life, .jobs, .regs] s t ∧ t.nvm.sectFence = s.nvm.sectFence
            ∧ (if s.nvm.staged.all (fun w => !s.sectFenced (sectorOf (areaUser + w.1))) = true then
                t.JobEnded k .done 0 ∧ t.nvm.staged = [] ∧ t.nvm.mem = (s.nvm.staged.foldl (fun v w => v.put (areaUser + w.1) (beBytes 4 w.2.toNat)) s.nvm).mem
              else t.JobEnded k .failed errFault ∧ t.nvm = s.nvm))
      ∧ (s.nvmReady = true → s.itsTurn k = true → (s.slot k).tryAt ≤ s.now → ∀ n : Ch, (s.slot k).arg0 = BitVec.ofNat 32 (0x100 + n.val) →
          ∃ t, exec (.nvmCommitProfileErase k) s = .next t
            ∧ (if s.sectFenced (sectorOf (profileAt n)) = true then t.JobEnded k .failed errFault ∧ t.nvm = s.nvm ∧ (t.chan n).diag.profile = (s.chan n).diag.profile
              else t.JobEnded k .done 0 ∧ t.nvm = s.nvm.put (profileAt n) (List.replicate 1024 erased) ∧ (t.chan n).diag.profile = none))
      ∧ (s.nvmReady = true → s.itsTurn k = true → (s.slot k).tryAt ≤ s.now → (s.slot k).arg0 = 0x200 →
          ∃ t, exec (.nvmCommitLeapTable k) s = .next t
            ∧ (if s.sectFenced (sectorOf areaLeap) = true then t.JobEnded k .failed errFault ∧ t.nvm = s.nvm
              else t.JobEnded k .done 0 ∧ t.nvm = s.nvm.put areaLeap (leapBytes s.tk.leap s.tk.leapExp)))
      ∧ (s.nvmReady = true → s.itsTurn k = true → (s.slot k).tryAt ≤ s.now → (s.slot k).arg0 = 0x201 →
          ∃ t, exec (.nvmCommitCalendar k) s = .next t
            ∧ (if s.sectFenced (sectorOf areaLeap) = true then t.JobEnded k .failed errFault ∧ t.nvm = s.nvm
              else t.JobEnded k .done 0 ∧ t.nvm = s.nvm.put (areaLeap + 0x800) s.calendarBytes)))
  ∧ (∀ (k : Fin 8) (s : State), s.Canonical →
      ((s.slot k).st = .run → (s.slot k).typ = 4 → s.fenced (.dev .job) = false → s.nvmReady = true → s.itsTurn k = true → (s.slot k).tryAt ≤ s.now →
        (∀ n : Ch, (s.slot k).arg0 = BitVec.ofNat 32 (0x100 + n.val) →
          ∃ t, exec (.nvmReadBackProfile k) s = .next t ∧ t.JobEnded k .done 0 ∧ t.nvm = s.nvm
            ∧ (let l := s.nvm.bytes (profileAt n) 1024
               (t.chan n).diag.profile =
                 if s.sectFenced (sectorOf (profileAt n)) = false ∧ l.all (· == erased) = false ∧ slotPasses n l = true then some (slotProfile l) else none))
        ∧ ((s.slot k).arg0 = 0x200 →
          ∃ t, exec (.nvmReadBackLeapTable k) s = .next t ∧ t.JobEnded k .done 0 ∧ t.nvm = s.nvm ∧ t.tk = s.loadLeap.tk))
      ∧ (s.bist.pend ≠ [] → s.nvmReady = true → s.fenced (.dev .job) = false → s.devHas 3 0 argRepair = false → s.jobs.waiting = [] →
        (∀ i, (s.slot i).busy = true → jobUnit (s.slot i) ≠ 0) → s.devSlot ≠ none →
          ∃ t, exec .repairRecordWrite s = .next t ∧ t.bist.pend = [] ∧ t.nvm.sectFence = s.nvm.sectFence
            ∧ t.nvm.mem = (s.bist.pend.foldl (fun (v : Nvm) b =>
                match s.repairPlaces.find? (fun i => BitVec.ofNat 128 (v.num (areaRepair + 16 * i) 16) == BitVec.allOnes 128) with
                | some i => v.put (areaRepair + 16 * i) (beBytes 16 b.toNat)
                | none => v) s.nvm).mem)
      ∧ ((s.bist.pend = [] ∨ s.nvmReady = false) → exec .repairRecordWrite s = .next s))

/-- A read frame with a right CRC on a port that was ready at the falling edge of SS_N reads one register for the port and reports its word, or with v1 framing the addressed half of it; an access that raises a bus error reports its code with data 0. It rests on the model's choices of notes/assumptions 8, 60 and 62. -/
def Obligations.ReadFramesReportTheRegister : Prop :=
  ∀ (p : SPort) (low : Nat) (s : State), s.hears p low →
    (∀ (tag : BitVec 5) (a : Addr) (d : Word) (crc : Byte), spiCrc (frame2 1 tag a d crc) = 0 →
      let o := portOrigin p
      let u := (s.heard p 72 false low).touched p a.toNat
      ∃ t, exec (.v2Read p tag a d crc low) s = .next t
        ∧ (match u.accessErr (u.view1At o a.toNat) a.toNat false with
            | none => t.Reports p tag rOk (u.readReg o a.toNat) ∧ t.regs = (u.afterRead a.toNat).regs
            | some c => t.Reports p tag c 0 ∧ t.regs = s.regs)
        ∧ Unchanged [.regs, .jrnl, .host] s t)
    ∧ (∀ (region : BitVec 6) (off d : BitVec 16) (crc : Byte), spiCrc (frame1 1 region off d crc) = 0 →
      let o := portOrigin p
      let b := region.toNat * 0x10000 + off.toNat
      let a := if b % 2 = 1 then b else b / 4 * 4
      let u := (s.heard p 48 true low).touched p a
      ∃ t, exec (.v1Read p region off d crc low) s = .next t
        ∧ (match u.accessErr (u.view1At o a) a false with
            | none => t.Reports p 0 rOk (BitVec.ofNat 32 (if b % 4 = 2 then bits (u.readReg o a) 31 16 else bits (u.readReg o a) 15 0)) ∧ t.regs = (u.afterRead a).regs
            | some c => t.Reports p 0 c 0 ∧ t.regs = s.regs)
        ∧ Unchanged [.regs, .jrnl, .host] s t)

/-- A write frame with a right CRC on a port that was ready makes one register write for the port, with its whole effect, and reports OK, or WRITE_POSTED for a moon-copied register whose queue has a place, with the data echoed; a bus error reports its code with data 0, entered with BUS_ERR; a held write leaves the frame executing. It rests on the model's choices of notes/assumptions 8, 28 and 60. -/
def Obligations.WriteFramesWriteTheRegister : Prop :=
  ∀ (p : SPort) (tag : BitVec 5) (a : Addr) (d : Word) (crc : Byte) (low : Nat) (s : State), s.Canonical → s.hears p low → spiCrc (frame2 2 tag a d crc) = 0 →
    let o := portOrigin p
    let u := (s.heard p 72 false low).touched p a.toNat
    let c : Instr := .v2Write p tag a d crc low
    (∀ x, u.accessErr (u.view1At o a.toNat) a.toNat true = some x →
      ∃ t, exec c s = .next t ∧ t.Reports p tag x 0 ∧ Entered u t (originCode o) a.toNat 0 d (fBusErr + fData)
        ∧ Unchanged [.regs, .jrnl, .host] s t ∧ RegFrame (fun y => y = hdr (.dev .jrnl) hIntStatus) s t)
    ∧ (∀ g off, a.toNat = hdr g off → off < 0x1000 → u.accessErr (u.view1At o a.toNat) a.toNat true = none →
        (isMoon g off = false →
          ∃ v, Took u v o g off (u.sent o g off d 0) (u.foreignWrite o g off) false
            ∧ exec c s = .next ((v.contend g (u.foreignWrite o g off)).finish p tag rOk d))
        ∧ (isMoon g off = true →
            let w : PostedWrite := { origin := o, addr := a.toNat, data := d, view1 := u.view1At o a.toNat, foreign := u.foreignWrite o g off, keep := 0 }
            (if (u.postedIn (pdomOf g off)).length < 8 ∧ u.heldIn (pdomOf g off) = [] then
              exec c s = .next ((({ u with posted := u.posted ++ [w] } : State).contend g (u.foreignWrite o g off)).finish p tag rPosted d)
            else ∃ t, exec c s = .next t ∧ t.heldWrites = s.heldWrites ++ [w] ∧ (∃ e, (t.sport p).executing = some e ∧ e.tag = tag)
              ∧ Unchanged [.heldWrites, .host] s t)))

/-- A v1 write with a right CRC on a port that was ready writes the addressed half of a register as one 32-bit access that leaves the other half's writable bits at their contents, and echoes its halfword; of a keyed register the upper half is only latched, and is joined to the lower half that the very next frame writes at that register. It rests on the model's choices of notes/assumptions 37, 60 and 61. -/
def Obligations.V1WritesWriteHalves : Prop :=
  ∀ (p : SPort) (region : BitVec 6) (off d : BitVec 16) (crc : Byte) (low : Nat) (s : State), s.hears p low → spiCrc (frame1 2 region off d crc) = 0 →
    let b := region.toNat * 0x10000 + off.toNat
    let a := if b % 2 = 1 then b else b / 4 * 4
    let hi : Bool := b % 4 = 2
    let u := s.heard p 48 true low
    let keyed : Bool := b % 2 = 0 ∧ ((pageOf a).any (fun g => hasReg (u.view1At (portOrigin p) a) g (a % 0x1000) && rwkReg g (a % 0x1000))) = true
    let c : Instr := .v1Write p region off d crc low
    (keyed = true → hi = true →
      ∃ t, exec c s = .next t ∧ (t.sport p).latch = some (d, a) ∧ t.Reports p 0 rOk (d.setWidth 32) ∧ Unchanged [.host] s t)
    ∧ (¬ (keyed = true ∧ hi = true) →
        exec c s = .next (u.frameWrite p 0 a
          (if hi = true then BitVec.ofNat 32 (d.toNat * 0x10000)
            else BitVec.ofNat 32 ((match (s.sport p).latch with | some (k, at') => if keyed = true ∧ at' = a then k.toNat * 0x10000 else 0 | none => 0) + d.toNat))
          (if b % 2 = 1 then 0 else (((pageOf a).map (fun g => rwMask g (a % 0x1000) &&& (if hi = true then 0xFFFF else 0xFFFF0000))).getD 0))
          (d.setWidth 32)))

/-- A burst frame with a right CRC on a port that was ready accesses consecutive registers from its address on (past the last address the model goes on at 0, its choice: notes/assumptions 146). A read of N = DATA[5:0] + 1 registers stops at the first that fails, reports the first word and buffers the others, 0 past what it read; DATA with a higher bit is BAD_OP. A write stops, and reports, at the first register that fails or whose extension CRC is wrong. BURST_COUNT is what was made. It rests on the model's choices of notes/assumptions 8, 60 and 146. -/
def Obligations.BurstFramesAccessConsecutiveRegisters : Prop :=
  ∀ (p : SPort) (tag : BitVec 5) (a : Addr) (d : Word) (crc : Byte) (low : Nat) (s : State), s.Canonical → s.hears p low →
    let u := s.heard p 72 false low
    (spiCrc (frame2 3 tag a d crc) = 0 →
      (bits d 31 6 ≠ 0 → ∃ t, exec (.v2BurstRead p tag a d crc low) s = .next t ∧ t.Reports p tag rBadOp 0 ∧ Unchanged [.host] s t)
      ∧ (bits d 31 6 = 0 →
          ∃ t, exec (.v2BurstRead p tag a d crc low) s = .next t
            ∧ (match u.burstRead p a.toNat (bits d 5 0 + 1) with
                | (x, ws, c) =>
                  t.fld (portStatReg p) 6 0 = ws.length ∧ ws.length ≤ bits d 5 0 + 1 ∧ (c = rOk ↔ ws.length = bits d 5 0 + 1)
                  ∧ (t.sport p).unreported = some { tag := tag, result := c, data := ws.headD 0, seq := t.seq16, burst := true, doneAt := t.now }
                  ∧ (t.sport p).buf = (ws ++ List.replicate (bits d 5 0 + 1 - ws.length) 0).drop 1
                  ∧ t.jrnl = x.jrnl ∧ RegFrame (fun y => y = portStatReg p) x t)))
    ∧ (∀ ext : List (Word × Byte), ext.length ≤ 63 → spiCrc (frame2 4 tag a d crc) = 0 →
        exec (.v2BurstWrite p tag a d crc ext low) s = .next ((s.heard p (72 + 40 * ext.length) false low).burstWrite p tag 0 false
          ((a.toNat, d, true) :: ext.zipIdx.map (fun x => ((a.toNat + 4 * (x.2 + 1)) % 2 ^ 24, x.1.1, spiCrc (beBytes 4 x.1.1.toNat ++ [x.1.2]) == 0)))))
    ∧ (∀ (v : State) (made : Nat) (posted : Bool), v.Canonical → made < 128 →
        ((v.burstWrite p tag made posted []).Reports p tag (if posted = true then rPosted else rOk) (BitVec.ofNat 32 made)
          ∧ (v.burstWrite p tag made posted []).fld (portStatReg p) 6 0 = made)
        ∧ (∀ (a : Nat) (d : Word) (rest : List (Nat × Word × Bool)), v.portFenced p = false →
            ((v.burstWrite p tag made posted ((a, d, false) :: rest)).Reports p tag rCrc (BitVec.ofNat 32 made)
              ∧ (v.burstWrite p tag made posted ((a, d, false) :: rest)).fld (portStatReg p) 6 0 = made)
            ∧ (∀ w c, v.portWrite p a d 0 = (w, some c) →
                v.burstWrite p tag made posted ((a, d, true) :: rest) =
                  if c = rOk ∨ c = rPosted then w.burstWrite p tag (made + 1) (posted || c == rPosted) rest
                  else (w.burstCount p made).finish p tag c (BitVec.ofNat 32 made))))

/-- PORT_CTRL acts even while a frame executes: ABORT ends that frame and reports ABORTED with its tag; a frame that completed only after the falling edge of SS_N keeps its report; with neither the ABORT answers OK. PORT_RESET leaves v2 framing with nothing executing, unreported but its own OK, or latched, breaks every lock of the port, enters its event (the newest entry where the port held no lock), and keeps READY at 0 for up to 1 µs, until the reset completes. It rests on the model's choices of notes/assumptions 10 and 64. -/
def Obligations.PortControlAbortsAndResets : Prop :=
  ∀ (p : SPort) (tag : BitVec 5) (crc : Byte) (low : Nat) (s : State), s.Canonical → s.rst.phase ≠ .inReset → s.portFenced p = false →
    (s.viewAt p (s.now - low)).deaf = false →
    (spiCrc (frame2 5 tag 1 0 crc) = 0 →
      ∃ t, exec (.portCtrlAbort p tag crc low) s = .next t
        ∧ (match (s.sport p).executing with
            | some e => t.Reports p tag rAborted (BitVec.ofNat 32 e.tag.toNat)
            | none => (if (s.sport p).late (s.now - low) = true then (t.sport p).unreported = (s.sport p).unreported else t.Reports p tag rOk 0)
                ∧ Unchanged [.host] s t))
    ∧ (spiCrc (frame2 5 tag 2 0xA5A5 crc) = 0 →
        ∃ t, exec (.portReset p tag crc low) s = .next t ∧ t.Reports p tag rOk 0 ∧ (t.sport p).v1 = false ∧ (t.sport p).latch = none
          ∧ (t.sport p).buf = [] ∧ (t.sport p).resetBy = some (s.now + us 1) ∧ t.portReady p = false
          ∧ (∀ g, t.lockHeld g = true → t.lockHolder g ≠ originCode (portOrigin p))
          ∧ ((∀ g, s.lockHeld g = true → s.lockHolder g ≠ originCode (portOrigin p)) →
              Entered s t 0x20 (devBase .host) 6 (BitVec.ofNat 32 (originCode (portOrigin p))) fEvent))
    ∧ (∃ t, exec (.portResetComplete p) s = .next t ∧ t.portResetting p = false
        ∧ t.sport p = { s.sport p with resetBy := none } ∧ Unchanged [.host] s t)

/-- A frame that is not to be executed changes no register but its port's counters: one on a port that was not ready at the falling edge or is not ready at the rise is refused and counted in REFUSED, but for a v2 PORT_CTRL; one with a wrong CRC or an edge count that is no frame's is counted in CRC_ERR, with its interrupt, and reports CRC_ERR where no frame executes; a NOP reports OK. A port that is fenced, or whose domain is in reset, then or now ignores the frame, with its MISO high-impedance. It rests on the model's choices of notes/assumptions 8 and 60. -/
def Obligations.FramesThatExecuteNothing : Prop :=
  ∀ (p : SPort) (edges : Nat) (m : List Byte) (low : Nat) (s : State), s.Canonical →
    let refused := match p with | .hsa => Reg.hostHsaRefused | .hsb => Reg.hostHsbRefused
    let crcErr := match p with | .hsa => Reg.hostHsaCrcErr | .hsb => Reg.hostHsbCrcErr
    let frame2? : Bool := match groupsOf edges with | some k => k = 0 ∨ mosiByte m 0 / 32 = 0 ∨ mosiByte m 0 / 32 = 4 | none => false
    let nops : List Instr := if edges = 48 then [.v2Nop p edges m low, .v1Nop p m low] else [.v2Nop p edges m low]
    let deaf := (s.viewAt p (s.now - low)).deaf
    (deaf = true ∨ s.portFenced p = true ∨ s.rst.phase = .inReset →
        ∀ c ∈ nops, exec c s = .next (s.mapPort p (fun x => { x with miso := [], views := x.views.take 1 })))
    ∧ (deaf = false → s.rst.phase ≠ .inReset → s.portFenced p = false → ¬ s.hears p low → (mosiByte m 0 / 32 ≠ 5 ∨ edges = 48) →
        ∃ t, (∀ c ∈ nops, exec c s = .next t)
          ∧ t.fld refused 31 0 = (s.fld refused 31 0 + 1) % 2 ^ 32
          ∧ (∃ r, (t.sport p).refused = some r ∧ r.result = rNot) ∧ (t.sport p).executing = (s.sport p).executing
          ∧ Unchanged [.regs, .host] s t ∧ RegFrame (fun a => a = refused) s t)
    ∧ (s.hears p low →
        (if edges = 48 then spiCrc (m.take 6) ≠ 0 else (frame2? = false ∨ spiCrc (m.take 9) ≠ 0)) →
        ∃ t, (∀ c ∈ nops, exec c s = .next t)
          ∧ t.fld crcErr 31 0 = (s.fld crcErr 31 0 + 1) % 2 ^ 32
          ∧ t.bit (hdr (.dev .host) hIntStatus) (match p with | .hsa => 3 | .hsb => 4) = true
          ∧ (∃ r, (t.sport p).unreported = some r ∧ r.result = rCrc)
          ∧ Unchanged [.regs, .host] s t ∧ RegFrame (fun a => a = crcErr ∨ a = hdr (.dev .host) hIntStatus) s t)
    ∧ (s.hears p low → edges ≠ 48 → groupsOf edges ≠ none → mosiByte m 0 / 32 = 0 → spiCrc (m.take 9) = 0 →
        ∃ t, exec (.v2Nop p edges m low) s = .next t ∧ t.Reports p (BitVec.ofNat 5 (mosiByte m 0 % 32)) rOk 0 ∧ Unchanged [.host] s t)
    ∧ (s.hears p low → mosiByte m 0 / 64 = 0 → spiCrc (m.take 6) = 0 →
        ∃ t, exec (.v1Nop p m low) s = .next t ∧ t.Reports p 0 rOk 0 ∧ (t.sport p).v1 = true ∧ Unchanged [.host] s t)

/-- A PHY address that the device answers at gives its channel's standard registers or its window, any other address, and any other MMD, nothing; a standard write makes the write of its counterpart by MDIO. Reading by MDIO changes no register but what a bus error leaves in HOST. It rests on the model's choices of notes/assumptions 67, 68 and 69. -/
def Obligations.MdioAnswersAtItsPhyAddresses : Prop :=
  ∀ (phy mmd : BitVec 5) (reg d : BitVec 16) (s : State),
    (s.phyCh phy = none →
      (∃ t, exec (.mdioStdRead phy mmd reg) s = .next t ∧ t.host = { s.host with mdioOut := none } ∧ Unchanged [.host] s t)
      ∧ exec (.mdioStdWrite phy mmd reg d) s = .next s ∧ exec (.mdioWindowRegWrite phy reg d) s = .next s ∧ exec (.mdioWindowDone phy) s = .next s)
    ∧ (∀ n, s.phyCh phy = some n →
        (mmd = 30 →
          (∃ t, exec (.mdioStdRead phy mmd reg) s = .next t ∧ t.host = { s.host with mdioOut := some (BitVec.ofNat 16 ((s.win n).read reg.toNat)) } ∧ Unchanged [.host] s t)
          ∧ exec (.mdioStdWrite phy mmd reg d) s = exec (.mdioWindowRegWrite phy reg d) s)
        ∧ (mmd = 1 ∨ mmd = 3 ∨ mmd = 7 →
          (∃ t, exec (.mdioStdRead phy mmd reg) s = .next t ∧ t.host.mdioOut = some (BitVec.ofNat 16 (s.stdRead n mmd.toNat reg.toNat).2)
            ∧ Unchanged [.regs, .host] s t
            ∧ RegFrame (fun a => a = Reg.hostBuserrMdio ∨ a = Reg.hostBuserrCount ∨ a = hdr (.dev .host) hIntStatus) s t)
          ∧ exec (.mdioStdWrite phy mmd reg d) s = .next (s.stdWrite n mmd.toNat reg.toNat d))
        ∧ (mmd ≠ 1 ∧ mmd ≠ 3 ∧ mmd ≠ 7 ∧ mmd ≠ 30 →
          (∃ t, exec (.mdioStdRead phy mmd reg) s = .next t ∧ t.host.mdioOut = none ∧ Unchanged [.host] s t)
          ∧ exec (.mdioStdWrite phy mmd reg d) s = .next s))

/-- A window register that is written takes its 16 bits, and CMD of the control register starts a read or a write of the addressed register; while an access runs, writes to the window are dropped and counted in BUSY_DROP. A started read ends with its word in the data registers, a started write with its result, BUSY falls, and under INC the address moves on by 4; a bus error reports its code. It waits while an access of a lower PHY address does, and while it is another origin's turn at the fabric (notes/assumptions 144). It rests on the model's choices of notes/assumptions 10, 70 and 144. -/
def Obligations.MdioWindowAccessesOneRegister : Prop :=
  ∀ (phy : BitVec 5) (n : Ch) (s : State), s.Canonical → s.phyCh phy = some n →
    let x := s.win n
    (x.busy = none → ∀ (reg d : BitVec 16),
        ∃ t, exec (.mdioWindowRegWrite phy reg d) s = .next t ∧ t.win n = x.write reg.toNat d ∧ (∀ m, m ≠ n → t.win m = s.win m) ∧ Unchanged [.host] s t)
    ∧ (x.busy = none → ∀ inc : Bool,
        (∃ t, exec (.mdioWindowRead phy inc) s = .next t ∧ t.win n = { x with inc := inc, busy := some false } ∧ Unchanged [.host] s t)
        ∧ (∃ t, exec (.mdioWindowWrite phy inc) s = .next t ∧ t.win n = { x with inc := inc, busy := some true } ∧ Unchanged [.host] s t))
    ∧ (x.busy ≠ none → ∀ (reg d : BitVec 16) (inc : Bool),
        let t := s.setFld Reg.hostMdioStat 15 0 (min (s.fld Reg.hostMdioStat 15 0 + 1) 0xFFFF)
        (reg.toNat ≤ 4 → exec (.mdioWindowRegWrite phy reg d) s = .next t)
        ∧ exec (.mdioWindowRead phy inc) s = .next t ∧ exec (.mdioWindowWrite phy inc) s = .next t)
    ∧ (x.busy = some false → x.stalled = false → s.winBefore n = false → s.fabricTurn .mdio = true →
        let u := s.servedFor .mdio
        ∃ t, exec (.mdioWindowDone phy) s = .next t
          ∧ (match u.accessErr (u.view1At .mdio x.addr) x.addr false with
              | none => t.win n = x.done rOk (some (u.readReg .mdio x.addr)) ∧ t.regs = (u.afterRead x.addr).regs
              | some c => t.win n = x.done c (some 0) ∧ t.regs = (u.busErr .mdio x.addr).regs))
    ∧ (x.busy = some true → x.stalled = false → s.winBefore n = false → s.fabricTurn .mdio = true → ∀ c w,
        (s.servedFor .mdio).fabricWrite .mdio (s.view1At .mdio x.addr) x.addr (BitVec.ofNat 32 (x.dataH.toNat * 0x10000 + x.dataL.toNat)) 0 = (w, some c) →
        exec (.mdioWindowDone phy) s = .next (w.mapWin n (fun x => x.done c none)))
    ∧ ((x.busy = none ∨ x.stalled = true ∨ s.winBefore n = true ∨ s.fabricTurn .mdio = false) → exec (.mdioWindowDone phy) s = .next s)

/-- A request message of the partner is queued, the fifth outstanding one to be answered NOT_ACCEPTED; the head of a channel's queue is executed at the channel's turn (notes/assumptions 144) as an access by origin 0x10 + n in the remote view, counted in RMT_SERVED and answered with its result, its address and the journal's newest sequence; an operation that is no read or write is answered BAD_OP and not counted. Before its turn nothing happens. The reply that the mailbox waits for, on its channel and with its tag, fills RMT_STATUS and RMT_RDATA, sets HOST.INT_STATUS bit 2, and ends the wait; any other is discarded. Without a reply by the deadline the mailbox has failed; before it, or with nothing asked, nothing happens. It rests on the model's choices of notes/assumptions 71, 72 and 144. -/
def Obligations.RemoteRequestsAreServedAndAnswered : Prop :=
  (∀ (n : Ch) (s : State), s.Canonical →
      (∀ m u, s.takeMsg n 1 = some (m, u) →
        ∃ t, exec (.remoteRequest n) s = .next t
          ∧ (t.chan n).remQ = (u.chan n).remQ ++ [{ remoteOf m with result := if 4 ≤ u.outstanding n then rNot else rOk }]
          ∧ (∀ k, k ≠ n → t.chan k = u.chan k) ∧ Unchanged [.chans] u t)
      ∧ (s.takeMsg n 1 = none → exec (.remoteRequest n) s = .next s)
      ∧ ((s.chan n).remQ = [] → exec (.remoteRequestExecute n) s = .next s)
      ∧ (∀ r rest, (s.chan n).remQ = r :: rest → s.heldWrites.any (fun w => w.origin == .remote n) = false →
          let o : Origin := .remote n
          let a := r.addr.toNat
          let v := s.servedFor o
          let answered (u t : State) (c : BitVec 3) (d : Word) : Prop :=
            (t.chan n).remQ = (u.chan n).remQ.drop 1
            ∧ t = (u.mapChan n (fun x => { x with remQ := x.remQ.drop 1 })).oamPush n (remoteReply { r with result := c, data := d, seq := u.seq16 })
          (r.result = rNot → ∃ t, exec (.remoteRequestExecute n) s = .next t ∧ answered s t rNot 0)
          ∧ (r.result ≠ rNot → r.op = 1 ∨ r.op = 2 → s.fabricTurn o = false → exec (.remoteRequestExecute n) s = .next s)
          ∧ (r.result ≠ rNot → r.op = 1 → s.fabricTurn o = true →
              ∃ t u, exec (.remoteRequestExecute n) s = .next t
                ∧ (match v.accessErr (v.view1At o a) a false with
                    | none => u = (v.afterRead a).wrap32 Reg.hostRmtServed 1 ∧ answered u t rOk (v.readReg o a)
                    | some c => u = (v.busErr o a).wrap32 Reg.hostRmtServed 1 ∧ answered u t c 0))
          ∧ (r.result ≠ rNot → r.op = 2 → s.fabricTurn o = true → ∀ w c, v.fabricWrite o (v.view1At o a) a r.data 0 = (w, some c) →
              ∃ t, exec (.remoteRequestExecute n) s = .next t
                ∧ answered (w.wrap32 Reg.hostRmtServed 1) t c (if c = rOk ∨ c = rPosted then r.data else 0))
          ∧ (r.result ≠ rNot → r.op ≠ 1 → r.op ≠ 2 → ∃ t, exec (.remoteRequestExecute n) s = .next t ∧ answered s t rBadOp 0)))
  ∧ (∀ (n : Ch) (s : State), s.Canonical →
      (∀ m u, s.takeMsg n 2 = some (m, u) →
        let r := remoteOf m
        let mine := (∃ due, s.host.mail = some (n, due)) ∧ s.fld Reg.hostRmtStatus 23 16 = r.tag.toNat
        (mine → ∃ t, exec (.remoteReplyReceive n) s = .next t ∧ t.host.mail = none ∧ t.reg Reg.hostRmtRdata = r.data
          ∧ t.fld Reg.hostRmtStatus 31 30 = 2 ∧ t.fld Reg.hostRmtStatus 29 27 = r.result.toNat ∧ t.fld Reg.hostRmtStatus 23 16 = r.tag.toNat
          ∧ t.fld Reg.hostRmtStatus 15 0 = r.seq.toNat ∧ t.bit (hdr (.dev .host) hIntStatus) 2 = true
          ∧ RegFrame (fun a => a = Reg.hostRmtStatus ∨ a = Reg.hostRmtRdata ∨ a = hdr (.dev .host) hIntStatus) s t)
        ∧ (¬ mine → exec (.remoteReplyReceive n) s = .next u))
      ∧ (s.takeMsg n 2 = none → exec (.remoteReplyReceive n) s = .next s)
      ∧ (∀ c due, s.host.mail = some (c, due) → due ≤ s.now →
          ∃ t, exec .remoteTimeout s = .next t ∧ t.host.mail = none ∧ t.fld Reg.hostRmtStatus 31 30 = 3
            ∧ RegFrame (fun a => a = Reg.hostRmtStatus ∨ a = hdr (.dev .host) hIntStatus) s t)
      ∧ ((s.host.mail = none ∨ ∃ c due, s.host.mail = some (c, due) ∧ s.now < due) → exec .remoteTimeout s = .next s))

/-- A scan of JTAG's register access shifts out what the last access left and makes the access shifted in, a read or a write in view 2, whose result the next scan takes; a write that the fabric holds keeps the access from completing, and while it does, or before the system domain has started, a scan starts none. A scan leaves REG_ACCESS in the instruction register. A TAP reset puts IDCODE there, clears what would be shifted out and touches nothing else. It rests on the model's choices of notes/assumptions 73 and 142. -/
def Obligations.JtagScansAccessRegisters : Prop :=
  ∀ (a : Addr) (d : Word) (s : State),
    (∃ t, exec .jtagTapReset s = .next t ∧ t.host = { s.host with jtag := { s.host.jtag with out := 0, ir := 0xFE } } ∧ Unchanged [.host] s t)
    ∧ ((s.host.jtag.stalled = true ∨ s.mayAccess .jtag = false) →
        ∃ t, exec (.jtagRegRead a) s = .next t ∧ exec (.jtagRegWrite a d) s = .next t
          ∧ t.host = { s.host with jtag := { s.host.jtag with out := s.host.jtag.capture, ir := 0x40 } } ∧ Unchanged [.host] s t)
    ∧ (s.host.jtag.stalled = false → s.mayAccess .jtag = true →
        let u := (s.mapJtag (fun j => { j with out := s.host.jtag.capture, ir := 0x40, addr := a, done := false })).servedFor .jtag
        (∃ t, exec (.jtagRegRead a) s = .next t ∧ t.host.jtag.out = s.host.jtag.capture ∧ t.host.jtag.addr = a ∧ t.host.jtag.done = true
          ∧ (match u.accessErr (u.view1At .jtag a.toNat) a.toNat false with
              | none => t.host.jtag.result = rOk ∧ t.host.jtag.data = u.readReg .jtag a.toNat ∧ t.regs = (u.afterRead a.toNat).regs
              | some c => t.host.jtag.result = c ∧ t.host.jtag.data = 0 ∧ t.regs = s.regs))
        ∧ (∀ w c, u.fabricWrite .jtag false a.toNat d 0 = (w, some c) →
            exec (.jtagRegWrite a d) s = .next (w.mapJtag (fun j => { j with result := c, data := 0, done := true, stalled := false })))
        ∧ (∀ w, u.fabricWrite .jtag false a.toNat d 0 = (w, none) →
            exec (.jtagRegWrite a d) s = .next (w.mapJtag (fun j => { j with stalled := true }))))

/-- A channel that sends orbits sends the next one with its type and index, moves its index on by one, and forms the field of its direction with that type and index and, unless it sends transparent time, the time of its mark; a QUIET orbit has none. The orbit's symbols are those of its field and of the codewords of its blocks, by its type. Under a test pattern the pattern goes out, pattern 5 as DATA orbits of a Z mode; in phase 1 an end whose turn it is sends training symbols; a clause that is up takes all its blocks; a channel that has nothing to send sends nothing. The waiting message of highest priority, the oldest of them, leaves with a slot whose orbits are all DATA or ECLIPSE; a capability message that is due takes the place of one that waits. It rests on the model's choices of notes/assumptions 7, 91 and 149. -/
def Obligations.OrbitsCarryTypeIndexTimeAndMessage : Prop :=
  ∀ (n : Ch) (k : Nat) (s : State), s.Canonical →
    let l := (s.chan n).line
    let tm := s.markTime n k
    (∀ ty, isZ (s.lineMode n) = true → s.lineReady n = true →
      (s.pattern n = 5 ∧ ty = .data) ∨ (s.pattern n = 0 ∧ s.nextTy n = some ty ∧ s.sendsTraining n = false ∧ (s.phase n = 1 → l.p1 = false)) →
      ∃ t o, exec (.orbitTransmit n k) s = .next t ∧ Unchanged [.regs, .chans] s t
        ∧ (t.chan n).line.lastTx = some o ∧ o.ty = some ty ∧ o.index = l.txNext ∧ (t.chan n).line.txNext = l.txNext + 1 ∧ t.reg (Reg.pcsTxOrbit n) = l.txNext
        ∧ (o.ktl.isSome = true ↔ ty ≠ .quiet ∧ s.txDir n ≠ .a1) ∧ (o.lite.isSome = true ↔ ty ≠ .quiet ∧ s.txDir n = .a1)
        ∧ (∀ f, o.ktl = some f → f.version = BitVec.ofNat 4 (s.ktlVer n) ∧ f.ty = orbitCode ty ∧ f.orbit = l.txNext
            ∧ (s.tcHolds n = false → f.txSec = BitVec.ofNat 16 (timeParts tm).1 ∧ f.txNs = BitVec.ofNat 32 (timeParts tm).2.1 ∧ f.txFrac = BitVec.ofNat 16 (timeParts tm).2.2))
        ∧ (∀ f, o.lite = some f → f.ty = orbitCode ty ∧ f.orbitLo = l.txNext.truncate 16
            ∧ (s.tcHolds n = false → f.txNs = BitVec.ofNat 32 (timeParts tm).2.1 ∧ f.txFrac = BitVec.ofNat 16 (timeParts tm).2.2))
        ∧ o.blocks.length = (match ty with | .data | .train | .wake => blocksPerOrbit (s.txDir n) | _ => 0)
        ∧ o.syms = sentSymbols (s.txDir n) (codeOf (s.txCode n)) ty l.txNext
            (match o.ktl, o.lite with | some f, _ => ktlSymbols f | none, some f => liteSymbols f | none, none => []) o.blocks
        ∧ (ty ≠ .quiet → (t.chan n).ktl.marks = (tm :: (s.chan n).ktl.marks).take 128) ∧ (ty = .quiet → (t.chan n).ktl.marks = (s.chan n).ktl.marks))
    ∧ (s.lineReady n = true → 1 ≤ s.pattern n → (s.pattern n = 5 → isZ (s.lineMode n) = false) →
      ∃ t o, exec (.orbitTransmit n k) s = .next t ∧ Unchanged [.chans] s t ∧ OnlyChan n s t ∧ (t.chan n).line.lastTx = some o ∧ o.ty = none
        ∧ (let from_ := s.symbolsIn n l.patUs
           o.syms = if s.pattern n = 1 then (trainRun (s.txDir n) l.trainReg (s.symbolsIn n (l.patUs + 1) - from_)).1
             else (List.range (s.symbolsIn n (l.patUs + 1) - from_)).map (fun i => patternLevel (s.pattern n) (from_ + i)))
        ∧ (t.chan n).line.patUs = l.patUs + 1)
    ∧ (s.lineReady n = true → s.pattern n = 0 → s.stdUp n = false → s.phase n = 1 → l.p1 = true →
      ∃ t o, exec (.orbitTransmit n k) s = .next t ∧ Unchanged [.chans] s t ∧ OnlyChan n s t ∧ (t.chan n).line.lastTx = some o ∧ o.ty = none
        ∧ o.syms = (trainRun (s.txDir n) l.trainReg (layout (s.txDir n)).symbols).1)
    ∧ (s.lineReady n = true → s.pattern n = 0 → s.stdUp n = true →
      ∃ t, exec (.orbitTransmit n k) s = .next t ∧ (t.chan n).buf.ebuf = [] ∧ (t.chan n).line.lastTx = l.lastTx ∧ (t.chan n).line.txNext = l.txNext ∧ Unchanged [.regs, .chans] s t)
    ∧ (s.lineReady n = false → exec (.orbitTransmit n k) s = .next s)
    ∧ (s.pattern n = 0 → s.stdUp n = false → (s.phase n ≠ 1 ∨ l.p1 = false) → s.sendsTraining n = false → s.nextTy n = none ∨ isZ (s.lineMode n) = false → exec (.orbitTransmit n k) s = .next s)
    ∧ (isZ (s.lineMode n) = true → s.slotStart n = true → l.txTy ≠ none →
        (s.slotCarries n = true → ∀ m, oamFirst l.oamQ = some m →
          ∃ t, exec (.oamMessageSend n k) s = .next t ∧ (t.chan n).line.oamQ = l.oamQ.erase m
            ∧ (t.chan n).line.oamNow = (if oamType m = 5 then withSeconds m (timeParts tm).1 else m)
            ∧ Wrapped s t (Reg.pcsOamTx n) 1 ∧ Unchanged [.regs, .chans] s t ∧ OnlyChan n s t
            ∧ RegFrame (fun a => a = Reg.pcsOamTx n ∨ (oamType m = 3 ∧ a = Reg.capRepTx) ∨ (oamType m = 6 ∧ a = Reg.cmtLateTx)) s t)
        ∧ ((s.slotCarries n = false ∨ l.oamQ = []) →
          exec (.oamMessageSend n k) s = .next (s.mapLine n (fun l => { l with oamNow := 0 }))))
    ∧ ((isZ (s.lineMode n) = false ∨ s.slotStart n = false ∨ l.txTy = none) → exec (.oamMessageSend n k) s = .next s)
    ∧ (s.zUp n = true → s.txLpi n = false → s.capDue n = true →
        ∃ t, exec (.capabilityMessageSend n) s = .next t ∧ (t.chan n).line.oamQ = l.oamQ.filter (fun x => oamType x != 5) ++ [s.capMessage n]
          ∧ (t.chan n).ktl.capSent = some (s.capMessage n) ∧ (t.chan n).ktl.capAge = 0 ∧ Unchanged [.chans] s t ∧ OnlyChan n s t)
    ∧ ((s.zUp n = false ∨ s.txLpi n = true ∨ s.capDue n = false) → exec (.capabilityMessageSend n) s = .next s)

/-- In LPI, a position that is no 63 mod 64 and brings no WAKE is a QUIET orbit, at whose start a pending gain takes effect. Any other received field that decodes shows its orbit number and flags, adds its corrected bits, brings its comets, and with its mark found its arrival; a DATA field completes a phase 4 that sends DATA; one that fails counts in KTL_FAIL, and the orbit number moves on. The fourth missing mark in a row drops a live link. A whole slot of pieces is delivered and counted; one with a failed field, or of an unassigned type, is dropped and counted; type 0 is idle. The partner's information expires when its time has passed. It rests on the model's choices of notes/assumptions 7, 93, 96 and 167. -/
def Obligations.FieldsAndMessagesAreReceived : Prop :=
  ∀ (n : Ch) (mark' : BitVec 16) (field : BitVec 448) (late : Nat) (errs : List Rat) (s : State), s.Canonical →
    let l := (s.chan n).line
    let idx := s.nextRx n (s.now - late)
    let mark := s.heardMark n mark'
    let got := s.gotField n (s.heardField n field)
    (3 ≤ s.phase n → isZ (s.lineMode n) = true → s.orbitLock n = true → s.lineReady n = true →
      let lost : Prop := markFound mark = false ∧ s.linkUp n = true ∧ 3 ≤ (s.chan n).link.markRun
      let wake : Bool := markFound mark && got.any (fun x => x.ty == .wake)
      let common (t : State) : Prop := (markFound mark = false → Counted s t (Reg.pcsMarkMiss n) (.chan n .pcs) 0)
        ∧ (errs ≠ [] → t.fld (Reg.eqMseLast n) 15 0 = twos 16 (tenthDb (meanSquare (s.heardErrs n errs))))
        ∧ (lost → t.linkUp n = false ∧ Raised s t (Reg.anDropMark n) 1) ∧ (¬ lost → s.linkUp n = true ∨ s.phase n ≠ 4 → OnlyChan n s t)
      (s.rxLpi n = true → idx.toNat % 64 ≠ 63 → wake = false →
        ∃ t, exec (.ktlFieldReceive n mark' field late errs) s = .next t ∧ (t.chan n).line.rxTy = some .quiet ∧ t.bit (Reg.afeGainStatus n) 29 = false
          ∧ t.reg (Reg.pcsMarkMiss n) = s.reg (Reg.pcsMarkMiss n) ∧ t.reg (Reg.pcsKtlFail n) = s.reg (Reg.pcsKtlFail n) ∧ t.linkUp n = s.linkUp n)
      ∧ ((s.rxLpi n = false ∨ idx.toNat % 64 = 63 ∨ wake = true) →
        (∀ g, got = some g →
          ∃ t, exec (.ktlFieldReceive n mark' field late errs) s = .next t ∧ t.reg (Reg.pcsRxOrbit n) = g.index
            ∧ Wrapped s t (Reg.pcsKtlCorrBits n) g.corr
            ∧ t.fld (Reg.ktlStatus n) 27 24 = b2n g.stamp.timeValid * 8 + b2n g.holdover * 4 + b2n g.ssc * 2 + b2n g.residence
            ∧ (t.chan n).line.cometIn = l.cometIn ++ g.comets
            ∧ (markFound mark = true → (t.chan n).ktl.arrivals = (s.arrival n late :: (s.chan n).ktl.arrivals).take 160)
            ∧ (s.phase n = 4 → s.linkUp n = false → (s.chan n).link.sends = true → g.ty = .data → t.linkUp n = true ∧ t.phase n = 5) ∧ common t)
        ∧ (got = none →
          ∃ t, exec (.ktlFieldReceive n mark' field late errs) s = .next t ∧ t.reg (Reg.pcsRxOrbit n) = idx
            ∧ Counted s t (Reg.pcsKtlFail n) (.chan n .pcs) 1 ∧ (t.chan n).line.cometIn = l.cometIn ∧ common t)))
    ∧ ((s.phase n < 3 ∨ isZ (s.lineMode n) = false ∨ s.orbitLock n = false ∨ s.lineReady n = false) → exec (.ktlFieldReceive n mark' field late errs) s = .next s)
    ∧ (s.zUp n = true → l.oamIn.length = slotLen (s.rxDir n) →
        let drop (t : State) : Prop := Counted s t (Reg.pcsOamDrop n) (.chan n .pcs) 2
          ∧ RegFrame (fun a => a = Reg.pcsOamDrop n ∨ a = hdr (.chan n .pcs) hIntStatus) s t ∧ (t.chan n).line.inbox = l.inbox
        ∃ t, exec (.oamMessageReceive n) s = .next t ∧ (t.chan n).line.oamIn = [] ∧ OnlyChan n s t ∧ Unchanged [.regs, .chans] s t
          ∧ (match oamAssemble (slotLen (s.rxDir n)) l.oamIn with
              | none => drop t
              | some m =>
                (oamType m = 0 → t.regs = s.regs ∧ (t.chan n).line.inbox = l.inbox)
                ∧ (6 < oamType m → drop t)
                ∧ (1 ≤ oamType m → oamType m ≤ 6 → Wrapped s t (Reg.pcsOamRx n) 1
                    ∧ (oamType m ≠ 4 → oamType m ≠ 5 → (t.chan n).line.inbox = l.inbox ++ [m] ∧ RegFrame (fun a => a = Reg.pcsOamRx n) s t)
                    ∧ (oamType m = 5 → s.infoValid n = false → t.bit (Reg.ktlStatus n) 28 = true ∧ t.bit (hdr (.chan n .ktl) hIntStatus) 1 = true))))
    ∧ ((s.zUp n = false ∨ l.oamIn.length ≠ slotLen (s.rxDir n)) → exec (.oamMessageReceive n) s = .next s)
    ∧ (s.infoValid n = true → s.rxLpi n = false → (s.chan n).ktl.capBy ≤ s.now →
        ∃ t, exec (.infoExpiry n) s = .next t ∧ t.bit (Reg.ktlStatus n) 28 = false ∧ t.bit (hdr (.chan n .ktl) hIntStatus) 1 = true
          ∧ RegFrame (fun a => a = Reg.ktlStatus n ∨ a = hdr (.chan n .ktl) hIntStatus) s t)
    ∧ ((s.infoValid n = false ∨ s.rxLpi n = true ∨ s.now < (s.chan n).ktl.capBy) → exec (.infoExpiry n) s = .next s)

/-- A received codeword, in an orbit of a type that carries them, counts in CW_RX and joins those in the decoder with what the decoder makes of its symbols, or without a credit where its engine is out of service or has none left, which counts too. The oldest is released at its instant: a decoded one counts at its iterations with its corrected bits, any other ends the run without errors and, where its engine decoded it, counts in UNCORR. After 2^20 decoded codewords the BER estimate is published. Single-engine operation starts and ends at the orbit boundary. In a standard mode an RS codeword counts, and its blocks go to the host lane. It rests on the model's choices of notes/assumptions 7, 94, 150, 155 and 168. -/
def Obligations.CodewordsAreDecodedInOrder : Prop :=
  ∀ (n : Ch) (k : Nat) (syms : List Rat) (upset : List Nat) (rs : Option Nat) (blks : List Blk) (s : State), s.Canonical →
    let f := (s.chan n).fec
    let e := s.engineOf n k
    (isZ (s.lineMode n) = true → 3 ≤ s.phase n → s.orbitLock n = true → s.lineReady n = true → (s.chan n).line.rxTy.any carries = true →
      let used := (f.flight.filter (fun x => x.eng == some e)).length
      ∃ t x, exec (.codewordReceive n k (.soft syms upset)) s = .next t ∧ (t.chan n).fec.flight = f.flight ++ [x] ∧ OnlyChan n s t ∧ Unchanged [.regs, .jrnl, .chans] s t
        ∧ t.wideVal (Reg.fecCwRxLo n) (Reg.fecCwRxHi n) 16 = (s.wideVal (Reg.fecCwRxLo n) (Reg.fecCwRxHi n) 16 + 1) % 2 ^ 48
        ∧ (t.chan n).fec.iterArm = false ∧ t.iterEff n = (if f.iterArm then iterActs (s.fld (Reg.fecCtrl n) 4 0) else s.iterEff n)
        ∧ x.rel = s.now + (roundR (s.tFront n + tFill (s.rxDir n) (codeOf (s.rxCode n)) + tDec (s.rxDir n) (codeOf (s.rxCode n)) (t.iterEff n))).toNat
        ∧ (s.engineOut n e = true → x.eng = none ∧ Counted s t (Reg.fecEngLost n) (.chan n .fec) 1)
        ∧ (s.engineOut n e = false → 8 ≤ used ∨ s.drains (.chan n .fec) = true → x.eng = none ∧ Counted s t (Reg.fecCreditStall n) (.chan n .fec) 2)
        ∧ (s.engineOut n e = false → used < 8 → s.drains (.chan n .fec) = false →
            let d := decodeCodeword (s.rxDir n) (codeOf (s.rxCode n)) (normActs (s.fld (Reg.fecCtrl n) 11 8)) (t.iterEff n) (s.chan n).line.rxIdx k (s.heardCodeword n k syms) upset
            x.eng = some e ∧ x.iters = d.iters ∧ x.check = d.check ∧ x.corr = d.corr ∧ x.blks = d.blks))
    ∧ ((isZ (s.lineMode n) = false ∨ s.phase n < 3 ∨ s.orbitLock n = false ∨ s.lineReady n = false ∨ (s.chan n).line.rxTy.any carries = false) →
        exec (.codewordReceive n k (.soft syms upset)) s = .next s)
    ∧ (s.stdUp n = true → s.lineReady n = true →
        ∃ t, exec (.codewordReceive n k (.clause rs blks)) s = .next t
          ∧ (s.rlyActive n = false → s.laneOpen n = true → (s.chan n).buf.toSkip = false → (t.chan n).buf.toHost = blks.map (fun b => (if b.ctrl = true then 2 else 1, b.payload)))
          ∧ (rsBits (s.lineMode n) ≠ none → s.ownFence (.chan n .fec) = false →
              t.wideVal (Reg.fecCwRxLo n) (Reg.fecCwRxHi n) 16 = (s.wideVal (Reg.fecCwRxLo n) (Reg.fecCwRxHi n) 16 + 1) % 2 ^ 48
              ∧ (∀ c, rs = some c → t.wideVal (Reg.fecCorrLo n) (Reg.fecCorrHi n) 32 = (s.wideVal (Reg.fecCorrLo n) (Reg.fecCorrHi n) 32 + c) % 2 ^ 64)
              ∧ (rs = none → Counted s t (Reg.fecUncorr n) (.chan n .fec) 0)))
    ∧ ((s.stdUp n = false ∨ s.lineReady n = false) → exec (.codewordReceive n k (.clause rs blks)) s = .next s)
    ∧ (∀ x rest, f.flight = x :: rest → x.rel ≤ s.now →
        (∀ e i, x.eng = some e → x.iters = some i → 1 ≤ i → i ≤ 16 → x.check = true →
          ∃ t, exec (.codewordRelease n) s = .next t ∧ (t.chan n).fec.flight = rest ∧ (t.chan n).fec.uncRun = 0
            ∧ (f.winCw < berWindow → (t.chan n).fec.winCw = f.winCw + 1 ∧ (t.chan n).fec.winBits = f.winBits + x.corr)
            ∧ t.wideVal (Reg.fecHistLo n i) (Reg.fecHistHi n i) 16 = (s.wideVal (Reg.fecHistLo n i) (Reg.fecHistHi n i) 16 + 1) % 2 ^ 48)
        ∧ ((x.eng = none ∨ x.iters = none) →
          ∃ t, exec (.codewordRelease n) s = .next t ∧ (t.chan n).fec.flight = rest
            ∧ (x.eng = none → (t.chan n).fec.winUnc = f.winUnc)
            ∧ (x.eng ≠ none → Counted s t (Reg.fecUncorr n) (.chan n .fec) 0 ∧ (t.chan n).fec.winUnc = true)
            ∧ (f.uncRun < 7 ∨ s.linkUp n = false → (t.chan n).fec.uncRun = f.uncRun + 1 ∧ t.linkUp n = s.linkUp n)
            ∧ (7 ≤ f.uncRun → s.linkUp n = true → t.linkUp n = false ∧ Raised s t (Reg.anDropUncorr n) 1)))
    ∧ ((f.flight = [] ∨ ∃ x rest, f.flight = x :: rest ∧ s.now < x.rel) → exec (.codewordRelease n) s = .next s)
    ∧ (2 ^ 20 ≤ f.winCw →
        ∃ t, exec (.berWindowEnd n) s = .next t ∧ Wrapped s t (Reg.fecBerWindows n) 1 ∧ t.bit (Reg.fecBerEst n) 31 = true ∧ t.bit (Reg.fecBerEst n) 30 = f.winUnc
          ∧ t.bit (hdr (.chan n .fec) hIntStatus) 4 = true ∧ (t.chan n).fec = { f with winCw := 0, winBits := 0, winUnc := false }
          ∧ RegFrame (fun a => a = Reg.fecBerEst n ∨ a = Reg.fecBerWindows n ∨ a = hdr (.chan n .fec) hIntStatus) s t)
    ∧ (f.winCw < 2 ^ 20 → exec (.berWindowEnd n) s = .next s)
    ∧ (f.startAt = true → s.singleDue n = true →
        ∃ t, exec (.singleEngineStart n) s = .next t ∧ t.bit (Reg.fecStatus n) 2 = true ∧ t.bit (Reg.fecStatus n) 3 = (s.rxDir n == .z25)
          ∧ (t.chan n).fec = { f with solo := s.engFenced n false, startAt := false, endAt := false }
          ∧ Unchanged [.regs, .jrnl, .chans] s t ∧ OnlyChan n s t ∧ RegFrame (fun a => a = Reg.fecStatus n ∨ a = hdr (.chan n .fec) hIntStatus ∨ entryRegs (.chan n .fec) a) s t)
    ∧ ((f.startAt = false ∨ s.singleDue n = false) → exec (.singleEngineStart n) s = .next s)
    ∧ (f.endAt = true →
        ∃ t, exec (.singleEngineEnd n) s = .next t ∧ t.bit (Reg.fecStatus n) 2 = false ∧ t.bit (Reg.fecStatus n) 3 = false
          ∧ (t.chan n).fec = { f with outA := f.outA && s.engFenced n false, outB := f.outB && s.engFenced n true, startAt := false, endAt := false }
          ∧ Unchanged [.regs, .jrnl, .chans] s t ∧ OnlyChan n s t ∧ RegFrame (fun a => a = Reg.fecStatus n ∨ a = hdr (.chan n .fec) hIntStatus ∨ entryRegs (.chan n .fec) a) s t)
    ∧ (f.endAt = false → exec (.singleEngineEnd n) s = .next s)

/-- Every 1,024 µs of the receiver: clipped samples are counted, and the levels are shown: echo power and residual echo, and on a live link the received power with the gain that it recommends and LOW_SIGNAL; each coefficient becomes what the chain's adaptation reached, a frozen loop's stays, the DFE's are bounded, and with those bounds feedback alone changes a symbol by no more than 0.9 level units. The shadowing of slices moves to the next position and keeps the correction that the spare reached. A slice whose corrections left their range, or a saturated segment, raises its fault and gets a spare scheduled at its position; without one left the channel is fenced. It rests on the model's choices of notes/assumptions 98, 99, 101, 102, 136 and 156. -/
def Obligations.LevelsAndSpareElementsAreKept : Prop :=
  ∀ (n : Ch) (s : State), s.Canonical →
    let on := (s.chan n).afe.eff = .on
    let whole (t : State) : Prop := ∀ k, 0 ≤ Store.get (fun _ => (0 : Rat)) (t.chan n).rx.frac k ∧ Store.get (fun _ => (0 : Rat)) (t.chan n).rx.frac k < 1
    (∀ m : RxMeas, on → (s.chan n).dsp.eff = .on → s.drains (.chan n .eq) = false →
      let p := s.rxPar n m
      let q := (s.rxRun n).run p m.codes
      let clips := m.codes.countP clipped
      let sil := p.samplesAt m.codes (· == .silent)
      let dat := p.samplesAt m.codes (fun k => if isZ (s.lineMode n) then k == .data else k != .rest)
      let left := (q.res.filter (fun x => x.1 == .silent)).map (·.2)
      ∃ t, exec (.powerMeasurementUpdate n m) s = .next t ∧ Raised s t (Reg.afeAdcClip n) clips
        ∧ (0 < clips → s.reg (Reg.afeAdcClip n) ≠ 0xFFFFFFFF → t.bit (hdr (.chan n .afe) hIntStatus) 0 = true)
        ∧ (s.linkUp n = false → s.phase n ≠ 0 → (s.chan n).line.sent ≠ [] → sil ≠ [] → t.fld (Reg.afeRxPower n) 27 16 = twos 12 (s.atMdi n (meanSquare sil)))
        ∧ (s.linkUp n = false → left ≠ [] → t.reg (Reg.eqEcResidual n) = BitVec.ofNat 32 (2 ^ 31 + twos 12 (s.atMdi n (meanSquare left))))
        ∧ (s.linkUp n = true → q.errs ≠ [] → t.reg (Reg.eqEcResidual n) = BitVec.ofNat 32 (2 ^ 31 + twos 12 (s.atMdi n (q.leftEcho p))))
        ∧ (s.linkUp n = true → dat ≠ [] →
            let w := s.atMdi n (meanSquare dat)
            let r := gainCode (recGain w (decide (s.fld (Reg.afeClipLimit n) 15 0 < clips)))
            t.bit (Reg.afeRxPower n) 31 = true ∧ t.fld (Reg.afeRxPower n) 11 0 = twos 12 w ∧ t.bit (Reg.afeGainStatus n) 31 = true
            ∧ t.fld (Reg.afeGainStatus n) 21 16 = r.1 ∧ t.fld (Reg.afeGainStatus n) 24 24 = r.2
            ∧ t.bit (Reg.afeGainStatus n) 30 = decide (w + 5 * s.gain2 n < -130)
            ∧ (s.bit (Reg.afeGainStatus n) 30 ≠ t.bit (Reg.afeGainStatus n) 30 → t.bit (hdr (.chan n .afe) hIntStatus) 1 = true)
            ∧ (s.fld (Reg.afeGainStatus n) 24 16 ≠ t.fld (Reg.afeGainStatus n) 24 16 →
                t.bit (hdr (.chan n .afe) hIntStatus) 3 = true))
        ∧ ((s.linkUp n = false ∨ dat = []) → t.reg (Reg.afeGainStatus n) = s.reg (Reg.afeGainStatus n))
        ∧ whole t
        ∧ (whole s →
            (∀ k, k < 48 → t.sfld (Reg.eqFfeTap n k) 15 0 = clampS 16 (q.c.getD k 0).floor)
            ∧ (∀ k, k < 4 → t.sfld (Reg.eqDfeTap n k) 11 0 = (q.b.getD k 0).floor)
            ∧ ((∀ v ∈ s.rxView n :: (s.chan n).rx.views.map (·.2), v.frozen.testBit 2 = true) → ∀ k, k < 48 → t.reg (Reg.eqFfeTap n k) = s.reg (Reg.eqFfeTap n k))
            ∧ ((∀ v ∈ s.rxView n :: (s.chan n).rx.views.map (·.2), v.frozen.testBit 3 = true) → ∀ k, k < 4 → t.reg (Reg.eqDfeTap n k) = s.reg (Reg.eqDfeTap n k)))
        ∧ (t.chan n).rx.est = (s.chan n).rx.est ++ q.phases p
        ∧ (q.b = (s.rxRun n).b ∨ ((∀ v ∈ q.b, -512 ≤ v ∧ v ≤ 512) ∧ (absSum q.b ≤ 2048 * 45 / 100 ∨ absSum q.b ≤ absSum (s.rxRun n).b)))
        ∧ Unchanged [.regs, .chans] s t ∧ OnlyChan n s t ∧ RegFrame (ofChan n) s t)
    ∧ (∀ b w v : List Rat, b.length = 4 → w.length = 4 → v.length = 4 → (∀ x ∈ b, absR x ≤ 512) → absSum b ≤ 2048 * 45 / 100 →
        (∀ k, absR (w.getD k 0 - v.getD k 0) ≤ 2) →
        absR (dot b w / 2048 - dot b v / 2048) ≤ 9 / 10
        ∧ (∀ j, (∀ k, k ≠ j → w.getD k 0 = v.getD k 0) → absR (dot b w / 2048 - dot b v / 2048) ≤ 1 / 2))
    ∧ (∀ m : RxMeas, (s.chan n).afe.eff ≠ .on → exec (.powerMeasurementUpdate n m) s = .next s)
    ∧ (∀ m : RxMeas, on → (s.chan n).dsp.eff ≠ .on ∨ s.drains (.chan n .eq) = true →
        ∃ t, exec (.powerMeasurementUpdate n m) s = .next t ∧ Raised s t (Reg.afeAdcClip n) (m.codes.countP clipped) ∧ Unchanged [.regs] s t
          ∧ RegFrame (fun x => x = Reg.afeAdcClip n ∨ x = hdr (.chan n .afe) hIntStatus) s t)
    ∧ (∀ pairs : List (Byte × Byte),
       let a := Reg.afeAdcStatus n
       let cur := s.fld a 13 8
       let f := s.shadowing n
       let act := s.sliceCorr n ((s.chan n).trim.slices.getD (s.fld a 21 16) 0)
       let c := (pairs.filter (fun x => !clipped x.1 && !clipped x.2)).foldl (fun c x =>
         corrStep c (corrected c x.1 - corrected act x.2) (corrected act x.2 * corrected act x.2 - corrected c x.1 * corrected c x.1)) (s.sliceCorr n cur)
       (on → f ≠ [] →
          ∃ t, exec (.shadowAdvance n pairs) s = .next t ∧ t.fld a 21 16 = (s.fld a 21 16 + 1) % 32
            ∧ (t.chan n).rx.corr = (if (s.frozen n).testBit 4 then (s.chan n).rx.corr
                else Store.put (fun _ => ((0, 0) : Rat × Rat)) (s.chan n).rx.corr cur c)
            ∧ ((s.fld a 21 16 + 1) % 32 ≠ 0 → t.fld a 13 8 = cur)
            ∧ ((s.fld a 21 16 + 1) % 32 = 0 → t.fld a 13 8 = (f.erase cur ++ (if f.contains cur then [cur] else [])).headD cur % 64)
            ∧ Unchanged [.regs, .chans] s t ∧ OnlyChan n s t ∧ RegFrame (fun x => x = a) s t)
       ∧ ((s.chan n).afe.eff ≠ .on ∨ f = [] → exec (.shadowAdvance n pairs) s = .next s))
    ∧ (∀ e : Fin 36,
        (on → s.chanFenced n = false → corrOut (s.sliceCorr n e.val) = true → (s.chan n).rx.badSlices.contains e.val = false →
          let bad := (s.chan n).rx.badSlices ++ [e.val]
          let map := swapped (s.chan n).trim.slices (s.chan n).rx.sliceSwap
          let pos := map.findIdx? (· == e.val)
          let u := (s.mapRx n (fun r => { r with badSlices := bad })).refreshSpares n
          let spare := u.newestSpare n (sparesLeft map 36 bad)
          ∃ t, exec (.sliceFault n e) s = .next t ∧ (t.chan n).rx.badSlices = bad ∧ t.bit (hdr (.chan n .afe) hFaultStatus) 4 = true
            ∧ (t.chan n).rx.fresh.contains e.val = false
            ∧ (∀ p x, pos = some p → spare = some x → (t.chan n).rx.sliceSwap = (s.chan n).rx.sliceSwap.filter (fun y => y.1 != p) ++ [(p, x)] ∧ t.bit (Reg.trimChStatus n.val) 27 = true ∧ t.chanFenced n = false)
            ∧ (pos ≠ none → spare = none → t.chanFenced n = true)
            ∧ (pos = none → (t.chan n).rx.sliceSwap = (s.chan n).rx.sliceSwap ∧ t.chanFenced n = false))
        ∧ ((s.chan n).afe.eff ≠ .on ∨ s.chanFenced n = true ∨ corrOut (s.sliceCorr n e.val) = false ∨ (s.chan n).rx.badSlices.contains e.val = true →
          exec (.sliceFault n e) s = .next s))
    ∧ (∀ cur : List Nat,
        let l := (saturated cur).filterMap (fun k => (s.chan n).trim.segs[k]?)
        (on → ∃ t, exec (.segmentMonitor n cur) s = .next t ∧ (t.chanFenced n = false → ∀ e ∈ l, (t.chan n).rx.badSegs.contains e = true))
        ∧ (∀ e, on → l = [e] → s.chanFenced n = false → (s.chan n).rx.badSegs.contains e = false →
          let bad := (s.chan n).rx.badSegs ++ [e]
          let map := swapped (s.chan n).trim.segs (s.chan n).rx.segSwap
          let pos := map.findIdx? (· == e)
          let left := sparesLeft map 72 bad
          ∃ t, exec (.segmentMonitor n cur) s = .next t ∧ (t.chan n).rx.badSegs = bad ∧ t.bit (hdr (.chan n .afe) hFaultStatus) 5 = true
            ∧ (∀ p, pos = some p → left ≠ [] → ∃ x, x ∈ left
                ∧ (t.chan n).rx.segSwap = (s.chan n).rx.segSwap.filter (fun y => y.1 != p) ++ [(p, x)] ∧ t.bit (Reg.trimChStatus n.val) 27 = true ∧ t.chanFenced n = false)
            ∧ (pos ≠ none → left = [] → t.chanFenced n = true)
            ∧ (pos = none → (t.chan n).rx.segSwap = (s.chan n).rx.segSwap ∧ t.chanFenced n = false))
        ∧ ((s.chan n).afe.eff ≠ .on ∨ l = [] ∨ s.chanFenced n = true ∨ (∀ e ∈ l, (s.chan n).rx.badSegs.contains e = true) → exec (.segmentMonitor n cur) s = .next s))

/-- Where the receiver works, each phase estimate moves phase and frequency by the loop's gains, unless they coast; LOCK falls where a condition for its loss holds and rises after 64 estimates without one, a change setting EQ.INT_STATUS bit 0; phase and frequency are shown. The spread model locks where it fits what was observed, and fails where that differs from the announcement, each where spread was announced and pilots are tracked. A freeze of adaptation ends after its orbits; a noise measurement, where it may run, shows its eight bands at one instant, its rate and its count, and EQ.INT_STATUS bit 2; the pattern checker gains sync after 64 right symbols, loses it by 64 errors within 1,024, and counts errors in sync. It rests on the model's choices of notes/assumptions 7, 12, 113 and 158. -/
def Obligations.TimingNoiseAndPatternAreShown : Prop :=
  ∀ (n : Ch) (s : State), s.Canonical →
    let eqInt := hdr (.chan n .eq) hIntStatus
    let tr := Reg.eqTrStatus n
    let r := (s.chan n).rx
    (((s.chan n).dsp.eff = .on → s.lineReady n = true →
        (∀ x l, r.est = x :: l → ∃ u, exec (.timingLockChange n) (s.mapRx n (fun r => { r with est := [x] })) = .next u
          ∧ exec (.timingLockChange n) s = exec (.timingLockChange n) (u.mapRx n (fun r => { r with est := l })))
        ∧ ∃ t, exec (.timingLockChange n) s = .next t ∧ (t.chan n).rx.est = []
          ∧ t.fld (Reg.eqTrPhase n) 9 0 = (((t.chan n).rx.trPhase * 1024).floor % 1024).toNat
          ∧ t.fld tr 19 0 = twos 20 (clampS 20 (roundInt (((t.chan n).rx.trFreq + t.sscNow n) * 100000000)))
          ∧ (∀ k, r.est = List.replicate k none → t.bit tr 31 = s.bit tr 31 ∧ (t.chan n).rx = { r with
              est := [], trPhase := r.trPhase + k * ((r.trFreq + s.sscNow n) * s.trSymbols n) })
          ∧ (∀ e, r.est = [some e] →
              let dt := (s.trSymbols n : Rat) * s.symbolPs n
              let bw := 125 * 2 ^ s.bwActs n
              (t.chan n).rx.trFreq = r.trFreq + Config.loopKi bw dt * e
              ∧ (t.chan n).rx.trPhase = r.trPhase + Config.loopKp bw dt * e + (r.trFreq + s.sscNow n) * s.trSymbols n
              ∧ (t.chan n).rx.trErr = (absR e :: r.trErr).take 64
              ∧ (t.chan n).rx.trGood = (if t.trBad n then 0 else r.trGood + 1)
              ∧ t.bit tr 31 = (!t.trBad n && (s.bit tr 31 || decide (64 ≤ (t.chan n).rx.trGood)))
              ∧ ((s.trRange n).1 ≤ (t.chan n).rx.trFreq → (t.chan n).rx.trFreq ≤ (s.trRange n).2 → meanR (t.chan n).rx.trErr ≤ 1 / 8 → 63 ≤ r.trGood → t.bit tr 31 = true)
              ∧ t.bit eqInt 0 = (s.bit eqInt 0 || (s.bit tr 31 != t.bit tr 31)))
          ∧ Unchanged [.regs, .chans] s t ∧ OnlyChan n s t ∧ RegFrame (fun a => a = Reg.eqTrPhase n ∨ a = tr ∨ a = eqInt) s t)
      ∧ ((s.chan n).dsp.eff ≠ .on ∨ s.lineReady n = false → exec (.timingLockChange n) s = .next s))
    ∧ (∀ (corner : Nat) (obs : List (Nat × Rat)),
        (s.sscModels n = true → s.bit (Reg.eqSscStatus n) 30 = false → (s.sscFits n corner obs).2 = true →
          ∃ t, exec (.sscModelLock n corner obs) s = .next t ∧ t.bit (Reg.eqSscStatus n) 30 = true ∧ t.bit eqInt 1 = true
            ∧ (t.chan n).rx = { r with sscCorner := corner, trFreq := (s.sscFits n corner obs).1 }
            ∧ Unchanged [.regs, .chans] s t ∧ OnlyChan n s t ∧ RegFrame (fun a => a = Reg.eqSscStatus n ∨ a = eqInt) s t)
        ∧ (s.sscModels n = false ∨ s.bit (Reg.eqSscStatus n) 30 = true ∨ (s.sscFits n corner obs).2 = false → exec (.sscModelLock n corner obs) s = .next s))
    ∧ (∀ depth rate : Rat,
        let differs : Prop := (s.fld (Reg.eqSscStatus n) 5 0 : Rat) < 20 * absR (depth - s.fld (Reg.eqSscStatus n) 5 0)
          ∨ (r.sscHalf : Rat) < 100 * absR (2 * rate - r.sscHalf)
        (s.sscModels n = true → differs →
          ∃ t, exec (.sscModelFail n depth rate) s = .next t ∧ t.bit (Reg.eqSscStatus n) 30 = false ∧ t.bit (Reg.eqSscStatus n) 29 = true ∧ t.bit eqInt 1 = true
            ∧ Unchanged [.regs] s t ∧ RegFrame (fun a => a = Reg.eqSscStatus n ∨ a = eqInt) s t)
        ∧ (s.sscModels n = false ∨ ¬ differs → exec (.sscModelFail n depth rate) s = .next s))
    ∧ (r.freeze = 1 →
        ∃ t, exec (.adaptFreezeEnd n) s = .next t ∧ (t.chan n).rx = { r with freeze := 0 } ∧ t.bit (Reg.eqAdaptStatus n) 18 = false
          ∧ Unchanged [.regs, .chans] s t ∧ OnlyChan n s t ∧ RegFrame (fun a => a = Reg.eqAdaptStatus n) s t)
    ∧ (r.freeze ≠ 1 → exec (.adaptFreezeEnd n) s = .next s)
    ∧ (∀ blocks : List (List Byte),
        (s.nfMay n = true → s.nfBlocks n blocks = true →
          ∃ t, exec (.noiseFloorComplete n blocks) s = .next t
            ∧ (∀ k, k < 8 → t.fld (Reg.eqNfBand n (k / 2)) (k % 2 * 16 + 15) (k % 2 * 16) = twos 16 ((s.noiseBands n blocks).getD k 0))
            ∧ t.bit (Reg.eqNfStatus n) 31 = true ∧ t.fld (Reg.eqNfStatus n) 27 24 = s.nfRate n ∧ t.fld (Reg.eqNfStatus n) 15 0 = (s.fld (Reg.eqNfStatus n) 15 0 + 1) % 2 ^ 16
            ∧ t.bit eqInt 2 = true ∧ Unchanged [.regs] s t
            ∧ RegFrame (fun a => (∃ k, k < 4 ∧ a = Reg.eqNfBand n k) ∨ a = Reg.eqNfStatus n ∨ a = eqInt ∨ a = Reg.diagNfRise n ∨ a = hdr (.chan n .diag) hIntStatus) s t)
        ∧ (s.nfMay n = false ∨ s.nfBlocks n blocks = false → exec (.noiseFloorComplete n blocks) s = .next s))
    ∧ (let may := s.bit (Reg.diagTpCtrl n) 8 && !s.fenced (.chan n .diag) && (s.chan n).dsp.eff == .on && (s.chan n).afe.eff == .on
       let was := s.bit (Reg.diagLbStatus n) 29
       let d := (s.chan n).diag
       let dInt := hdr (.chan n .diag) hIntStatus
       let single := isZ (s.lineMode n) && s.rxDir n == .a1
       let one (x : Bool × Nat × List Nat) (b : Bool) : Bool × Nat × List Nat :=
         let run := if b then x.2.1 + 1 else 0
         let errs : List Nat := (if b || !x.1 then [] else [0]) ++ ((x.2.2.map (· + 1)).filter (· < 1024))
         let sync := if x.1 then decide (errs.length < 64) else decide (64 ≤ run)
         (sync, run, if sync == x.1 then errs else [])
       let compared (u : State) (l : List Int) : Prop :=
         let w := trainRun (if single then .a1 else .z50) d.patReg l.length
         let right := (List.zip l w.1).map (fun p => p.1 == p.2)
         let x := right.foldl one (was, d.patRun, d.patErrs)
         u.bit (Reg.diagLbStatus n) 29 = x.1 ∧ (right.all id = true ∨ (was = false ∧ x.1 = false) → u.reg (Reg.diagPatErr n) = s.reg (Reg.diagPatErr n))
         ∧ (right = [false] → was = true → Raised s u (Reg.diagPatErr n) 1) ∧ (x.1 ≠ was → u.bit dInt 5 = true)
         ∧ (∃ g, (u.chan n).diag = { d with patRun := x.2.1, patErrs := x.2.2, patReg := g, patHalf := if single then d.patHalf else none } ∧ (was = true → g = w.2))
         ∧ Unchanged [.regs, .chans] s u ∧ OnlyChan n s u ∧ RegFrame (fun a => a = Reg.diagLbStatus n ∨ a = Reg.diagPatErr n ∨ a = dInt) s u
       (may = true → exec (.patternSyncChange n []) s = .next s ∧ ∀ (v : Int) (rest : List Int),
          ∃ u, exec (.patternSyncChange n [v]) s = .next u ∧ exec (.patternSyncChange n (v :: rest)) s = exec (.patternSyncChange n rest) u
            ∧ (single = true → compared u [v])
            ∧ (single = false → d.patHalf = none → u = s.mapDiag n (fun d => { d with patHalf := some v }))
            ∧ (single = false → ∀ x, d.patHalf = some x → compared u [x, v]))
       ∧ (may = false → ∀ l, exec (.patternSyncChange n l) s = .next s))

/-- A negotiation that ends with a common mode and no role fault keeps the partner's pages, stores its resolution and starts a cold train; any other end starts a new one where the channel may negotiate. After 34 ms of phase 1 phase 2 begins with its limit; in phases 2 and 3 an end sends training orbits with its status word. A status word with ABORT, or in a resumed train one that does not resume with the stored identifier, fails the training; any other counts the orbits in which the partner is ready, or already in a later phase. An end whose receiver is ready, and whose partner showed it for 8 orbits, enters the next phase; in phase 4 it sends DATA, and the link comes up once it has also decoded DATA. Orbit lock, once acquired, is shown. It rests on the model's choices of notes/assumptions 7, 17, 149 and 151. -/
def Obligations.NegotiationLeadsThroughThePhases : Prop :=
  ∀ (n : Ch) (s : State), s.Canonical →
    let lk := (s.chan n).link
    (∀ (lp : BasePage) (np : List NextPage),
      (lk.neg = true → s.lineReady n = true →
        let pages := tageocOf np
        ∃ t, exec (.negotiationComplete n lp np) s = .next t
          ∧ t.reg (Reg.anLpUp1 n) = (pages.map (·.1)).getD 0 ∧ t.reg (Reg.anLpUp2 n) = (pages.map (·.2)).getD 0 ∧ OnlyChan n s t
          ∧ (∀ leader r, msResolve lk.base lp = some leader → resolve lk.up1 lk.up2 lk.base.tech lp.tech pages leader = some r →
              (∃ ssc, t.reg (Reg.anResolved n) = resolvedWord r leader (s.bit (Reg.anResolved n) 29) ssc (lk.nonce ^^^ lp.nonce).toNat)
              ∧ (t.fencesForbid n = false → t.kind n = 1 ∧ t.phase n = 1 ∧ (t.chan n).link.neg = false ∧ Raised s t (Reg.anColdTrains n) 1)
              ∧ (t.fencesForbid n = true → t.kind n = 0 ∧ t.phase n = 0 ∧ (t.chan n).link.neg = s.mayNegotiate n))
          ∧ ((msResolve lk.base lp = none ∨ ∃ leader, msResolve lk.base lp = some leader ∧ resolve lk.up1 lk.up2 lk.base.tech lp.tech pages leader = none) →
              t.reg (Reg.anResolved n) = s.reg (Reg.anResolved n) ∧ t.kind n = 0 ∧ t.phase n = 0 ∧ (t.chan n).link.neg = s.mayNegotiate n))
      ∧ (lk.neg = false ∨ s.lineReady n = false → exec (.negotiationComplete n lp np) s = .next s))
    ∧ (∀ k : Nat, s.lineReady n = true → s.pattern n = 0 → s.sendsTraining n = true → (s.phase n = 1 → (s.chan n).line.p1 = false) →
        let z := s.txDir n
        ∃ t o, exec (.orbitTransmit n k) s = .next t ∧ (t.chan n).line.lastTx = some o ∧ o.tsw = some (s.tswSent n)
          ∧ o.syms = orbitSymbols z (tswSymbols z (s.tswSent n)) (trainData z (s.phase n) (layout z).segments 0 (s.chan n).line.trainReg).1
          ∧ (t.chan n).link = { lk with abort := lk.abort.map (· - 1) } ∧ Unchanged [.chans] s t ∧ OnlyChan n s t)
    ∧ (s.kind n = 1 ∧ s.phase n = 1 ∧ isZ (s.lineMode n) = true ∧ lk.phaseFrom + ms 34 ≤ s.now →
        ∃ t, exec (.phase1Timer n) s = .next t ∧ t.phase n = 2 ∧ t.kind n = 1 ∧ (t.chan n).link.limitAt = some (s.now + ms 30)
          ∧ Unchanged [.regs, .chans] s t ∧ OnlyChan n s t ∧ RegFrame (fun a => a = Reg.anTrnStatus n ∨ a = Reg.eqAdaptStatus n) s t)
    ∧ (s.kind n = 1 → s.phase n = 1 → isZ (s.lineMode n) = true → s.now < lk.phaseFrom + ms 34 →
        exec (.phase1Timer n) s = .next (s.mapChan n (fun c => { c with line := { c.line with p1 := phase1Sends (s.leader n) (s.now - lk.phaseFrom) } })))
    ∧ (s.kind n ≠ 1 ∨ s.phase n ≠ 1 ∨ isZ (s.lineMode n) = false → exec (.phase1Timer n) s = .next s)
    ∧ (∀ (mark' : BitVec 16) (signs : BitVec 224) (errs : List Rat),
        let mark := s.heardMark n mark'
        let w := tswDecide (s.rxDir n) (msbBits (s.heardSigns n signs))
        let good := w >>> 12 = 0xA
        let id := w.toNat % 32 ≠ s.fld (Reg.anResolved n) 4 0
        let stray := s.kind n ≠ 1 ∧ s.nearLb n = false ∧ (w.getLsbD 7 = false ∨ id)
        let may := (s.phase n = 2 ∨ s.phase n = 3) ∧ isZ (s.lineMode n) = true ∧ s.orbitLock n = true ∧ lk.abort = none
        let holds := markFound mark = true ∨ s.linkUp n = false ∨ lk.markRun < 3
        (may → ∃ t, exec (.tswReceive n mark' signs errs) s = .next t
          ∧ (errs ≠ [] → t.fld (Reg.eqMseLast n) 15 0 = twos 16 (tenthDb (meanSquare (s.heardErrs n errs))))
          ∧ (markFound mark = false → Counted s t (Reg.pcsMarkMiss n) (.chan n .pcs) 0)
          ∧ (holds → good → w.getLsbD 6 = true → TrainFailed n 6 s t) ∧ (holds → good → w.getLsbD 6 = false → stray → TrainFailed n 4 s t)
          ∧ (holds → (¬ good ∨ (w.getLsbD 6 = false ∧ ¬ stray)) →
              t.phase n = s.phase n ∧ t.kind n = s.kind n
              ∧ (t.chan n).link.tswRun = (if good ∧ ((w.getLsbD 8 = true ∧ s.phase n = (w >>> 9).toNat % 8) ∨ s.phase n < (w >>> 9).toNat % 8) then lk.tswRun + 1 else 0)
              ∧ (s.phase n = 2 → (t.chan n).link.readyRun = (if s.bit (Reg.eqTrStatus n) 31 then lk.readyRun + 1 else 0))
              ∧ Unchanged [.regs, .chans] s t ∧ OnlyChan n s t))
        ∧ (¬ may → exec (.tswReceive n mark' signs errs) s = .next s))
    ∧ (let go := (s.phase n = 2 ∨ s.phase n = 3) ∧ isZ (s.lineMode n) = true ∧ lk.abort = none ∧ s.rxReady n = true ∧ 8 ≤ lk.tswRun
       let four := s.phase n = 4 ∧ isZ (s.lineMode n) = true ∧ s.linkUp n = false
       (go → ∃ t, exec (.trainingPhaseAdvance n) s = .next t ∧ t.phase n = s.phase n + 1 ∧ t.kind n = s.kind n
          ∧ (t.chan n).link.limitAt = some (s.now + phaseLimit (s.kind n) (s.phase n + 1)) ∧ (t.chan n).link.tswRun = 0 ∧ OnlyChan n s t
          ∧ (s.phase n = 3 → (t.chan n).line.txTy = some .train ∧ (t.chan n).line.txNext = 0))
       ∧ (four → (lk.sends = true ∨ 64 ≤ lk.readyRun) →
          ∃ t, exec (.trainingPhaseAdvance n) s = .next t ∧ (t.chan n).link.sends = true ∧ (lk.sends = false → (t.chan n).line.txTy = some .data)
            ∧ (lk.got = true → t.linkUp n = true ∧ t.phase n = 5 ∧ t.fld (Reg.pcsLineStatus n) 3 0 = s.lineMode n ∧ t.bit (hdr (.chan n .an) hIntStatus) 0 = true)
            ∧ (lk.got = false → t.regs = s.regs))
       ∧ ((¬ go ∧ ¬ four) ∨ (four ∧ lk.sends = false ∧ lk.readyRun < 64) → exec (.trainingPhaseAdvance n) s = .next s))
    ∧ (s.orbits n = true → s.lineReady n = true →
        ∃ t, exec (.orbitLockAcquired n) s = .next t ∧ t.orbitLock n = true ∧ (s.orbitLock n = false → t.bit (hdr (.chan n .pcs) hIntStatus) 4 = true)
          ∧ (t.chan n).link = { lk with markRun := 0, holdBy := none, limitAt := if lk.holdBy.isSome then some (s.now + us 600) else lk.limitAt }
          ∧ OnlyChan n s t ∧ RegFrame (fun a => a = Reg.pcsLineStatus n ∨ a = Reg.eqAdaptStatus n ∨ a = hdr (.chan n .pcs) hIntStatus) s t)
    ∧ (s.orbits n = false ∨ s.lineReady n = false → exec (.orbitLockAcquired n) s = .next s)

/-- A training whose phase exceeds its limit fails with the cause of its phase, one without the partner's marks within FAST_HOLD with cause 5, and one in which the partner negotiates with cause 7; in a cold train the mode that has failed FAIL_LIMIT times is advertised no more. After its 64 ABORT words an end negotiates. In a standard mode the clause brings the link up, or drops it and trains again or negotiates, and where the clause is quiet the loops stand still and a waiting gain acts. It rests on the model's choices of notes/assumptions 7, 17 and 152. -/
def Obligations.TrainingsFailAndClausesLinkUp : Prop :=
  ∀ (n : Ch) (s : State), s.Canonical →
    let lk := (s.chan n).link
    let lim := s.fld (Reg.anPolicy n) 3 0
    (∀ at_, lk.limitAt = some at_ → at_ ≤ s.now → s.linkUp n = false →
      ∃ t, exec (.trainingTimeout n) s = .next t ∧ TrainFailed n (s.phase n - 1) s t ∧ Unchanged [.freeCtr, .regs, .jrnl, .clk, .chans] s t ∧ OnlyChan n s t
        ∧ (s.kind n = 1 → s.nearLb n = false → 0 < lim → lim ≤ (if lk.failMode = failKey (s.lineMode n) then lk.failRun + 1 else 1) →
            (t.chan n).link.removed = lk.removed ||| downBits (failKey (s.lineMode n)) ∧ t.bit (Reg.anResolved n) 29 = true
            ∧ Counted s t (Reg.anDownshifts n) (.chan n .an) 2)
        ∧ (s.kind n ≠ 1 ∨ s.nearLb n = true → (t.chan n).link.removed = lk.removed))
    ∧ ((lk.limitAt = none ∨ s.linkUp n = true ∨ ∃ at_, lk.limitAt = some at_ ∧ s.now < at_) → exec (.trainingTimeout n) s = .next s)
    ∧ (lk.abort = some 0 → s.linkUp n = false →
        ∃ t, exec (.abortTswEnd n) s = .next t ∧ (t.chan n).link.abort = none ∧ t.phase n = 0 ∧ t.kind n = 0 ∧ (t.chan n).link.neg = s.mayNegotiate n ∧ OnlyChan n s t)
    ∧ ((lk.abort ≠ some 0 ∨ s.linkUp n = true) → exec (.abortTswEnd n) s = .next s)
    ∧ (∀ by_, lk.holdBy = some by_ → by_ ≤ s.now → s.phase n = 2 → s.linkUp n = false →
        ∃ t, exec (.fastHoldExpiry n) s = .next t ∧ TrainFailed n 5 s t ∧ OnlyChan n s t)
    ∧ ((lk.holdBy = none ∨ s.phase n ≠ 2 ∨ s.linkUp n = true ∨ ∃ by_, lk.holdBy = some by_ ∧ s.now < by_) → exec (.fastHoldExpiry n) s = .next s)
    ∧ (s.linkUp n = false → 1 ≤ s.phase n → s.phase n ≤ 4 → lk.abort = none →
        ∃ t, exec (.partnerNegotiationSignal n) s = .next t ∧ TrainFailed n 7 s t ∧ OnlyChan n s t)
    ∧ ((s.linkUp n = true ∨ s.phase n = 0 ∨ 4 < s.phase n ∨ lk.abort ≠ none) → exec (.partnerNegotiationSignal n) s = .next s)
    ∧ (let may := s.lineMode n ≠ 0 ∧ isZ (s.lineMode n) = false ∧ s.linkUp n = false ∧ s.lineReady n = true ∧ 1 ≤ s.phase n
       (may → ∃ t, exec (.standardModeLinkUp n) s = .next t ∧ t.linkUp n = true ∧ t.phase n = 5 ∧ t.fld (Reg.pcsLineStatus n) 3 0 = s.lineMode n
          ∧ t.bit (Reg.eqAdaptStatus n) 20 = (s.chan n).rx.rcvOk ∧ t.bit (hdr (.chan n .an) hIntStatus) 0 = true)
       ∧ (¬ may → exec (.standardModeLinkUp n) s = .next s))
    ∧ (∀ retrain : Bool,
        (s.stdUp n = true → ∃ t, exec (.standardModeLinkDrop n retrain) s = .next t ∧ t.linkUp n = false ∧ t.bit (Reg.eqAdaptStatus n) 20 = false
          ∧ t.bit (hdr (.chan n .an) hIntStatus) 0 = true
          ∧ (retrain = true → t.phase n = 1 ∧ t.kind n = s.kind n ∧ (t.chan n).link.trainFrom = s.now)
          ∧ (retrain = false → t.phase n = 0 ∧ t.kind n = 0 ∧ (t.chan n).link.neg = s.mayNegotiate n))
        ∧ (s.stdUp n = false → exec (.standardModeLinkDrop n retrain) s = .next s))
    ∧ (∀ partner : Bool,
        (s.stdUp n = true → ∃ t, exec (.standardModeLpiQuiet n partner) s = .next t ∧ t.bit (Reg.anLpiStatus n) (if partner then 0 else 1) = true
          ∧ (s.bit (Reg.anLpiStatus n) (if partner then 0 else 1) = false → t.bit (hdr (.chan n .an) hIntStatus) 5 = true
              ∧ t.bit (Reg.eqAdaptStatus n) 17 = true ∧ t.fld (Reg.eqAdaptStatus n) 4 0 = 0x1F)
          ∧ (partner = true → s.bit (Reg.afeGainStatus n) 29 = true →
              t.bit (Reg.afeGainStatus n) 29 = false ∧ t.fld (Reg.afeGainStatus n) 5 0 = min (s.fld (Reg.afeRxGain n) 5 0) 48 ∧ t.fld (Reg.afeGainStatus n) 8 8 = s.fld (Reg.afeRxGain n) 8 8)
          ∧ (partner = true → TrimRxTaken n s t)
          ∧ (partner = false → TrimTxTaken n s t ∧ t.reg (Reg.afeGainStatus n) = s.reg (Reg.afeGainStatus n)))
        ∧ (s.stdUp n = false → exec (.standardModeLpiQuiet n partner) s = .next s))

/-- A transmitter whose conditions for LPI hold enters it at its next orbit, and leaves it with four WAKE orbits; in a standard mode it follows its host. A follower whose change waits asks once for an eclipse; the leader announces one for 24 orbits after its slot's first, 32 where it transmits A1 reverse; each end sends two ECLIPSE orbits from START on, where its transmit-side changes act, and its receive-side changes act with the first orbit of the partner's. One that is announced and not received, or received and not announced, counts; so does each interval of 128 orbits in which one is deferred; a request older than 1 s is STALE. It rests on the model's choices of notes/assumptions 100, 103 and 104. -/
def Obligations.LpiAndEclipsesRunAsTheirRulesSay : Prop :=
  ∀ (n : Ch) (s : State), s.Canonical →
    let c := s.chan n
    let A := Reg.anEclStatus n
    let anInt := hdr (.chan n .an) hIntStatus
    let lpiRegs (a : Nat) : Prop := a = Reg.anLpiStatus n ∨ a = anInt ∨ a = Reg.eqNfStatus n ∨ a = Reg.eqAdaptStatus n
    let only (t : State) : Prop := OnlyChan n s t ∧ Unchanged [.regs, .chans] s t
    (s.mayLpi n = true →
      ∃ t, exec (.lpiEnter n) s = .next t ∧ t.txLpi n = true ∧ (t.chan n).line.txTy = some .refresh
        ∧ (s.txLpi n = false → t.bit anInt 5 = true ∧ t.fld (Reg.anLpiStatus n) 31 16 = (s.fld (Reg.anLpiStatus n) 31 16 + 1) % 2 ^ 16)
        ∧ only t ∧ RegFrame lpiRegs s t)
    ∧ (s.stdUp n = true → c.buf.lpiFrom.isSome = true →
      ∃ t, exec (.lpiEnter n) s = .next t ∧ t.txLpi n = true
        ∧ (s.txLpi n = false → t.bit anInt 5 = true ∧ t.fld (Reg.anLpiStatus n) 31 16 = (s.fld (Reg.anLpiStatus n) 31 16 + 1) % 2 ^ 16)
        ∧ only t ∧ RegFrame lpiRegs s t)
    ∧ (s.mayLpi n = false → (s.stdUp n = false ∨ c.buf.lpiFrom = none) → exec (.lpiEnter n) s = .next s)
    ∧ (s.zUp n = true → s.txLpi n = true →
        ∃ t, exec (.lpiWake n) s = .next t ∧ t.txLpi n = false ∧ t.bit anInt 5 = true ∧ (t.chan n).line.txTy = some .wake ∧ (t.chan n).link.wakeLeft = 4
          ∧ (t.chan n).buf.lpiFrom = none ∧ only t ∧ RegFrame lpiRegs s t)
    ∧ (s.stdUp n = true → s.txLpi n = true →
        ∃ t, exec (.lpiWake n) s = .next t ∧ t.txLpi n = false ∧ t.bit anInt 5 = true ∧ only t ∧ RegFrame lpiRegs s t)
    ∧ (s.linkUp n = false ∨ s.txLpi n = false → exec (.lpiWake n) s = .next s)
    ∧ (let may := s.zUp n && !s.leader n && s.eclReasons n != 0 && !c.ecl.asked && c.ecl.drained
       (may = true → ∃ t, exec (.eclipseRequest n) s = .next t ∧ (t.chan n).line.oamQ = c.line.oamQ ++ [eclMessage 2 0 0 (s.eclReasons n)]
          ∧ (t.chan n).ecl = { c.ecl with asked := true } ∧ OnlyChan n s t ∧ Unchanged [.chans] s t)
       ∧ (may = false → exec (.eclipseRequest n) s = .next s))
    ∧ (let start := c.line.txNext + (if s.txDir n = .a1 then 32 else 24)
       let id : Byte := BitVec.ofNat 8 (s.reg (Reg.anEclCount n)).toNat
       let may := s.zUp n && s.leader n && s.slotStart n && s.eclPending n && c.ecl.ann.isNone && c.ecl.txLeft == 0 && s.eclSpaced n start && c.ecl.drained
         && !s.rxLpi n && !s.txLpi n
       (may = true → ∃ t, exec (.eclipseAnnounce n) s = .next t ∧ (t.chan n).line.oamQ = c.line.oamQ ++ [eclMessage 1 start id (s.eclReasons n)]
          ∧ (t.chan n).ecl = { c.ecl with ann := some (start, id), expect := some start } ∧ t.bit A 29 = true ∧ only t ∧ RegFrame (fun a => a = A) s t)
       ∧ (may = false → exec (.eclipseAnnounce n) s = .next s))
    ∧ (∀ start id, c.ecl.ann = some (start, id) →
        (s.zUp n = true → s.eclDue n start = true →
          ∃ t, exec (.eclipseStart n) s = .next t ∧ (t.chan n).line.txTy = some .eclipse ∧ (t.chan n).ecl.txLeft = 2 ∧ (t.chan n).ecl.last = some start
            ∧ (t.chan n).ecl.ann = none ∧ t.reg (Reg.anEclStart n) = start ∧ t.fld A 23 16 = id.toNat ∧ t.bit A 29 = false
            ∧ TrimTxTaken n s t ∧ OnlyChan n s t)
        ∧ ((s.zUp n = false ∨ s.eclDue n start = false) → exec (.eclipseStart n) s = .next s))
    ∧ (c.ecl.ann = none → exec (.eclipseStart n) s = .next s)
    ∧ (s.zUp n = true → c.ecl.expect ≠ none →
        ∃ t, exec (.eclipseReceive n) s = .next t ∧ (t.chan n).ecl.expect = none ∧ (t.chan n).ecl.rxIn = 2 ∧ t.bit (Reg.eqAdaptStatus n) 16 = true
          ∧ TrimRxTaken n s t ∧ (t.chan n).rx.dfeWait = false
          ∧ t.bit (Reg.afeGainStatus n) 29 = false ∧ t.bit (Reg.eqTrStatus n) 29 = false
          ∧ (s.bit (Reg.afeGainStatus n) 29 = true →
              t.fld (Reg.afeGainStatus n) 5 0 = min (s.fld (Reg.afeRxGain n) 5 0) 48 ∧ t.fld (Reg.afeGainStatus n) 8 8 = s.fld (Reg.afeRxGain n) 8 8)
          ∧ (s.bit (Reg.eqTrStatus n) 29 = true → t.bit (Reg.eqTrStatus n) 30 = s.bit (Reg.eqTrCtrl n) 0 ∧ t.bit (hdr (.chan n .eq) hIntStatus) 4 = true)
          ∧ (t.chan n).fec.iterArm = s.bit (Reg.fecStatus n) 4 ∧ OnlyChan n s t)
    ∧ (s.zUp n = false ∨ c.ecl.expect = none → exec (.eclipseReceive n) s = .next s)
    ∧ (∀ u : Bool,
        let late : Bool := if u then c.ecl.stray else c.ecl.expect.any (s.eclLate n)
        (s.zUp n = true → late = true →
          ∃ t, exec (.eclipseMiss n u) s = .next t ∧ Raised s t (Reg.anEclMiss n) 1 ∧ (t.chan n).ecl = (if u then { c.ecl with stray := false } else { c.ecl with expect := none })
            ∧ only t ∧ RegFrame (fun a => a = Reg.anEclMiss n) s t)
        ∧ ((s.zUp n = false ∨ late = false) → exec (.eclipseMiss n u) s = .next s))
    ∧ (let may := s.zUp n && s.eclPending n && c.ecl.ann.isNone && decide (128 ≤ orbitsAfter (s.leadIdx n) (s.deferBase n))
         && (!s.leader n || !c.ecl.drained || s.rxLpi n || s.txLpi n)
       (may = true → ∃ t, exec (.eclipseDefer n) s = .next t ∧ Raised s t (Reg.anEclDefer n) 1 ∧ (t.chan n).ecl = { c.ecl with waitFrom := some (s.deferBase n + 128) }
          ∧ only t ∧ RegFrame (fun a => a = Reg.anEclDefer n) s t)
       ∧ (may = false → exec (.eclipseDefer n) s = .next s))
    ∧ (∀ since, c.ecl.since = some since → since + sec 1 < s.now →
        ∃ t, exec (.eclipseStale n) s = .next t ∧ t.bit A 30 = true ∧ t.bit anInt 4 = true ∧ Unchanged [.regs] s t ∧ RegFrame (fun a => a = A ∨ a = anInt) s t)
    ∧ ((c.ecl.since = none ∨ ∃ since, c.ecl.since = some since ∧ s.now ≤ since + sec 1) → exec (.eclipseStale n) s = .next s)

/-- A frame from the host counts at its start and joins the rate-matching FIFO block by block, or is dropped whole where the link is down, HPLL has no lock, a far-end loopback acts or the FIFO has no room; idle between frames is deleted while frames wait; XOFF, its repetition and XON follow the occupancy. A relay pair becomes active once EN is 1 and both channels allow it, and then stays so while neither RLY page is fenced; a received frame goes to the tap and to the relay FIFO, or is discarded while the partner is lost, block by block, or its link is down, or dropped at a full FIFO; forwarding resumes with the partner. A refresh of the map shows its results at one instant, keeps them back under HOLD, or counts as skipped. HL lock follows the lane. It rests on the model's choices of notes/assumptions 7, 58, 92, 105, 107, 153 and 155. -/
def Obligations.FramesPassOrAreCounted : Prop :=
  ∀ (n : Ch) (s : State), s.Canonical →
    let b := (s.chan n).buf
    let o := partnerCh n
    let hlInt := hdr (.chan n .hl) hIntStatus
    (∀ f : HostIn,
      let inert := (s.chan n).hl.eff ≠ .on ∨ s.hlMode n = 0 ∨ s.rlyActive n = true
      (inert → exec (.hostFrameReceive n f) s = .next s)
      ∧ (¬ inert → (s.hostBlocks n f).1 = [] → exec (.hostFrameReceive n f) s = .next (s.mapBuf n (fun b => { b with codesIn := (s.hostBlocks n f).2 })))
      ∧ (¬ inert → s.host8b n = false → ∀ x r, f = .blocks (x :: r) →
          ∃ u, exec (.hostFrameReceive n (.blocks [x])) s = .next u ∧ exec (.hostFrameReceive n f) s = exec (.hostFrameReceive n (.blocks r)) u)
      ∧ (¬ inert → ∀ x, (s.hostBlocks n f).1 = [x] →
          let go := s.hostOk n && decide (b.rm.length < 4096)
          let fin := (termBytes x).isSome
          let counts (t : State) (lo hi : Nat) : Prop := t.wideVal lo hi 16 = (s.wideVal lo hi 16 + 1) % 2 ^ 48
          let queued (t : State) (y : Blk) : Prop := (t.chan n).buf.rm = b.rm ++ [y] ∧ t.fld (Reg.hlRmOcc n) 12 0 = b.rm.length + 1
            ∧ (b.rm.length = s.hwm n → t.bit hlInt 1 = true)
          let dropped (t : State) : Prop := counts t (Reg.hlRmDropLo n) (Reg.hlRmDropHi n) ∧ t.bit hlInt 0 = true
          ∃ t, exec (.hostFrameReceive n f) s = .next t ∧ OnlyChan n s t ∧ Unchanged [.regs, .chans] s t
            ∧ (t.chan n).buf.codesIn = (s.hostBlocks n f).2
            ∧ (t.chan n).buf.lpiFrom = (if x = lpiBlk then some (b.lpiFrom.getD (s.chan n).line.txNext) else none)
            ∧ (b.hostIn = none → isStart x = true → counts t (Reg.hlRmRxLo n) (Reg.hlRmRxHi n)
                ∧ (go = true → queued t x ∧ (t.chan n).buf.hostIn = some true)
                ∧ (go = false → dropped t ∧ (t.chan n).buf.rm = b.rm ∧ (t.chan n).buf.hostIn = some false))
            ∧ (b.hostIn = some true → (t.chan n).buf.hostIn = (if fin then none else some go)
                ∧ (go = true → queued t x)
                ∧ (go = false → dropped t ∧ (t.chan n).buf.rm = ((b.rm.reverse.dropWhile (fun y => !isStart y)).drop 1).reverse))
            ∧ (b.hostIn = some false → (t.chan n).buf.rm = b.rm ∧ (t.chan n).buf.hostIn = (if fin then none else some false))
            ∧ (b.hostIn = none → isStart x = false → (t.chan n).buf.hostIn = none
                ∧ (x = lpiBlk → (t.chan n).buf.rm = b.rm)
                ∧ (x = idleBlk → (b.rm ≠ [] ∨ (s.chan n).line.txTy = some .wake) → (t.chan n).buf.rm = b.rm
                    ∧ t.wideVal (Reg.hlIdleDelLo n) (Reg.hlIdleDelHi n) 32 = (s.wideVal (Reg.hlIdleDelLo n) (Reg.hlIdleDelHi n) 32 + 1) % 2 ^ 64)
                ∧ (x ≠ lpiBlk → x ≠ idleBlk → (go = true → queued t x) ∧ (go = false → (t.chan n).buf.rm = b.rm)))))
    ∧ (let sa := s.fld (Reg.hlPauseSaHi n) 15 0 * 2 ^ 32 + s.fld (Reg.hlPauseSaLo n) 31 0
       let time := s.fld (Reg.hlPauseTime n) 15 0
       let off : Bool := s.pauseEn n && decide (s.hwm n < b.rm.length) && b.xoff.isNone
       let again : Bool := s.pauseEn n && decide (s.lwm n < b.rm.length) && b.xoff.any (· ≤ s.now)
       let on : Bool := b.xoff.isSome && decide (b.rm.length < s.lwm n)
       let sent (t : State) (q : Nat) (x : Option Nat) : Prop := Wrapped s t (Reg.hlPauseTx n) 1
         ∧ (t.chan n).buf = { b with pauseOut := pauseFrame sa q, xoff := x } ∧ OnlyChan n s t ∧ Unchanged [.regs, .chans] s t ∧ RegFrame (fun a => a = Reg.hlPauseTx n) s t
       (off = true → ∃ t, exec (.rmXoff n) s = .next t ∧ sent t time (some (s.now + s.halfPause n)))
       ∧ (off = false → exec (.rmXoff n) s = .next s)
       ∧ (again = true → ∃ t, exec (.rmPauseRepeat n) s = .next t ∧ sent t time (some (s.now + s.halfPause n)))
       ∧ (again = false → exec (.rmPauseRepeat n) s = .next s)
       ∧ (on = true → ∃ t, exec (.rmXon n) s = .next t ∧ sent t 0 none)
       ∧ (on = false → exec (.rmXon n) s = .next s))
    ∧ (∀ k : Fin 8, n = evenCh k →
        let v := !s.ownFence (.chan n .rly) && !s.ownFence (.chan o .rly) && (s.rlyActive n || (s.bit (Reg.rlyCtrl n) 0 && s.pairReady n && s.pairReady o))
        ∃ t, exec (.relayPairActivate k) s = .next t ∧ t.rlyActive n = v ∧ t.rlyActive o = v
          ∧ (v ≠ s.rlyActive n → (t.chan n).buf.rly = [] ∧ (t.chan o).buf.rly = [] ∧ t.fld (Reg.rlyFifoOcc n) 11 0 = 0 ∧ t.fld (Reg.rlyFifoOcc o) 11 0 = 0)
          ∧ (v = s.rlyActive n → Unchanged [.regs, .jrnl] s t
              ∧ RegFrame (fun a => a = Reg.rlyStatus n ∨ a = Reg.rlyStatus o ∨ entryRegs (.chan n .rly) a ∨ entryRegs (.chan o .rly) a) s t))
    ∧ (∀ (room : Bool) (sec : BitVec 48) (nsec : BitVec 32) (frac : BitVec 16),
        (∀ f rest, s.rlyActive n = true → b.rlyIn = f :: rest →
          let gone := b.lost || s.chanGone o
          let frame := f.head?.any isStart
          let room' := decide (b.rly.length + f.length ≤ 2048) && !s.drains (.chan n .rly)
          let copies := room && (s.chan n).hl.eff == .on && s.laneOpen n && !s.fenced (.chan n .hl)
          ∃ t, exec (.relayFrameForward n room sec nsec frac) s = .next t ∧ (t.chan n).buf.rlyIn = rest ∧ OnlyChan n s t ∧ Unchanged [.regs, .chans] s t
            ∧ (gone = true → Raised s t (Reg.rlyDiscard n) f.length ∧ (t.chan n).buf.rly = b.rly)
            ∧ (gone = false → s.linkUp o = false → Raised s t (Reg.rlyDiscard n) (b2n frame) ∧ (t.chan n).buf.rly = b.rly)
            ∧ (gone = false → s.linkUp o = true → room' = false → (t.chan n).buf.rly = b.rly ∧ Raised s t (Reg.rlyFifoDrop n) (b2n frame)
                ∧ (frame = true → Counted s t (Reg.rlyFifoDrop n) (.chan n .rly) 1))
            ∧ (gone = false → s.linkUp o = true → room' = true → f = [idleBlk] → b.rly ≠ [] → (t.chan n).buf.rly = b.rly)
            ∧ (gone = false → s.linkUp o = true → room' = true → (f ≠ [idleBlk] ∨ b.rly = []) → (t.chan n).buf.rly = b.rly ++ f
                ∧ t.fld (Reg.rlyFifoOcc n) 11 0 = b.rly.length + f.length
                ∧ t.wideVal (Reg.rlyFwdLo n) (Reg.rlyFwdHi n) 16 = (s.wideVal (Reg.rlyFwdLo n) (Reg.rlyFwdHi n) 16 + b2n frame) % 2 ^ 48)
            ∧ ((s.tapOn n = false ∨ frame = false) → (t.chan n).buf.toHost = b.toHost)
            ∧ (s.tapOn n = true → frame = true → copies = true →
                (t.chan n).buf.toHost = (tapCopy (tapPreamble (n.val % 2 == 1) (f.any isError) b.tapDrop b.tapSeq (sec.toNat, nsec.toNat, frac.toNat)) f).map (fun y => (if y.ctrl = true then 2 else 1, y.payload))
                ∧ (t.chan n).buf.tapDrop = false ∧ (t.chan n).buf.tapSeq = (b.tapSeq + 1) % 32)
            ∧ (s.tapOn n = true → frame = true → copies = false → Counted s t (Reg.rlyTapDrop n) (.chan n .rly) 1 ∧ (t.chan n).buf.tapDrop = true ∧ (t.chan n).buf.toHost = b.toHost))
        ∧ ((s.rlyActive n = false ∨ b.rlyIn = []) → exec (.relayFrameForward n room sec nsec frac) s = .next s))
    ∧ (let back := s.rlyActive n && b.lost && !s.chanGone o && s.linkUp o
       (back = true → ∃ t, exec (.relayForwardResume n) s = .next t ∧ (t.chan n).buf = { b with lost := false } ∧ t.bit (Reg.rlyStatus n) 2 = true ∧ OnlyChan n s t
          ∧ Unchanged [.regs, .chans] s t ∧ RegFrame (fun a => a = Reg.rlyStatus n ∨ a = hdr (.chan n .rly) hIntStatus) s t)
       ∧ (back = false → exec (.relayForwardResume n) s = .next s))
    ∧ (s.mapMay n = true →
        (∃ t, exec (.mapRefresh n true) s = .next t ∧ Raised s t (Reg.diagMapSkip n) 1 ∧ (t.chan n).diag = { (s.chan n).diag with skipped := true }
          ∧ RegFrame (fun a => a = Reg.diagMapSkip n) s t)
        ∧ (∃ t, exec (.mapRefresh n false) s = .next t ∧ OnlyChan n s t
          ∧ (s.bit (Reg.diagDiagCtrl n) 1 = true → t.regs = s.regs ∧ (t.chan n).diag = { (s.chan n).diag with fresh := true, taps := (s.chan n).rx.ec, newest := some (s.mapView n) })
          ∧ (s.bit (Reg.diagDiagCtrl n) 1 = false → (∀ x ∈ s.mapView n, t.reg x.1 = x.2) ∧ (t.chan n).diag = { (s.chan n).diag with fresh := true, taps := (s.chan n).rx.ec }
              ∧ t.bit (Reg.diagMapStatus n) 31 = true ∧ t.fld (Reg.diagMapStatus n) 15 0 = (s.fld (Reg.diagMapStatus n) 15 0 + 1) % 2 ^ 16
              ∧ t.bit (hdr (.chan n .diag) hIntStatus) 0 = true
              ∧ (s.bit (Reg.diagChi n) 30 = false → t.bit (Reg.diagChi n) 30 = true → t.bit (hdr (.chan n .diag) hIntStatus) 1 = true))))
    ∧ (s.mapMay n = false → ∀ held, exec (.mapRefresh n held) s = .next s)
    ∧ (∀ lock : Bool,
        let v := lock && (s.chan n).hl.eff == .on && (s.chan n).hpll.gate
        (s.bit (Reg.hlStatus n) 0 ≠ v → ∃ t, exec (.hostLaneLockChange n lock) s = .next t ∧ t.bit (Reg.hlStatus n) 0 = v ∧ t.bit hlInt 2 = true
          ∧ Unchanged [.regs] s t ∧ RegFrame (fun a => a = Reg.hlStatus n ∨ a = hlInt) s t)
        ∧ (s.bit (Reg.hlStatus n) 0 = v → exec (.hostLaneLockChange n lock) s = .next s))

/-- A servo updates at its instants of group time, or with a PPS source at its pulses, and not between. At an update the source configuration in force becomes what SRC_CTRL holds; a group without a source runs FREE once its time is set, one with a usable source acquires it, and one that loses its last goes to HOLDOVER. In ACQUIRE and LOCKED an input is shown, and the servo either steps the timescale back by it or takes it into integrator and output within ±200 ppm; 64 inputs in a row within LOCK_TH lock the group while the timekeeper runs on TKX, one beyond STEP_TH unlocks it. A declared discrepancy of a configuration that no longer names two sources ends at the update (the model's choice, log entry 160). It rests on the model's choices of notes/assumptions 21, 114, 118, 119 and 160. -/
def Obligations.ServoUpdatesItsGroup : Prop :=
  ∀ (g : Tg) (s : State), s.Canonical →
    let s0 := s.mapGroup g (fun x => { x with src := s.reg (Reg.tkGrpSrcCtrl g.val), updAt := x.ts, owed := none })
    let two := (s0.srcChans g).any (fun c => c.2.isSome) || (s0.srcPps g).any (fun c => c.2.isSome)
    let s1 := if two = false ∧ s.bit (Reg.tkGrpState g.val) 8 = true then s0.clearDisc g else s0
    let st := s.grpState g
    let k := if s1.srcKind g = 0 then (if st = 0 ∧ s.bit (Reg.tkGrpTstat g.val) 0 = false then 0 else 1)
      else if s1.choose g ≠ 0 then (if st = 0 ∨ st = 1 ∨ st = 4 then 2 else st)
      else if st = 2 ∨ st = 3 then 4 else st
    let u := s0.settleGroup g
    let x := u.group g
    let big (e : Rat) : Prop := (max 1 (s.fld (Reg.tkGrpStepTh g.val) 31 0) : Rat) < absR e
    let near (e : Rat) : Prop := absR e * 1000 ≤ (s.fld (Reg.tkGrpServo g.val) 31 16 : Rat)
    u.grpState g = k
    ∧ (s.updateDue g = false → exec (.servoUpdate g) s = .next s)
    ∧ (s.updateDue g = true → ∃ t, exec (.servoUpdate g) s = .next t ∧ (t.group g).src = s.reg (Reg.tkGrpSrcCtrl g.val) ∧ (∀ h, h ≠ g → (t.group h).ts = (s.group h).ts)
      ∧ (∀ n, s.tgOf n = g → (t.chan n).ktl.window = [])
      ∧ ((s.group g).owed = none → s.updateInput g = u.servoInput g)
      ∧ (∀ due e, (s.group g).owed = some (due, e) → s.updateInput g = e)
      ∧ ((s.updateInput g = none ∨ (k ≠ 2 ∧ k ≠ 3)) → t = (u.forCh (fun n s => if s.tgOf n == g then (s.showNu n).showLoop n else s)).clearWindow g)
      ∧ (∀ e, s.updateInput g = some e → k = 2 ∨ k = 3 →
          t.sfld (Reg.tkGrpOffsetIn g.val) 31 0 = max (-(2 ^ 31)) (min (roundInt (e * 1000)) (2 ^ 31 - 1))
          ∧ (u.mayStep g e = true → (t.group g).ts = x.ts - e ∧ (t.group g).y = x.i ∧ t.reg (Reg.tkGrpLastStep g.val) = BitVec.ofInt 32 (stepNs (-e)))
          ∧ (u.mayStep g e = false →
              let r := servoLoop (servoGains (u.bwServo g) (u.tu g)).1 (servoGains (u.bwServo g) (u.tu g)).2 x.i e (u.tu g : Rat)
              (t.group g).ts = x.ts ∧ (t.group g).y = r.2 ∧ absR r.2 ≤ 200 / 1000000 ∧ (t.group g).i = r.1)
          ∧ (k = 2 → t.grpState g = if near e ∧ 63 ≤ x.lockRun ∧ s.bit Reg.tkTkStatus 30 = true then 3 else 2)
          ∧ (k = 3 → (big e → t.grpState g = 2) ∧ (¬ big e → t.grpState g = 3))))

/-- A comparison falls at every whole µs, or at accepted pulse pairs; one counts disagreeing sources; at DISC_TIME of them in a row it declares the discrepancy, fewer followed by agreement are a near miss; a declared one clears after as many agreeing ticks. Each accepted PPS edge is captured against every group with a PPS source and judged by the spacing of 1 s ± 1 ms, a pulse that is missed counts; PPS_OUT rises at the group's whole second where its state permits and falls after WIDTH_US. It rests on the model's choices of notes/assumptions 116, 120, 121 and 160. -/
def Obligations.RedundantSourcesAndPpsAreJudged : Prop :=
  ∀ (s : State), s.Canonical →
    (∀ g : Tg,
      let a := Reg.tkGrpSrcStatus g.val
      let G := Reg.tkGrpState g.val
      let both := (s.usable g).1 && (s.usable g).2
      let th := s.thetas g
      let dis := decide ((s.discTh g : Rat) < absR (th.1 - th.2) * 1000)
      let c := s.fld a 31 12
      let n := s.discN g
      let k := if s.bit G 8 = true ∧ both = true ∧ dis = false then (s.group g).agree + 1 else 0
      (s.tickDue g = false → exec (.discrepancyTick g) s = .next s)
      ∧ (s.tickDue g = true → ∃ t, exec (.discrepancyTick g) s = .next t ∧ (t.group g).tickAt = (s.group g).ts ∧ (∀ h, h ≠ g → t.group h = s.group h)
        ∧ t.fld a 31 12 = (if both = true ∧ dis = true then min (c + 1) (2 ^ 20 - 1) else 0)
        ∧ (both = true → dis = true → c + 1 = n → t.bit G 8 = true ∧ (t.group g).agree = 0 ∧ t.bit (hdr (.dev .tk) hIntStatus) (13 + 4 * g.val) = true
            ∧ t.fld (Reg.tkGrpCounts g.val) 31 20 = min (s.fld (Reg.tkGrpCounts g.val) 31 20 + 1) 4095)
        ∧ (both = true → ¬ (dis = true ∧ c + 1 = n) →
            (k < n → (t.group g).agree = k ∧ t.bit G 8 = s.bit G 8) ∧ (n ≤ k → t.fld G 11 8 = 0 ∧ (t.group g).agree = 0))
        ∧ (let miss := both = true ∧ dis = false ∧ 1 ≤ c ∧ c ≤ n - 1
           (miss → Counted s t (Reg.tkGrpNearMiss g.val) (.dev .tk) (14 + 4 * g.val)) ∧ (¬ miss → t.reg (Reg.tkGrpNearMiss g.val) = s.reg (Reg.tkGrpNearMiss g.val)))))
    ∧ (∀ k : Fin 2,
        let fc := if k = 0 then Reg.trigPpsIn0Fc else Reg.trigPpsIn1Fc
        let hi := if k = 0 then 15 else 31
        let lo := if k = 0 then 0 else 16
        let tInt := hdr (.dev .trig) hIntStatus
        (∀ (falling : Bool) (late : Nat),
          let taken := s.bit Reg.trigPpsInCtrl k.val = true ∧ s.bit Reg.trigPpsInCtrl (8 + k.val) = falling ∧ s.fenced (.dev .trig) = false ∧ ∃ g : Tg, s.srcKind g = 2
          (taken →
            let take (g : Tg) : PpsCap := ppsTake (s.group g).pps[k] (s.timeAgo g late) (s.ppsOfs k)
            ∃ t, exec (.ppsInPulse k falling late) s = .next t ∧ (∀ g : Tg, (t.group g).pps[k] = (if s.srcKind g = 2 then take g else (s.group g).pps[k]) ∧ (t.group g).ts = (s.group g).ts)
              ∧ t.fld fc 15 0 = (s.fld fc 15 0 + 1) % 2 ^ 16 ∧ t.bit tInt (24 + k.val) = true
              ∧ ((∃ g : Tg, s.srcKind g = 2 ∧ (s.group g).pps[k].last.isSome = true ∧ (take g).valid = false) →
                  (s.fld Reg.trigPpsMiss hi lo ≠ 65535 → t.bit tInt 26 = true) ∧ t.fld Reg.trigPpsMiss hi lo = min (s.fld Reg.trigPpsMiss hi lo + 1) 65535))
          ∧ (¬ taken → exec (.ppsInPulse k falling late) s = .next s))
        ∧ ((∃ g : Tg, s.ppsLate k g = true) →
            ∃ t, exec (.ppsInTimeout k) s = .next t
              ∧ (∀ g : Tg, s.ppsLate k g = true → (t.group g).pps[k].last = none ∧ (t.group g).pps[k].valid = false)
              ∧ (∀ g : Tg, s.ppsLate k g = false → (t.group g).pps[k] = (s.group g).pps[k])
              ∧ (s.fld Reg.trigPpsMiss hi lo ≠ 65535 → t.bit tInt 26 = true) ∧ t.fld Reg.trigPpsMiss hi lo = min (s.fld Reg.trigPpsMiss hi lo + 1) 65535)
        ∧ ((∀ g : Tg, s.ppsLate k g = false) → exec (.ppsInTimeout k) s = .next s))
    ∧ (s.ppsDue = true → s.bit Reg.trigPpsOutCtrl 0 = true →
        (s.ppsMay = true → ∃ t, exec .ppsOutPulse s = .next t ∧ t.trig = { s.trig with ppsHigh := true, ppsRise := some s.now, ppsEnd := s.now + us s.ppsWidth }
          ∧ t.bit Reg.trigPpsStatus 2 = true ∧ Unchanged [.regs, .trig] s t ∧ RegFrame (fun a => a = Reg.trigPpsStatus) s t)
        ∧ (s.ppsMay = false → ∃ t, exec .ppsOutPulse s = .next t ∧ t.bit Reg.trigPpsStatus 2 = false ∧ Unchanged [.regs] s t ∧ RegFrame (fun a => a = Reg.trigPpsStatus) s t))
    ∧ (s.ppsDue = false ∨ s.bit Reg.trigPpsOutCtrl 0 = false → exec .ppsOutPulse s = .next s)
    ∧ (s.trig.ppsHigh = true → s.trig.ppsEnd ≤ s.now → exec .ppsOutPulseEnd s = .next { s with trig := { s.trig with ppsHigh := false } })
    ∧ (s.trig.ppsHigh = false ∨ s.now < s.trig.ppsEnd → exec .ppsOutPulseEnd s = .next s)

/-- A PTP event message that is recognised on a live link whose engine is valid is stamped where its type is selected, into the channel's queue, or lost and counted at a full queue; on its way in, INLINE writes the packed time into it, and on its way out the origin rule, the residence rule or the transparent relay changes it; each change is counted. It rests on the model's choice of notes/assumptions 122. -/
def Obligations.PtpMessagesAreStampedAndChanged : Prop :=
  ∀ (n : Ch) (f : List Byte) (s : State), s.Canonical →
    let ctrl := s.reg (Reg.ktlPtpCtrl n)
    let runs := s.engineOk n && s.linkUp n
    let q := (s.chan n).ktl.ptp
    let queued (t : State) (e : PtpEntry) : Prop :=
      if 64 ≤ q.length then (t.chan n).ktl.ptp = q ∧ Counted s t (Reg.ktlPtpTsOvf n) (.chan n .ktl) 5
      else (t.chan n).ktl.ptp = q ++ [e] ∧ t.bit (Reg.ktlPtpStatus n) 31 = true ∧ (s.bit (Reg.ktlPtpStatus n) 31 = false → t.bit (hdr (.chan n .ktl) hIntStatus) 4 = true)
    let changed (t : State) (m : PtpMsg) (new : List Byte) : Prop := (t.chan n).ktl.ptpOut = ptpChecks m f new ∧ Wrapped s t (Reg.ktlPtpMod n) 1
    let same (t : State) : Prop := (t.chan n).ktl.ptpOut = (s.chan n).ktl.ptpOut ∧ t.reg (Reg.ktlPtpMod n) = s.reg (Reg.ktlPtpMod n)
    let regs (t : State) : Prop := OnlyChan n s t ∧ Unchanged [.regs, .chans] s t
    (∀ late : Nat,
      let at_ := s.stampAt n late
      (∀ m, runs = true → ptpFind ctrl f = some m → ctrl.getLsbD (8 + ptpType f m) = true →
        ∃ t, exec (.ptpIngress n f late) s = .next t ∧ queued t (ptpEntry f m false (stampParts at_)) ∧ regs t ∧ RegFrame (ofChan n) s t
          ∧ (ctrl.getLsbD 4 = true → m.encap ≠ .ipv6 → changed t m (putAt f (m.ptp + 16) (beBytes 4 (ptpPack (stampParts at_)))))
          ∧ (ctrl.getLsbD 4 = false ∨ m.encap = .ipv6 → same t))
      ∧ (runs = false ∨ ptpFind ctrl f = none ∨ (∃ m, ptpFind ctrl f = some m ∧ ctrl.getLsbD (8 + ptpType f m) = false) → exec (.ptpIngress n f late) s = .next s))
    ∧ (∀ (late : Nat) (ing : Option Nat),
        let o := partnerCh n
        let e := s.stampAt n late
        let p := stampParts e
        let relay := ing.isSome && s.rlyActive n && s.bit (Reg.ktlPtpCtrl o) 6 && (ptpFind (s.reg (Reg.ktlPtpCtrl o)) f).isSome
        (runs = false → exec (.ptpEgress n f late ing) s = .next s)
        ∧ (runs = true → ∃ t, exec (.ptpEgress n f late ing) s = .next t ∧ regs t
          ∧ (∀ m, ptpFind ctrl f = some m → ctrl.getLsbD (8 + ptpType f m) = true → queued t (ptpEntry f m true p))
          ∧ ((ptpFind ctrl f = none ∨ ∃ m, ptpFind ctrl f = some m ∧ ctrl.getLsbD (8 + ptpType f m) = false) → (t.chan n).ktl.ptp = q)
          ∧ (relay = false → ∀ m new, ptpFind ctrl f = some m → ptpOneStep ctrl f m p = some new → changed t m new)
          ∧ (relay = false → (ptpFind ctrl f = none ∨ ∃ m, ptpFind ctrl f = some m ∧ ptpOneStep ctrl f m p = none) → same t)
          ∧ (relay = true → ∀ i m, ing = some i → ptpFind (s.reg (Reg.ktlPtpCtrl o)) f = some m →
              (ptpType f m = 0 ∧ twoStep f m = true → Raised s t (Reg.ktlPtpTcSkip o) 1 ∧ same t)
              ∧ (¬ (ptpType f m = 0 ∧ twoStep f m = true) → ptpType f m ≤ 1 → changed t m (addCorrection f m ((e : Int) - s.stampAt n i)))
              ∧ (1 < ptpType f m → same t))))

/-- The oldest comet that a channel's fields brought is taken where its channel permits it and it is no copy of one taken in the last 128 µs: it reaches the fire queue where it is for this device's outputs and early enough, and every channel's queue that its route or a broadcast names and that can carry it in time; a comet without hops left, or without a route, is dropped. A queue loads the two comets of earliest deadline with HOPS less 1, after those too late expire; a held queue lets the late ones expire. The first comet due acts, or expires where the group has no time. A late report finds its injection or is passed on; a live schedule entry injects its comet, or skips the periods it has missed. It rests on the model's choices of notes/assumptions 123, 125 and 161. -/
def Obligations.CometsAreRoutedLoadedAndFired : Prop :=
  ∀ (s : State), s.Canonical →
    let late (c : Ch) (q : QComet) : Prop := s.deadline c q < (s.time16 q.g : Int) * 1000
    (∀ (n : Ch) (c : BitVec 96) (rest : List (BitVec 96)), (s.chan n).line.cometIn = c :: rest → s.drains (.dev .cmt) = false →
      let g := s.tgOf n
      let q : QComet := { bits := c, f := fireTime (s.time16 g) c, g := g, arr := some n, entry := none }
      let t0 := cTarget c
      let own := t0 = bcast ∨ t0 = s.fld (Reg.tkGrpDevId g.val) 13 0
      let src (x : Ch) : Bool := match s.srcChans g with | some (p, y) => p == x || y == some x | none => false
      let onto : List Ch :=
        if cHops c = 0 ∨ (own ∧ t0 ≠ bcast) then []
        else if t0 = bcast then s.onward q (fun x => !src x && !s.bit (Reg.cmtGrpCtrl g.val) (16 + x.val))
        else match s.routeMask g t0 with | none => [] | some m => s.onward q (fun x => m.testBit x.val)
      let twin := s.cmt.recent[g].any (fun x => x.1 == (c >>> 4).truncate 92 && decide ((s.group g).ts - x.2 ≤ 128000))
      let runs := s.cmtRuns && s.permits n
      ∃ t, exec (.cometReceive n) s = .next t ∧ (t.chan n).line.cometIn = rest ∧ Unchanged [.regs, .cmt, .chans] s t
        ∧ (runs = false → t.regs = s.regs ∧ t.cmt = s.cmt)
        ∧ (runs = true → Wrapped s t (Reg.cmtGrpReceived g.val) 1)
        ∧ (runs = true → twin = true → t.cmt = s.cmt ∧ t.fld (Reg.cmtGrpDropB g.val) 15 0 = min (s.fld (Reg.cmtGrpDropB g.val) 15 0 + 1) 65535)
        ∧ (runs = true → twin = false →
            t.cmt.fire = (if own ∧ s.fitsTarget q = true ∧ s.time16 g + 2000 * 65536 ≤ q.f ∧ s.cmt.fire.length < 512 then fireInsert q s.cmt.fire else s.cmt.fire)
            ∧ (∀ x : Ch, t.cmt.chQ[x] = if x ∈ onto ∧ s.carries x = true ∧ ¬ late x q ∧ s.cmt.chQ[x].length < 256 then s.cmt.chQ[x] ++ [q] else s.cmt.chQ[x])
            ∧ (¬ own → cHops c = 0 → t.fld (Reg.cmtGrpDropA g.val) 15 0 = min (s.fld (Reg.cmtGrpDropA g.val) 15 0 + 1) 65535)
            ∧ (¬ own → cHops c ≠ 0 → onto = [] → t.fld (Reg.cmtGrpDropA g.val) 31 16 = min (s.fld (Reg.cmtGrpDropA g.val) 31 16 + 1) 65535)))
    ∧ (∀ n : Ch, (s.chan n).line.cometIn = [] ∨ s.drains (.dev .cmt) = true → exec (.cometReceive n) s = .next s)
    ∧ (∀ n : Ch,
        let may := s.carries n && s.slotsNext n && !s.fenced (.dev .cmt) && (s.chan n).line.cometOut.isEmpty
        let l := s.cmt.chQ[n].filter (fun q => !decide (s.deadline n q < ((s.time16 q.g + 250 * 65536 : Nat) : Int) * 1000))
        (may = true → ∃ t, exec (.cometLoading n) s = .next t ∧ (∀ x : Ch, x ≠ n → t.cmt.chQ[x] = s.cmt.chQ[x])
          ∧ t.fld (Reg.cmtQstatus n.val) 31 16 = min (s.fld (Reg.cmtQstatus n.val) 31 16 + (s.cmt.chQ[n].length - l.length)) 65535
          ∧ (match s.earliest n l with
              | none => (t.chan n).line.cometOut = [] ∧ t.cmt.chQ[n] = []
              | some q => match s.earliest n (l.erase q) with
                | none => (t.chan n).line.cometOut = [q.bits - 1] ∧ t.cmt.chQ[n] = []
                | some r => (t.chan n).line.cometOut = [q.bits - 1, r.bits - 1] ∧ t.cmt.chQ[n] = (l.erase q).erase r))
        ∧ (may = false → exec (.cometLoading n) s = .next s))
    ∧ (∃ t, exec .cometQueueExpiry s = .next t ∧ t.cmt.fire = s.cmt.fire
        ∧ (∀ c : Ch, t.cmt.chQ[c] = if s.carries c then s.cmt.chQ[c] else s.cmt.chQ[c].filter (fun q => !decide (s.deadline c q < s.edgeTime16 q.g * 1000))))
    ∧ (match fireFirst (s.cmt.fire.filter (fun q => q.f ≤ s.time16 q.g)) with
        | none => exec .cometFire s = .next s
        | some q =>
          let k : Fin 16 := Fin.ofNat 16 (cOutput q.bits)
          let dead := s.grpState q.g = 0 ∨ s.grpState q.g = 2 ∨ s.spllLocked = false ∨ s.safeState = true
          ∃ t, exec .cometFire s = .next t ∧ t.cmt.fire = s.cmt.fire.erase q
            ∧ (dead → Wrapped s t (Reg.cmtGrpExpire q.g.val) 1 ∧ t.trig = s.trig ∧ t.cap = s.cap)
            ∧ (¬ dead → Wrapped s t (Reg.cmtGrpFired q.g.val) 1
                ∧ (cKind q.bits = 1 → (t.pin k).pulse = some (max ((s.pin k).pulse.getD 0) (q.f + width16 (cParam q.bits))))
                ∧ (cKind q.bits = 2 → t.bit (Reg.trigPinStatus k) 0 = decide (cParam q.bits % 2 = 1))
                ∧ (cKind q.bits = 4 → (t.pin k).armed = some (q.f, q.f + width16 (cParam q.bits), cSeq q.bits))
                ∧ (cKind q.bits = 3 → t.trig = s.trig ∧ (s.capTakes = true → s.cap.inBuf.length < 64 →
                    t.cap.log = s.cap.log ∧ ∃ e : Capture, e.t = q.f ∧ e.kind = 2 ∧ e.g = q.g ∧ t.cap.inBuf = s.cap.inBuf ++ [e]))))
    ∧ (∀ (n : Ch) (m : BitVec 128) (u : State), s.takeMsg n 6 = some (m, u) →
        let g := u.tgOf n
        let hops := (m >>> 114).toNat % 16
        ∃ t, exec (.lateReportReceive n) s = .next t
          ∧ (u.fenced (.dev .cmt) = true → t = u)
          ∧ (u.fenced (.dev .cmt) = false → (u.fld (Reg.cmtGrpLateRx g.val) 15 0 ≠ 65535 → t.bit (hdr (.dev .cmt) hIntStatus) 3 = true)
              ∧ t.fld (Reg.cmtGrpLateRx g.val) 15 0 = min (u.fld (Reg.cmtGrpLateRx g.val) 15 0 + 1) 65535
              ∧ (∀ r, u.injMatch g m = some r → t.fld (Reg.cmtGrpLateRx g.val) 31 16 = min (u.fld (Reg.cmtGrpLateRx g.val) 31 16 + 1) 65535
                  ∧ bits (t.schedWord r.entry 7) 15 8 = min (bits (u.schedWord r.entry 7) 15 8 + 1) 255)
              ∧ (u.injMatch g m = none → ∀ c, u.srcChan g = some c → u.bit (Reg.cmtGrpCtrl g.val) 2 = true → 1 ≤ hops →
                  ((u.chan c).line.oamQ.filter (fun x => oamType x == 6)).length < 8 → (t.chan c).line.oamQ = (u.chan c).line.oamQ ++ [m - (1#128 <<< 114)])))
    ∧ (∀ n : Ch, s.takeMsg n 6 = none → exec (.lateReportReceive n) s = .next s)
    ∧ (∀ e : Fin 131072,
        let live (g : Tg) : Bool := s.cmtRuns && sendsTime (s.grpState g) && s.bit (Reg.cmtGrpCtrl g.val) 0 && s.entryLive g e.val
          && s.entryFirst g e.val && s.injRoom
        let f := s.entryF e.val
        let per := s.entryPeriod e.val
        (∀ g, s.partOwner e.val = some g → live g = true →
          let periodic := (s.schedWord e.val 0).getLsbD 30
          let skips := periodic = true ∧ 0 < per ∧ f + 1000 * 65536 < s.time16 g + s.entryLead e.val
          ∃ t, exec (.cometInject e) s = .next t
            ∧ (¬ skips → Wrapped s t (Reg.cmtGrpInjected g.val) 1 ∧ t.fld (Reg.cmtGrpSeq g.val) 15 0 = (s.fld (Reg.cmtGrpSeq g.val) 15 0 + 1) % 2 ^ 16
                ∧ (∃ r, t.cmt.inj[g].head? = some r ∧ r.seq.toNat = s.fld (Reg.cmtGrpSeq g.val) 15 0 ∧ r.entry = e.val)
                ∧ (periodic = false → (t.schedWord e.val 0).getLsbD 31 = false)
                ∧ (periodic = true → (f + per) / 65536000000000 < 2 ^ 48 → t.entryF e.val = f + per)
                ∧ (periodic = true → bits (s.schedWord e.val 1) 23 0 ≠ 0 → bits (t.schedWord e.val 1) 23 0 = bits (s.schedWord e.val 1) 23 0 - 1)
                ∧ (periodic = true → bits (s.schedWord e.val 1) 23 0 = 1 → (t.schedWord e.val 0).getLsbD 31 = false))
            ∧ (skips → t.regs = s.regs ∧ ∃ k, 1 ≤ k ∧ s.time16 g + s.entryLead e.val ≤ f + k * per ∧ f + k * per < s.time16 g + s.entryLead e.val + per
                ∧ ((f + k * per) / 65536000000000 < 2 ^ 48 → t.entryF e.val = f + k * per)
                ∧ bits (t.schedWord e.val 7) 7 0 = min (bits (s.schedWord e.val 7) 7 0 + k) 255
                ∧ (bits (s.schedWord e.val 1) 23 0 ≠ 0 → bits (t.schedWord e.val 1) 23 0 = bits (s.schedWord e.val 1) 23 0 - k)))
        ∧ ((s.partOwner e.val = none ∨ ∃ g, s.partOwner e.val = some g ∧ live g = false) → exec (.cometInject e) s = .next s))

/-- A pulse ends at its time and an armed window at its own, which counts; an edge that a pin's control selects, 10 ns or more after the last, counts, closes the window it falls into, and is logged and reported as the control says. A report that arrives counts and is logged and passed on as CAP_CTRL says. A read of the capture window that raises a bus error leaves what such an error leaves. It rests on the model's choices of notes/assumptions 124, 125 and 161. -/
def Obligations.PinsCapturesAndReportsAreKept : Prop :=
  ∀ (s : State), s.Canonical →
    (∀ k : Fin 16,
      let x := s.pin k
      let P := Reg.trigPinStatus k
      let now := s.time16 (s.pinGroup k)
      let tInt := hdr (.dev .trig) hIntStatus
      (∀ e, x.pulse = some e →
        (e ≤ now → ∃ t, exec (.pulseEnd k) s = .next t ∧ (t.pin k).pulse = none ∧ (t.pin k).armed = x.armed ∧ (∀ j, j ≠ k → t.pin j = s.pin j)
          ∧ (s.safeState = false → t.bit P 2 = (decide (s.pinMode k = 1) && !s.pinFenced k && s.bit P 0))
          ∧ Unchanged [.regs, .trig] s t ∧ RegFrame (fun a => a = P) s t)
        ∧ (now < e → exec (.pulseEnd k) s = .next s))
      ∧ (x.pulse = none → exec (.pulseEnd k) s = .next s)
      ∧ (∀ f e q, x.armed = some (f, e, q) →
        (e ≤ now → ∃ t, exec (.armWindowEnd k) s = .next t ∧ (t.pin k) = { x with armed := none } ∧ (∀ j, j ≠ k → t.pin j = s.pin j)
          ∧ t.fld P 23 16 = min (s.fld P 23 16 + 1) 255 ∧ t.bit P 1 = false ∧ (s.fld P 23 16 ≠ 255 → t.bit tInt 16 = true) ∧ Unchanged [.regs, .trig] s t ∧ RegFrame (fun a => a = P ∨ a = tInt) s t)
        ∧ (now < e → exec (.armWindowEnd k) s = .next s))
      ∧ (x.armed = none → exec (.armWindowEnd k) s = .next s)
      ∧ (∀ (falling : Bool) (late : Nat),
          let c := Reg.trigPinCtrl k
          let ball : Int := (now : Int) - ps16 late
          let at_ : Int := ball - s.pinDly k
          let sel := decide (s.pinMode k = 2) && !s.fenced (.dev .trig) && s.bit c (if falling then 11 else 10)
          let soon := ∃ l, x.lastCap = some l ∧ ball - l < 655360
          let inside := ∃ f e q, x.armed = some (f, e, q) ∧ (f : Int) ≤ at_ ∧ at_ < e
          (sel = false → exec (.trigEdgeCapture k falling late) s = .next s)
          ∧ (sel = true → soon → ∃ t, exec (.trigEdgeCapture k falling late) s = .next t ∧ t.fld P 31 24 = min (s.fld P 31 24 + 1) 255
              ∧ Unchanged [.regs] s t ∧ RegFrame (fun a => a = P) s t)
          ∧ (sel = true → ¬ soon → s.bit c 12 = true → ¬ inside → exec (.trigEdgeCapture k falling late) s = .next s)
          ∧ (sel = true → ¬ soon → (s.bit c 12 = false ∨ inside) →
              ∃ t, exec (.trigEdgeCapture k falling late) s = .next t ∧ (t.pin k).lastCap = some ball
                ∧ (inside → (t.pin k).armed = none) ∧ (¬ inside → (t.pin k).armed = x.armed)
                ∧ t.fld (Reg.trigPinCount k) 15 0 = (s.fld (Reg.trigPinCount k) 15 0 + 1) % 2 ^ 16 ∧ t.bit tInt k.val = true
                ∧ (s.bit c 14 = true → s.capTakes = true →
                    (s.cap.inBuf.length < 64 → ∃ e : Capture, e.t = at_.toNat ∧ e.kind = 0 ∧ e.edge = falling ∧ e.out = k.val
                        ∧ t.cap = { s.cap with inBuf := s.cap.inBuf ++ [e] })
                    ∧ (64 ≤ s.cap.inBuf.length → Counted s t Reg.capInDrop (.dev .cap) 3 ∧ t.cap = { s.cap with lost := true }))
                ∧ ((s.bit c 14 = false ∨ s.capTakes = false) → t.cap = s.cap))))
    ∧ (∀ c r, s.pending = [] → s.cap.inBuf = c :: r → s.capTakes = true → s.drains (.dev .cap) = false → ∃ t, step s = .next t ∧ t.cap.inBuf = r
        ∧ (s.capFull = false → t.cap.log = (capEntry { c with lost := c.lost || s.cap.lost } :: s.cap.log).take capSize ∧ t.cap.lost = false)
        ∧ (s.capFull = true → t.cap.log = s.cap.log ∧ t.cap.lost = true))
    ∧ (∀ (n : Ch) (m : BitVec 128) (u : State), s.takeMsg n 3 = some (m, u) →
        let g := u.tgOf n
        ∃ t, exec (.captureReportReceive n) s = .next t
          ∧ (u.fenced (.dev .cap) = true → t = u)
          ∧ (u.fenced (.dev .cap) = false → Wrapped s t Reg.capRepRx 1
              ∧ (u.bit Reg.capCtrl 2 = true → u.bit Reg.capCtrl 0 = true → s.cap.inBuf.length < 64 →
                  ∃ e : Capture, e.kind = 1 ∧ e.chan = n.val ∧ t.cap = { s.cap with inBuf := s.cap.inBuf ++ [e] })
              ∧ (u.bit Reg.capCtrl 2 = false → t.cap = s.cap)
              ∧ (u.bit Reg.capCtrl (8 + g.val) = true → ∀ c, u.srcChan g = some c → u.zUp c = true →
                  ((u.chan c).line.oamQ.filter (fun x => oamType x == 3)).length < 16 →
                  (t.chan c).line.oamQ = (u.chan c).line.oamQ ++ [if u.cmt.repLost then m ||| (1#128 <<< 97) else m])
              ∧ (u.bit Reg.capCtrl (8 + g.val) = false → t.chans = u.chans)))
    ∧ (∀ n : Ch, s.takeMsg n 3 = none → exec (.captureReportReceive n) s = .next s)
    ∧ (∀ o : Origin,
        (s.mayAccess o = true → ∀ c, s.accessErr (s.view1At o (Reg.capwEntryWord 63)) (Reg.capwEntryWord 63) false = some c →
            exec (.captureReadAdvance o) s = .next (s.busErr o (Reg.capwEntryWord 63)))
        ∧ (s.mayAccess o = false → exec (.captureReadAdvance o) s = .next s))

/-- The CAPW page shows 16 consecutive entries of the capture log from RD_SEQ: a write to RD_SEQ loads copies of them; word w of entry e lies at 0x200 + 16 e + 4 w and holds entry bits [127 − 32 w : 96 − 32 w], 0 for an entry that the log does not hold, and STATUS.VALID bit e says which it holds. A read of 0x2FC advances RD_SEQ by 16 without a write and loads the next 16; a BURST_READ of 64 registers from 0x200 reads all 16 entries and does so too. -/
def Obligations.CaptureWindowShowsSixteenEntries : Prop :=
  ∀ s : State, s.Canonical →
    let shows (t : State) (q : Word) : Prop :=
      t.reg 0x21100 = q
      ∧ (∀ e : Fin 16, t.bit 0x21104 e.val = (s.capAt (q + BitVec.ofNat 32 e.val)).isSome)
      ∧ ∀ (e : Fin 16) (w : Fin 4), t.reg (0x21000 + 0x200 + 16 * e.val + 4 * w.val) =
          BitVec.extractLsb' (96 - 32 * w.val) 32 ((s.capAt (q + BitVec.ofNat 32 e.val)).getD 0)
    let window (a : Nat) : Prop := a = 0x21100 ∨ a = 0x21104 ∨ ∃ i, i < 64 ∧ a = 0x21200 + 4 * i
    let open_ (o : Origin) (a : Nat) (w : Bool) : Prop := s.mayAccess o = true ∧ s.accessErr (s.view1At o a) a w = none
    (∀ (o : Origin) (d : Word), open_ o 0x21100 true →
      ∃ t, exec (.captureReadLoad o d) s = .next t ∧ shows t d ∧ Unchanged [.regs, .jrnl] s t
        ∧ RegFrame (fun a => window a ∨ entryRegs (.dev .capw) a
            ∨ (s.foreignWrite o (.dev .capw) 0x100 = true ∧ (a = hdr (.dev .capw) hLock ∨ a = hdr (.dev .capw) hIntStatus))) s t)
    ∧ (∀ o : Origin,
        open_ o 0x212FC false →
          ∃ t, exec (.captureReadAdvance o) s = .next t ∧ shows t (s.reg 0x21100 + 16) ∧ Unchanged [.regs] s t ∧ RegFrame window s t)
    ∧ (∀ (p : SPort) (tag : BitVec 5) (crc : Byte) (low : Nat), s.hears p low → spiCrc (frame2 3 tag 0x021200 63 crc) = 0 → s.fenced (.dev .capw) = false →
        ∃ t, exec (.v2BurstRead p tag 0x021200 63 crc low) s = .next t ∧ shows t (s.reg 0x21100 + 16)
          ∧ (t.sport p).unreported = some { tag := tag, result := rOk, data := s.reg 0x21200, seq := t.seq16, burst := true, doneAt := t.now }
          ∧ (t.sport p).buf = (List.range 64).tail.map (fun i => s.reg (0x21200 + 4 * i))
          ∧ t.fld (portStatReg p) 6 0 = 64 ∧ RegFrame (fun a => window a ∨ a = portStatReg p) s t)

/-- A requested capture takes every group's time at one instant. TKX is judged by its windows and identified by its frequency, the reference of TPLL at once unless it coasts; a failed judgment counts and is repeated after 1.024 s. A failure of TKX makes TPLL coast at the measured frequency, which is measured anew every 1 ms, until TPLL holds lock to the returned TKX; its outputs relock at the start and at the end. At a whole second the calendar and its alarms follow. It rests on the model's choices of notes/assumptions 121, 129 and 130. -/
def Obligations.TimekeeperFollowsItsReference : Prop :=
  ∀ (s : State), s.Canonical →
    let T := Reg.tkTkStatus
    let tInt := hdr (.dev .tk) hIntStatus
    let outs (a : Nat) : Prop := a = hdr (.dev .clk) hIntStatus ∨ ∃ k : Fin 2, a = Reg.clkClkoutStatus k.val
    let relocked (t : State) : Prop := ∀ k : Fin 2, s.outEn k = true → s.outSrc k = true → t.clk.opll[k] = {} ∧ t.bit (Reg.clkClkoutStatus k.val) 0 = false
    ((∃ q, s.tk.capReq = some q ∧ q < s.now) → ∃ t, exec .timeCapture s = .next t ∧ t.tk = { s.tk with capReq := none } ∧ Unchanged [.regs, .tk] s t ∧ t.bit tInt 8 = true
        ∧ t.fld Reg.tkCapCtrl 31 16 = (s.fld Reg.tkCapCtrl 31 16 + 1) % 2 ^ 16
        ∧ (∀ g : Tg, t.fld (Reg.tkCapSecHi g.val) 15 0 * 2 ^ 32 + t.fld (Reg.tkCapSecLo g.val) 31 0 = (s.timeOf g).1
            ∧ t.fld (Reg.tkCapNs g.val) 31 0 = (s.timeOf g).2.1 ∧ t.fld (Reg.tkCapSecHi g.val) 31 16 = (s.timeOf g).2.2)
        ∧ RegFrame (fun a => a = Reg.tkCapCtrl ∨ a = tInt ∨ ∃ g : Tg, a = Reg.tkCapSecLo g.val ∨ a = Reg.tkCapSecHi g.val ∨ a = Reg.tkCapNs g.val) s t)
    ∧ ((∀ q, s.tk.capReq = some q → s.now ≤ q) → exec .timeCapture s = .next s)
    ∧ (let missed (t : State) : Prop := t.fld T 7 0 = min (s.fld T 7 0 + 1) 255 ∧ t.tk = { s.tk with passed := none, judgeAt := s.tk.judgeAt + us 1024000 }
         ∧ Unchanged [.regs, .tk] s t ∧ RegFrame (fun a => a = T) s t
       (∀ counts : List Nat,
          let may := !s.tkxOk && s.tk.passed.isNone && !s.tk.relock && decide (s.tk.judgeAt ≤ s.now)
          (may = true → tkxStable counts = true → exec (.tkxJudgeAttempt counts) s = .next (s.mapTk (fun t => { t with passed := some counts.sum })))
          ∧ (may = true → tkxStable counts = false → ∃ t, exec (.tkxJudgeAttempt counts) s = .next t ∧ missed t)
          ∧ (may = false → exec (.tkxJudgeAttempt counts) s = .next s))
       ∧ (∀ c, s.tk.passed = some c →
          (tkxPick c = none → ∃ t, exec .tkxJudged s = .next t ∧ missed t)
          ∧ (∀ k, tkxPick c = some k → ∃ t, exec .tkxJudged s = .next t ∧ t.tkxOk = true ∧ t.fld T 11 8 = k ∧ t.bit tInt 4 = true
              ∧ t.tk = { s.tk with passed := none, relock := s.coasting, tkrAt := s.now + us 1024000 }
              ∧ t.bit T 30 = (s.bit T 30 || !s.coasting)
              ∧ (s.coasting = false → Unchanged [.regs, .tk] s t ∧ RegFrame (fun a => a = T ∨ a = tInt) s t)
              ∧ (s.coasting = true → relocked t ∧ Unchanged [.regs, .clk, .tk] s t ∧ RegFrame (fun a => a = T ∨ a = tInt ∨ outs a) s t)))
       ∧ (s.tk.passed = none → exec .tkxJudged s = .next s))
    ∧ (∀ ppb : BitVec 32,
        let may := s.bit T 30 && s.tkxOk && !s.coasting && decide (s.tk.tkrAt ≤ s.now)
        (may = true → ∃ t, exec (.tkrMeasurement ppb) s = .next t ∧ t.reg Reg.tkTkrOfs = ppb ∧ t.bit T 28 = true ∧ t.tk = { s.tk with tkrAt := s.now + us 1024000 }
          ∧ Unchanged [.regs, .tk] s t ∧ RegFrame (fun a => a = T ∨ a = Reg.tkTkrOfs) s t)
        ∧ (may = false → exec (.tkrMeasurement ppb) s = .next s))
    ∧ (∀ (e : RefSeen) (fLow : Nat),
        let hz := tkxHz.getD (s.fld T 11 8) 0
        let dead : Prop := match e with | .silent ns => 1000 ≤ ns | .window c => c * 625000 < hz * 99 ∨ hz * 101 < c * 625000
        (s.tkxOk = true → dead → ∃ t, exec (.tkxFail e fLow) s = .next t ∧ t.tkxOk = false ∧ t.coasting = true ∧ t.bit tInt 4 = true ∧ t.bit (hdr (.dev .tk) hFaultStatus) 4 = true
          ∧ t.tk = { s.tk with tpll := {}, inc := s.coastInc fLow, relock := false, passed := none, judgeAt := s.now, coastAt := s.now + ms 1 }
          ∧ (s.coasting = false → t.fld Reg.tkCoastCount 15 0 = min (s.fld Reg.tkCoastCount 15 0 + 1) 65535 ∧ t.bit tInt 5 = true ∧ relocked t)
          ∧ Unchanged [.regs, .jrnl, .clk, .tk, .alrm] s t)
        ∧ ((s.tkxOk = false ∨ ¬ dead) → exec (.tkxFail e fLow) s = .next s)
        ∧ (s.coasting = true → s.tk.coastAt ≤ s.now →
            exec (.coastMeasurement fLow) s = .next (s.mapTk (fun t => { t with inc := s.coastInc fLow, coastAt := s.now + ms 1 })))
        ∧ ((s.coasting = false ∨ s.now < s.tk.coastAt) → exec (.coastMeasurement fLow) s = .next s))
    ∧ (s.coasting = true → s.tk.relock = true → s.tk.tpll.gate = true →
        ∃ t, exec .tkxRelock s = .next t ∧ t.coasting = false ∧ t.bit tInt 5 = true ∧ t.tk = { s.tk with relock := false, inc := 8 / 5, tkrAt := s.now + us 1024000 }
          ∧ relocked t ∧ Unchanged [.regs, .clk, .tk] s t ∧ RegFrame (fun a => a = T ∨ a = tInt ∨ outs a) s t)
    ∧ ((s.coasting = false ∨ s.tk.relock = false ∨ s.tk.tpll.gate = false) → exec .tkxRelock s = .next s)
    ∧ (s.onSecond s.calGrp = true → s.tk.calAt ≠ some s.now →
        let u := s.showLeap
        let w := calWords (s.grpState s.calGrp != 0) (u.utc s.calSec + 60 * s.localOfs) (leapIn s.tk.leap s.calSec)
        let v := ((u.setReg Reg.tkCalDate w.1).setReg Reg.tkCalTime w.2.1).setReg Reg.tkCalDoy w.2.2
        ∃ t, exec .calendarUpdate s = .next t ∧ t.reg Reg.tkCalDate = w.1 ∧ t.reg Reg.tkCalTime = w.2.1 ∧ t.reg Reg.tkCalDoy = w.2.2 ∧ t.tk = { s.tk with calAt := some s.now } ∧ Unchanged [.regs, .jrnl, .tk] s t
          ∧ (∀ ofs, leapAt s.tk.leap s.calSec = some ofs → -32768 ≤ ofs → ofs < 32768 → t.taiOfs = ofs)
          ∧ (∀ a, a < 4 →
              (v.alarmHits a = true → Wrapped s t (Reg.tkAlmCount a) 1 ∧ t.bit tInt a = true ∧ (s.bit (Reg.tkAlmCtrl a) 30 = true → t.bit (Reg.tkAlmCtrl a) 31 = false))
              ∧ (v.alarmHits a = false → t.reg (Reg.tkAlmCount a) = s.reg (Reg.tkAlmCount a) ∧ t.reg (Reg.tkAlmCtrl a) = s.reg (Reg.tkAlmCtrl a))))
    ∧ ((s.onSecond s.calGrp = false ∨ s.tk.calAt = some s.now) → exec .calendarUpdate s = .next s)

/-- Each second adds to the powered seconds, to each sensor's bin of its temperature, to the link-up seconds of every channel that is up, to HOLD_TIME and to COAST_S; the ledger's period and a new day's trend ask for an update unless one waits or runs. The trend read port shows the selected entry, or nothing where its sector is fenced or the NVM is gone. It rests on the model's choices of notes/assumptions 12, 121, 128 and 132. -/
def Obligations.LedgerCountsSecondsAndDays : Prop :=
  ∀ (s : State), s.Canonical →
    let q (l : Life) (i : Nat) : Nat := Store.get (fun _ => 0) l.acc i
    let asked (u t : State) : Prop :=
      if allSlots.any (fun k => (s.slot k).busy && (s.slot k).typ == 6) || s.jobs.waiting.any (fun j => j.typ == 6) then t = u
      else ∃ v, v.jobs = { s.jobs with waiting := s.jobs.waiting ++ [⟨6, 0, 0⟩] } ∧ Unchanged [.regs, .jobs] u v ∧ exec .deviceJobDispatch v = .next t
    (s.life.tickAt + ms 990 ≤ s.now →
      ∃ t, exec .ledgerSecond s = .next t ∧ Unchanged [.regs, .life] s t ∧ t.life.periodSec = s.life.periodSec + 1 ∧ t.life.tickAt = s.now ∧ t.life.base = s.life.base
        ∧ q t.life 0 = q s.life 0 + 1
        ∧ (∀ n : Ch, q t.life (qChan n.val 0) = q s.life (qChan n.val 0) + b2n (s.linkUp n))
        ∧ (∀ k, k < 18 → q t.life (qBin k (tempBin (s.sfld (Reg.thrmTemp k) 15 0))) = q s.life (qBin k (tempBin (s.sfld (Reg.thrmTemp k) 15 0))) + b2n (!s.fenced (.dev .thrm)))
        ∧ (∀ g : Tg, t.reg (Reg.tkGrpHoldTime g.val) =
            if s.grpState g = 4 then BitVec.ofNat 32 (min ((s.now - (s.group g).holdFrom) / sec 1) (2 ^ 32 - 1)) else s.reg (Reg.tkGrpHoldTime g.val))
        ∧ Raised s t Reg.tkCoastS (b2n s.coasting))
    ∧ (s.now < s.life.tickAt + ms 990 → exec .ledgerSecond s = .next s)
    ∧ (max 1 (s.fld Reg.lifeCtrl 15 0) ≤ s.life.periodSec →
        ∃ t, exec .ledgerUpdatePeriod s = .next t ∧ t.life.periodSec = 0 ∧ asked (s.mapLife (fun l => { l with periodSec := 0 })) t)
    ∧ (s.life.periodSec < max 1 (s.fld Reg.lifeCtrl 15 0) → exec .ledgerUpdatePeriod s = .next s)
    ∧ (let sec0 := ((s.group 0).ts / 1000000000).floor.toNat
       let day := sec0 / 86400
       let may := s.onSecond 0 && sec0 % 86400 == 0 && s.grpState 0 != 0
       (may = true → ∃ u t, exec .trendSample s = .next t ∧ asked u t ∧ u.reg Reg.lifeTrendLast = s.trendValue ∧ RegFrame (fun a => a = Reg.lifeTrendLast) s u ∧ Unchanged [.regs, .life] s u
          ∧ u.life = (if (s.reg Reg.lifeTrendDay).toNat < day then { s.life with trendDue := some (day, s.trendValue) } else s.life))
       ∧ (may = false → exec .trendSample s = .next s))
    ∧ (s.life.fetchBy ≠ none →
        let a := trendAt ((s.reg Reg.lifeTrendDay).toNat + 2 ^ 32 - s.fld Reg.lifeTrendSel 11 0)
        ∃ t, exec .trendFetchDone s = .next t ∧ t.life = { s.life with fetchBy := none } ∧ Unchanged [.regs, .life] s t
          ∧ RegFrame (fun x => x = Reg.lifeTrendVal ∨ x = Reg.lifeTrendRd) s t
          ∧ (s.nvmReady = true → s.sectFenced (sectorOf a) = false → t.reg Reg.lifeTrendVal = BitVec.ofNat 32 (s.nvm.num a 4) ∧ t.reg Reg.lifeTrendRd = 0x40000000)
          ∧ ((s.nvmReady = false ∨ s.sectFenced (sectorOf a) = true) → t.reg Reg.lifeTrendRd = 0 ∧ t.reg Reg.lifeTrendVal = s.reg Reg.lifeTrendVal))
    ∧ (s.life.fetchBy = none → exec .trendFetchDone s = .next s)

/-- XA's edges of 16 windows within ±1.5 % of nominal pass an attempt, and XB's count within ±300 ppm where XB is present, unless SPLL relocks to a returned XA; a failure counts with its cause, and the third in a row before lock begins the fall-back delay, after which SPLL may lock to XA unjudged, and after 1 ms without lock a new cycle waits. XB is cross-checked every 8.192 ms and judged again every 1.024 s while it is absent. It rests on the model's choice of notes/assumptions 134. -/
def Obligations.ReferencesAreJudgedBeforeUse : Prop :=
  (∀ (fast : Bool) (l : List Nat), judgeOk fast l = true ↔
      l.length = 16 ∧ ∀ c ∈ l, if fast then 19700 ≤ c ∧ c ≤ 20300 else 3152 ≤ c ∧ c ≤ 3248)
  ∧ (∀ (fast : Bool) (c : Nat), crossOk fast c = true ↔ if fast then 1279616 ≤ c ∧ c ≤ 1280384 else 204739 ≤ c ∧ c ≤ 204861)
  ∧ ∀ (s : State), s.Canonical →
    let C := Reg.clkClkStatus
    let J := Reg.clkJudgeStatus
    let cInt := hdr (.dev .clk) hIntStatus
    let fast := s.fastRef
    let only (t : State) : Prop := Unchanged [.regs, .clk] s t ∧ RegFrame (fun a => a = C ∨ a = J ∨ a = cInt) s t
    let stays (t : State) (l : List Nat) : Prop := ∀ i ∈ l, t.clkBit i = s.clkBit i
    (∀ (xa xb : List Nat) (cross : Nat),
        let may := (s.clk.judging && s.clk.fallbackFrom.isNone && decide (s.clk.attemptAt + winTime xa.length ≤ s.now)) || (s.clkRef == 2 && s.bit Reg.clkSwitchCtrl 1 && s.clkBit stXa)
        let xbOk := if s.clkBit stXb || xb.isEmpty then s.clkBit stXb else judgeOk fast xb
        let checked := judgeOk fast xa && xbOk && !(s.clk.xaReturned && s.clkRef != 2)
        let pass := judgeOk fast xa && (!checked || crossOk fast cross)
        let wait := decide (3 ≤ s.clk.fails + 1) && !s.clk.spll.locked && s.clk.fallbackLock.isNone && s.clkRef != 2
        let locked (st : Nat) : Nat := if s.clk.spll.gate then 4 else st
        (may = false → exec (.xaJudgeAttempt xa xb cross) s = .next s)
        ∧ (may = true → pass = false → ∃ t, exec (.xaJudgeAttempt xa xb cross) s = .next t ∧ only t
            ∧ t.fld J 23 16 = min (s.fld J 23 16 + 1) 255 ∧ t.fld J 10 8 = (if judgeOk fast xa then 3 else judgeCause fast xa) ∧ (s.fld J 23 16 ≠ 255 → t.bit cInt 3 = true)
            ∧ t.fld J 31 28 = locked (if wait then 3 else 1) ∧ t.fld J 1 0 = s.fld J 1 0
            ∧ t.clk.fails = s.clk.fails + 1 ∧ t.clk.attemptAt = s.now ∧ t.clk.fallbackFrom = (if wait then some s.now else none)
            ∧ t.clk.judging = s.clk.judging ∧ t.clkBit stXb = xbOk ∧ stays t [31, 30, 29, 28, 27] ∧ (checked = true → t.clkBit stCross = false))
        ∧ (may = true → pass = true → (s.clkRef ≠ 2 ∨ s.bit Reg.clkSwitchCtrl 1 = false ∨ checked = false) →
            ∃ t, exec (.xaJudgeAttempt xa xb cross) s = .next t ∧ only t
            ∧ t.clkBit stXa = true ∧ t.clkBit stXb = xbOk ∧ (checked = true → t.clkBit stCross = true) ∧ t.clkRef = (if s.clkRef = 2 then 2 else 1)
            ∧ t.bit J 0 = false ∧ t.fld J 23 16 = s.fld J 23 16 ∧ t.fld J 31 28 = locked (1 + b2n checked) ∧ stays t [31, 30]
            ∧ t.clk.judging = false ∧ t.clk.fails = 0 ∧ t.clk.fallbackFrom = none ∧ t.clk.xaReturned = false ∧ t.clk.crossAt = s.now + us 8192
            ∧ t.clk.spll = s.clk.spll)
        ∧ (may = true → pass = true → s.clkRef = 2 → s.bit Reg.clkSwitchCtrl 1 = true → checked = true →
            ∃ u, u.clkBit stXa = true ∧ u.clkRef = 1 ∧ u.fld Reg.clkSwitchCount 15 0 = min (s.fld Reg.clkSwitchCount 15 0 + 1) 65535 ∧ (s.fld Reg.clkSwitchCount 15 0 ≠ 65535 → u.bit cInt 2 = true)
              ∧ u.clk.judging = false ∧ u.clk.spll = s.clk.spll ∧ Unchanged [.regs, .clk, .jrnl] s u
              ∧ ∀ errs, phaseLost errs = true → exec (.xaJudgeAttempt xa xb cross) s = exec (.spllLossOfLock errs) u))
    ∧ (∀ cross : Nat,
        let may := s.clkBit stXa && s.clkBit stXb && decide (s.clk.crossAt ≤ s.now)
        (may = true → ∃ t, exec (.xbCrossCheck cross) s = .next t ∧ t.clkBit stCross = crossOk fast cross ∧ t.clk = { s.clk with crossAt := s.now + us 8192 }
          ∧ (crossOk fast cross ≠ s.clkBit stCross → t.bit cInt 5 = true) ∧ stays t [31, 30, 29, 28, 27, 26] ∧ t.reg J = s.reg J ∧ only t)
        ∧ (may = false → exec (.xbCrossCheck cross) s = .next s))
    ∧ (∀ xb : List Nat,
        let may := !s.clkBit stXb && decide (s.clk.rejudgeAt ≤ s.now) && s.rst.phase != .inReset
        (may = true → ∃ t, exec (.xbRejudge xb) s = .next t ∧ t.clkBit stXb = judgeOk fast xb ∧ (judgeOk fast xb = false → t.clkBit stCross = false)
          ∧ t.clk = { s.clk with rejudgeAt := s.now + us 1024000, crossAt := s.now + us 8192 } ∧ stays t [31, 30, 29, 28, 27] ∧ t.reg J = s.reg J ∧ only t)
        ∧ (may = false → exec (.xbRejudge xb) s = .next s))
    ∧ (∀ from_, s.clk.fallbackFrom = some from_ →
        (from_ + ms s.clk.fbMs ≤ s.now → s.clk.spll.locked = false → s.clkRef ≠ 2 → ∃ t, exec .fallbackExpiry s = .next t ∧ t.fld J 1 0 = 3 ∧ t.clkRef = 1 ∧ (s.bit J 1 = false → t.bit cInt 4 = true)
          ∧ t.clkBit stXa = s.clkBit stXa ∧ t.clk = { s.clk with fallbackFrom := none, fallbackLock := some s.now, attemptAt := s.now, fails := 0 } ∧ only t)
        ∧ (s.now < from_ + ms s.clk.fbMs ∨ s.clk.spll.locked = true ∨ s.clkRef = 2 → exec .fallbackExpiry s = .next s))
    ∧ (s.clk.fallbackFrom = none → exec .fallbackExpiry s = .next s)
    ∧ (∀ at_, s.clk.fallbackLock = some at_ →
        (at_ + ms 1 ≤ s.now → s.clk.spll.locked = false → ∃ t, exec .fallbackNoLock s = .next t ∧ t.fld J 10 8 = 4 ∧ t.fld J 31 28 = 5 ∧ t.clkRef = 0
          ∧ t.clk = { s.clk with fallbackLock := none, fails := 0, attemptAt := s.now + us 1024000 } ∧ only t)
        ∧ ((s.now < at_ + ms 1 ∨ s.clk.spll.locked = true) → exec .fallbackNoLock s = .next s))
    ∧ (s.clk.fallbackLock = none → exec .fallbackNoLock s = .next s)

/-- SPLL's loss of lock gates it, makes it coast and takes the lock of every CPLL and HPLL; a reference that fails while in use is such a loss, and with ARM = 1 SPLL moves to the other, judged and cross-checked one. A CPLL's loss drops the link, discards what is in flight and forces the channel into its safe states; an HPLL's leaves the link. A loop acquires lock where its reference is usable, and its gate opens after 16 µs of lock. An output relocks held low, or with RAMP carries on. Spread changes act at their instant. It rests on the model's choices of notes/assumptions 29, 105 and 135. -/
def Obligations.LossesOfLockForceSafeStatesUntilRelock : Prop :=
  ∀ (s : State), s.Canonical →
    let C := Reg.clkClkStatus
    let cInt := hdr (.dev .clk) hIntStatus
    let cFault := hdr (.dev .clk) hFaultStatus
    let out (k : Fin 2) := Reg.clkClkoutStatus k.val
    let lost (l : List Rat) : Prop := 4 ≤ l.length ∧ ∀ x ∈ l.take 4, x < -(1 / 4) ∨ 1 / 4 < x
    (∀ errs : List Rat, lost errs → s.clk.spll.locked = true →
      ∃ u t, Unchanged [.regs, .jrnl, .clk, .alrm] s u ∧ u.clk = { s.clk with spll := {} } ∧ u.clkBit stLock = false ∧ u.clkBit stCoast = true ∧ u.bit cFault 6 = true
        ∧ u.fld Reg.clkSpllCoastCount 15 0 = min (s.fld Reg.clkSpllCoastCount 15 0 + 1) 65535 ∧ (s.clkBit stCoast = false → u.bit cInt 0 = true)
        ∧ (let v := runs (allCh.flatMap (fun n => [.cpllLossOfLock n errs, .hpllLossOfLock n errs])) u
           exec (.spllLossOfLock errs) s = .next t ∧ Unchanged [.regs, .clk] v t ∧ RegFrame (fun a => a = cInt ∨ ∃ k : Fin 2, a = out k) v t
           ∧ ∀ k : Fin 2, (v.outEn k = true → v.outSrc k = false →
               t.clk.opll[k] = {} ∧ t.fld (out k) 2 0 = 2 * b2n (v.safeState || !v.outRamp k || v.bit (out k) 1))
             ∧ ((v.outEn k = false ∨ v.outSrc k = true) → t.clk.opll[k] = v.clk.opll[k] ∧ t.reg (out k) = v.reg (out k))))
    ∧ (∀ errs : List Rat, ¬ lost errs ∨ s.clk.spll.locked = false → exec (.spllLossOfLock errs) s = .next s)
    ∧ (∀ (xb : Bool) (e : RefSeen),
        let used := if xb then 2 else 1
        let other := if xb then s.clkBit stXa else s.clkBit stXb
        let go := s.bit Reg.clkSwitchCtrl 0 && other && s.clkBit stCross
        let c : Instr := .referenceFail (if xb then 1 else 0) e
        let usable := if xb then s.clkBit stXb else s.clkBit stXa || s.bit Reg.clkJudgeStatus 0
        let dead : Prop := match e with
          | .silent ns => 200 ≤ ns
          | .window k => if s.fastRef then k < 19700 ∨ 20300 < k else k < 3152 ∨ 3248 < k
        (s.clkRef = used → usable = true → dead →
          ∃ u v t, Unchanged [.regs, .jrnl, .clk, .alrm] s u ∧ u.bit cFault (if xb then 5 else 4) = true ∧ u.clkBit (if xb then stXb else stXa) = false
            ∧ (xb = true → u.clkBit stCross = false)
            ∧ (xb = false → u.clk.judging = true ∧ u.clk.fails = 0 ∧ u.clk.xaReturned = true ∧ u.bit Reg.clkJudgeStatus 0 = false)
            ∧ u.clk.spll = s.clk.spll ∧ (∀ errs, lost errs → exec (.spllLossOfLock errs) u = .next v) ∧ exec c s = .next t
            ∧ (go = false → t = v)
            ∧ (go = true → t.clkRef = 3 - used ∧ t.fld Reg.clkSwitchCount 15 0 = min (v.fld Reg.clkSwitchCount 15 0 + 1) 65535 ∧ (v.fld Reg.clkSwitchCount 15 0 ≠ 65535 → t.bit cInt 2 = true)
                ∧ t.clk = { v.clk with fallbackFrom := none } ∧ Unchanged [.regs, .jrnl, .clk] v t
                ∧ RegFrame (fun a => a = C ∨ a = Reg.clkJudgeStatus ∨ a = Reg.clkSwitchCount ∨ a = cInt ∨ entryRegs (.dev .clk) a) v t))
        ∧ ((s.clkRef ≠ used ∨ usable = false ∨ ¬ dead) → exec c s = .next s))
    ∧ (∀ k, s.clkBit 24 = true → (k < 5750000 ∨ 6750000 < k) → ∃ t, exec (.referenceFail 2 (.window k)) s = .next t ∧ t.clkBit 24 = false ∧ t.bit cFault 9 = true ∧ Unchanged [.regs, .jrnl, .alrm] s t)
    ∧ (∀ e, (s.clkBit 24 = false ∨ (∃ ns, e = .silent ns) ∨ ∃ k, e = .window k ∧ 5750000 ≤ k ∧ k ≤ 6750000) → exec (.referenceFail 2 e) s = .next s)
    ∧ (∀ (n : Ch) (errs : List Rat),
        (lost errs → (s.chan n).cpll.locked = true ∨ (s.chan n).retune = true →
          ∃ t, exec (.cpllLossOfLock n errs) s = .next t ∧ (t.chan n).cpll = {} ∧ t.linkUp n = false ∧ t.phase n = 0 ∧ t.orbitLock n = false ∧ (t.chan n).fec.flight = []
            ∧ ((s.chan n).cpll.locked = true → t.fld (Reg.clkLoss n.val) 31 16 = min (s.fld (Reg.clkLoss n.val) 31 16 + 1) 65535
                ∧ (s.fld (Reg.clkLoss n.val) 31 16 ≠ 65535 → t.bit cInt 6 = true)
                ∧ (s.fenced (.chan n .ch) = false → t.bit (hdr (.chan n .ch) hFaultStatus) 4 = true))
            ∧ ((s.chan n).cpll.locked = false → t.reg (Reg.clkLoss n.val) = s.reg (Reg.clkLoss n.val)) ∧ t.bit Reg.clkCpllStatus n.val = false
            ∧ (∀ p ∈ cpllPages, t.drains (.chan n p) = true)
            ∧ Raised s t (Reg.fecDiscard n) ((s.chan n).fec.flight.filter (fun x => x.eng.isSome)).length
            ∧ (t.chan n).link.relock = ((isZ (s.lineMode n) && !s.nearLb n && (s.linkUp n || decide (1 ≤ s.phase n))) || (s.chan n).link.relock))
        ∧ (¬ lost errs ∨ ((s.chan n).cpll.locked = false ∧ (s.chan n).retune = false) → exec (.cpllLossOfLock n errs) s = .next s)
        ∧ (lost errs → (s.chan n).hpll.locked = true →
          ∃ t, exec (.hpllLossOfLock n errs) s = .next t ∧ (t.chan n).hpll = {} ∧ t.linkUp n = s.linkUp n
            ∧ t.fld (Reg.clkLoss n.val) 15 0 = min (s.fld (Reg.clkLoss n.val) 15 0 + 1) 65535 ∧ (s.fld (Reg.clkLoss n.val) 15 0 ≠ 65535 → t.bit cInt 7 = true)
            ∧ t.drains (.chan n .hl) = true
            ∧ t.bit Reg.clkHpllStatus n.val = false ∧ t.bit Reg.clkHpllStatus (16 + n.val) = true
            ∧ (s.fenced (.chan n .ch) = false → t.bit (hdr (.chan n .ch) hFaultStatus) 5 = true))
        ∧ (¬ lost errs ∨ (s.chan n).hpll.locked = false → exec (.hpllLossOfLock n errs) s = .next s))
    ∧ (∀ (k : Fin 2) (errs : List Rat),
        (lost errs → s.clk.opll[k].locked = true →
          ∃ t, exec (.opllLossOfLock k errs) s = .next t ∧ t.clk.opll[k] = {} ∧ t.bit cFault (7 + k.val) = true
            ∧ t.fld (out k) 2 0 = 2 * b2n (!s.outEn k || s.safeState || !s.outRamp k || s.bit (out k) 1) ∧ Unchanged [.regs, .jrnl, .clk, .alrm] s t)
        ∧ (¬ lost errs ∨ s.clk.opll[k].locked = false → exec (.opllLossOfLock k errs) s = .next s)
        ∧ (s.bit (out k) 2 = true → s.clk.outRel[k] = s.outTarget k → ∃ t, exec (.clkoutRampEnd k) s = .next t ∧ t.fld (out k) 2 0 = s.fld (out k) 1 0 ∧ t.bit cInt (8 + k.val) = true
            ∧ Unchanged [.regs] s t ∧ RegFrame (fun a => a = out k ∨ a = cInt) s t)
        ∧ (s.bit (out k) 2 = false ∨ s.clk.outRel[k] ≠ s.outTarget k → exec (.clkoutRampEnd k) s = .next s))
    ∧ (∀ p : Pll,
        let may := !(s.pll p).locked && s.pllMay p
        let open_ := (s.pll p).locked && !(s.pll p).gate && decide ((s.pll p).since + us 16 ≤ s.now)
        (may = false → exec (.pllLockAcquired p) s = .next s)
        ∧ (may = true → ∃ t, exec (.pllLockAcquired p) s = .next t ∧ t.pll p = { locked := true, since := s.now, gate := false }
            ∧ (∀ k, p = .opll k → t.fld (out k) 2 0 = (if s.bit (out k) 1 then 3 else 5) ∧ Unchanged [.regs, .clk] s t
                ∧ RegFrame (fun a => a = out k ∨ a = cInt) s t)
            ∧ ((∀ k, p ≠ .opll k) → t = s.setPll p { locked := true, since := s.now, gate := false }))
        ∧ (open_ = false → exec (.pllGateOpen p) s = .next s)
        ∧ (open_ = true → ∃ t, exec (.pllGateOpen p) s = .next t ∧ ((∀ n, p = .cpll n → (t.chan n).vco = (s.chan n).vco) → t.pll p = { s.pll p with gate := true })
            ∧ (p = .spll → t.clkBit stLock = true ∧ t.clkBit stCoast = false ∧ t.bit cInt 1 = true ∧ t.fld Reg.clkJudgeStatus 31 28 = 4
                ∧ Unchanged [.regs, .clk] s t ∧ RegFrame (fun a => a = C ∨ a = Reg.clkJudgeStatus ∨ a = cInt) s t)
            ∧ (p = .tpll → t.tk = { s.tk with tpll := { s.tk.tpll with gate := true }, running := true } ∧ Unchanged [.tk] s t)
            ∧ (∀ n, p = .cpll n → t.bit Reg.clkCpllStatus n.val = decide ((t.chan n).vco = (s.chan n).vco) ∧ (t.chan n).link.relock = false)
            ∧ (∀ n, p = .hpll n → t.bit Reg.clkHpllStatus n.val = true ∧ t.bit Reg.clkHpllStatus (16 + n.val) = s.ownFence (.chan n .hl))
            ∧ (∀ k, p = .opll k → t.fld (out k) 2 0 = (if s.safeState then s.fld (out k) 2 1 * 2 + 1 else s.fld (out k) 2 2 * 4 + 1)
                ∧ Unchanged [.regs, .clk] s t ∧ RegFrame (fun a => a = out k ∨ a = cInt) s t)))
    ∧ (∀ n : Ch, exec (.sscChangeApply (.line n)) s = .next s
        ∧ exec (.sscChangeApply (.hl n)) s = .next (if s.triZero s.clk.hlSsc[n] s.clk.hlSscAt[n] then
            { s with clk := { s.clk with hlSsc := s.clk.hlSsc.set n (s.sscAsked (.hl n)), hlSscAt := s.clk.hlSscAt.set n s.now } } else s))
    ∧ (∀ k : Fin 2, exec (.sscChangeApply (.clkout k)) s = .next (if s.triZero s.clk.outSsc[k] s.clk.outSscAt[k] then
        { s with clk := { s.clk with outSsc := s.clk.outSsc.set k (s.sscAsked (.clkout k)), outSscAt := s.clk.outSscAt.set k s.now } } else s))
    ∧ (∀ p : Page,
        (s.crossReady p = true → exec (.crossingResync p) s = .next { s with clk := { s.clk with drain := s.clk.drain.filter (· != p) } })
        ∧ (s.crossReady p = false → exec (.crossingResync p) s = .next s))

/-- A domain's transition that completes leaves it in its new state; one that leaves ON for RETAIN keeps the copies that reads return, its posted writes are gone, and without DSP or AFE the link is down; the NVM domain goes on to its newest request. A test of entry asks for its job. Trims move with the sensor's temperature; a change asks for its eclipse, at once or when 100 ms have passed since the last, is applied on each side, counts when both are done, and is stale after 1 s. It rests on the model's choices of notes/assumptions 84, 85, 86 and 102. -/
def Obligations.DomainsChangeAndTrimsFollowTheSensor : Prop :=
  ∀ (s : State), s.Canonical →
    let pInt := hdr (.dev .pwr) hIntStatus
    let tInt := hdr (.dev .trim) hIntStatus
    (∀ (to_ : PState) (by_ : Nat), s.nvmDom.moving = some (to_, by_) →
        let d : Dom := { s.nvmDom with eff := to_, moving := none }
        let g : PState := if d.want = PState.retain ∧ to_ = PState.off then PState.off else d.want
        ∃ t, exec (.powerTransitionDone 48) s = .next t ∧ t.nvmDom = (if g = to_ then d else d.go g s.now)
          ∧ t.reg Reg.pwrNvmStat = BitVec.ofNat 32 (pcode to_ * 2 ^ 16 + b2n (decide (g ≠ to_)) * 2 ^ 8) ∧ t.bit pInt 0 = true
          ∧ (to_ ≠ .on → t.reg Reg.lifeTrendRd = 0 ∧ t.life.fetchBy = none)
          ∧ Unchanged [.regs, .life, .nvmDom] s t ∧ RegFrame (fun a => a = Reg.pwrNvmStat ∨ a = Reg.lifeTrendRd ∨ a = pInt) s t)
    ∧ (s.nvmDom.moving = none → exec (.powerTransitionDone 48) s = .next s)
    ∧ (∀ (n : Ch) (k : Fin 3) (c : Instr), c = .powerTransitionDone ⟨3 * n.val + k.val, by omega⟩ →
        (∀ (to_ : PState) (by_ : Nat), ((s.chan n).dom k).moving = some (to_, by_) →
          ∃ t, exec c s = .next t ∧ ((t.chan n).dom k).eff = to_ ∧ t.bit pInt 0 = true
            ∧ (((s.chan n).dom k).eff = .on → to_ ≠ .on → (s.chan n).resetOwed = none →
                (k ≠ 2 → t.linkUp n = false)
                ∧ (∀ w ∈ t.posted, pdomAt w.addr ∉ (if k = 0 then [PDom.rx n, .tx n, .time n, .diag n, .rly n] else if k = 1 then [.adc n, .dac n] else []))
                ∧ (to_ = .retain → ∀ a, inDom n k a = true →
                    Store.get resetWord t.retained a = if k = 2 then s.reg a else Store.get resetWord s.moon a)))
        ∧ (((s.chan n).dom k).moving = none → exec c s = .next s)
        ∧ (∀ d : Fin 48, d.val = 3 * n.val + k.val →
            let may := ((s.chan n).dom k).test == .waiting && !s.devHas 5 (BitVec.ofNat 8 d.val) 1
            (may = true → ∃ v t, exec (.selfTestOfEntry d) s = .next t ∧ v.jobs = { s.jobs with waiting := s.jobs.waiting ++ [⟨5, BitVec.ofNat 8 d.val, 1⟩] } ∧ Unchanged [.regs, .jobs] s v
              ∧ exec .deviceJobDispatch v = .next t)
            ∧ (may = false → exec (.selfTestOfEntry d) s = .next s)))
    ∧ (∀ n : Ch,
        let tr := (s.chan n).trim
        let rxd := (s.chan n).rx
        let S := Reg.trimChStatus n.val
        let only (t : State) : Prop := OnlyChan n s t ∧ Unchanged [.regs, .chans] s t
        let spare := !(rxd.sliceSwap.isEmpty && rxd.segSwap.isEmpty)
        let holds := spare || tr.held.isSome
        let free := tr.held.isNone && match tr.lastAt with | some at_ => decide (at_ + ms 100 ≤ s.now) | none => true
        (∀ l, s.trimRuns n = true → tr.sect = some l →
          let temp := s.sfld (Reg.thrmTemp n.val) 15 0
          let x := tr.settled
          let rx := evalCodes (rxCodes l) temp x.1
          let tx := evalCodes (txCodes l) temp x.2.1
          let k := nextSet tr.sel temp
          ∃ t, exec (.trimEvaluation n) s = .next t ∧ only t ∧ RegFrame (fun a => a = S ∨ a = Reg.anEclStatus n) s t ∧ t.sfld S 15 0 = temp ∧ t.fld S 18 16 = k % 8 ∧ t.bit S 28 = s.bit S 28
            ∧ (let same := rx = x.1 ∧ tx = x.2.1 ∧ k = x.2.2.1 ∧ k = x.2.2.2
               (same → t.bit S 27 = holds
                ∧ (t.chan n).trim = { tr with sel := k, newest := none, since := if holds then tr.since else none, rxDue := false, txDue := false })
               ∧ (¬ same → t.bit S 27 = true
                ∧ (t.chan n).trim = { tr with sel := k, newest := some (rx, tx, k), since := some (tr.since.getD s.now), rxDue := tr.rxDue || free, txDue := tr.txDue || free })))
        ∧ ((s.trimRuns n = false ∨ tr.sect = none) → exec (.trimEvaluation n) s = .next s)
        ∧ (let may := tr.newest.isSome && free && !tr.rxDue && !tr.txDue
           (may = true → ∃ t, exec (.trimIntervalExpiry n) s = .next t ∧ only t ∧ (t.chan n).trim = { tr with rxDue := true, txDue := true }
              ∧ (s.zUp n = true → t.bit (Reg.anEclStatus n) 31 = true ∧ t.bit (Reg.anEclStatus n) 1 = true) ∧ RegFrame (fun a => a = Reg.anEclStatus n) s t)
           ∧ (may = false → exec (.trimIntervalExpiry n) s = .next s))
        ∧ (∀ tx : Bool,
            let quiet : Bool := if tx then (s.chan n).line.lastTx.any (fun o => o.ty == some .quiet) else (s.chan n).line.rxTy == some .quiet
            let may := (s.chan n).afe.eff == .on && (!s.linkUp n || s.nearLb n || ((if tx then s.txLpi n else s.rxLpi n) && (s.stdUp n || quiet)))
            let due := match tr.held with
              | some (b, _) => b == tx
              | none => if tx then tr.txDue || !rxd.segSwap.isEmpty else tr.rxDue || !rxd.sliceSwap.isEmpty
            let e := match tr.held with | some (_, e) => e | none => tr.takes
            let more := tr.held.isNone && (if tx then e.1 != tr.rx || e.2.2 != tr.setRx || !rxd.sliceSwap.isEmpty else e.2.1 != tr.tx || e.2.2 != tr.setTx || !rxd.segSwap.isEmpty)
            (may = true → due = true → ∃ t, exec (.trimApplication n tx) s = .next t ∧ OnlyChan n s t ∧ Unchanged [.regs, .jrnl, .chans] s t
              ∧ (tx = false → (t.chan n).trim.rx = e.1 ∧ (t.chan n).trim.setRx = e.2.2 ∧ (t.chan n).rx.sliceSwap = []
                  ∧ t.fld (Reg.afeHybBal n) 7 0 = (e.1.getD 0 0).toNat % 256 ∧ ∀ k, k < 8 → t.reg (Reg.afeSliceMap n k) = mapWord (t.chan n).trim.slices k)
              ∧ (tx = true → (t.chan n).trim.tx = e.2.1 ∧ (t.chan n).trim.setTx = e.2.2 ∧ (t.chan n).rx.segSwap = []
                  ∧ ∀ k, k < 16 → t.reg (Reg.afeSegMap n k) = mapWord (t.chan n).trim.segs k)
              ∧ (t.chan n).trim.sel = tr.sel ∧ (t.chan n).trim.held = (if more then some (!tx, e) else none)
              ∧ (tr.held = none → (t.chan n).trim.newest = none ∧ (t.chan n).trim.rxDue = false ∧ (t.chan n).trim.txDue = false)
              ∧ (more = false → Wrapped s t (Reg.trimChApply n.val) 1 ∧ t.bit tInt 2 = true ∧ t.fld S 18 16 = tr.sel % 8 ∧ (t.chan n).trim.lastAt = some s.now
                  ∧ t.fld S 28 27 = b2n ((t.chan n).trim.newest.isSome || !((t.chan n).rx.sliceSwap.isEmpty && (t.chan n).rx.segSwap.isEmpty)))
              ∧ (more = true → t.reg (Reg.trimChApply n.val) = s.reg (Reg.trimChApply n.val) ∧ (t.chan n).trim.lastAt = tr.lastAt))
            ∧ ((may = false ∨ due = false) → exec (.trimApplication n tx) s = .next s))
        ∧ (∀ since, tr.since = some since → since + sec 1 < s.now →
            ∃ t, exec (.trimStale n) s = .next t ∧ t.bit S 28 = true ∧ t.bit tInt 0 = true ∧ Unchanged [.regs] s t ∧ RegFrame (fun a => a = S ∨ a = tInt) s t)
        ∧ ((tr.since = none ∨ ∃ since, tr.since = some since ∧ s.now ≤ since + sec 1) → exec (.trimStale n) s = .next s))

/-- A fault that a unit in service detects shows in FAULT_STATUS, unless its action is RECORD in INT_STATUS too; FENCE fences the unit named, ALARM also counts in the alarm unit and starts its pulse where it is ARMED. A corrected error only counts. A sensor's warning is such a fault. The pulse ends in SOFTWARE; a fault of the alarm unit itself leads to the device safe state, without links and with outputs held low. A faulted crossing discards what it holds. A channel's new group takes effect with an empty comet queue and an engine that aligns anew. It rests on the model's choices of notes/assumptions 127, 136, 137 and 138. -/
def Obligations.FaultsAreShownFencedAndAlarmed : Prop :=
  ∀ (s : State), s.Canonical →
    let alarmed (t : State) (p : Page) (i : Nat) : Prop :=
      Raised s t Reg.alrmCount 1
      ∧ (s.alarm = 0 → t.alarm = 1 ∧ t.reg Reg.alrmFirst = BitVec.ofNat 32 (2 ^ 31 + pageBase p / 0x1000 * 2 ^ 16 + i)
          ∧ t.alrm.pulseEnd = s.now + us s.pulseUs ∧ t.bit (hdr (.dev .alrm) hIntStatus) 0 = true)
    (∀ (p : Page) (i : Fin 16) (k : Nat),
        let muted := match p with | .chan n q => s.faultMuted n q i.val | .dev q => s.devMuted q i.val k
        let act := s.faultAct p i.val
        let c : Instr := .faultDetected p i k false
        p ≠ .dev .alrm ∨ i ≠ 4 →
        ((hasFault p i.val = false ∨ muted = true) → exec c s = .next s)
        ∧ (hasFault p i.val = true → muted = false → ∃ t, exec c s = .next t ∧ t.bit (hdr p hFaultStatus) i.val = true
            ∧ (act ≠ 0 → t.bit (hdr p hIntStatus) intFault = true)
            ∧ (act = 3 → alarmed t p i.val) ∧ (act ≠ 3 → t.alrm = s.alrm ∧ t.reg Reg.alrmCount = s.reg Reg.alrmCount)
            ∧ (2 ≤ act → i.val < 4 → fenceable p = true → t.ownFence p = true)
            ∧ (∀ n u, 2 ≤ act → p = .chan n .fec → faultUnit i.val = some u → t.bit (Reg.fecUnitFence n) u = true)
            ∧ (2 ≤ act → p = .dev .nvm → i = 4 → t.sectFenced (k % 128) = true)
            ∧ (p = .dev .trig → i = 4 → t.bit Reg.trigDrvFault (k % 16) = true ∧ (2 ≤ act → t.bit Reg.trigDrvFence (k % 16) = true))
            ∧ (2 ≤ act → p = .dev .host → (i = 4 → t.portFenced .hsa = true) ∧ (i = 5 → t.portFenced .hsb = true))
            ∧ (act < 2 → Unchanged [.regs, .jrnl] s t)))
    ∧ (∀ (p : Page) (i : Fin 16) (k : Nat),
        let count := match p with | .dev _ => Reg.alrmEcc1Dev | .chan n _ => Reg.alrmEcc1Ch n.val
        ∃ t, exec (.faultDetected p i k true) s = .next t ∧ Raised s t count 1 ∧ Unchanged [.regs] s t
          ∧ (∀ n, p = .chan n .fec → k = 1 → Raised s t (Reg.fecEcc1Count n) 1)
          ∧ RegFrame (fun a => a = count ∨ (k = 1 ∧ ∃ n, p = .chan n .fec ∧ a = Reg.fecEcc1Count n)) s t)
    ∧ (∀ r : Vector (BitVec 16) 18,
        let warn (i : Fin 18) := warnNext (s.bit Reg.thrmWarnStatus i.val) (s.sfld Reg.thrmWarnCtrl 15 0) r[i].toInt
        (s.fenced (.dev .thrm) = false → ∃ t, exec (.thermalSensorUpdate r) s = .next t ∧ Unchanged [.regs, .jrnl, .alrm] s t
          ∧ ∀ i : Fin 18, t.fld (Reg.thrmTemp i.val) 15 0 = r[i].toNat ∧ t.bit Reg.thrmWarnStatus i.val = warn i
            ∧ (warn i = true → s.bit Reg.thrmWarnStatus i.val = false → t.bit (hdr (.dev .thrm) hFaultStatus) 4 = true))
        ∧ (s.fenced (.dev .thrm) = true → exec (.thermalSensorUpdate r) s = .next s))
    ∧ (s.alarm = 1 → s.alrm.pulseEnd ≤ s.now →
        ∃ t, exec .alarmPulseEnd s = .next t ∧ t.alarm = 2 ∧ t.bit Reg.alrmStatus 29 = s.bit Reg.alrmCtrl 31 ∧ Unchanged [.regs, .jrnl] s t
          ∧ Entered s t 0x20 Reg.alrmStatus (s.reg Reg.alrmStatus) (t.reg Reg.alrmStatus) 0
          ∧ RegFrame (fun a => a = Reg.alrmStatus ∨ entryRegs (.dev .alrm) a) s t)
    ∧ ((s.alarm ≠ 1 ∨ s.now < s.alrm.pulseEnd) → exec .alarmPulseEnd s = .next s)
    ∧ (∀ (parity : Bool) (c : Instr), (c = .alarmSelfFault parity ∨ ∃ k, c = .faultDetected (.dev .alrm) 4 k false ∧ parity = (k == 0)) →
        ∃ t, exec c s = .next t ∧ t.bit (hdr (.dev .alrm) hFaultStatus) 4 = true ∧ t.bit (hdr (.dev .alrm) hIntStatus) intFault = true ∧ t.alarm = 3
          ∧ (s.safeState = true → Unchanged [.regs] s t)
          ∧ (s.safeState = false → t.fld Reg.alrmStatus 27 24 = (if parity then 1 else 2) ∧ t.bit Reg.alrmStatus 29 = true
              ∧ t.bit (hdr (.dev .alrm) hIntStatus) 1 = true ∧ t.trig.ppsHigh = false
              ∧ (∀ n : Ch, t.linkUp n = false) ∧ ∀ k : Fin 2, t.fld (Reg.clkClkoutStatus k.val) 2 1 = 1))
    ∧ (∀ (p : Page) (e : CrossSeen) (items : Nat),
        let bad : Prop := match e with
          | .phases was now => now ≠ was ∧ now ≠ nextPhases was
          | .gray was now => 1 < ((List.range 16).filter (fun i => was.getLsbD i != now.getLsbD i)).length
          | .pointers own other size => other < own ∨ own + size < other
        (¬ bad → exec (.crossingFault p e items) s = .next s)
        ∧ (bad → ∃ u t, exec (.faultDetected p 2 0 false) s = .next u ∧ exec (.crossingFault p e items) s = .next t
          ∧ t.clk.drain = (if u.clk.drain.contains p then u.clk.drain else p :: u.clk.drain) ∧ (∀ w ∈ t.posted, pageOf w.addr ≠ some p)
          ∧ (∀ n, p = .chan n .fec → (t.chan n).fec.flight = [] ∧ Raised u t (Reg.fecDiscard n) ((u.chan n).fec.flight.filter (fun x => x.eng.isSome)).length)
          ∧ (∀ n, p = .chan n .an → (t.chan n).buf.ebuf = [] ∧ t.fld (Reg.anEbufOcc n) 10 0 = 0 ∧ Raised u t (Reg.anEbufFlush n) (framesIn (u.chan n).buf.ebuf))
          ∧ ((∀ n, p ≠ .chan n .fec ∧ p ≠ .chan n .an) → Raised u t Reg.clkXingDiscard items)
          ∧ ((∀ n, p ≠ .chan n .fec) → Unchanged [.regs, .posted, .jrnl, .clk, .chans] u t)))
    ∧ (∀ n : Ch,
        ((s.chan n).tgPend ≠ none → ∃ t, exec (.tgChangeTakesEffect n) s = .next t ∧ t.tgOf n = s.tgWant n ∧ (t.chan n).tgPend = none ∧ t.cmt.chQ[n] = []
          ∧ (t.chan n).ktl.align = s.orbits n ∧ (t.chan n).ktl.marks = [] ∧ (t.chan n).ktl.window = [] ∧ Unchanged [.regs, .jrnl, .cmt, .chans, .groups] s t)
        ∧ ((s.chan n).tgPend = none → exec (.tgChangeTakesEffect n) s = .next s))
end

