-- ==== Sys2Proof/Laws/Store.lean ====
section
/-! SUPPORT. What the store's operations do: a read after a write, and that every operation keeps the canonical form. -/

set_option Elab.async false

namespace Sys2Proof.Machine

variable {α : Type}

/-- A key below every listed key reads as unlisted. -/
theorem Store.get_of_lt (dflt : Nat → α) (m : List (Nat × α)) (a : Nat)
    (h : ∀ c ∈ m, a < c.1) : Store.get dflt m a = dflt a := by
  induction m with
  | nil => rfl
  | cons c r ih =>
    obtain ⟨b, v⟩ := c
    have hb : a < b := h (b, v) (by simp)
    have : a ≠ b := by omega
    simp only [Store.get, this, if_false]
    exact ih (fun c hc => h c (by simp [hc]))

/-- The keys of a canonical store above its first one. -/
theorem Store.Wf.tail {dflt : Nat → α} {b : Nat} {w : α} {r : List (Nat × α)}
    (h : Store.Wf dflt ((b, w) :: r)) : Store.Wf dflt r ∧ (∀ c ∈ r, b < c.1) ∧ w ≠ dflt b := by
  obtain ⟨hp, hd⟩ := h
  simp only [List.map_cons, List.pairwise_cons] at hp
  refine ⟨⟨hp.2, fun c hc => hd c (by simp [hc])⟩, ?_, hd (b, w) (by simp)⟩
  intro c hc
  exact hp.1 c.1 (List.mem_map_of_mem hc)

/-- A canonical store is built from a smaller key, a value of its own and a canonical rest. -/
theorem Store.Wf.cons {dflt : Nat → α} {b : Nat} {w : α} {r : List (Nat × α)}
    (hr : Store.Wf dflt r) (hb : ∀ c ∈ r, b < c.1) (hw : w ≠ dflt b) : Store.Wf dflt ((b, w) :: r) := by
  refine ⟨?_, ?_⟩
  · simp only [List.map_cons, List.pairwise_cons]
    refine ⟨?_, hr.1⟩
    intro k hk
    obtain ⟨c, hc, rfl⟩ := List.mem_map.1 hk
    exact hb c hc
  · intro c hc
    rcases List.mem_cons.1 hc with rfl | hc
    · exact hw
    · exact hr.2 c hc

/-- Every key of a written store was there before or is the key written. -/
theorem Store.mem_put [DecidableEq α] (dflt : Nat → α) (m : List (Nat × α)) (a : Nat) (v : α) :
    ∀ c ∈ Store.put dflt m a v, c ∈ m ∨ (c = (a, v) ∧ v ≠ dflt a) := by
  induction m with
  | nil =>
    intro c hc
    simp only [Store.put] at hc
    split at hc
    · simp at hc
    · simp at hc; exact .inr ⟨hc, ‹_›⟩
  | cons p r ih =>
    obtain ⟨b, w⟩ := p
    intro c hc
    simp only [Store.put] at hc
    split at hc
    · split at hc
      · exact .inl hc
      · rcases List.mem_cons.1 hc with rfl | hc
        · exact .inr ⟨rfl, ‹_›⟩
        · exact .inl hc
    · split at hc
      · split at hc
        · exact .inl (by simp [hc])
        · rcases List.mem_cons.1 hc with rfl | hc
          · exact .inr ⟨rfl, ‹_›⟩
          · exact .inl (by simp [hc])
      · rcases List.mem_cons.1 hc with rfl | hc
        · exact .inl (by simp)
        · rcases ih c hc with h | h
          · exact .inl (by simp [h])
          · exact .inr h

/-- Writing a key keeps the canonical form. -/
theorem Store.put_wf [DecidableEq α] (dflt : Nat → α) (m : List (Nat × α)) (a : Nat) (v : α)
    (h : Store.Wf dflt m) : Store.Wf dflt (Store.put dflt m a v) := by
  induction m with
  | nil =>
    simp only [Store.put]
    split
    · exact h
    · exact Store.Wf.cons h (by simp) ‹_›
  | cons p r ih =>
    obtain ⟨b, w⟩ := p
    obtain ⟨hr, hb, hw⟩ := h.tail
    simp only [Store.put]
    split
    · rename_i hab
      split
      · exact h
      · refine Store.Wf.cons h ?_ ‹_›
        intro c hc
        rcases List.mem_cons.1 hc with rfl | hc
        · exact hab
        · exact lt_trans hab (hb c hc)
    · split
      · rename_i _ hab
        subst hab
        split
        · exact hr
        · exact Store.Wf.cons hr hb ‹_›
      · rename_i h1 h2
        refine Store.Wf.cons (ih hr) ?_ hw
        intro c hc
        rcases Store.mem_put dflt r a v c hc with hc | ⟨rfl, _⟩
        · exact hb c hc
        · simp only; omega

/-- Reading the key just written gives the value written. -/
theorem Store.get_put_same [DecidableEq α] (dflt : Nat → α) (m : List (Nat × α)) (a : Nat) (v : α)
    (h : Store.Wf dflt m) : Store.get dflt (Store.put dflt m a v) a = v := by
  induction m with
  | nil =>
    simp only [Store.put]
    split
    · rename_i e; simp [Store.get, e]
    · simp [Store.get]
  | cons p r ih =>
    obtain ⟨b, w⟩ := p
    obtain ⟨hr, hb, _⟩ := h.tail
    simp only [Store.put]
    split
    · rename_i hab
      split
      · rename_i e
        rw [e]
        refine Store.get_of_lt dflt _ a ?_
        intro c hc
        rcases List.mem_cons.1 hc with rfl | hc
        · exact hab
        · exact lt_trans hab (hb c hc)
      · simp [Store.get]
    · split
      · rename_i _ hab
        subst hab
        split
        · rename_i e
          rw [e]
          exact Store.get_of_lt dflt r a hb
        · simp [Store.get]
      · rename_i h1 h2
        simp only [Store.get, h2, if_false]
        exact ih hr

/-- Writing one key leaves what every other key reads as. -/
theorem Store.get_put_ne [DecidableEq α] (dflt : Nat → α) (m : List (Nat × α)) (a k : Nat) (v : α)
    (hk : k ≠ a) : Store.get dflt (Store.put dflt m a v) k = Store.get dflt m k := by
  induction m with
  | nil =>
    simp only [Store.put]
    split
    · rfl
    · simp [Store.get, hk]
  | cons p r ih =>
    obtain ⟨b, w⟩ := p
    simp only [Store.put]
    split
    · split
      · rfl
      · simp [Store.get, hk]
    · split
      · rename_i _ hab
        subst hab
        split
        · simp [Store.get, hk]
        · simp [Store.get, hk]
      · simp only [Store.get, ih]

/-- Putting keys back to what an unlisted key reads as keeps the canonical form. -/
theorem Store.keep_wf (dflt : Nat → α) (p : Nat → Bool) (m : List (Nat × α))
    (h : Store.Wf dflt m) : Store.Wf dflt (Store.keep p m) := by
  refine ⟨?_, fun c hc => h.2 c (List.mem_filter.1 hc).1⟩
  have : ((Store.keep p m).map Prod.fst).Sublist (m.map Prod.fst) :=
    List.Sublist.map _ List.filter_sublist
  exact h.1.sublist this

/-- A key that is kept reads as before. -/
theorem Store.get_keep (dflt : Nat → α) (p : Nat → Bool) (m : List (Nat × α)) (k : Nat) (hk : p k = true) :
    Store.get dflt (Store.keep p m) k = Store.get dflt m k := by
  induction m with
  | nil => rfl
  | cons c r ih =>
    obtain ⟨b, w⟩ := c
    by_cases hb : p b = true
    · simp only [Store.keep, List.filter_cons, hb, if_true, Store.get]
      have := ih; simp only [Store.keep] at this
      rw [this]
    · have hkb : k ≠ b := by rintro rfl; exact hb hk
      have := ih; simp only [Store.keep] at this
      simp [Store.keep, hb, Store.get, hkb, this]

/-- A key that is not kept reads as unlisted. -/
theorem Store.get_keep_not (dflt : Nat → α) (p : Nat → Bool) (m : List (Nat × α)) (k : Nat) (hk : p k = false) :
    Store.get dflt (Store.keep p m) k = dflt k := by
  induction m with
  | nil => rfl
  | cons c r ih =>
    obtain ⟨b, w⟩ := c
    by_cases hb : p b = true
    · have hkb : k ≠ b := by rintro rfl; simp [hb] at hk
      have := ih; simp only [Store.keep] at this
      simp [Store.keep, hb, Store.get, hkb, this]
    · have := ih; simp only [Store.keep] at this
      simp [Store.keep, hb, this]

/-- Several writes keep the canonical form. -/
theorem Store.putAll_wf [DecidableEq α] (dflt : Nat → α) (ws : List (Nat × α)) (m : List (Nat × α))
    (h : Store.Wf dflt m) : Store.Wf dflt (Store.putAll dflt m ws) := by
  induction ws generalizing m with
  | nil => exact h
  | cons w r ih => exact ih _ (Store.put_wf dflt m w.1 w.2 h)

end Sys2Proof.Machine
end

