-- ==== Sys2Proof/Laws/State.lean ====
section
/-! SUPPORT. What the named operations on the state change, field by field, and what a register, a channel or a group reads as after them. -/

set_option Elab.async false

namespace Sys2Proof.Machine

variable (s : State)

/-! ### setReg -/

@[simp] theorem State.setReg_now (a : Nat) (v : Word) : (s.setReg a v).now = s.now := rfl
@[simp] theorem State.setReg_freeCtr (a : Nat) (v : Word) : (s.setReg a v).freeCtr = s.freeCtr := rfl
@[simp] theorem State.setReg_pending (a : Nat) (v : Word) : (s.setReg a v).pending = s.pending := rfl
@[simp] theorem State.setReg_moon (a : Nat) (v : Word) : (s.setReg a v).moon = s.moon := rfl
@[simp] theorem State.setReg_retained (a : Nat) (v : Word) : (s.setReg a v).retained = s.retained := rfl
@[simp] theorem State.setReg_snap (a : Nat) (v : Word) : (s.setReg a v).snap = s.snap := rfl
@[simp] theorem State.setReg_posted (a : Nat) (v : Word) : (s.setReg a v).posted = s.posted := rfl
@[simp] theorem State.setReg_heldWrites (a : Nat) (v : Word) : (s.setReg a v).heldWrites = s.heldWrites := rfl
@[simp] theorem State.setReg_leases (a : Nat) (v : Word) : (s.setReg a v).leases = s.leases := rfl
@[simp] theorem State.setReg_jrnl (a : Nat) (v : Word) : (s.setReg a v).jrnl = s.jrnl := rfl
@[simp] theorem State.setReg_jobs (a : Nat) (v : Word) : (s.setReg a v).jobs = s.jobs := rfl
@[simp] theorem State.setReg_nvm (a : Nat) (v : Word) : (s.setReg a v).nvm = s.nvm := rfl
@[simp] theorem State.setReg_nvmDom (a : Nat) (v : Word) : (s.setReg a v).nvmDom = s.nvmDom := rfl
@[simp] theorem State.setReg_rst (a : Nat) (v : Word) : (s.setReg a v).rst = s.rst := rfl
@[simp] theorem State.setReg_clk (a : Nat) (v : Word) : (s.setReg a v).clk = s.clk := rfl
@[simp] theorem State.setReg_cmt (a : Nat) (v : Word) : (s.setReg a v).cmt = s.cmt := rfl
@[simp] theorem State.setReg_trig (a : Nat) (v : Word) : (s.setReg a v).trig = s.trig := rfl
@[simp] theorem State.setReg_cap (a : Nat) (v : Word) : (s.setReg a v).cap = s.cap := rfl
@[simp] theorem State.setReg_tk (a : Nat) (v : Word) : (s.setReg a v).tk = s.tk := rfl
@[simp] theorem State.setReg_life (a : Nat) (v : Word) : (s.setReg a v).life = s.life := rfl
@[simp] theorem State.setReg_bist (a : Nat) (v : Word) : (s.setReg a v).bist = s.bist := rfl
@[simp] theorem State.setReg_alrm (a : Nat) (v : Word) : (s.setReg a v).alrm = s.alrm := rfl
@[simp] theorem State.setReg_host (a : Nat) (v : Word) : (s.setReg a v).host = s.host := rfl
@[simp] theorem State.setReg_chans (a : Nat) (v : Word) : (s.setReg a v).chans = s.chans := rfl
@[simp] theorem State.setReg_groups (a : Nat) (v : Word) : (s.setReg a v).groups = s.groups := rfl

/-! ### setFld -/

@[simp] theorem State.setFld_now (a hi lo v : Nat) : (s.setFld a hi lo v).now = s.now := rfl
@[simp] theorem State.setFld_freeCtr (a hi lo v : Nat) : (s.setFld a hi lo v).freeCtr = s.freeCtr := rfl
@[simp] theorem State.setFld_pending (a hi lo v : Nat) : (s.setFld a hi lo v).pending = s.pending := rfl
@[simp] theorem State.setFld_moon (a hi lo v : Nat) : (s.setFld a hi lo v).moon = s.moon := rfl
@[simp] theorem State.setFld_retained (a hi lo v : Nat) : (s.setFld a hi lo v).retained = s.retained := rfl
@[simp] theorem State.setFld_snap (a hi lo v : Nat) : (s.setFld a hi lo v).snap = s.snap := rfl
@[simp] theorem State.setFld_posted (a hi lo v : Nat) : (s.setFld a hi lo v).posted = s.posted := rfl
@[simp] theorem State.setFld_heldWrites (a hi lo v : Nat) : (s.setFld a hi lo v).heldWrites = s.heldWrites := rfl
@[simp] theorem State.setFld_leases (a hi lo v : Nat) : (s.setFld a hi lo v).leases = s.leases := rfl
@[simp] theorem State.setFld_jrnl (a hi lo v : Nat) : (s.setFld a hi lo v).jrnl = s.jrnl := rfl
@[simp] theorem State.setFld_jobs (a hi lo v : Nat) : (s.setFld a hi lo v).jobs = s.jobs := rfl
@[simp] theorem State.setFld_nvm (a hi lo v : Nat) : (s.setFld a hi lo v).nvm = s.nvm := rfl
@[simp] theorem State.setFld_nvmDom (a hi lo v : Nat) : (s.setFld a hi lo v).nvmDom = s.nvmDom := rfl
@[simp] theorem State.setFld_rst (a hi lo v : Nat) : (s.setFld a hi lo v).rst = s.rst := rfl
@[simp] theorem State.setFld_clk (a hi lo v : Nat) : (s.setFld a hi lo v).clk = s.clk := rfl
@[simp] theorem State.setFld_cmt (a hi lo v : Nat) : (s.setFld a hi lo v).cmt = s.cmt := rfl
@[simp] theorem State.setFld_trig (a hi lo v : Nat) : (s.setFld a hi lo v).trig = s.trig := rfl
@[simp] theorem State.setFld_cap (a hi lo v : Nat) : (s.setFld a hi lo v).cap = s.cap := rfl
@[simp] theorem State.setFld_tk (a hi lo v : Nat) : (s.setFld a hi lo v).tk = s.tk := rfl
@[simp] theorem State.setFld_life (a hi lo v : Nat) : (s.setFld a hi lo v).life = s.life := rfl
@[simp] theorem State.setFld_bist (a hi lo v : Nat) : (s.setFld a hi lo v).bist = s.bist := rfl
@[simp] theorem State.setFld_alrm (a hi lo v : Nat) : (s.setFld a hi lo v).alrm = s.alrm := rfl
@[simp] theorem State.setFld_host (a hi lo v : Nat) : (s.setFld a hi lo v).host = s.host := rfl
@[simp] theorem State.setFld_chans (a hi lo v : Nat) : (s.setFld a hi lo v).chans = s.chans := rfl
@[simp] theorem State.setFld_groups (a hi lo v : Nat) : (s.setFld a hi lo v).groups = s.groups := rfl

/-! ### setBit -/

@[simp] theorem State.setBit_now (a i : Nat) (b : Bool) : (s.setBit a i b).now = s.now := rfl
@[simp] theorem State.setBit_freeCtr (a i : Nat) (b : Bool) : (s.setBit a i b).freeCtr = s.freeCtr := rfl
@[simp] theorem State.setBit_pending (a i : Nat) (b : Bool) : (s.setBit a i b).pending = s.pending := rfl
@[simp] theorem State.setBit_moon (a i : Nat) (b : Bool) : (s.setBit a i b).moon = s.moon := rfl
@[simp] theorem State.setBit_retained (a i : Nat) (b : Bool) : (s.setBit a i b).retained = s.retained := rfl
@[simp] theorem State.setBit_snap (a i : Nat) (b : Bool) : (s.setBit a i b).snap = s.snap := rfl
@[simp] theorem State.setBit_posted (a i : Nat) (b : Bool) : (s.setBit a i b).posted = s.posted := rfl
@[simp] theorem State.setBit_heldWrites (a i : Nat) (b : Bool) : (s.setBit a i b).heldWrites = s.heldWrites := rfl
@[simp] theorem State.setBit_leases (a i : Nat) (b : Bool) : (s.setBit a i b).leases = s.leases := rfl
@[simp] theorem State.setBit_jrnl (a i : Nat) (b : Bool) : (s.setBit a i b).jrnl = s.jrnl := rfl
@[simp] theorem State.setBit_jobs (a i : Nat) (b : Bool) : (s.setBit a i b).jobs = s.jobs := rfl
@[simp] theorem State.setBit_nvm (a i : Nat) (b : Bool) : (s.setBit a i b).nvm = s.nvm := rfl
@[simp] theorem State.setBit_nvmDom (a i : Nat) (b : Bool) : (s.setBit a i b).nvmDom = s.nvmDom := rfl
@[simp] theorem State.setBit_rst (a i : Nat) (b : Bool) : (s.setBit a i b).rst = s.rst := rfl
@[simp] theorem State.setBit_clk (a i : Nat) (b : Bool) : (s.setBit a i b).clk = s.clk := rfl
@[simp] theorem State.setBit_cmt (a i : Nat) (b : Bool) : (s.setBit a i b).cmt = s.cmt := rfl
@[simp] theorem State.setBit_trig (a i : Nat) (b : Bool) : (s.setBit a i b).trig = s.trig := rfl
@[simp] theorem State.setBit_cap (a i : Nat) (b : Bool) : (s.setBit a i b).cap = s.cap := rfl
@[simp] theorem State.setBit_tk (a i : Nat) (b : Bool) : (s.setBit a i b).tk = s.tk := rfl
@[simp] theorem State.setBit_life (a i : Nat) (b : Bool) : (s.setBit a i b).life = s.life := rfl
@[simp] theorem State.setBit_bist (a i : Nat) (b : Bool) : (s.setBit a i b).bist = s.bist := rfl
@[simp] theorem State.setBit_alrm (a i : Nat) (b : Bool) : (s.setBit a i b).alrm = s.alrm := rfl
@[simp] theorem State.setBit_host (a i : Nat) (b : Bool) : (s.setBit a i b).host = s.host := rfl
@[simp] theorem State.setBit_chans (a i : Nat) (b : Bool) : (s.setBit a i b).chans = s.chans := rfl
@[simp] theorem State.setBit_groups (a i : Nat) (b : Bool) : (s.setBit a i b).groups = s.groups := rfl

/-! ### sat -/

@[simp] theorem State.sat_now (a hi lo k : Nat) : (s.sat a hi lo k).now = s.now := rfl
@[simp] theorem State.sat_freeCtr (a hi lo k : Nat) : (s.sat a hi lo k).freeCtr = s.freeCtr := rfl
@[simp] theorem State.sat_pending (a hi lo k : Nat) : (s.sat a hi lo k).pending = s.pending := rfl
@[simp] theorem State.sat_moon (a hi lo k : Nat) : (s.sat a hi lo k).moon = s.moon := rfl
@[simp] theorem State.sat_retained (a hi lo k : Nat) : (s.sat a hi lo k).retained = s.retained := rfl
@[simp] theorem State.sat_snap (a hi lo k : Nat) : (s.sat a hi lo k).snap = s.snap := rfl
@[simp] theorem State.sat_posted (a hi lo k : Nat) : (s.sat a hi lo k).posted = s.posted := rfl
@[simp] theorem State.sat_heldWrites (a hi lo k : Nat) : (s.sat a hi lo k).heldWrites = s.heldWrites := rfl
@[simp] theorem State.sat_leases (a hi lo k : Nat) : (s.sat a hi lo k).leases = s.leases := rfl
@[simp] theorem State.sat_jrnl (a hi lo k : Nat) : (s.sat a hi lo k).jrnl = s.jrnl := rfl
@[simp] theorem State.sat_jobs (a hi lo k : Nat) : (s.sat a hi lo k).jobs = s.jobs := rfl
@[simp] theorem State.sat_nvm (a hi lo k : Nat) : (s.sat a hi lo k).nvm = s.nvm := rfl
@[simp] theorem State.sat_nvmDom (a hi lo k : Nat) : (s.sat a hi lo k).nvmDom = s.nvmDom := rfl
@[simp] theorem State.sat_rst (a hi lo k : Nat) : (s.sat a hi lo k).rst = s.rst := rfl
@[simp] theorem State.sat_clk (a hi lo k : Nat) : (s.sat a hi lo k).clk = s.clk := rfl
@[simp] theorem State.sat_cmt (a hi lo k : Nat) : (s.sat a hi lo k).cmt = s.cmt := rfl
@[simp] theorem State.sat_trig (a hi lo k : Nat) : (s.sat a hi lo k).trig = s.trig := rfl
@[simp] theorem State.sat_cap (a hi lo k : Nat) : (s.sat a hi lo k).cap = s.cap := rfl
@[simp] theorem State.sat_tk (a hi lo k : Nat) : (s.sat a hi lo k).tk = s.tk := rfl
@[simp] theorem State.sat_life (a hi lo k : Nat) : (s.sat a hi lo k).life = s.life := rfl
@[simp] theorem State.sat_bist (a hi lo k : Nat) : (s.sat a hi lo k).bist = s.bist := rfl
@[simp] theorem State.sat_alrm (a hi lo k : Nat) : (s.sat a hi lo k).alrm = s.alrm := rfl
@[simp] theorem State.sat_host (a hi lo k : Nat) : (s.sat a hi lo k).host = s.host := rfl
@[simp] theorem State.sat_chans (a hi lo k : Nat) : (s.sat a hi lo k).chans = s.chans := rfl
@[simp] theorem State.sat_groups (a hi lo k : Nat) : (s.sat a hi lo k).groups = s.groups := rfl

/-! ### wrap -/

@[simp] theorem State.wrap_now (a hi lo k : Nat) : (s.wrap a hi lo k).now = s.now := rfl
@[simp] theorem State.wrap_freeCtr (a hi lo k : Nat) : (s.wrap a hi lo k).freeCtr = s.freeCtr := rfl
@[simp] theorem State.wrap_pending (a hi lo k : Nat) : (s.wrap a hi lo k).pending = s.pending := rfl
@[simp] theorem State.wrap_moon (a hi lo k : Nat) : (s.wrap a hi lo k).moon = s.moon := rfl
@[simp] theorem State.wrap_retained (a hi lo k : Nat) : (s.wrap a hi lo k).retained = s.retained := rfl
@[simp] theorem State.wrap_snap (a hi lo k : Nat) : (s.wrap a hi lo k).snap = s.snap := rfl
@[simp] theorem State.wrap_posted (a hi lo k : Nat) : (s.wrap a hi lo k).posted = s.posted := rfl
@[simp] theorem State.wrap_heldWrites (a hi lo k : Nat) : (s.wrap a hi lo k).heldWrites = s.heldWrites := rfl
@[simp] theorem State.wrap_leases (a hi lo k : Nat) : (s.wrap a hi lo k).leases = s.leases := rfl
@[simp] theorem State.wrap_jrnl (a hi lo k : Nat) : (s.wrap a hi lo k).jrnl = s.jrnl := rfl
@[simp] theorem State.wrap_jobs (a hi lo k : Nat) : (s.wrap a hi lo k).jobs = s.jobs := rfl
@[simp] theorem State.wrap_nvm (a hi lo k : Nat) : (s.wrap a hi lo k).nvm = s.nvm := rfl
@[simp] theorem State.wrap_nvmDom (a hi lo k : Nat) : (s.wrap a hi lo k).nvmDom = s.nvmDom := rfl
@[simp] theorem State.wrap_rst (a hi lo k : Nat) : (s.wrap a hi lo k).rst = s.rst := rfl
@[simp] theorem State.wrap_clk (a hi lo k : Nat) : (s.wrap a hi lo k).clk = s.clk := rfl
@[simp] theorem State.wrap_cmt (a hi lo k : Nat) : (s.wrap a hi lo k).cmt = s.cmt := rfl
@[simp] theorem State.wrap_trig (a hi lo k : Nat) : (s.wrap a hi lo k).trig = s.trig := rfl
@[simp] theorem State.wrap_cap (a hi lo k : Nat) : (s.wrap a hi lo k).cap = s.cap := rfl
@[simp] theorem State.wrap_tk (a hi lo k : Nat) : (s.wrap a hi lo k).tk = s.tk := rfl
@[simp] theorem State.wrap_life (a hi lo k : Nat) : (s.wrap a hi lo k).life = s.life := rfl
@[simp] theorem State.wrap_bist (a hi lo k : Nat) : (s.wrap a hi lo k).bist = s.bist := rfl
@[simp] theorem State.wrap_alrm (a hi lo k : Nat) : (s.wrap a hi lo k).alrm = s.alrm := rfl
@[simp] theorem State.wrap_host (a hi lo k : Nat) : (s.wrap a hi lo k).host = s.host := rfl
@[simp] theorem State.wrap_chans (a hi lo k : Nat) : (s.wrap a hi lo k).chans = s.chans := rfl
@[simp] theorem State.wrap_groups (a hi lo k : Nat) : (s.wrap a hi lo k).groups = s.groups := rfl

/-! ### sat32 -/

@[simp] theorem State.sat32_now (a k : Nat) : (s.sat32 a k).now = s.now := rfl
@[simp] theorem State.sat32_freeCtr (a k : Nat) : (s.sat32 a k).freeCtr = s.freeCtr := rfl
@[simp] theorem State.sat32_pending (a k : Nat) : (s.sat32 a k).pending = s.pending := rfl
@[simp] theorem State.sat32_moon (a k : Nat) : (s.sat32 a k).moon = s.moon := rfl
@[simp] theorem State.sat32_retained (a k : Nat) : (s.sat32 a k).retained = s.retained := rfl
@[simp] theorem State.sat32_snap (a k : Nat) : (s.sat32 a k).snap = s.snap := rfl
@[simp] theorem State.sat32_posted (a k : Nat) : (s.sat32 a k).posted = s.posted := rfl
@[simp] theorem State.sat32_heldWrites (a k : Nat) : (s.sat32 a k).heldWrites = s.heldWrites := rfl
@[simp] theorem State.sat32_leases (a k : Nat) : (s.sat32 a k).leases = s.leases := rfl
@[simp] theorem State.sat32_jrnl (a k : Nat) : (s.sat32 a k).jrnl = s.jrnl := rfl
@[simp] theorem State.sat32_jobs (a k : Nat) : (s.sat32 a k).jobs = s.jobs := rfl
@[simp] theorem State.sat32_nvm (a k : Nat) : (s.sat32 a k).nvm = s.nvm := rfl
@[simp] theorem State.sat32_nvmDom (a k : Nat) : (s.sat32 a k).nvmDom = s.nvmDom := rfl
@[simp] theorem State.sat32_rst (a k : Nat) : (s.sat32 a k).rst = s.rst := rfl
@[simp] theorem State.sat32_clk (a k : Nat) : (s.sat32 a k).clk = s.clk := rfl
@[simp] theorem State.sat32_cmt (a k : Nat) : (s.sat32 a k).cmt = s.cmt := rfl
@[simp] theorem State.sat32_trig (a k : Nat) : (s.sat32 a k).trig = s.trig := rfl
@[simp] theorem State.sat32_cap (a k : Nat) : (s.sat32 a k).cap = s.cap := rfl
@[simp] theorem State.sat32_tk (a k : Nat) : (s.sat32 a k).tk = s.tk := rfl
@[simp] theorem State.sat32_life (a k : Nat) : (s.sat32 a k).life = s.life := rfl
@[simp] theorem State.sat32_bist (a k : Nat) : (s.sat32 a k).bist = s.bist := rfl
@[simp] theorem State.sat32_alrm (a k : Nat) : (s.sat32 a k).alrm = s.alrm := rfl
@[simp] theorem State.sat32_host (a k : Nat) : (s.sat32 a k).host = s.host := rfl
@[simp] theorem State.sat32_chans (a k : Nat) : (s.sat32 a k).chans = s.chans := rfl
@[simp] theorem State.sat32_groups (a k : Nat) : (s.sat32 a k).groups = s.groups := rfl

/-! ### wrap32 -/

@[simp] theorem State.wrap32_now (a k : Nat) : (s.wrap32 a k).now = s.now := rfl
@[simp] theorem State.wrap32_freeCtr (a k : Nat) : (s.wrap32 a k).freeCtr = s.freeCtr := rfl
@[simp] theorem State.wrap32_pending (a k : Nat) : (s.wrap32 a k).pending = s.pending := rfl
@[simp] theorem State.wrap32_moon (a k : Nat) : (s.wrap32 a k).moon = s.moon := rfl
@[simp] theorem State.wrap32_retained (a k : Nat) : (s.wrap32 a k).retained = s.retained := rfl
@[simp] theorem State.wrap32_snap (a k : Nat) : (s.wrap32 a k).snap = s.snap := rfl
@[simp] theorem State.wrap32_posted (a k : Nat) : (s.wrap32 a k).posted = s.posted := rfl
@[simp] theorem State.wrap32_heldWrites (a k : Nat) : (s.wrap32 a k).heldWrites = s.heldWrites := rfl
@[simp] theorem State.wrap32_leases (a k : Nat) : (s.wrap32 a k).leases = s.leases := rfl
@[simp] theorem State.wrap32_jrnl (a k : Nat) : (s.wrap32 a k).jrnl = s.jrnl := rfl
@[simp] theorem State.wrap32_jobs (a k : Nat) : (s.wrap32 a k).jobs = s.jobs := rfl
@[simp] theorem State.wrap32_nvm (a k : Nat) : (s.wrap32 a k).nvm = s.nvm := rfl
@[simp] theorem State.wrap32_nvmDom (a k : Nat) : (s.wrap32 a k).nvmDom = s.nvmDom := rfl
@[simp] theorem State.wrap32_rst (a k : Nat) : (s.wrap32 a k).rst = s.rst := rfl
@[simp] theorem State.wrap32_clk (a k : Nat) : (s.wrap32 a k).clk = s.clk := rfl
@[simp] theorem State.wrap32_cmt (a k : Nat) : (s.wrap32 a k).cmt = s.cmt := rfl
@[simp] theorem State.wrap32_trig (a k : Nat) : (s.wrap32 a k).trig = s.trig := rfl
@[simp] theorem State.wrap32_cap (a k : Nat) : (s.wrap32 a k).cap = s.cap := rfl
@[simp] theorem State.wrap32_tk (a k : Nat) : (s.wrap32 a k).tk = s.tk := rfl
@[simp] theorem State.wrap32_life (a k : Nat) : (s.wrap32 a k).life = s.life := rfl
@[simp] theorem State.wrap32_bist (a k : Nat) : (s.wrap32 a k).bist = s.bist := rfl
@[simp] theorem State.wrap32_alrm (a k : Nat) : (s.wrap32 a k).alrm = s.alrm := rfl
@[simp] theorem State.wrap32_host (a k : Nat) : (s.wrap32 a k).host = s.host := rfl
@[simp] theorem State.wrap32_chans (a k : Nat) : (s.wrap32 a k).chans = s.chans := rfl
@[simp] theorem State.wrap32_groups (a k : Nat) : (s.wrap32 a k).groups = s.groups := rfl

/-! ### wide -/

@[simp] theorem State.wide_now (l h w k : Nat) : (s.wide l h w k).now = s.now := rfl
@[simp] theorem State.wide_freeCtr (l h w k : Nat) : (s.wide l h w k).freeCtr = s.freeCtr := rfl
@[simp] theorem State.wide_pending (l h w k : Nat) : (s.wide l h w k).pending = s.pending := rfl
@[simp] theorem State.wide_moon (l h w k : Nat) : (s.wide l h w k).moon = s.moon := rfl
@[simp] theorem State.wide_retained (l h w k : Nat) : (s.wide l h w k).retained = s.retained := rfl
@[simp] theorem State.wide_snap (l h w k : Nat) : (s.wide l h w k).snap = s.snap := rfl
@[simp] theorem State.wide_posted (l h w k : Nat) : (s.wide l h w k).posted = s.posted := rfl
@[simp] theorem State.wide_heldWrites (l h w k : Nat) : (s.wide l h w k).heldWrites = s.heldWrites := rfl
@[simp] theorem State.wide_leases (l h w k : Nat) : (s.wide l h w k).leases = s.leases := rfl
@[simp] theorem State.wide_jrnl (l h w k : Nat) : (s.wide l h w k).jrnl = s.jrnl := rfl
@[simp] theorem State.wide_jobs (l h w k : Nat) : (s.wide l h w k).jobs = s.jobs := rfl
@[simp] theorem State.wide_nvm (l h w k : Nat) : (s.wide l h w k).nvm = s.nvm := rfl
@[simp] theorem State.wide_nvmDom (l h w k : Nat) : (s.wide l h w k).nvmDom = s.nvmDom := rfl
@[simp] theorem State.wide_rst (l h w k : Nat) : (s.wide l h w k).rst = s.rst := rfl
@[simp] theorem State.wide_clk (l h w k : Nat) : (s.wide l h w k).clk = s.clk := rfl
@[simp] theorem State.wide_cmt (l h w k : Nat) : (s.wide l h w k).cmt = s.cmt := rfl
@[simp] theorem State.wide_trig (l h w k : Nat) : (s.wide l h w k).trig = s.trig := rfl
@[simp] theorem State.wide_cap (l h w k : Nat) : (s.wide l h w k).cap = s.cap := rfl
@[simp] theorem State.wide_tk (l h w k : Nat) : (s.wide l h w k).tk = s.tk := rfl
@[simp] theorem State.wide_life (l h w k : Nat) : (s.wide l h w k).life = s.life := rfl
@[simp] theorem State.wide_bist (l h w k : Nat) : (s.wide l h w k).bist = s.bist := rfl
@[simp] theorem State.wide_alrm (l h w k : Nat) : (s.wide l h w k).alrm = s.alrm := rfl
@[simp] theorem State.wide_host (l h w k : Nat) : (s.wide l h w k).host = s.host := rfl
@[simp] theorem State.wide_chans (l h w k : Nat) : (s.wide l h w k).chans = s.chans := rfl
@[simp] theorem State.wide_groups (l h w k : Nat) : (s.wide l h w k).groups = s.groups := rfl

/-! ### keepRegs -/

@[simp] theorem State.keepRegs_now (p : Nat → Bool) : (s.keepRegs p).now = s.now := rfl
@[simp] theorem State.keepRegs_freeCtr (p : Nat → Bool) : (s.keepRegs p).freeCtr = s.freeCtr := rfl
@[simp] theorem State.keepRegs_pending (p : Nat → Bool) : (s.keepRegs p).pending = s.pending := rfl
@[simp] theorem State.keepRegs_moon (p : Nat → Bool) : (s.keepRegs p).moon = s.moon := rfl
@[simp] theorem State.keepRegs_retained (p : Nat → Bool) : (s.keepRegs p).retained = s.retained := rfl
@[simp] theorem State.keepRegs_snap (p : Nat → Bool) : (s.keepRegs p).snap = s.snap := rfl
@[simp] theorem State.keepRegs_posted (p : Nat → Bool) : (s.keepRegs p).posted = s.posted := rfl
@[simp] theorem State.keepRegs_heldWrites (p : Nat → Bool) : (s.keepRegs p).heldWrites = s.heldWrites := rfl
@[simp] theorem State.keepRegs_leases (p : Nat → Bool) : (s.keepRegs p).leases = s.leases := rfl
@[simp] theorem State.keepRegs_jrnl (p : Nat → Bool) : (s.keepRegs p).jrnl = s.jrnl := rfl
@[simp] theorem State.keepRegs_jobs (p : Nat → Bool) : (s.keepRegs p).jobs = s.jobs := rfl
@[simp] theorem State.keepRegs_nvm (p : Nat → Bool) : (s.keepRegs p).nvm = s.nvm := rfl
@[simp] theorem State.keepRegs_nvmDom (p : Nat → Bool) : (s.keepRegs p).nvmDom = s.nvmDom := rfl
@[simp] theorem State.keepRegs_rst (p : Nat → Bool) : (s.keepRegs p).rst = s.rst := rfl
@[simp] theorem State.keepRegs_clk (p : Nat → Bool) : (s.keepRegs p).clk = s.clk := rfl
@[simp] theorem State.keepRegs_cmt (p : Nat → Bool) : (s.keepRegs p).cmt = s.cmt := rfl
@[simp] theorem State.keepRegs_trig (p : Nat → Bool) : (s.keepRegs p).trig = s.trig := rfl
@[simp] theorem State.keepRegs_cap (p : Nat → Bool) : (s.keepRegs p).cap = s.cap := rfl
@[simp] theorem State.keepRegs_tk (p : Nat → Bool) : (s.keepRegs p).tk = s.tk := rfl
@[simp] theorem State.keepRegs_life (p : Nat → Bool) : (s.keepRegs p).life = s.life := rfl
@[simp] theorem State.keepRegs_bist (p : Nat → Bool) : (s.keepRegs p).bist = s.bist := rfl
@[simp] theorem State.keepRegs_alrm (p : Nat → Bool) : (s.keepRegs p).alrm = s.alrm := rfl
@[simp] theorem State.keepRegs_host (p : Nat → Bool) : (s.keepRegs p).host = s.host := rfl
@[simp] theorem State.keepRegs_chans (p : Nat → Bool) : (s.keepRegs p).chans = s.chans := rfl
@[simp] theorem State.keepRegs_groups (p : Nat → Bool) : (s.keepRegs p).groups = s.groups := rfl

/-! ### intr -/

@[simp] theorem State.intr_now (p : Page) (i : Nat) : (s.intr p i).now = s.now := rfl
@[simp] theorem State.intr_freeCtr (p : Page) (i : Nat) : (s.intr p i).freeCtr = s.freeCtr := rfl
@[simp] theorem State.intr_pending (p : Page) (i : Nat) : (s.intr p i).pending = s.pending := rfl
@[simp] theorem State.intr_moon (p : Page) (i : Nat) : (s.intr p i).moon = s.moon := rfl
@[simp] theorem State.intr_retained (p : Page) (i : Nat) : (s.intr p i).retained = s.retained := rfl
@[simp] theorem State.intr_snap (p : Page) (i : Nat) : (s.intr p i).snap = s.snap := rfl
@[simp] theorem State.intr_posted (p : Page) (i : Nat) : (s.intr p i).posted = s.posted := rfl
@[simp] theorem State.intr_heldWrites (p : Page) (i : Nat) : (s.intr p i).heldWrites = s.heldWrites := rfl
@[simp] theorem State.intr_leases (p : Page) (i : Nat) : (s.intr p i).leases = s.leases := rfl
@[simp] theorem State.intr_jrnl (p : Page) (i : Nat) : (s.intr p i).jrnl = s.jrnl := rfl
@[simp] theorem State.intr_jobs (p : Page) (i : Nat) : (s.intr p i).jobs = s.jobs := rfl
@[simp] theorem State.intr_nvm (p : Page) (i : Nat) : (s.intr p i).nvm = s.nvm := rfl
@[simp] theorem State.intr_nvmDom (p : Page) (i : Nat) : (s.intr p i).nvmDom = s.nvmDom := rfl
@[simp] theorem State.intr_rst (p : Page) (i : Nat) : (s.intr p i).rst = s.rst := rfl
@[simp] theorem State.intr_clk (p : Page) (i : Nat) : (s.intr p i).clk = s.clk := rfl
@[simp] theorem State.intr_cmt (p : Page) (i : Nat) : (s.intr p i).cmt = s.cmt := rfl
@[simp] theorem State.intr_trig (p : Page) (i : Nat) : (s.intr p i).trig = s.trig := rfl
@[simp] theorem State.intr_cap (p : Page) (i : Nat) : (s.intr p i).cap = s.cap := rfl
@[simp] theorem State.intr_tk (p : Page) (i : Nat) : (s.intr p i).tk = s.tk := rfl
@[simp] theorem State.intr_life (p : Page) (i : Nat) : (s.intr p i).life = s.life := rfl
@[simp] theorem State.intr_bist (p : Page) (i : Nat) : (s.intr p i).bist = s.bist := rfl
@[simp] theorem State.intr_alrm (p : Page) (i : Nat) : (s.intr p i).alrm = s.alrm := rfl
@[simp] theorem State.intr_host (p : Page) (i : Nat) : (s.intr p i).host = s.host := rfl
@[simp] theorem State.intr_chans (p : Page) (i : Nat) : (s.intr p i).chans = s.chans := rfl
@[simp] theorem State.intr_groups (p : Page) (i : Nat) : (s.intr p i).groups = s.groups := rfl

/-! ### cint -/

@[simp] theorem State.cint_now (n : Ch) (p : ChPage) (i : Nat) : (s.cint n p i).now = s.now := rfl
@[simp] theorem State.cint_freeCtr (n : Ch) (p : ChPage) (i : Nat) : (s.cint n p i).freeCtr = s.freeCtr := rfl
@[simp] theorem State.cint_pending (n : Ch) (p : ChPage) (i : Nat) : (s.cint n p i).pending = s.pending := rfl
@[simp] theorem State.cint_moon (n : Ch) (p : ChPage) (i : Nat) : (s.cint n p i).moon = s.moon := rfl
@[simp] theorem State.cint_retained (n : Ch) (p : ChPage) (i : Nat) : (s.cint n p i).retained = s.retained := rfl
@[simp] theorem State.cint_snap (n : Ch) (p : ChPage) (i : Nat) : (s.cint n p i).snap = s.snap := rfl
@[simp] theorem State.cint_posted (n : Ch) (p : ChPage) (i : Nat) : (s.cint n p i).posted = s.posted := rfl
@[simp] theorem State.cint_heldWrites (n : Ch) (p : ChPage) (i : Nat) : (s.cint n p i).heldWrites = s.heldWrites := rfl
@[simp] theorem State.cint_leases (n : Ch) (p : ChPage) (i : Nat) : (s.cint n p i).leases = s.leases := rfl
@[simp] theorem State.cint_jrnl (n : Ch) (p : ChPage) (i : Nat) : (s.cint n p i).jrnl = s.jrnl := rfl
@[simp] theorem State.cint_jobs (n : Ch) (p : ChPage) (i : Nat) : (s.cint n p i).jobs = s.jobs := rfl
@[simp] theorem State.cint_nvm (n : Ch) (p : ChPage) (i : Nat) : (s.cint n p i).nvm = s.nvm := rfl
@[simp] theorem State.cint_nvmDom (n : Ch) (p : ChPage) (i : Nat) : (s.cint n p i).nvmDom = s.nvmDom := rfl
@[simp] theorem State.cint_rst (n : Ch) (p : ChPage) (i : Nat) : (s.cint n p i).rst = s.rst := rfl
@[simp] theorem State.cint_clk (n : Ch) (p : ChPage) (i : Nat) : (s.cint n p i).clk = s.clk := rfl
@[simp] theorem State.cint_cmt (n : Ch) (p : ChPage) (i : Nat) : (s.cint n p i).cmt = s.cmt := rfl
@[simp] theorem State.cint_trig (n : Ch) (p : ChPage) (i : Nat) : (s.cint n p i).trig = s.trig := rfl
@[simp] theorem State.cint_cap (n : Ch) (p : ChPage) (i : Nat) : (s.cint n p i).cap = s.cap := rfl
@[simp] theorem State.cint_tk (n : Ch) (p : ChPage) (i : Nat) : (s.cint n p i).tk = s.tk := rfl
@[simp] theorem State.cint_life (n : Ch) (p : ChPage) (i : Nat) : (s.cint n p i).life = s.life := rfl
@[simp] theorem State.cint_bist (n : Ch) (p : ChPage) (i : Nat) : (s.cint n p i).bist = s.bist := rfl
@[simp] theorem State.cint_alrm (n : Ch) (p : ChPage) (i : Nat) : (s.cint n p i).alrm = s.alrm := rfl
@[simp] theorem State.cint_host (n : Ch) (p : ChPage) (i : Nat) : (s.cint n p i).host = s.host := rfl
@[simp] theorem State.cint_chans (n : Ch) (p : ChPage) (i : Nat) : (s.cint n p i).chans = s.chans := rfl
@[simp] theorem State.cint_groups (n : Ch) (p : ChPage) (i : Nat) : (s.cint n p i).groups = s.groups := rfl

/-! ### setChan -/

@[simp] theorem State.setChan_now (n : Ch) (c : Chan) : (s.setChan n c).now = s.now := rfl
@[simp] theorem State.setChan_freeCtr (n : Ch) (c : Chan) : (s.setChan n c).freeCtr = s.freeCtr := rfl
@[simp] theorem State.setChan_pending (n : Ch) (c : Chan) : (s.setChan n c).pending = s.pending := rfl
@[simp] theorem State.setChan_regs (n : Ch) (c : Chan) : (s.setChan n c).regs = s.regs := rfl
@[simp] theorem State.setChan_moon (n : Ch) (c : Chan) : (s.setChan n c).moon = s.moon := rfl
@[simp] theorem State.setChan_retained (n : Ch) (c : Chan) : (s.setChan n c).retained = s.retained := rfl
@[simp] theorem State.setChan_snap (n : Ch) (c : Chan) : (s.setChan n c).snap = s.snap := rfl
@[simp] theorem State.setChan_posted (n : Ch) (c : Chan) : (s.setChan n c).posted = s.posted := rfl
@[simp] theorem State.setChan_heldWrites (n : Ch) (c : Chan) : (s.setChan n c).heldWrites = s.heldWrites := rfl
@[simp] theorem State.setChan_leases (n : Ch) (c : Chan) : (s.setChan n c).leases = s.leases := rfl
@[simp] theorem State.setChan_jrnl (n : Ch) (c : Chan) : (s.setChan n c).jrnl = s.jrnl := rfl
@[simp] theorem State.setChan_jobs (n : Ch) (c : Chan) : (s.setChan n c).jobs = s.jobs := rfl
@[simp] theorem State.setChan_nvm (n : Ch) (c : Chan) : (s.setChan n c).nvm = s.nvm := rfl
@[simp] theorem State.setChan_nvmDom (n : Ch) (c : Chan) : (s.setChan n c).nvmDom = s.nvmDom := rfl
@[simp] theorem State.setChan_rst (n : Ch) (c : Chan) : (s.setChan n c).rst = s.rst := rfl
@[simp] theorem State.setChan_clk (n : Ch) (c : Chan) : (s.setChan n c).clk = s.clk := rfl
@[simp] theorem State.setChan_cmt (n : Ch) (c : Chan) : (s.setChan n c).cmt = s.cmt := rfl
@[simp] theorem State.setChan_trig (n : Ch) (c : Chan) : (s.setChan n c).trig = s.trig := rfl
@[simp] theorem State.setChan_cap (n : Ch) (c : Chan) : (s.setChan n c).cap = s.cap := rfl
@[simp] theorem State.setChan_tk (n : Ch) (c : Chan) : (s.setChan n c).tk = s.tk := rfl
@[simp] theorem State.setChan_life (n : Ch) (c : Chan) : (s.setChan n c).life = s.life := rfl
@[simp] theorem State.setChan_bist (n : Ch) (c : Chan) : (s.setChan n c).bist = s.bist := rfl
@[simp] theorem State.setChan_alrm (n : Ch) (c : Chan) : (s.setChan n c).alrm = s.alrm := rfl
@[simp] theorem State.setChan_host (n : Ch) (c : Chan) : (s.setChan n c).host = s.host := rfl
@[simp] theorem State.setChan_groups (n : Ch) (c : Chan) : (s.setChan n c).groups = s.groups := rfl

/-! ### mapChan -/

@[simp] theorem State.mapChan_now (n : Ch) (f : Chan → Chan) : (s.mapChan n f).now = s.now := rfl
@[simp] theorem State.mapChan_freeCtr (n : Ch) (f : Chan → Chan) : (s.mapChan n f).freeCtr = s.freeCtr := rfl
@[simp] theorem State.mapChan_pending (n : Ch) (f : Chan → Chan) : (s.mapChan n f).pending = s.pending := rfl
@[simp] theorem State.mapChan_regs (n : Ch) (f : Chan → Chan) : (s.mapChan n f).regs = s.regs := rfl
@[simp] theorem State.mapChan_moon (n : Ch) (f : Chan → Chan) : (s.mapChan n f).moon = s.moon := rfl
@[simp] theorem State.mapChan_retained (n : Ch) (f : Chan → Chan) : (s.mapChan n f).retained = s.retained := rfl
@[simp] theorem State.mapChan_snap (n : Ch) (f : Chan → Chan) : (s.mapChan n f).snap = s.snap := rfl
@[simp] theorem State.mapChan_posted (n : Ch) (f : Chan → Chan) : (s.mapChan n f).posted = s.posted := rfl
@[simp] theorem State.mapChan_heldWrites (n : Ch) (f : Chan → Chan) : (s.mapChan n f).heldWrites = s.heldWrites := rfl
@[simp] theorem State.mapChan_leases (n : Ch) (f : Chan → Chan) : (s.mapChan n f).leases = s.leases := rfl
@[simp] theorem State.mapChan_jrnl (n : Ch) (f : Chan → Chan) : (s.mapChan n f).jrnl = s.jrnl := rfl
@[simp] theorem State.mapChan_jobs (n : Ch) (f : Chan → Chan) : (s.mapChan n f).jobs = s.jobs := rfl
@[simp] theorem State.mapChan_nvm (n : Ch) (f : Chan → Chan) : (s.mapChan n f).nvm = s.nvm := rfl
@[simp] theorem State.mapChan_nvmDom (n : Ch) (f : Chan → Chan) : (s.mapChan n f).nvmDom = s.nvmDom := rfl
@[simp] theorem State.mapChan_rst (n : Ch) (f : Chan → Chan) : (s.mapChan n f).rst = s.rst := rfl
@[simp] theorem State.mapChan_clk (n : Ch) (f : Chan → Chan) : (s.mapChan n f).clk = s.clk := rfl
@[simp] theorem State.mapChan_cmt (n : Ch) (f : Chan → Chan) : (s.mapChan n f).cmt = s.cmt := rfl
@[simp] theorem State.mapChan_trig (n : Ch) (f : Chan → Chan) : (s.mapChan n f).trig = s.trig := rfl
@[simp] theorem State.mapChan_cap (n : Ch) (f : Chan → Chan) : (s.mapChan n f).cap = s.cap := rfl
@[simp] theorem State.mapChan_tk (n : Ch) (f : Chan → Chan) : (s.mapChan n f).tk = s.tk := rfl
@[simp] theorem State.mapChan_life (n : Ch) (f : Chan → Chan) : (s.mapChan n f).life = s.life := rfl
@[simp] theorem State.mapChan_bist (n : Ch) (f : Chan → Chan) : (s.mapChan n f).bist = s.bist := rfl
@[simp] theorem State.mapChan_alrm (n : Ch) (f : Chan → Chan) : (s.mapChan n f).alrm = s.alrm := rfl
@[simp] theorem State.mapChan_host (n : Ch) (f : Chan → Chan) : (s.mapChan n f).host = s.host := rfl
@[simp] theorem State.mapChan_groups (n : Ch) (f : Chan → Chan) : (s.mapChan n f).groups = s.groups := rfl

/-! ### setGroup -/

@[simp] theorem State.setGroup_now (g : Tg) (x : Group) : (s.setGroup g x).now = s.now := rfl
@[simp] theorem State.setGroup_freeCtr (g : Tg) (x : Group) : (s.setGroup g x).freeCtr = s.freeCtr := rfl
@[simp] theorem State.setGroup_pending (g : Tg) (x : Group) : (s.setGroup g x).pending = s.pending := rfl
@[simp] theorem State.setGroup_regs (g : Tg) (x : Group) : (s.setGroup g x).regs = s.regs := rfl
@[simp] theorem State.setGroup_moon (g : Tg) (x : Group) : (s.setGroup g x).moon = s.moon := rfl
@[simp] theorem State.setGroup_retained (g : Tg) (x : Group) : (s.setGroup g x).retained = s.retained := rfl
@[simp] theorem State.setGroup_snap (g : Tg) (x : Group) : (s.setGroup g x).snap = s.snap := rfl
@[simp] theorem State.setGroup_posted (g : Tg) (x : Group) : (s.setGroup g x).posted = s.posted := rfl
@[simp] theorem State.setGroup_heldWrites (g : Tg) (x : Group) : (s.setGroup g x).heldWrites = s.heldWrites := rfl
@[simp] theorem State.setGroup_leases (g : Tg) (x : Group) : (s.setGroup g x).leases = s.leases := rfl
@[simp] theorem State.setGroup_jrnl (g : Tg) (x : Group) : (s.setGroup g x).jrnl = s.jrnl := rfl
@[simp] theorem State.setGroup_jobs (g : Tg) (x : Group) : (s.setGroup g x).jobs = s.jobs := rfl
@[simp] theorem State.setGroup_nvm (g : Tg) (x : Group) : (s.setGroup g x).nvm = s.nvm := rfl
@[simp] theorem State.setGroup_nvmDom (g : Tg) (x : Group) : (s.setGroup g x).nvmDom = s.nvmDom := rfl
@[simp] theorem State.setGroup_rst (g : Tg) (x : Group) : (s.setGroup g x).rst = s.rst := rfl
@[simp] theorem State.setGroup_clk (g : Tg) (x : Group) : (s.setGroup g x).clk = s.clk := rfl
@[simp] theorem State.setGroup_cmt (g : Tg) (x : Group) : (s.setGroup g x).cmt = s.cmt := rfl
@[simp] theorem State.setGroup_trig (g : Tg) (x : Group) : (s.setGroup g x).trig = s.trig := rfl
@[simp] theorem State.setGroup_cap (g : Tg) (x : Group) : (s.setGroup g x).cap = s.cap := rfl
@[simp] theorem State.setGroup_tk (g : Tg) (x : Group) : (s.setGroup g x).tk = s.tk := rfl
@[simp] theorem State.setGroup_life (g : Tg) (x : Group) : (s.setGroup g x).life = s.life := rfl
@[simp] theorem State.setGroup_bist (g : Tg) (x : Group) : (s.setGroup g x).bist = s.bist := rfl
@[simp] theorem State.setGroup_alrm (g : Tg) (x : Group) : (s.setGroup g x).alrm = s.alrm := rfl
@[simp] theorem State.setGroup_host (g : Tg) (x : Group) : (s.setGroup g x).host = s.host := rfl
@[simp] theorem State.setGroup_chans (g : Tg) (x : Group) : (s.setGroup g x).chans = s.chans := rfl

/-! ### mapGroup -/

@[simp] theorem State.mapGroup_now (g : Tg) (f : Group → Group) : (s.mapGroup g f).now = s.now := rfl
@[simp] theorem State.mapGroup_freeCtr (g : Tg) (f : Group → Group) : (s.mapGroup g f).freeCtr = s.freeCtr := rfl
@[simp] theorem State.mapGroup_pending (g : Tg) (f : Group → Group) : (s.mapGroup g f).pending = s.pending := rfl
@[simp] theorem State.mapGroup_regs (g : Tg) (f : Group → Group) : (s.mapGroup g f).regs = s.regs := rfl
@[simp] theorem State.mapGroup_moon (g : Tg) (f : Group → Group) : (s.mapGroup g f).moon = s.moon := rfl
@[simp] theorem State.mapGroup_retained (g : Tg) (f : Group → Group) : (s.mapGroup g f).retained = s.retained := rfl
@[simp] theorem State.mapGroup_snap (g : Tg) (f : Group → Group) : (s.mapGroup g f).snap = s.snap := rfl
@[simp] theorem State.mapGroup_posted (g : Tg) (f : Group → Group) : (s.mapGroup g f).posted = s.posted := rfl
@[simp] theorem State.mapGroup_heldWrites (g : Tg) (f : Group → Group) : (s.mapGroup g f).heldWrites = s.heldWrites := rfl
@[simp] theorem State.mapGroup_leases (g : Tg) (f : Group → Group) : (s.mapGroup g f).leases = s.leases := rfl
@[simp] theorem State.mapGroup_jrnl (g : Tg) (f : Group → Group) : (s.mapGroup g f).jrnl = s.jrnl := rfl
@[simp] theorem State.mapGroup_jobs (g : Tg) (f : Group → Group) : (s.mapGroup g f).jobs = s.jobs := rfl
@[simp] theorem State.mapGroup_nvm (g : Tg) (f : Group → Group) : (s.mapGroup g f).nvm = s.nvm := rfl
@[simp] theorem State.mapGroup_nvmDom (g : Tg) (f : Group → Group) : (s.mapGroup g f).nvmDom = s.nvmDom := rfl
@[simp] theorem State.mapGroup_rst (g : Tg) (f : Group → Group) : (s.mapGroup g f).rst = s.rst := rfl
@[simp] theorem State.mapGroup_clk (g : Tg) (f : Group → Group) : (s.mapGroup g f).clk = s.clk := rfl
@[simp] theorem State.mapGroup_cmt (g : Tg) (f : Group → Group) : (s.mapGroup g f).cmt = s.cmt := rfl
@[simp] theorem State.mapGroup_trig (g : Tg) (f : Group → Group) : (s.mapGroup g f).trig = s.trig := rfl
@[simp] theorem State.mapGroup_cap (g : Tg) (f : Group → Group) : (s.mapGroup g f).cap = s.cap := rfl
@[simp] theorem State.mapGroup_tk (g : Tg) (f : Group → Group) : (s.mapGroup g f).tk = s.tk := rfl
@[simp] theorem State.mapGroup_life (g : Tg) (f : Group → Group) : (s.mapGroup g f).life = s.life := rfl
@[simp] theorem State.mapGroup_bist (g : Tg) (f : Group → Group) : (s.mapGroup g f).bist = s.bist := rfl
@[simp] theorem State.mapGroup_alrm (g : Tg) (f : Group → Group) : (s.mapGroup g f).alrm = s.alrm := rfl
@[simp] theorem State.mapGroup_host (g : Tg) (f : Group → Group) : (s.mapGroup g f).host = s.host := rfl
@[simp] theorem State.mapGroup_chans (g : Tg) (f : Group → Group) : (s.mapGroup g f).chans = s.chans := rfl

/-! ### tookFree -/

@[simp] theorem State.tookFree_now : (s.tookFree).now = s.now := rfl
@[simp] theorem State.tookFree_pending : (s.tookFree).pending = s.pending := rfl
@[simp] theorem State.tookFree_regs : (s.tookFree).regs = s.regs := rfl
@[simp] theorem State.tookFree_moon : (s.tookFree).moon = s.moon := rfl
@[simp] theorem State.tookFree_retained : (s.tookFree).retained = s.retained := rfl
@[simp] theorem State.tookFree_snap : (s.tookFree).snap = s.snap := rfl
@[simp] theorem State.tookFree_posted : (s.tookFree).posted = s.posted := rfl
@[simp] theorem State.tookFree_heldWrites : (s.tookFree).heldWrites = s.heldWrites := rfl
@[simp] theorem State.tookFree_leases : (s.tookFree).leases = s.leases := rfl
@[simp] theorem State.tookFree_jrnl : (s.tookFree).jrnl = s.jrnl := rfl
@[simp] theorem State.tookFree_jobs : (s.tookFree).jobs = s.jobs := rfl
@[simp] theorem State.tookFree_nvm : (s.tookFree).nvm = s.nvm := rfl
@[simp] theorem State.tookFree_nvmDom : (s.tookFree).nvmDom = s.nvmDom := rfl
@[simp] theorem State.tookFree_rst : (s.tookFree).rst = s.rst := rfl
@[simp] theorem State.tookFree_clk : (s.tookFree).clk = s.clk := rfl
@[simp] theorem State.tookFree_cmt : (s.tookFree).cmt = s.cmt := rfl
@[simp] theorem State.tookFree_trig : (s.tookFree).trig = s.trig := rfl
@[simp] theorem State.tookFree_cap : (s.tookFree).cap = s.cap := rfl
@[simp] theorem State.tookFree_tk : (s.tookFree).tk = s.tk := rfl
@[simp] theorem State.tookFree_life : (s.tookFree).life = s.life := rfl
@[simp] theorem State.tookFree_bist : (s.tookFree).bist = s.bist := rfl
@[simp] theorem State.tookFree_alrm : (s.tookFree).alrm = s.alrm := rfl
@[simp] theorem State.tookFree_host : (s.tookFree).host = s.host := rfl
@[simp] theorem State.tookFree_chans : (s.tookFree).chans = s.chans := rfl
@[simp] theorem State.tookFree_groups : (s.tookFree).groups = s.groups := rfl

/-! ### jAppend -/

@[simp] theorem State.jAppend_now (o fl a : Nat) (x y : Word) : (s.jAppend o fl a x y).now = s.now := by
  simp only [State.jAppend, State.when]; repeat' split
  all_goals rfl
@[simp] theorem State.jAppend_freeCtr (o fl a : Nat) (x y : Word) : (s.jAppend o fl a x y).freeCtr = s.freeCtr := by
  simp only [State.jAppend, State.when]; repeat' split
  all_goals rfl
@[simp] theorem State.jAppend_pending (o fl a : Nat) (x y : Word) : (s.jAppend o fl a x y).pending = s.pending := by
  simp only [State.jAppend, State.when]; repeat' split
  all_goals rfl
@[simp] theorem State.jAppend_moon (o fl a : Nat) (x y : Word) : (s.jAppend o fl a x y).moon = s.moon := by
  simp only [State.jAppend, State.when]; repeat' split
  all_goals rfl
@[simp] theorem State.jAppend_retained (o fl a : Nat) (x y : Word) : (s.jAppend o fl a x y).retained = s.retained := by
  simp only [State.jAppend, State.when]; repeat' split
  all_goals rfl
@[simp] theorem State.jAppend_snap (o fl a : Nat) (x y : Word) : (s.jAppend o fl a x y).snap = s.snap := by
  simp only [State.jAppend, State.when]; repeat' split
  all_goals rfl
@[simp] theorem State.jAppend_posted (o fl a : Nat) (x y : Word) : (s.jAppend o fl a x y).posted = s.posted := by
  simp only [State.jAppend, State.when]; repeat' split
  all_goals rfl
@[simp] theorem State.jAppend_heldWrites (o fl a : Nat) (x y : Word) : (s.jAppend o fl a x y).heldWrites = s.heldWrites := by
  simp only [State.jAppend, State.when]; repeat' split
  all_goals rfl
@[simp] theorem State.jAppend_leases (o fl a : Nat) (x y : Word) : (s.jAppend o fl a x y).leases = s.leases := by
  simp only [State.jAppend, State.when]; repeat' split
  all_goals rfl
@[simp] theorem State.jAppend_jobs (o fl a : Nat) (x y : Word) : (s.jAppend o fl a x y).jobs = s.jobs := by
  simp only [State.jAppend, State.when]; repeat' split
  all_goals rfl
@[simp] theorem State.jAppend_nvm (o fl a : Nat) (x y : Word) : (s.jAppend o fl a x y).nvm = s.nvm := by
  simp only [State.jAppend, State.when]; repeat' split
  all_goals rfl
@[simp] theorem State.jAppend_nvmDom (o fl a : Nat) (x y : Word) : (s.jAppend o fl a x y).nvmDom = s.nvmDom := by
  simp only [State.jAppend, State.when]; repeat' split
  all_goals rfl
@[simp] theorem State.jAppend_rst (o fl a : Nat) (x y : Word) : (s.jAppend o fl a x y).rst = s.rst := by
  simp only [State.jAppend, State.when]; repeat' split
  all_goals rfl
@[simp] theorem State.jAppend_clk (o fl a : Nat) (x y : Word) : (s.jAppend o fl a x y).clk = s.clk := by
  simp only [State.jAppend, State.when]; repeat' split
  all_goals rfl
@[simp] theorem State.jAppend_cmt (o fl a : Nat) (x y : Word) : (s.jAppend o fl a x y).cmt = s.cmt := by
  simp only [State.jAppend, State.when]; repeat' split
  all_goals rfl
@[simp] theorem State.jAppend_trig (o fl a : Nat) (x y : Word) : (s.jAppend o fl a x y).trig = s.trig := by
  simp only [State.jAppend, State.when]; repeat' split
  all_goals rfl
@[simp] theorem State.jAppend_cap (o fl a : Nat) (x y : Word) : (s.jAppend o fl a x y).cap = s.cap := by
  simp only [State.jAppend, State.when]; repeat' split
  all_goals rfl
@[simp] theorem State.jAppend_tk (o fl a : Nat) (x y : Word) : (s.jAppend o fl a x y).tk = s.tk := by
  simp only [State.jAppend, State.when]; repeat' split
  all_goals rfl
@[simp] theorem State.jAppend_life (o fl a : Nat) (x y : Word) : (s.jAppend o fl a x y).life = s.life := by
  simp only [State.jAppend, State.when]; repeat' split
  all_goals rfl
@[simp] theorem State.jAppend_bist (o fl a : Nat) (x y : Word) : (s.jAppend o fl a x y).bist = s.bist := by
  simp only [State.jAppend, State.when]; repeat' split
  all_goals rfl
@[simp] theorem State.jAppend_alrm (o fl a : Nat) (x y : Word) : (s.jAppend o fl a x y).alrm = s.alrm := by
  simp only [State.jAppend, State.when]; repeat' split
  all_goals rfl
@[simp] theorem State.jAppend_host (o fl a : Nat) (x y : Word) : (s.jAppend o fl a x y).host = s.host := by
  simp only [State.jAppend, State.when]; repeat' split
  all_goals rfl
@[simp] theorem State.jAppend_chans (o fl a : Nat) (x y : Word) : (s.jAppend o fl a x y).chans = s.chans := by
  simp only [State.jAppend, State.when]; repeat' split
  all_goals rfl
@[simp] theorem State.jAppend_groups (o fl a : Nat) (x y : Word) : (s.jAppend o fl a x y).groups = s.groups := by
  simp only [State.jAppend, State.when]; repeat' split
  all_goals rfl

/-! ### jEvent -/

@[simp] theorem State.jEvent_now (c a : Nat) (x : Word) : (s.jEvent c a x).now = s.now := State.jAppend_now s _ _ _ _ _
@[simp] theorem State.jEvent_freeCtr (c a : Nat) (x : Word) : (s.jEvent c a x).freeCtr = s.freeCtr := State.jAppend_freeCtr s _ _ _ _ _
@[simp] theorem State.jEvent_pending (c a : Nat) (x : Word) : (s.jEvent c a x).pending = s.pending := State.jAppend_pending s _ _ _ _ _
@[simp] theorem State.jEvent_moon (c a : Nat) (x : Word) : (s.jEvent c a x).moon = s.moon := State.jAppend_moon s _ _ _ _ _
@[simp] theorem State.jEvent_retained (c a : Nat) (x : Word) : (s.jEvent c a x).retained = s.retained := State.jAppend_retained s _ _ _ _ _
@[simp] theorem State.jEvent_snap (c a : Nat) (x : Word) : (s.jEvent c a x).snap = s.snap := State.jAppend_snap s _ _ _ _ _
@[simp] theorem State.jEvent_posted (c a : Nat) (x : Word) : (s.jEvent c a x).posted = s.posted := State.jAppend_posted s _ _ _ _ _
@[simp] theorem State.jEvent_heldWrites (c a : Nat) (x : Word) : (s.jEvent c a x).heldWrites = s.heldWrites := State.jAppend_heldWrites s _ _ _ _ _
@[simp] theorem State.jEvent_leases (c a : Nat) (x : Word) : (s.jEvent c a x).leases = s.leases := State.jAppend_leases s _ _ _ _ _
@[simp] theorem State.jEvent_jobs (c a : Nat) (x : Word) : (s.jEvent c a x).jobs = s.jobs := State.jAppend_jobs s _ _ _ _ _
@[simp] theorem State.jEvent_nvm (c a : Nat) (x : Word) : (s.jEvent c a x).nvm = s.nvm := State.jAppend_nvm s _ _ _ _ _
@[simp] theorem State.jEvent_nvmDom (c a : Nat) (x : Word) : (s.jEvent c a x).nvmDom = s.nvmDom := State.jAppend_nvmDom s _ _ _ _ _
@[simp] theorem State.jEvent_rst (c a : Nat) (x : Word) : (s.jEvent c a x).rst = s.rst := State.jAppend_rst s _ _ _ _ _
@[simp] theorem State.jEvent_clk (c a : Nat) (x : Word) : (s.jEvent c a x).clk = s.clk := State.jAppend_clk s _ _ _ _ _
@[simp] theorem State.jEvent_cmt (c a : Nat) (x : Word) : (s.jEvent c a x).cmt = s.cmt := State.jAppend_cmt s _ _ _ _ _
@[simp] theorem State.jEvent_trig (c a : Nat) (x : Word) : (s.jEvent c a x).trig = s.trig := State.jAppend_trig s _ _ _ _ _
@[simp] theorem State.jEvent_cap (c a : Nat) (x : Word) : (s.jEvent c a x).cap = s.cap := State.jAppend_cap s _ _ _ _ _
@[simp] theorem State.jEvent_tk (c a : Nat) (x : Word) : (s.jEvent c a x).tk = s.tk := State.jAppend_tk s _ _ _ _ _
@[simp] theorem State.jEvent_life (c a : Nat) (x : Word) : (s.jEvent c a x).life = s.life := State.jAppend_life s _ _ _ _ _
@[simp] theorem State.jEvent_bist (c a : Nat) (x : Word) : (s.jEvent c a x).bist = s.bist := State.jAppend_bist s _ _ _ _ _
@[simp] theorem State.jEvent_alrm (c a : Nat) (x : Word) : (s.jEvent c a x).alrm = s.alrm := State.jAppend_alrm s _ _ _ _ _
@[simp] theorem State.jEvent_host (c a : Nat) (x : Word) : (s.jEvent c a x).host = s.host := State.jAppend_host s _ _ _ _ _
@[simp] theorem State.jEvent_chans (c a : Nat) (x : Word) : (s.jEvent c a x).chans = s.chans := State.jAppend_chans s _ _ _ _ _
@[simp] theorem State.jEvent_groups (c a : Nat) (x : Word) : (s.jEvent c a x).groups = s.groups := State.jAppend_groups s _ _ _ _ _

/-! ### ownSet -/

@[simp] theorem State.ownSet_now (o : Origin) (a : Nat) (v : Word) : (s.ownSet o a v).now = s.now := State.jAppend_now _ _ _ _ _ _
@[simp] theorem State.ownSet_freeCtr (o : Origin) (a : Nat) (v : Word) : (s.ownSet o a v).freeCtr = s.freeCtr := State.jAppend_freeCtr _ _ _ _ _ _
@[simp] theorem State.ownSet_pending (o : Origin) (a : Nat) (v : Word) : (s.ownSet o a v).pending = s.pending := State.jAppend_pending _ _ _ _ _ _
@[simp] theorem State.ownSet_moon (o : Origin) (a : Nat) (v : Word) : (s.ownSet o a v).moon = s.moon := State.jAppend_moon _ _ _ _ _ _
@[simp] theorem State.ownSet_retained (o : Origin) (a : Nat) (v : Word) : (s.ownSet o a v).retained = s.retained := State.jAppend_retained _ _ _ _ _ _
@[simp] theorem State.ownSet_snap (o : Origin) (a : Nat) (v : Word) : (s.ownSet o a v).snap = s.snap := State.jAppend_snap _ _ _ _ _ _
@[simp] theorem State.ownSet_posted (o : Origin) (a : Nat) (v : Word) : (s.ownSet o a v).posted = s.posted := State.jAppend_posted _ _ _ _ _ _
@[simp] theorem State.ownSet_heldWrites (o : Origin) (a : Nat) (v : Word) : (s.ownSet o a v).heldWrites = s.heldWrites := State.jAppend_heldWrites _ _ _ _ _ _
@[simp] theorem State.ownSet_leases (o : Origin) (a : Nat) (v : Word) : (s.ownSet o a v).leases = s.leases := State.jAppend_leases _ _ _ _ _ _
@[simp] theorem State.ownSet_jobs (o : Origin) (a : Nat) (v : Word) : (s.ownSet o a v).jobs = s.jobs := State.jAppend_jobs _ _ _ _ _ _
@[simp] theorem State.ownSet_nvm (o : Origin) (a : Nat) (v : Word) : (s.ownSet o a v).nvm = s.nvm := State.jAppend_nvm _ _ _ _ _ _
@[simp] theorem State.ownSet_nvmDom (o : Origin) (a : Nat) (v : Word) : (s.ownSet o a v).nvmDom = s.nvmDom := State.jAppend_nvmDom _ _ _ _ _ _
@[simp] theorem State.ownSet_rst (o : Origin) (a : Nat) (v : Word) : (s.ownSet o a v).rst = s.rst := State.jAppend_rst _ _ _ _ _ _
@[simp] theorem State.ownSet_clk (o : Origin) (a : Nat) (v : Word) : (s.ownSet o a v).clk = s.clk := State.jAppend_clk _ _ _ _ _ _
@[simp] theorem State.ownSet_cmt (o : Origin) (a : Nat) (v : Word) : (s.ownSet o a v).cmt = s.cmt := State.jAppend_cmt _ _ _ _ _ _
@[simp] theorem State.ownSet_trig (o : Origin) (a : Nat) (v : Word) : (s.ownSet o a v).trig = s.trig := State.jAppend_trig _ _ _ _ _ _
@[simp] theorem State.ownSet_cap (o : Origin) (a : Nat) (v : Word) : (s.ownSet o a v).cap = s.cap := State.jAppend_cap _ _ _ _ _ _
@[simp] theorem State.ownSet_tk (o : Origin) (a : Nat) (v : Word) : (s.ownSet o a v).tk = s.tk := State.jAppend_tk _ _ _ _ _ _
@[simp] theorem State.ownSet_life (o : Origin) (a : Nat) (v : Word) : (s.ownSet o a v).life = s.life := State.jAppend_life _ _ _ _ _ _
@[simp] theorem State.ownSet_bist (o : Origin) (a : Nat) (v : Word) : (s.ownSet o a v).bist = s.bist := State.jAppend_bist _ _ _ _ _ _
@[simp] theorem State.ownSet_alrm (o : Origin) (a : Nat) (v : Word) : (s.ownSet o a v).alrm = s.alrm := State.jAppend_alrm _ _ _ _ _ _
@[simp] theorem State.ownSet_host (o : Origin) (a : Nat) (v : Word) : (s.ownSet o a v).host = s.host := State.jAppend_host _ _ _ _ _ _
@[simp] theorem State.ownSet_chans (o : Origin) (a : Nat) (v : Word) : (s.ownSet o a v).chans = s.chans := State.jAppend_chans _ _ _ _ _ _
@[simp] theorem State.ownSet_groups (o : Origin) (a : Nat) (v : Word) : (s.ownSet o a v).groups = s.groups := State.jAppend_groups _ _ _ _ _ _

/-! ### devSet -/

@[simp] theorem State.devSet_now (a : Nat) (v : Word) : (s.devSet a v).now = s.now := State.ownSet_now s _ _ _
@[simp] theorem State.devSet_freeCtr (a : Nat) (v : Word) : (s.devSet a v).freeCtr = s.freeCtr := State.ownSet_freeCtr s _ _ _
@[simp] theorem State.devSet_pending (a : Nat) (v : Word) : (s.devSet a v).pending = s.pending := State.ownSet_pending s _ _ _
@[simp] theorem State.devSet_moon (a : Nat) (v : Word) : (s.devSet a v).moon = s.moon := State.ownSet_moon s _ _ _
@[simp] theorem State.devSet_retained (a : Nat) (v : Word) : (s.devSet a v).retained = s.retained := State.ownSet_retained s _ _ _
@[simp] theorem State.devSet_snap (a : Nat) (v : Word) : (s.devSet a v).snap = s.snap := State.ownSet_snap s _ _ _
@[simp] theorem State.devSet_posted (a : Nat) (v : Word) : (s.devSet a v).posted = s.posted := State.ownSet_posted s _ _ _
@[simp] theorem State.devSet_heldWrites (a : Nat) (v : Word) : (s.devSet a v).heldWrites = s.heldWrites := State.ownSet_heldWrites s _ _ _
@[simp] theorem State.devSet_leases (a : Nat) (v : Word) : (s.devSet a v).leases = s.leases := State.ownSet_leases s _ _ _
@[simp] theorem State.devSet_jobs (a : Nat) (v : Word) : (s.devSet a v).jobs = s.jobs := State.ownSet_jobs s _ _ _
@[simp] theorem State.devSet_nvm (a : Nat) (v : Word) : (s.devSet a v).nvm = s.nvm := State.ownSet_nvm s _ _ _
@[simp] theorem State.devSet_nvmDom (a : Nat) (v : Word) : (s.devSet a v).nvmDom = s.nvmDom := State.ownSet_nvmDom s _ _ _
@[simp] theorem State.devSet_rst (a : Nat) (v : Word) : (s.devSet a v).rst = s.rst := State.ownSet_rst s _ _ _
@[simp] theorem State.devSet_clk (a : Nat) (v : Word) : (s.devSet a v).clk = s.clk := State.ownSet_clk s _ _ _
@[simp] theorem State.devSet_cmt (a : Nat) (v : Word) : (s.devSet a v).cmt = s.cmt := State.ownSet_cmt s _ _ _
@[simp] theorem State.devSet_trig (a : Nat) (v : Word) : (s.devSet a v).trig = s.trig := State.ownSet_trig s _ _ _
@[simp] theorem State.devSet_cap (a : Nat) (v : Word) : (s.devSet a v).cap = s.cap := State.ownSet_cap s _ _ _
@[simp] theorem State.devSet_tk (a : Nat) (v : Word) : (s.devSet a v).tk = s.tk := State.ownSet_tk s _ _ _
@[simp] theorem State.devSet_life (a : Nat) (v : Word) : (s.devSet a v).life = s.life := State.ownSet_life s _ _ _
@[simp] theorem State.devSet_bist (a : Nat) (v : Word) : (s.devSet a v).bist = s.bist := State.ownSet_bist s _ _ _
@[simp] theorem State.devSet_alrm (a : Nat) (v : Word) : (s.devSet a v).alrm = s.alrm := State.ownSet_alrm s _ _ _
@[simp] theorem State.devSet_host (a : Nat) (v : Word) : (s.devSet a v).host = s.host := State.ownSet_host s _ _ _
@[simp] theorem State.devSet_chans (a : Nat) (v : Word) : (s.devSet a v).chans = s.chans := State.ownSet_chans s _ _ _
@[simp] theorem State.devSet_groups (a : Nat) (v : Word) : (s.devSet a v).groups = s.groups := State.ownSet_groups s _ _ _

/-! ### devFld -/

@[simp] theorem State.devFld_now (a hi lo v : Nat) : (s.devFld a hi lo v).now = s.now := State.ownSet_now s _ _ _
@[simp] theorem State.devFld_freeCtr (a hi lo v : Nat) : (s.devFld a hi lo v).freeCtr = s.freeCtr := State.ownSet_freeCtr s _ _ _
@[simp] theorem State.devFld_pending (a hi lo v : Nat) : (s.devFld a hi lo v).pending = s.pending := State.ownSet_pending s _ _ _
@[simp] theorem State.devFld_moon (a hi lo v : Nat) : (s.devFld a hi lo v).moon = s.moon := State.ownSet_moon s _ _ _
@[simp] theorem State.devFld_retained (a hi lo v : Nat) : (s.devFld a hi lo v).retained = s.retained := State.ownSet_retained s _ _ _
@[simp] theorem State.devFld_snap (a hi lo v : Nat) : (s.devFld a hi lo v).snap = s.snap := State.ownSet_snap s _ _ _
@[simp] theorem State.devFld_posted (a hi lo v : Nat) : (s.devFld a hi lo v).posted = s.posted := State.ownSet_posted s _ _ _
@[simp] theorem State.devFld_heldWrites (a hi lo v : Nat) : (s.devFld a hi lo v).heldWrites = s.heldWrites := State.ownSet_heldWrites s _ _ _
@[simp] theorem State.devFld_leases (a hi lo v : Nat) : (s.devFld a hi lo v).leases = s.leases := State.ownSet_leases s _ _ _
@[simp] theorem State.devFld_jobs (a hi lo v : Nat) : (s.devFld a hi lo v).jobs = s.jobs := State.ownSet_jobs s _ _ _
@[simp] theorem State.devFld_nvm (a hi lo v : Nat) : (s.devFld a hi lo v).nvm = s.nvm := State.ownSet_nvm s _ _ _
@[simp] theorem State.devFld_nvmDom (a hi lo v : Nat) : (s.devFld a hi lo v).nvmDom = s.nvmDom := State.ownSet_nvmDom s _ _ _
@[simp] theorem State.devFld_rst (a hi lo v : Nat) : (s.devFld a hi lo v).rst = s.rst := State.ownSet_rst s _ _ _
@[simp] theorem State.devFld_clk (a hi lo v : Nat) : (s.devFld a hi lo v).clk = s.clk := State.ownSet_clk s _ _ _
@[simp] theorem State.devFld_cmt (a hi lo v : Nat) : (s.devFld a hi lo v).cmt = s.cmt := State.ownSet_cmt s _ _ _
@[simp] theorem State.devFld_trig (a hi lo v : Nat) : (s.devFld a hi lo v).trig = s.trig := State.ownSet_trig s _ _ _
@[simp] theorem State.devFld_cap (a hi lo v : Nat) : (s.devFld a hi lo v).cap = s.cap := State.ownSet_cap s _ _ _
@[simp] theorem State.devFld_tk (a hi lo v : Nat) : (s.devFld a hi lo v).tk = s.tk := State.ownSet_tk s _ _ _
@[simp] theorem State.devFld_life (a hi lo v : Nat) : (s.devFld a hi lo v).life = s.life := State.ownSet_life s _ _ _
@[simp] theorem State.devFld_bist (a hi lo v : Nat) : (s.devFld a hi lo v).bist = s.bist := State.ownSet_bist s _ _ _
@[simp] theorem State.devFld_alrm (a hi lo v : Nat) : (s.devFld a hi lo v).alrm = s.alrm := State.ownSet_alrm s _ _ _
@[simp] theorem State.devFld_host (a hi lo v : Nat) : (s.devFld a hi lo v).host = s.host := State.ownSet_host s _ _ _
@[simp] theorem State.devFld_chans (a hi lo v : Nat) : (s.devFld a hi lo v).chans = s.chans := State.ownSet_chans s _ _ _
@[simp] theorem State.devFld_groups (a hi lo v : Nat) : (s.devFld a hi lo v).groups = s.groups := State.ownSet_groups s _ _ _

/-! ### Registers -/

/-- A register just written reads as written. -/
theorem State.reg_setReg_same (h : Store.Wf resetWord s.regs) (a : Nat) (v : Word) : (s.setReg a v).reg a = v :=
  Store.get_put_same resetWord s.regs a v h

/-- Every other register reads as before. -/
@[simp] theorem State.reg_setReg_ne {a b : Nat} (v : Word) (h : b ≠ a) : (s.setReg a v).reg b = s.reg b :=
  Store.get_put_ne resetWord s.regs a b v h

/-- Every other register reads as before a field was written. -/
@[simp] theorem State.reg_setFld_ne {a b : Nat} (hi lo v : Nat) (h : b ≠ a) : (s.setFld a hi lo v).reg b = s.reg b :=
  s.reg_setReg_ne _ h

/-- Every other register reads as before a bit was written. -/
@[simp] theorem State.reg_setBit_ne {a b : Nat} (i : Nat) (v : Bool) (h : b ≠ a) : (s.setBit a i v).reg b = s.reg b :=
  s.reg_setReg_ne _ h

@[simp] theorem State.reg_setChan (n : Ch) (c : Chan) (a : Nat) : (s.setChan n c).reg a = s.reg a := rfl
@[simp] theorem State.reg_mapChan (n : Ch) (f : Chan → Chan) (a : Nat) : (s.mapChan n f).reg a = s.reg a := rfl
@[simp] theorem State.reg_setGroup (g : Tg) (x : Group) (a : Nat) : (s.setGroup g x).reg a = s.reg a := rfl
@[simp] theorem State.reg_mapGroup (g : Tg) (f : Group → Group) (a : Nat) : (s.mapGroup g f).reg a = s.reg a := rfl
@[simp] theorem State.reg_tookFree (a : Nat) : s.tookFree.reg a = s.reg a := rfl

/-- A journal entry changes no register but CHANGE_SEQ of the page it names and the journal's own INT_STATUS. -/
theorem State.reg_jAppend_ne (o fl a : Nat) (x y : Word) {b : Nat} (h1 : b ≠ pageAt a + hChangeSeq)
    (h2 : b ≠ hdr (.dev .jrnl) hIntStatus) : (s.jAppend o fl a x y).reg b = s.reg b := by
  simp only [State.jAppend, State.when]
  repeat' split
  all_goals try simp only [State.setBit, State.setFld, State.reg_setReg_ne _ _ h1, State.reg_setReg_ne _ _ h2]
  all_goals rfl

/-- A journal entry takes the next sequence and stands at the front of the ring. -/
theorem State.jAppend_seqNext (o fl a : Nat) (x y : Word) : (s.jAppend o fl a x y).jrnl.seqNext = s.jrnl.seqNext + 1 := by
  simp only [State.jAppend, State.when]
  repeat' split
  all_goals rfl

/-! ### Channels and groups -/

@[simp] theorem State.chan_setReg (a : Nat) (v : Word) (n : Ch) : (s.setReg a v).chan n = s.chan n := rfl
@[simp] theorem State.chan_setFld (a hi lo v : Nat) (n : Ch) : (s.setFld a hi lo v).chan n = s.chan n := rfl
@[simp] theorem State.chan_setBit (a i : Nat) (b : Bool) (n : Ch) : (s.setBit a i b).chan n = s.chan n := rfl
@[simp] theorem State.chan_setGroup (g : Tg) (x : Group) (n : Ch) : (s.setGroup g x).chan n = s.chan n := rfl
@[simp] theorem State.group_setReg (a : Nat) (v : Word) (g : Tg) : (s.setReg a v).group g = s.group g := rfl
@[simp] theorem State.group_setFld (a hi lo v : Nat) (g : Tg) : (s.setFld a hi lo v).group g = s.group g := rfl
@[simp] theorem State.group_setBit (a i : Nat) (b : Bool) (g : Tg) : (s.setBit a i b).group g = s.group g := rfl
@[simp] theorem State.group_setChan (n : Ch) (c : Chan) (g : Tg) : (s.setChan n c).group g = s.group g := rfl

/-- A channel just replaced is the one given. -/
@[simp] theorem State.chan_setChan_same (n : Ch) (c : Chan) : (s.setChan n c).chan n = c := by
  simp [State.chan, State.setChan]

/-- Every other channel stays. -/
@[simp] theorem State.chan_setChan_ne {m n : Ch} (c : Chan) (h : m ≠ n) : (s.setChan n c).chan m = s.chan m := by
  have : n.val ≠ m.val := fun e => h (Fin.ext e.symm)
  simp [State.chan, State.setChan, Vector.getElem_set_ne, this]

/-- A channel just changed. -/
@[simp] theorem State.chan_mapChan_same (n : Ch) (f : Chan → Chan) : (s.mapChan n f).chan n = f (s.chan n) :=
  s.chan_setChan_same n _

/-- Every other channel stays. -/
@[simp] theorem State.chan_mapChan_ne {m n : Ch} (f : Chan → Chan) (h : m ≠ n) : (s.mapChan n f).chan m = s.chan m :=
  s.chan_setChan_ne _ h

/-- A group just replaced is the one given. -/
@[simp] theorem State.group_setGroup_same (g : Tg) (x : Group) : (s.setGroup g x).group g = x := by
  simp [State.group, State.setGroup]

/-- Every other group stays. -/
@[simp] theorem State.group_setGroup_ne {m g : Tg} (x : Group) (h : m ≠ g) : (s.setGroup g x).group m = s.group m := by
  have : g.val ≠ m.val := fun e => h (Fin.ext e.symm)
  simp [State.group, State.setGroup, Vector.getElem_set_ne, this]

/-- A group just changed. -/
@[simp] theorem State.group_mapGroup_same (g : Tg) (f : Group → Group) : (s.mapGroup g f).group g = f (s.group g) :=
  s.group_setGroup_same g _

/-- Every other group stays. -/
@[simp] theorem State.group_mapGroup_ne {m g : Tg} (f : Group → Group) (h : m ≠ g) : (s.mapGroup g f).group m = s.group m :=
  s.group_setGroup_ne _ h

end Sys2Proof.Machine
end

