-- ==== Sys2Proof/Laws/Bits.lean ====
section
/-! SUPPORT. Bit fields of registers: what a field reads as after it, or another field, has been written. -/

set_option Elab.async false

namespace Sys2Proof.Machine

/-- A word taken apart at a field: what lies above it, the field, what lies below it. -/
theorem bits_split (w hi lo : Nat) (h : lo ≤ hi) :
    w = w / 2 ^ (hi + 1) * 2 ^ (hi + 1) + w / 2 ^ lo % 2 ^ (hi + 1 - lo) * 2 ^ lo + w % 2 ^ lo := by
  have e : 2 ^ (hi + 1) = 2 ^ lo * 2 ^ (hi + 1 - lo) := by rw [← pow_add]; congr 1; omega
  have h1 := Nat.div_add_mod w (2 ^ lo)
  have h2 := Nat.div_add_mod (w / 2 ^ lo) (2 ^ (hi + 1 - lo))
  have h3 : w / 2 ^ (hi + 1) = w / 2 ^ lo / 2 ^ (hi + 1 - lo) := by rw [e, Nat.div_div_eq_div_mul]
  rw [h3]
  generalize w / 2 ^ lo % 2 ^ (hi + 1 - lo) = b at *
  generalize w / 2 ^ lo / 2 ^ (hi + 1 - lo) = c at *
  generalize w % 2 ^ lo = l at *
  rw [← h1, ← h2, e]
  ring

/-- A word with a field replaced, as a number. -/
theorem withBits_toNat (w : Word) (hi lo v : Nat) (h : lo ≤ hi) (h32 : hi < 32) :
    (withBits w hi lo v).toNat =
      w.toNat / 2 ^ (hi + 1) * 2 ^ (hi + 1) + v % 2 ^ (hi + 1 - lo) * 2 ^ lo + w.toNat % 2 ^ lo := by
  have hs := bits_split w.toNat hi lo h
  have e : 2 ^ (hi + 1) = 2 ^ (hi + 1 - lo) * 2 ^ lo := by rw [← pow_add]; congr 1; omega
  have hv : v % 2 ^ (hi + 1 - lo) < 2 ^ (hi + 1 - lo) := Nat.mod_lt _ (by positivity)
  have hl : w.toNat % 2 ^ lo < 2 ^ lo := Nat.mod_lt _ (by positivity)
  have hb : v % 2 ^ (hi + 1 - lo) * 2 ^ lo + w.toNat % 2 ^ lo < 2 ^ (hi + 1) := by
    rw [e]
    have : v % 2 ^ (hi + 1 - lo) * 2 ^ lo + 2 ^ lo ≤ 2 ^ (hi + 1 - lo) * 2 ^ lo := by
      rw [← Nat.succ_mul]; exact Nat.mul_le_mul_right _ hv
    omega
  have hw := w.isLt
  have h32' : 2 ^ 32 = 2 ^ (31 - hi) * 2 ^ (hi + 1) := by rw [← pow_add]; congr 1; omega
  have hq : w.toNat / 2 ^ (hi + 1) < 2 ^ (31 - hi) := by
    rw [Nat.div_lt_iff_lt_mul (by positivity), ← h32']; exact hw
  have key : w.toNat - bits w hi lo * 2 ^ lo + v % 2 ^ (hi + 1 - lo) * 2 ^ lo
      = w.toNat / 2 ^ (hi + 1) * 2 ^ (hi + 1) + v % 2 ^ (hi + 1 - lo) * 2 ^ lo + w.toNat % 2 ^ lo := by
    unfold bits
    generalize w.toNat / 2 ^ lo % 2 ^ (hi + 1 - lo) * 2 ^ lo = b at hs ⊢
    omega
  unfold withBits
  rw [BitVec.toNat_ofNat, key, Nat.mod_eq_of_lt]
  rw [h32']
  generalize w.toNat / 2 ^ (hi + 1) = q at *
  generalize 2 ^ (hi + 1) = p at *
  have : q * p + p ≤ 2 ^ (31 - hi) * p := by
    rw [← Nat.succ_mul]; exact Nat.mul_le_mul_right _ hq
  omega

/-- Every bit of a word with a field replaced. -/
theorem testBit_withBits (w : Word) (hi lo v i : Nat) (h : lo ≤ hi) (h32 : hi < 32) :
    (withBits w hi lo v).toNat.testBit i = if lo ≤ i ∧ i ≤ hi then v.testBit (i - lo) else w.toNat.testBit i := by
  have e : 2 ^ (hi + 1) = 2 ^ lo * 2 ^ (hi + 1 - lo) := by rw [← pow_add]; congr 1; omega
  have hl : w.toNat % 2 ^ lo < 2 ^ lo := Nat.mod_lt _ (by positivity)
  have hv : v % 2 ^ (hi + 1 - lo) < 2 ^ (hi + 1 - lo) := Nat.mod_lt _ (by positivity)
  rw [withBits_toNat w hi lo v h h32]
  have : w.toNat / 2 ^ (hi + 1) * 2 ^ (hi + 1) + v % 2 ^ (hi + 1 - lo) * 2 ^ lo + w.toNat % 2 ^ lo
      = 2 ^ lo * (2 ^ (hi + 1 - lo) * (w.toNat / 2 ^ (hi + 1)) + v % 2 ^ (hi + 1 - lo)) + w.toNat % 2 ^ lo := by
    nth_rewrite 2 [e]; ring
  rw [this, Nat.testBit_two_pow_mul_add _ hl, Nat.testBit_two_pow_mul_add _ hv, Nat.testBit_mod_two_pow, Nat.testBit_mod_two_pow,
    Nat.testBit_div_two_pow]
  by_cases h1 : i < lo
  · simp [h1, show ¬ lo ≤ i by omega]
  · by_cases h2 : i ≤ hi
    · simp [h1, h2, show lo ≤ i by omega, show i - lo < hi + 1 - lo by omega]
    · simp only [h1, h2, if_false, show ¬ (i - lo < hi + 1 - lo) by omega, and_false]
      congr 1; omega

/-- The bits of a field. -/
theorem testBit_bits (w : Word) (hi lo i : Nat) (h : lo ≤ hi) : (bits w hi lo).testBit i = (decide (i ≤ hi - lo) && w.toNat.testBit (lo + i)) := by
  unfold bits
  rw [Nat.testBit_mod_two_pow, Nat.testBit_div_two_pow, Nat.add_comm i lo]
  congr 1
  simp only [decide_eq_decide]
  omega

/-- A field just replaced. -/
theorem bits_withBits_same (w : Word) (hi lo v : Nat) (h : lo ≤ hi) (h32 : hi < 32) :
    bits (withBits w hi lo v) hi lo = v % 2 ^ (hi + 1 - lo) := by
  refine Nat.eq_of_testBit_eq (fun i => ?_)
  rw [testBit_bits _ _ _ _ h, testBit_withBits _ _ _ _ _ h h32, Nat.testBit_mod_two_pow]
  by_cases h1 : i ≤ hi - lo
  · simp [h1, show lo + i ≤ hi by omega, show i < hi + 1 - lo by omega]
  · simp [h1, show ¬ i < hi + 1 - lo by omega]

/-- Another field. -/
theorem bits_withBits_other (w : Word) (hi lo v a b : Nat) (h : lo ≤ hi) (h32 : hi < 32) (hab : b ≤ a) (hd : a < lo ∨ hi < b) :
    bits (withBits w hi lo v) a b = bits w a b := by
  refine Nat.eq_of_testBit_eq (fun i => ?_)
  rw [testBit_bits _ _ _ _ hab, testBit_bits _ _ _ _ hab, testBit_withBits _ _ _ _ _ h h32]
  by_cases h1 : i ≤ a - b
  · simp only [h1, show ¬ (lo ≤ b + i ∧ b + i ≤ hi) by omega, if_false]
  · simp [h1]

/-- A field of a register just written. -/
theorem State.fld_setFld_same (s : State) (hs : Store.Wf resetWord s.regs) (a hi lo v : Nat) (h : lo ≤ hi) (h32 : hi < 32) :
    (s.setFld a hi lo v).fld a hi lo = v % 2 ^ (hi + 1 - lo) := by
  unfold State.fld State.setFld
  rw [s.reg_setReg_same hs, bits_withBits_same _ _ _ _ h h32]

/-- Another field of the same register. -/
theorem State.fld_setFld_other (s : State) (hs : Store.Wf resetWord s.regs) (r hi lo v a b : Nat) (h : lo ≤ hi) (h32 : hi < 32)
    (hab : b ≤ a) (hd : a < lo ∨ hi < b) : (s.setFld r hi lo v).fld r a b = s.fld r a b := by
  unfold State.fld State.setFld
  rw [s.reg_setReg_same hs, bits_withBits_other _ _ _ _ _ _ h h32 hab hd]

/-- A field of another register. -/
@[simp] theorem State.fld_setReg_ne (s : State) {r q : Nat} (v : Word) (a b : Nat) (h : q ≠ r) : (s.setReg r v).fld q a b = s.fld q a b := by
  unfold State.fld; rw [s.reg_setReg_ne v h]

/-- A field of another register. -/
@[simp] theorem State.fld_setFld_ne (s : State) {r q : Nat} (hi lo v a b : Nat) (h : q ≠ r) : (s.setFld r hi lo v).fld q a b = s.fld q a b :=
  s.fld_setReg_ne _ _ _ h

/-- A field of another register. -/
@[simp] theorem State.fld_setBit_ne (s : State) {r q : Nat} (i : Nat) (v : Bool) (a b : Nat) (h : q ≠ r) : (s.setBit r i v).fld q a b = s.fld q a b :=
  s.fld_setReg_ne _ _ _ h

/-- A bit just written. -/
theorem State.bit_setBit_same (s : State) (hs : Store.Wf resetWord s.regs) (a i : Nat) (v : Bool) (h : i < 32) : (s.setBit a i v).bit a i = v := by
  unfold State.bit State.setBit
  rw [s.fld_setFld_same hs _ _ _ _ (Nat.le_refl i) h]
  simp only [Nat.add_sub_cancel_left, b2n]
  cases v <;> rfl

/-- Another bit of the same register. -/
theorem State.bit_setBit_other (s : State) (hs : Store.Wf resetWord s.regs) (a i j : Nat) (v : Bool) (h : i < 32) (hj : j ≠ i) :
    (s.setBit a i v).bit a j = s.bit a j := by
  unfold State.bit State.setBit
  rw [s.fld_setFld_other hs _ _ _ _ _ _ (Nat.le_refl i) h (Nat.le_refl j) (by omega)]

/-- A register's canonical store stays so. -/
theorem State.regs_setReg_wf {s : State} (hs : Store.Wf resetWord s.regs) (a : Nat) (v : Word) : Store.Wf resetWord (s.setReg a v).regs :=
  Store.put_wf _ _ _ _ hs

/-- The bit an interrupt sets. -/
theorem State.bit_intr (s : State) (hs : Store.Wf resetWord s.regs) (p : Page) (i : Nat) (h : i < 32) : (s.intr p i).bit (hdr p hIntStatus) i = true :=
  s.bit_setBit_same hs _ _ _ h

end Sys2Proof.Machine
end

