-- ==== Sys2Proof/Laws/Frames.lean ====
section
/-! SUPPORT. Which parts of the state each shared operation can change, one lemma for each operation, so that no later proof opens an operation to know what it leaves as it was. -/

set_option Elab.async false

namespace Sys2Proof.Machine

theorem Unchanged.refl (l : List Part) (s : State) : Unchanged l s s := fun x _ => by cases x <;> rfl
theorem Part.same_trans {x : Part} {a b c : State} (h : x.same a b) (k : x.same b c) : x.same a c := by
  cases x <;> exact Eq.trans k h

/-- An operation that changes the parts l, after others that changed parts of L. -/
theorem Unchanged.after {l L : List Part} {a u t : State} (k : Unchanged l u t) (hs : l.all L.contains = true) (h : Unchanged L a u) :
    Unchanged L a t := by
  intro x hx
  refine Part.same_trans (h x hx) (k x ?_)
  cases hc : l.contains x
  · rfl
  · exact absurd (List.all_eq_true.1 hs x (List.contains_iff_mem.1 hc)) (by rw [hx]; decide)

theorem un_pair {α : Type} {L : List Part} {a t : State} {x : State × α} {y : α} (e : x = (t, y)) (h : Unchanged L a x.1) : Unchanged L a t := by
  rw [e] at h; exact h
theorem un_when {L : List Part} {a s : State} {b : Bool} {f : State → State} (h : Unchanged L a s) (hf : Unchanged L a (f s)) : Unchanged L a (s.when b f) := by
  unfold State.when; split <;> assumption
theorem un_foldl {α : Type} {L : List Part} {a s : State} {l : List α} {f : State → α → State} (h : Unchanged L a s)
    (hf : ∀ t x, Unchanged L a t → Unchanged L a (f t x)) : Unchanged L a (l.foldl f s) := by
  induction l generalizing s with
  | nil => exact h
  | cons x r ih => exact ih (hf s x h)
theorem un_forCh {L : List Part} {a s : State} {f : Ch → State → State} (h : Unchanged L a s)
    (hf : ∀ n t, Unchanged L a t → Unchanged L a (f n t)) : Unchanged L a (s.forCh f) :=
  un_foldl h (fun t x => hf x t)
theorem un_forTg {L : List Part} {a s : State} {f : Tg → State → State} (h : Unchanged L a s)
    (hf : ∀ n t, Unchanged L a t → Unchanged L a (f n t)) : Unchanged L a (s.forTg f) :=
  un_foldl h (fun t x => hf x t)
theorem un_with_now {L : List Part} {a s : State} {v : Nat} (hs : L.contains .now = true) (h : Unchanged L a s) : Unchanged L a { s with now := v } :=
  fun x hx => by cases x <;> first | exact h _ hx | (rw [hs] at hx; cases hx)
theorem un_with_freeCtr {L : List Part} {a s : State} {v : Nat} (hs : L.contains .freeCtr = true) (h : Unchanged L a s) : Unchanged L a { s with freeCtr := v } :=
  fun x hx => by cases x <;> first | exact h _ hx | (rw [hs] at hx; cases hx)
theorem un_with_pending {L : List Part} {a s : State} {v : List Instr} (hs : L.contains .pending = true) (h : Unchanged L a s) : Unchanged L a { s with pending := v } :=
  fun x hx => by cases x <;> first | exact h _ hx | (rw [hs] at hx; cases hx)
theorem un_with_regs {L : List Part} {a s : State} {v : List (Nat × Word)} (hs : L.contains .regs = true) (h : Unchanged L a s) : Unchanged L a { s with regs := v } :=
  fun x hx => by cases x <;> first | exact h _ hx | (rw [hs] at hx; cases hx)
theorem un_with_moon {L : List Part} {a s : State} {v : List (Nat × Word)} (hs : L.contains .moon = true) (h : Unchanged L a s) : Unchanged L a { s with moon := v } :=
  fun x hx => by cases x <;> first | exact h _ hx | (rw [hs] at hx; cases hx)
theorem un_with_retained {L : List Part} {a s : State} {v : List (Nat × Word)} (hs : L.contains .retained = true) (h : Unchanged L a s) : Unchanged L a { s with retained := v } :=
  fun x hx => by cases x <;> first | exact h _ hx | (rw [hs] at hx; cases hx)
theorem un_with_snap {L : List Part} {a s : State} {v : List (Nat × Word)} (hs : L.contains .snap = true) (h : Unchanged L a s) : Unchanged L a { s with snap := v } :=
  fun x hx => by cases x <;> first | exact h _ hx | (rw [hs] at hx; cases hx)
theorem un_with_posted {L : List Part} {a s : State} {v : List PostedWrite} (hs : L.contains .posted = true) (h : Unchanged L a s) : Unchanged L a { s with posted := v } :=
  fun x hx => by cases x <;> first | exact h _ hx | (rw [hs] at hx; cases hx)
theorem un_with_heldWrites {L : List Part} {a s : State} {v : List PostedWrite} (hs : L.contains .heldWrites = true) (h : Unchanged L a s) : Unchanged L a { s with heldWrites := v } :=
  fun x hx => by cases x <;> first | exact h _ hx | (rw [hs] at hx; cases hx)
theorem un_with_leases {L : List Part} {a s : State} {v : List (Nat × Nat)} (hs : L.contains .leases = true) (h : Unchanged L a s) : Unchanged L a { s with leases := v } :=
  fun x hx => by cases x <;> first | exact h _ hx | (rw [hs] at hx; cases hx)
theorem un_with_jrnl {L : List Part} {a s : State} {v : Jrnl} (hs : L.contains .jrnl = true) (h : Unchanged L a s) : Unchanged L a { s with jrnl := v } :=
  fun x hx => by cases x <;> first | exact h _ hx | (rw [hs] at hx; cases hx)
theorem un_with_jobs {L : List Part} {a s : State} {v : Jobs} (hs : L.contains .jobs = true) (h : Unchanged L a s) : Unchanged L a { s with jobs := v } :=
  fun x hx => by cases x <;> first | exact h _ hx | (rw [hs] at hx; cases hx)
theorem un_with_nvm {L : List Part} {a s : State} {v : Nvm} (hs : L.contains .nvm = true) (h : Unchanged L a s) : Unchanged L a { s with nvm := v } :=
  fun x hx => by cases x <;> first | exact h _ hx | (rw [hs] at hx; cases hx)
theorem un_with_nvmDom {L : List Part} {a s : State} {v : Dom} (hs : L.contains .nvmDom = true) (h : Unchanged L a s) : Unchanged L a { s with nvmDom := v } :=
  fun x hx => by cases x <;> first | exact h _ hx | (rw [hs] at hx; cases hx)
theorem un_with_rst {L : List Part} {a s : State} {v : Rst} (hs : L.contains .rst = true) (h : Unchanged L a s) : Unchanged L a { s with rst := v } :=
  fun x hx => by cases x <;> first | exact h _ hx | (rw [hs] at hx; cases hx)
theorem un_with_clk {L : List Part} {a s : State} {v : Clk} (hs : L.contains .clk = true) (h : Unchanged L a s) : Unchanged L a { s with clk := v } :=
  fun x hx => by cases x <;> first | exact h _ hx | (rw [hs] at hx; cases hx)
theorem un_with_cmt {L : List Part} {a s : State} {v : Cmt} (hs : L.contains .cmt = true) (h : Unchanged L a s) : Unchanged L a { s with cmt := v } :=
  fun x hx => by cases x <;> first | exact h _ hx | (rw [hs] at hx; cases hx)
theorem un_with_trig {L : List Part} {a s : State} {v : Trig} (hs : L.contains .trig = true) (h : Unchanged L a s) : Unchanged L a { s with trig := v } :=
  fun x hx => by cases x <;> first | exact h _ hx | (rw [hs] at hx; cases hx)
theorem un_with_cap {L : List Part} {a s : State} {v : Cap} (hs : L.contains .cap = true) (h : Unchanged L a s) : Unchanged L a { s with cap := v } :=
  fun x hx => by cases x <;> first | exact h _ hx | (rw [hs] at hx; cases hx)
theorem un_with_tk {L : List Part} {a s : State} {v : Tk} (hs : L.contains .tk = true) (h : Unchanged L a s) : Unchanged L a { s with tk := v } :=
  fun x hx => by cases x <;> first | exact h _ hx | (rw [hs] at hx; cases hx)
theorem un_with_life {L : List Part} {a s : State} {v : Life} (hs : L.contains .life = true) (h : Unchanged L a s) : Unchanged L a { s with life := v } :=
  fun x hx => by cases x <;> first | exact h _ hx | (rw [hs] at hx; cases hx)
theorem un_with_bist {L : List Part} {a s : State} {v : Bist} (hs : L.contains .bist = true) (h : Unchanged L a s) : Unchanged L a { s with bist := v } :=
  fun x hx => by cases x <;> first | exact h _ hx | (rw [hs] at hx; cases hx)
theorem un_with_alrm {L : List Part} {a s : State} {v : Alrm} (hs : L.contains .alrm = true) (h : Unchanged L a s) : Unchanged L a { s with alrm := v } :=
  fun x hx => by cases x <;> first | exact h _ hx | (rw [hs] at hx; cases hx)
theorem un_with_host {L : List Part} {a s : State} {v : HostPort} (hs : L.contains .host = true) (h : Unchanged L a s) : Unchanged L a { s with host := v } :=
  fun x hx => by cases x <;> first | exact h _ hx | (rw [hs] at hx; cases hx)
theorem un_with_chans {L : List Part} {a s : State} {v : Vector Chan 16} (hs : L.contains .chans = true) (h : Unchanged L a s) : Unchanged L a { s with chans := v } :=
  fun x hx => by cases x <;> first | exact h _ hx | (rw [hs] at hx; cases hx)
theorem un_with_groups {L : List Part} {a s : State} {v : Vector Group 4} (hs : L.contains .groups = true) (h : Unchanged L a s) : Unchanged L a { s with groups := v } :=
  fun x hx => by cases x <;> first | exact h _ hx | (rw [hs] at hx; cases hx)
theorem mem_1 : ([.regs] : List Part).contains .regs = true := by decide
theorem sub_2 : ([.regs] : List Part).all ([.regs] : List Part).contains = true := by decide
theorem mem_3 : ([.chans] : List Part).contains .chans = true := by decide
theorem sub_4 : ([.chans] : List Part).all ([.chans] : List Part).contains = true := by decide
theorem mem_5 : ([.groups] : List Part).contains .groups = true := by decide
theorem sub_6 : ([.groups] : List Part).all ([.groups] : List Part).contains = true := by decide
theorem mem_7 : ([.cmt] : List Part).contains .cmt = true := by decide
theorem mem_8 : ([.freeCtr] : List Part).contains .freeCtr = true := by decide
theorem mem_9 : ([.clk] : List Part).contains .clk = true := by decide
theorem mem_10 : ([.regs, .jrnl] : List Part).contains .jrnl = true := by decide
theorem sub_11 : ([.regs] : List Part).all ([.regs, .jrnl] : List Part).contains = true := by decide
theorem sub_12 : ([.regs, .jrnl] : List Part).all ([.regs, .jrnl] : List Part).contains = true := by decide
theorem sub_13 : ([.regs] : List Part).all ([.regs, .life] : List Part).contains = true := by decide
theorem mem_14 : ([.regs, .life] : List Part).contains .life = true := by decide
theorem sub_15 : ([.regs] : List Part).all ([.regs, .chans] : List Part).contains = true := by decide
theorem sub_16 : ([.chans] : List Part).all ([.regs, .chans] : List Part).contains = true := by decide
theorem mem_17 : ([.leases] : List Part).contains .leases = true := by decide
theorem sub_18 : ([.leases] : List Part).all ([.regs, .leases] : List Part).contains = true := by decide
theorem sub_19 : ([.regs] : List Part).all ([.regs, .leases] : List Part).contains = true := by decide
theorem sub_20 : ([.regs] : List Part).all ([.regs, .leases, .jrnl] : List Part).contains = true := by decide
theorem sub_21 : ([.regs, .jrnl] : List Part).all ([.regs, .leases, .jrnl] : List Part).contains = true := by decide
theorem sub_22 : ([.regs, .leases] : List Part).all ([.regs, .leases, .jrnl] : List Part).contains = true := by decide
theorem sub_23 : ([.regs, .leases, .jrnl] : List Part).all ([.regs, .leases, .jrnl] : List Part).contains = true := by decide
theorem mem_24 : ([.trig] : List Part).contains .trig = true := by decide
theorem sub_25 : ([.trig] : List Part).all ([.trig] : List Part).contains = true := by decide
theorem sub_26 : ([.regs] : List Part).all ([.regs, .groups] : List Part).contains = true := by decide
theorem sub_27 : ([.groups] : List Part).all ([.regs, .groups] : List Part).contains = true := by decide
theorem sub_28 : ([.regs] : List Part).all ([.regs, .trig] : List Part).contains = true := by decide
theorem mem_29 : ([.regs, .trig] : List Part).contains .trig = true := by decide
theorem sub_30 : ([.regs] : List Part).all ([.regs, .jrnl, .cmt, .trig, .groups] : List Part).contains = true := by decide
theorem sub_31 : ([.regs, .trig] : List Part).all ([.regs, .jrnl, .cmt, .trig, .groups] : List Part).contains = true := by decide
theorem mem_32 : ([.regs, .jrnl, .cmt, .trig, .groups] : List Part).contains .cmt = true := by decide
theorem sub_33 : ([.regs, .jrnl] : List Part).all ([.regs, .jrnl, .cmt, .trig, .groups] : List Part).contains = true := by decide
theorem sub_34 : ([.groups] : List Part).all ([.regs, .jrnl, .cmt, .trig, .groups] : List Part).contains = true := by decide
theorem sub_35 : ([.regs, .groups] : List Part).all ([.regs, .jrnl, .cmt, .trig, .groups] : List Part).contains = true := by decide
theorem sub_36 : ([.groups] : List Part).all ([.regs, .jrnl, .groups] : List Part).contains = true := by decide
theorem sub_37 : ([.regs, .jrnl] : List Part).all ([.regs, .jrnl, .groups] : List Part).contains = true := by decide
theorem sub_38 : ([.regs, .jrnl, .cmt, .trig, .groups] : List Part).all ([.regs, .jrnl, .cmt, .trig, .groups] : List Part).contains = true := by decide
theorem sub_39 : ([.regs, .jrnl, .groups] : List Part).all ([.regs, .jrnl, .cmt, .trig, .groups] : List Part).contains = true := by decide
theorem sub_40 : ([.regs] : List Part).all ([.regs, .jrnl, .trig, .chans, .groups] : List Part).contains = true := by decide
theorem sub_41 : ([.regs, .jrnl] : List Part).all ([.regs, .jrnl, .trig, .chans, .groups] : List Part).contains = true := by decide
theorem sub_42 : ([.groups] : List Part).all ([.regs, .jrnl, .trig, .chans, .groups] : List Part).contains = true := by decide
theorem sub_43 : ([.chans] : List Part).all ([.regs, .jrnl, .trig, .chans, .groups] : List Part).contains = true := by decide
theorem sub_44 : ([.trig] : List Part).all ([.regs, .jrnl, .trig, .chans, .groups] : List Part).contains = true := by decide
theorem sub_45 : ([.regs] : List Part).all ([.regs, .jrnl, .chans] : List Part).contains = true := by decide
theorem sub_46 : ([.chans] : List Part).all ([.regs, .jrnl, .chans] : List Part).contains = true := by decide
theorem sub_47 : ([.regs, .jrnl] : List Part).all ([.regs, .jrnl, .chans] : List Part).contains = true := by decide
theorem sub_48 : ([.regs, .chans] : List Part).all ([.regs, .jrnl, .chans] : List Part).contains = true := by decide
theorem sub_49 : ([.regs, .jrnl, .chans] : List Part).all ([.regs, .jrnl, .chans] : List Part).contains = true := by decide
theorem sub_50 : ([.regs] : List Part).all ([.regs, .host] : List Part).contains = true := by decide
theorem mem_51 : ([.regs, .host] : List Part).contains .host = true := by decide
theorem sub_52 : ([.regs, .leases, .jrnl] : List Part).all ([.regs, .heldWrites, .leases, .jrnl, .host, .chans] : List Part).contains = true := by decide
theorem sub_53 : ([.regs, .host] : List Part).all ([.regs, .heldWrites, .leases, .jrnl, .host, .chans] : List Part).contains = true := by decide
theorem sub_54 : ([.chans] : List Part).all ([.regs, .heldWrites, .leases, .jrnl, .host, .chans] : List Part).contains = true := by decide
theorem mem_55 : ([.regs, .heldWrites, .leases, .jrnl, .host, .chans] : List Part).contains .heldWrites = true := by decide
theorem sub_56 : ([.regs] : List Part).all ([.regs, .heldWrites, .leases, .jrnl, .host, .chans] : List Part).contains = true := by decide
theorem sub_57 : ([.regs, .chans] : List Part).all ([.regs, .chans] : List Part).contains = true := by decide
theorem sub_58 : ([.cmt] : List Part).all ([.cmt] : List Part).contains = true := by decide
theorem sub_59 : ([.regs, .chans] : List Part).all ([.regs, .heldWrites, .leases, .jrnl, .cmt, .host, .chans] : List Part).contains = true := by decide
theorem sub_60 : ([.chans] : List Part).all ([.regs, .heldWrites, .leases, .jrnl, .cmt, .host, .chans] : List Part).contains = true := by decide
theorem sub_61 : ([.regs, .heldWrites, .leases, .jrnl, .host, .chans] : List Part).all ([.regs, .heldWrites, .leases, .jrnl, .cmt, .host, .chans] : List Part).contains = true := by decide
theorem sub_62 : ([.cmt] : List Part).all ([.regs, .heldWrites, .leases, .jrnl, .cmt, .host, .chans] : List Part).contains = true := by decide
theorem sub_63 : ([.regs] : List Part).all ([.regs, .heldWrites, .leases, .jrnl, .cmt, .host, .chans] : List Part).contains = true := by decide
theorem sub_64 : ([.regs, .jrnl] : List Part).all ([.regs, .heldWrites, .leases, .jrnl, .cmt, .host, .chans] : List Part).contains = true := by decide
theorem sub_65 : ([.regs] : List Part).all ([.regs, .heldWrites, .leases, .jrnl, .cmt, .trig, .host, .chans, .groups] : List Part).contains = true := by decide
theorem sub_66 : ([.regs, .chans] : List Part).all ([.regs, .heldWrites, .leases, .jrnl, .cmt, .trig, .host, .chans, .groups] : List Part).contains = true := by decide
theorem sub_67 : ([.regs, .jrnl, .chans] : List Part).all ([.regs, .heldWrites, .leases, .jrnl, .cmt, .trig, .host, .chans, .groups] : List Part).contains = true := by decide
theorem sub_68 : ([.chans] : List Part).all ([.regs, .heldWrites, .leases, .jrnl, .cmt, .trig, .host, .chans, .groups] : List Part).contains = true := by decide
theorem sub_69 : ([.regs, .heldWrites, .leases, .jrnl, .cmt, .host, .chans] : List Part).all ([.regs, .heldWrites, .leases, .jrnl, .cmt, .trig, .host, .chans, .groups] : List Part).contains = true := by decide
theorem sub_70 : ([.regs, .jrnl, .cmt, .trig, .groups] : List Part).all ([.regs, .heldWrites, .leases, .jrnl, .cmt, .trig, .host, .chans, .groups] : List Part).contains = true := by decide
theorem sub_71 : ([.regs, .heldWrites, .leases, .jrnl, .cmt, .trig, .host, .chans, .groups] : List Part).all ([.regs, .heldWrites, .leases, .jrnl, .cmt, .trig, .host, .chans, .groups] : List Part).contains = true := by decide
theorem sub_72 : ([.regs, .chans] : List Part).all ([.freeCtr, .regs, .clk, .chans] : List Part).contains = true := by decide
theorem sub_73 : ([.chans] : List Part).all ([.freeCtr, .regs, .clk, .chans] : List Part).contains = true := by decide
theorem sub_74 : ([.freeCtr] : List Part).all ([.freeCtr, .regs, .clk, .chans] : List Part).contains = true := by decide
theorem sub_75 : ([.clk] : List Part).all ([.freeCtr, .regs, .clk, .chans] : List Part).contains = true := by decide
theorem sub_76 : ([.regs] : List Part).all ([.freeCtr, .regs, .clk, .chans] : List Part).contains = true := by decide
theorem sub_77 : ([.regs, .chans] : List Part).all ([.regs, .jrnl, .life, .chans] : List Part).contains = true := by decide
theorem sub_78 : ([.regs] : List Part).all ([.regs, .jrnl, .life, .chans] : List Part).contains = true := by decide
theorem sub_79 : ([.regs, .jrnl, .chans] : List Part).all ([.regs, .jrnl, .life, .chans] : List Part).contains = true := by decide
theorem sub_80 : ([.chans] : List Part).all ([.regs, .jrnl, .life, .chans] : List Part).contains = true := by decide
theorem sub_81 : ([.regs, .life] : List Part).all ([.regs, .jrnl, .life, .chans] : List Part).contains = true := by decide
theorem sub_82 : ([.regs, .jrnl, .life, .chans] : List Part).all ([.freeCtr, .regs, .jrnl, .clk, .life, .chans] : List Part).contains = true := by decide
theorem sub_83 : ([.freeCtr, .regs, .clk, .chans] : List Part).all ([.freeCtr, .regs, .jrnl, .clk, .life, .chans] : List Part).contains = true := by decide
theorem sub_84 : ([.chans] : List Part).all ([.freeCtr, .regs, .jrnl, .clk, .chans] : List Part).contains = true := by decide
theorem sub_85 : ([.regs] : List Part).all ([.freeCtr, .regs, .jrnl, .clk, .chans] : List Part).contains = true := by decide
theorem sub_86 : ([.regs, .jrnl] : List Part).all ([.freeCtr, .regs, .jrnl, .clk, .chans] : List Part).contains = true := by decide
theorem sub_87 : ([.freeCtr, .regs, .clk, .chans] : List Part).all ([.freeCtr, .regs, .jrnl, .clk, .chans] : List Part).contains = true := by decide
theorem sub_88 : ([.freeCtr, .regs, .clk, .chans] : List Part).all ([.freeCtr, .regs, .heldWrites, .leases, .jrnl, .clk, .cmt, .trig, .host, .chans, .groups] : List Part).contains = true := by decide
theorem sub_89 : ([.regs, .heldWrites, .leases, .jrnl, .cmt, .trig, .host, .chans, .groups] : List Part).all ([.freeCtr, .regs, .heldWrites, .leases, .jrnl, .clk, .cmt, .trig, .host, .chans, .groups] : List Part).contains = true := by decide
theorem sub_90 : ([.regs] : List Part).all ([.freeCtr, .regs, .heldWrites, .leases, .jrnl, .clk, .cmt, .trig, .host, .chans, .groups] : List Part).contains = true := by decide
theorem sub_91 : ([.regs, .chans] : List Part).all ([.freeCtr, .regs, .heldWrites, .leases, .jrnl, .clk, .cmt, .trig, .host, .chans, .groups] : List Part).contains = true := by decide
theorem sub_92 : ([.chans] : List Part).all ([.freeCtr, .regs, .heldWrites, .leases, .jrnl, .clk, .cmt, .trig, .host, .chans, .groups] : List Part).contains = true := by decide
theorem sub_93 : ([.freeCtr, .regs, .heldWrites, .leases, .jrnl, .clk, .cmt, .trig, .host, .chans, .groups] : List Part).all ([.freeCtr, .regs, .heldWrites, .leases, .jrnl, .clk, .cmt, .trig, .host, .chans, .groups] : List Part).contains = true := by decide
theorem sub_94 : ([.regs] : List Part).all ([.regs, .jobs] : List Part).contains = true := by decide
theorem mem_95 : ([.regs, .jobs] : List Part).contains .jobs = true := by decide
theorem sub_96 : ([.regs, .jobs] : List Part).all ([.regs, .jobs] : List Part).contains = true := by decide
theorem sub_97 : ([.regs, .chans] : List Part).all ([.regs, .bist, .chans] : List Part).contains = true := by decide
theorem mem_98 : ([.regs, .bist, .chans] : List Part).contains .bist = true := by decide
theorem sub_99 : ([.regs] : List Part).all ([.regs, .bist, .chans] : List Part).contains = true := by decide
theorem sub_100 : ([.freeCtr, .regs, .heldWrites, .leases, .jrnl, .clk, .cmt, .trig, .host, .chans, .groups] : List Part).all ([.freeCtr, .regs, .heldWrites, .leases, .jrnl, .clk, .cmt, .trig, .bist, .host, .chans, .groups] : List Part).contains = true := by decide
theorem sub_101 : ([.regs, .bist, .chans] : List Part).all ([.freeCtr, .regs, .heldWrites, .leases, .jrnl, .clk, .cmt, .trig, .bist, .host, .chans, .groups] : List Part).contains = true := by decide
theorem sub_102 : ([.regs] : List Part).all ([.freeCtr, .regs, .heldWrites, .leases, .jrnl, .clk, .cmt, .trig, .bist, .host, .chans, .groups] : List Part).contains = true := by decide
theorem sub_103 : ([.freeCtr, .regs, .heldWrites, .leases, .jrnl, .clk, .cmt, .trig, .bist, .host, .chans, .groups] : List Part).all ([.freeCtr, .regs, .heldWrites, .leases, .jrnl, .jobs, .clk, .cmt, .trig, .bist, .host, .chans, .groups] : List Part).contains = true := by decide
theorem sub_104 : ([.regs] : List Part).all ([.freeCtr, .regs, .heldWrites, .leases, .jrnl, .jobs, .clk, .cmt, .trig, .bist, .host, .chans, .groups] : List Part).contains = true := by decide
theorem sub_105 : ([.regs, .jobs] : List Part).all ([.freeCtr, .regs, .heldWrites, .leases, .jrnl, .jobs, .clk, .cmt, .trig, .bist, .host, .chans, .groups] : List Part).contains = true := by decide
theorem sub_106 : ([.freeCtr, .regs, .heldWrites, .leases, .jrnl, .jobs, .clk, .cmt, .trig, .bist, .host, .chans, .groups] : List Part).all ([.freeCtr, .regs, .heldWrites, .leases, .jrnl, .jobs, .clk, .cmt, .trig, .bist, .host, .chans, .groups] : List Part).contains = true := by decide
theorem sub_107 : ([.regs, .bist, .chans] : List Part).all ([.freeCtr, .regs, .heldWrites, .leases, .jrnl, .jobs, .clk, .cmt, .trig, .bist, .host, .chans, .groups] : List Part).contains = true := by decide
theorem mem_108 : ([.freeCtr, .regs, .heldWrites, .leases, .jrnl, .jobs, .clk, .cmt, .trig, .bist, .host, .chans, .groups] : List Part).contains .jobs = true := by decide
theorem sub_109 : ([.freeCtr, .regs, .heldWrites, .leases, .jrnl, .clk, .cmt, .trig, .host, .chans, .groups] : List Part).all ([.freeCtr, .regs, .heldWrites, .leases, .jrnl, .jobs, .clk, .cmt, .trig, .bist, .host, .chans, .groups] : List Part).contains = true := by decide
theorem sub_110 : ([.regs, .jrnl] : List Part).all ([.freeCtr, .regs, .heldWrites, .leases, .jrnl, .jobs, .clk, .cmt, .trig, .bist, .host, .chans, .groups] : List Part).contains = true := by decide
theorem mem_111 : ([.jobs] : List Part).contains .jobs = true := by decide
theorem sub_112 : ([.jobs] : List Part).all ([.regs, .jobs] : List Part).contains = true := by decide
theorem sub_113 : ([.regs] : List Part).all ([.regs, .cmt] : List Part).contains = true := by decide
theorem sub_114 : ([.cmt] : List Part).all ([.regs, .cmt] : List Part).contains = true := by decide
theorem sub_115 : ([.freeCtr, .regs, .jrnl, .clk, .life, .chans] : List Part).all ([.freeCtr, .regs, .heldWrites, .leases, .jrnl, .clk, .cmt, .trig, .life, .host, .chans, .groups] : List Part).contains = true := by decide
theorem sub_116 : ([.regs, .heldWrites, .leases, .jrnl, .cmt, .trig, .host, .chans, .groups] : List Part).all ([.freeCtr, .regs, .heldWrites, .leases, .jrnl, .clk, .cmt, .trig, .life, .host, .chans, .groups] : List Part).contains = true := by decide
theorem sub_117 : ([.regs] : List Part).all ([.freeCtr, .regs, .heldWrites, .leases, .jrnl, .clk, .cmt, .trig, .life, .host, .chans, .groups] : List Part).contains = true := by decide
theorem sub_118 : ([.regs, .chans] : List Part).all ([.freeCtr, .regs, .heldWrites, .leases, .jrnl, .clk, .cmt, .trig, .life, .host, .chans, .groups] : List Part).contains = true := by decide
theorem sub_119 : ([.chans] : List Part).all ([.freeCtr, .regs, .heldWrites, .leases, .jrnl, .clk, .cmt, .trig, .life, .host, .chans, .groups] : List Part).contains = true := by decide
theorem sub_120 : ([.freeCtr, .regs, .heldWrites, .leases, .jrnl, .clk, .cmt, .trig, .life, .host, .chans, .groups] : List Part).all ([.freeCtr, .regs, .heldWrites, .leases, .jrnl, .clk, .cmt, .trig, .life, .host, .chans, .groups] : List Part).contains = true := by decide
theorem sub_121 : ([.regs] : List Part).all ([.regs, .jrnl, .cmt, .trig, .chans, .groups] : List Part).contains = true := by decide
theorem sub_122 : ([.regs, .jrnl] : List Part).all ([.regs, .jrnl, .cmt, .trig, .chans, .groups] : List Part).contains = true := by decide
theorem sub_123 : ([.chans] : List Part).all ([.regs, .jrnl, .cmt, .trig, .chans, .groups] : List Part).contains = true := by decide
theorem sub_124 : ([.regs, .cmt] : List Part).all ([.regs, .jrnl, .cmt, .trig, .chans, .groups] : List Part).contains = true := by decide
theorem sub_125 : ([.regs, .jrnl, .cmt, .trig, .groups] : List Part).all ([.regs, .jrnl, .cmt, .trig, .chans, .groups] : List Part).contains = true := by decide
theorem sub_126 : ([.regs, .jrnl, .cmt, .trig, .chans, .groups] : List Part).all ([.regs, .jrnl, .cmt, .trig, .chans, .groups] : List Part).contains = true := by decide
theorem sub_127 : ([.regs, .jrnl] : List Part).all ([.freeCtr, .regs, .heldWrites, .leases, .jrnl, .clk, .cmt, .trig, .host, .chans, .groups] : List Part).contains = true := by decide
theorem sub_128 : ([.regs, .jrnl, .cmt, .trig, .chans, .groups] : List Part).all ([.freeCtr, .regs, .heldWrites, .leases, .jrnl, .clk, .cmt, .trig, .host, .chans, .groups] : List Part).contains = true := by decide
theorem sub_129 : ([.regs] : List Part).all ([.regs, .jrnl, .alrm] : List Part).contains = true := by decide
theorem sub_130 : ([.regs, .jrnl] : List Part).all ([.regs, .jrnl, .alrm] : List Part).contains = true := by decide
theorem mem_131 : ([.regs, .jrnl, .alrm] : List Part).contains .alrm = true := by decide
theorem sub_132 : ([.regs, .chans] : List Part).all ([.freeCtr, .regs, .heldWrites, .leases, .jrnl, .jobs, .clk, .cmt, .trig, .bist, .host, .chans, .groups] : List Part).contains = true := by decide
theorem sub_133 : ([.regs, .jrnl, .cmt, .trig, .groups] : List Part).all ([.freeCtr, .regs, .heldWrites, .leases, .jrnl, .jobs, .clk, .cmt, .trig, .bist, .host, .chans, .groups] : List Part).contains = true := by decide
theorem sub_134 : ([.regs] : List Part).all ([.freeCtr, .regs, .heldWrites, .leases, .jrnl, .jobs, .clk, .cmt, .trig, .bist, .alrm, .host, .chans, .groups] : List Part).contains = true := by decide
theorem sub_135 : ([.freeCtr, .regs, .heldWrites, .leases, .jrnl, .clk, .cmt, .trig, .host, .chans, .groups] : List Part).all ([.freeCtr, .regs, .heldWrites, .leases, .jrnl, .jobs, .clk, .cmt, .trig, .bist, .alrm, .host, .chans, .groups] : List Part).contains = true := by decide
theorem sub_136 : ([.freeCtr, .regs, .heldWrites, .leases, .jrnl, .jobs, .clk, .cmt, .trig, .bist, .host, .chans, .groups] : List Part).all ([.freeCtr, .regs, .heldWrites, .leases, .jrnl, .jobs, .clk, .cmt, .trig, .bist, .alrm, .host, .chans, .groups] : List Part).contains = true := by decide
theorem sub_137 : ([.regs, .jrnl, .alrm] : List Part).all ([.freeCtr, .regs, .heldWrites, .leases, .jrnl, .jobs, .clk, .cmt, .trig, .bist, .alrm, .host, .chans, .groups] : List Part).contains = true := by decide
theorem sub_138 : ([.regs, .chans] : List Part).all ([.freeCtr, .regs, .jrnl, .clk, .life, .chans] : List Part).contains = true := by decide
theorem sub_139 : ([.clk] : List Part).all ([.freeCtr, .regs, .jrnl, .clk, .life, .chans] : List Part).contains = true := by decide
theorem sub_140 : ([.chans] : List Part).all ([.freeCtr, .regs, .jrnl, .clk, .life, .chans] : List Part).contains = true := by decide
theorem sub_141 : ([.regs, .jrnl] : List Part).all ([.freeCtr, .regs, .jrnl, .clk, .life, .chans] : List Part).contains = true := by decide
theorem sub_142 : ([.regs] : List Part).all ([.freeCtr, .regs, .jrnl, .clk, .life, .chans] : List Part).contains = true := by decide
theorem sub_143 : ([.freeCtr, .regs, .jrnl, .clk, .chans] : List Part).all ([.freeCtr, .regs, .jrnl, .clk, .chans] : List Part).contains = true := by decide
theorem sub_144 : ([.freeCtr, .regs, .clk, .chans] : List Part).all ([.freeCtr, .regs, .clk, .chans] : List Part).contains = true := by decide
theorem sub_145 : ([.regs, .chans] : List Part).all ([.regs, .heldWrites, .leases, .jrnl, .clk, .cmt, .trig, .host, .chans, .groups] : List Part).contains = true := by decide
theorem sub_146 : ([.regs] : List Part).all ([.regs, .heldWrites, .leases, .jrnl, .clk, .cmt, .trig, .host, .chans, .groups] : List Part).contains = true := by decide
theorem sub_147 : ([.regs, .jrnl, .chans] : List Part).all ([.regs, .heldWrites, .leases, .jrnl, .clk, .cmt, .trig, .host, .chans, .groups] : List Part).contains = true := by decide
theorem sub_148 : ([.chans] : List Part).all ([.regs, .heldWrites, .leases, .jrnl, .clk, .cmt, .trig, .host, .chans, .groups] : List Part).contains = true := by decide
theorem sub_149 : ([.clk] : List Part).all ([.regs, .heldWrites, .leases, .jrnl, .clk, .cmt, .trig, .host, .chans, .groups] : List Part).contains = true := by decide
theorem sub_150 : ([.regs, .heldWrites, .leases, .jrnl, .cmt, .trig, .host, .chans, .groups] : List Part).all ([.regs, .heldWrites, .leases, .jrnl, .clk, .cmt, .trig, .host, .chans, .groups] : List Part).contains = true := by decide
theorem sub_151 : ([.regs, .jrnl] : List Part).all ([.freeCtr, .regs, .heldWrites, .leases, .jrnl, .jobs, .clk, .cmt, .trig, .bist, .alrm, .host, .chans, .groups] : List Part).contains = true := by decide
theorem sub_152 : ([.regs, .chans] : List Part).all ([.freeCtr, .regs, .heldWrites, .leases, .jrnl, .jobs, .clk, .cmt, .trig, .bist, .alrm, .host, .chans, .groups] : List Part).contains = true := by decide
theorem sub_153 : ([.chans] : List Part).all ([.freeCtr, .regs, .heldWrites, .leases, .jrnl, .jobs, .clk, .cmt, .trig, .bist, .alrm, .host, .chans, .groups] : List Part).contains = true := by decide
theorem sub_154 : ([.freeCtr, .regs, .heldWrites, .leases, .jrnl, .jobs, .clk, .cmt, .trig, .bist, .alrm, .host, .chans, .groups] : List Part).all ([.freeCtr, .regs, .heldWrites, .leases, .jrnl, .jobs, .clk, .cmt, .trig, .bist, .alrm, .host, .chans, .groups] : List Part).contains = true := by decide
theorem mem_155 : ([.regs, .cap] : List Part).contains .cap = true := by decide
theorem sub_156 : ([.regs] : List Part).all ([.regs, .cap] : List Part).contains = true := by decide
theorem sub_157 : ([.regs, .cap] : List Part).all ([.regs, .cap] : List Part).contains = true := by decide
theorem sub_158 : ([.chans] : List Part).all ([.regs, .cmt, .chans] : List Part).contains = true := by decide
theorem mem_159 : ([.regs, .cmt, .chans] : List Part).contains .cmt = true := by decide
theorem sub_160 : ([.regs] : List Part).all ([.regs, .cmt, .chans] : List Part).contains = true := by decide
theorem sub_161 : ([.regs, .cap] : List Part).all ([.regs, .cmt, .cap, .chans] : List Part).contains = true := by decide
theorem sub_162 : ([.regs, .cmt, .chans] : List Part).all ([.regs, .cmt, .cap, .chans] : List Part).contains = true := by decide
theorem sub_163 : ([.trig] : List Part).all ([.regs, .trig] : List Part).contains = true := by decide
theorem sub_164 : ([.regs, .chans] : List Part).all ([.regs, .cmt, .chans] : List Part).contains = true := by decide
theorem sub_165 : ([.cmt] : List Part).all ([.regs, .cmt, .chans] : List Part).contains = true := by decide
theorem sub_166 : ([.regs, .cmt, .chans] : List Part).all ([.regs, .cmt, .chans] : List Part).contains = true := by decide
theorem sub_167 : ([.regs] : List Part).all ([.regs, .trig, .cap] : List Part).contains = true := by decide
theorem sub_168 : ([.regs, .trig] : List Part).all ([.regs, .trig, .cap] : List Part).contains = true := by decide
theorem sub_169 : ([.regs, .cap] : List Part).all ([.regs, .trig, .cap] : List Part).contains = true := by decide
theorem sub_170 : ([.freeCtr, .regs, .heldWrites, .leases, .jrnl, .clk, .cmt, .trig, .life, .host, .chans, .groups] : List Part).all ([.freeCtr, .regs, .heldWrites, .leases, .jrnl, .jobs, .clk, .cmt, .trig, .life, .bist, .alrm, .host, .chans, .groups] : List Part).contains = true := by decide
theorem sub_171 : ([.regs] : List Part).all ([.freeCtr, .regs, .heldWrites, .leases, .jrnl, .jobs, .clk, .cmt, .trig, .life, .bist, .alrm, .host, .chans, .groups] : List Part).contains = true := by decide
theorem sub_172 : ([.chans] : List Part).all ([.freeCtr, .regs, .heldWrites, .leases, .jrnl, .jobs, .clk, .cmt, .trig, .life, .bist, .alrm, .host, .chans, .groups] : List Part).contains = true := by decide
theorem sub_173 : ([.regs, .chans] : List Part).all ([.freeCtr, .regs, .heldWrites, .leases, .jrnl, .jobs, .clk, .cmt, .trig, .life, .bist, .alrm, .host, .chans, .groups] : List Part).contains = true := by decide
theorem sub_174 : ([.freeCtr, .regs, .heldWrites, .leases, .jrnl, .jobs, .clk, .cmt, .trig, .bist, .alrm, .host, .chans, .groups] : List Part).all ([.freeCtr, .regs, .heldWrites, .leases, .jrnl, .jobs, .clk, .cmt, .trig, .life, .bist, .alrm, .host, .chans, .groups] : List Part).contains = true := by decide
theorem mem_175 : ([.regs, .nvm, .life] : List Part).contains .nvm = true := by decide
theorem sub_176 : ([.regs, .life] : List Part).all ([.regs, .nvm, .life] : List Part).contains = true := by decide
theorem sub_177 : ([.regs] : List Part).all ([.regs, .jrnl, .nvm] : List Part).contains = true := by decide
theorem sub_178 : ([.regs, .jrnl] : List Part).all ([.regs, .jrnl, .nvm] : List Part).contains = true := by decide
theorem mem_179 : ([.regs, .jrnl, .nvm] : List Part).contains .nvm = true := by decide
theorem sub_180 : ([.regs, .heldWrites, .leases, .jrnl, .clk, .cmt, .trig, .host, .chans, .groups] : List Part).all ([.freeCtr, .regs, .heldWrites, .leases, .jrnl, .clk, .cmt, .trig, .host, .chans, .groups] : List Part).contains = true := by decide
theorem mem_181 : ([.posted, .heldWrites] : List Part).contains .heldWrites = true := by decide
theorem mem_182 : ([.posted, .heldWrites] : List Part).contains .posted = true := by decide
theorem mem_183 : ([.regs, .posted, .jrnl] : List Part).contains .posted = true := by decide
theorem sub_184 : ([.regs, .jrnl] : List Part).all ([.regs, .posted, .jrnl] : List Part).contains = true := by decide
theorem sub_185 : ([.regs, .posted, .jrnl] : List Part).all ([.regs, .posted, .jrnl] : List Part).contains = true := by decide
theorem mem_186 : ([.retained] : List Part).contains .retained = true := by decide
theorem sub_187 : ([.regs] : List Part).all ([.regs, .moon] : List Part).contains = true := by decide
theorem mem_188 : ([.regs, .moon] : List Part).contains .moon = true := by decide
theorem sub_189 : ([.regs, .heldWrites, .leases, .jrnl, .clk, .cmt, .trig, .host, .chans, .groups] : List Part).all ([.freeCtr, .regs, .heldWrites, .leases, .jrnl, .clk, .cmt, .trig, .life, .host, .chans, .groups] : List Part).contains = true := by decide
theorem sub_190 : ([.regs, .jrnl, .life, .chans] : List Part).all ([.freeCtr, .regs, .heldWrites, .leases, .jrnl, .clk, .cmt, .trig, .life, .host, .chans, .groups] : List Part).contains = true := by decide
theorem sub_191 : ([.freeCtr, .regs, .heldWrites, .leases, .jrnl, .clk, .cmt, .trig, .host, .chans, .groups] : List Part).all ([.freeCtr, .regs, .heldWrites, .leases, .jrnl, .clk, .cmt, .trig, .life, .host, .chans, .groups] : List Part).contains = true := by decide
theorem sub_192 : ([.chans] : List Part).all ([.regs, .clk, .chans] : List Part).contains = true := by decide
theorem sub_193 : ([.regs] : List Part).all ([.regs, .clk, .chans] : List Part).contains = true := by decide
theorem sub_194 : ([.clk] : List Part).all ([.regs, .clk, .chans] : List Part).contains = true := by decide
theorem sub_195 : ([.freeCtr, .regs, .heldWrites, .leases, .jrnl, .clk, .cmt, .trig, .host, .chans, .groups] : List Part).all ([.freeCtr, .regs, .moon, .retained, .posted, .heldWrites, .leases, .jrnl, .jobs, .clk, .cmt, .trig, .life, .bist, .host, .chans, .groups] : List Part).contains = true := by decide
theorem sub_196 : ([.freeCtr, .regs, .heldWrites, .leases, .jrnl, .jobs, .clk, .cmt, .trig, .bist, .host, .chans, .groups] : List Part).all ([.freeCtr, .regs, .moon, .retained, .posted, .heldWrites, .leases, .jrnl, .jobs, .clk, .cmt, .trig, .life, .bist, .host, .chans, .groups] : List Part).contains = true := by decide
theorem sub_197 : ([.regs] : List Part).all ([.freeCtr, .regs, .moon, .retained, .posted, .heldWrites, .leases, .jrnl, .jobs, .clk, .cmt, .trig, .life, .bist, .host, .chans, .groups] : List Part).contains = true := by decide
theorem sub_198 : ([.regs, .moon] : List Part).all ([.freeCtr, .regs, .moon, .retained, .posted, .heldWrites, .leases, .jrnl, .jobs, .clk, .cmt, .trig, .life, .bist, .host, .chans, .groups] : List Part).contains = true := by decide
theorem sub_199 : ([.chans] : List Part).all ([.freeCtr, .regs, .moon, .retained, .posted, .heldWrites, .leases, .jrnl, .jobs, .clk, .cmt, .trig, .life, .bist, .host, .chans, .groups] : List Part).contains = true := by decide
theorem sub_200 : ([.regs, .clk, .chans] : List Part).all ([.freeCtr, .regs, .moon, .retained, .posted, .heldWrites, .leases, .jrnl, .jobs, .clk, .cmt, .trig, .life, .bist, .host, .chans, .groups] : List Part).contains = true := by decide
theorem sub_201 : ([.retained] : List Part).all ([.freeCtr, .regs, .moon, .retained, .posted, .heldWrites, .leases, .jrnl, .jobs, .clk, .cmt, .trig, .life, .bist, .host, .chans, .groups] : List Part).contains = true := by decide
theorem sub_202 : ([.regs, .posted, .jrnl] : List Part).all ([.freeCtr, .regs, .moon, .retained, .posted, .heldWrites, .leases, .jrnl, .jobs, .clk, .cmt, .trig, .life, .bist, .host, .chans, .groups] : List Part).contains = true := by decide
theorem sub_203 : ([.freeCtr, .regs, .heldWrites, .leases, .jrnl, .clk, .cmt, .trig, .life, .host, .chans, .groups] : List Part).all ([.freeCtr, .regs, .moon, .retained, .posted, .heldWrites, .leases, .jrnl, .jobs, .clk, .cmt, .trig, .life, .bist, .host, .chans, .groups] : List Part).contains = true := by decide
theorem sub_204 : ([.regs, .jrnl, .cmt, .trig, .groups] : List Part).all ([.freeCtr, .regs, .moon, .retained, .posted, .heldWrites, .leases, .jrnl, .jobs, .clk, .cmt, .trig, .life, .bist, .host, .chans, .groups] : List Part).contains = true := by decide
theorem sub_205 : ([.regs, .moon] : List Part).all ([.freeCtr, .regs, .moon, .retained, .posted, .heldWrites, .leases, .jrnl, .jobs, .clk, .cmt, .trig, .bist, .host, .chans, .groups] : List Part).contains = true := by decide
theorem sub_206 : ([.regs, .clk, .chans] : List Part).all ([.freeCtr, .regs, .moon, .retained, .posted, .heldWrites, .leases, .jrnl, .jobs, .clk, .cmt, .trig, .bist, .host, .chans, .groups] : List Part).contains = true := by decide
theorem sub_207 : ([.retained] : List Part).all ([.freeCtr, .regs, .moon, .retained, .posted, .heldWrites, .leases, .jrnl, .jobs, .clk, .cmt, .trig, .bist, .host, .chans, .groups] : List Part).contains = true := by decide
theorem sub_208 : ([.regs, .posted, .jrnl] : List Part).all ([.freeCtr, .regs, .moon, .retained, .posted, .heldWrites, .leases, .jrnl, .jobs, .clk, .cmt, .trig, .bist, .host, .chans, .groups] : List Part).contains = true := by decide
theorem sub_209 : ([.freeCtr, .regs, .heldWrites, .leases, .jrnl, .clk, .cmt, .trig, .host, .chans, .groups] : List Part).all ([.freeCtr, .regs, .moon, .retained, .posted, .heldWrites, .leases, .jrnl, .jobs, .clk, .cmt, .trig, .bist, .host, .chans, .groups] : List Part).contains = true := by decide
theorem sub_210 : ([.freeCtr, .regs, .heldWrites, .leases, .jrnl, .jobs, .clk, .cmt, .trig, .bist, .host, .chans, .groups] : List Part).all ([.freeCtr, .regs, .moon, .retained, .posted, .heldWrites, .leases, .jrnl, .jobs, .clk, .cmt, .trig, .bist, .host, .chans, .groups] : List Part).contains = true := by decide
theorem sub_211 : ([.freeCtr, .regs, .heldWrites, .leases, .jrnl, .clk, .cmt, .trig, .host, .chans, .groups] : List Part).all ([.freeCtr, .regs, .moon, .retained, .heldWrites, .leases, .jrnl, .clk, .cmt, .trig, .host, .chans, .groups] : List Part).contains = true := by decide
theorem sub_212 : ([.regs] : List Part).all ([.freeCtr, .regs, .moon, .retained, .heldWrites, .leases, .jrnl, .clk, .cmt, .trig, .host, .chans, .groups] : List Part).contains = true := by decide
theorem sub_213 : ([.regs, .moon] : List Part).all ([.freeCtr, .regs, .moon, .retained, .heldWrites, .leases, .jrnl, .clk, .cmt, .trig, .host, .chans, .groups] : List Part).contains = true := by decide
theorem sub_214 : ([.chans] : List Part).all ([.freeCtr, .regs, .moon, .retained, .heldWrites, .leases, .jrnl, .clk, .cmt, .trig, .host, .chans, .groups] : List Part).contains = true := by decide
theorem sub_215 : ([.regs, .clk, .chans] : List Part).all ([.freeCtr, .regs, .moon, .retained, .heldWrites, .leases, .jrnl, .clk, .cmt, .trig, .host, .chans, .groups] : List Part).contains = true := by decide
theorem sub_216 : ([.retained] : List Part).all ([.freeCtr, .regs, .moon, .retained, .heldWrites, .leases, .jrnl, .clk, .cmt, .trig, .host, .chans, .groups] : List Part).contains = true := by decide
theorem sub_217 : ([.freeCtr, .regs, .moon, .retained, .posted, .heldWrites, .leases, .jrnl, .jobs, .clk, .cmt, .trig, .life, .bist, .host, .chans, .groups] : List Part).all ([.freeCtr, .regs, .moon, .retained, .posted, .heldWrites, .leases, .jrnl, .jobs, .clk, .cmt, .trig, .life, .bist, .host, .chans, .groups] : List Part).contains = true := by decide
theorem sub_218 : ([.regs, .chans] : List Part).all ([.freeCtr, .regs, .moon, .retained, .posted, .heldWrites, .leases, .jrnl, .jobs, .clk, .cmt, .trig, .life, .bist, .host, .chans, .groups] : List Part).contains = true := by decide
theorem sub_219 : ([.freeCtr, .regs, .moon, .retained, .posted, .heldWrites, .leases, .jrnl, .jobs, .clk, .cmt, .trig, .bist, .host, .chans, .groups] : List Part).all ([.freeCtr, .regs, .moon, .retained, .posted, .heldWrites, .leases, .jrnl, .jobs, .clk, .cmt, .trig, .life, .bist, .host, .chans, .groups] : List Part).contains = true := by decide
theorem sub_220 : ([.freeCtr, .regs, .moon, .retained, .heldWrites, .leases, .jrnl, .clk, .cmt, .trig, .host, .chans, .groups] : List Part).all ([.freeCtr, .regs, .moon, .retained, .posted, .heldWrites, .leases, .jrnl, .jobs, .clk, .cmt, .trig, .life, .bist, .host, .chans, .groups] : List Part).contains = true := by decide
theorem sub_221 : ([.regs, .jrnl, .chans] : List Part).all ([.freeCtr, .regs, .moon, .retained, .posted, .heldWrites, .leases, .jrnl, .jobs, .clk, .cmt, .trig, .life, .bist, .host, .chans, .groups] : List Part).contains = true := by decide
theorem sub_222 : ([.freeCtr, .regs, .heldWrites, .leases, .jrnl, .clk, .cmt, .trig, .life, .host, .chans, .groups] : List Part).all ([.freeCtr, .regs, .heldWrites, .leases, .jrnl, .jobs, .clk, .cmt, .trig, .life, .bist, .host, .chans, .groups] : List Part).contains = true := by decide
theorem sub_223 : ([.freeCtr, .regs, .heldWrites, .leases, .jrnl, .jobs, .clk, .cmt, .trig, .bist, .host, .chans, .groups] : List Part).all ([.freeCtr, .regs, .heldWrites, .leases, .jrnl, .jobs, .clk, .cmt, .trig, .life, .bist, .host, .chans, .groups] : List Part).contains = true := by decide
theorem sub_224 : ([.regs, .chans] : List Part).all ([.freeCtr, .regs, .heldWrites, .leases, .jrnl, .jobs, .clk, .cmt, .trig, .life, .bist, .host, .chans, .groups] : List Part).contains = true := by decide
theorem sub_225 : ([.regs] : List Part).all ([.freeCtr, .regs, .heldWrites, .leases, .jrnl, .jobs, .clk, .cmt, .trig, .life, .bist, .host, .chans, .groups] : List Part).contains = true := by decide
theorem mem_226 : ([.freeCtr, .regs, .heldWrites, .leases, .jrnl, .jobs, .clk, .cmt, .trig, .life, .bist, .host, .chans, .groups] : List Part).contains .jobs = true := by decide
theorem sub_227 : ([.freeCtr, .regs, .heldWrites, .leases, .jrnl, .clk, .cmt, .trig, .host, .chans, .groups] : List Part).all ([.freeCtr, .regs, .heldWrites, .leases, .jrnl, .jobs, .clk, .cmt, .trig, .life, .bist, .host, .chans, .groups] : List Part).contains = true := by decide
theorem sub_228 : ([.freeCtr, .regs, .heldWrites, .leases, .jrnl, .jobs, .clk, .cmt, .trig, .life, .bist, .host, .chans, .groups] : List Part).all ([.freeCtr, .regs, .heldWrites, .leases, .jrnl, .jobs, .clk, .cmt, .trig, .life, .bist, .host, .chans, .groups] : List Part).contains = true := by decide
theorem sub_229 : ([.chans] : List Part).all ([.freeCtr, .regs, .heldWrites, .leases, .jrnl, .jobs, .clk, .cmt, .trig, .life, .bist, .host, .chans, .groups] : List Part).contains = true := by decide
theorem sub_230 : ([.regs, .life] : List Part).all ([.regs, .nvmDom, .life] : List Part).contains = true := by decide
theorem mem_231 : ([.regs, .nvmDom, .life] : List Part).contains .nvmDom = true := by decide
theorem sub_232 : ([.regs, .nvmDom, .life] : List Part).all ([.regs, .nvmDom, .life] : List Part).contains = true := by decide
theorem sub_233 : ([.regs, .jrnl, .alrm] : List Part).all ([.regs, .jrnl, .alrm] : List Part).contains = true := by decide
theorem sub_234 : ([.regs] : List Part).all ([.regs, .clk] : List Part).contains = true := by decide
theorem sub_235 : ([.clk] : List Part).all ([.regs, .clk] : List Part).contains = true := by decide
theorem sub_236 : ([.regs, .chans] : List Part).all ([.freeCtr, .regs, .posted, .heldWrites, .leases, .jrnl, .clk, .cmt, .trig, .life, .host, .chans, .groups] : List Part).contains = true := by decide
theorem sub_237 : ([.regs] : List Part).all ([.freeCtr, .regs, .posted, .heldWrites, .leases, .jrnl, .clk, .cmt, .trig, .life, .host, .chans, .groups] : List Part).contains = true := by decide
theorem sub_238 : ([.regs, .posted, .jrnl] : List Part).all ([.freeCtr, .regs, .posted, .heldWrites, .leases, .jrnl, .clk, .cmt, .trig, .life, .host, .chans, .groups] : List Part).contains = true := by decide
theorem sub_239 : ([.freeCtr, .regs, .heldWrites, .leases, .jrnl, .clk, .cmt, .trig, .life, .host, .chans, .groups] : List Part).all ([.freeCtr, .regs, .posted, .heldWrites, .leases, .jrnl, .clk, .cmt, .trig, .life, .host, .chans, .groups] : List Part).contains = true := by decide
theorem sub_240 : ([.freeCtr, .regs, .heldWrites, .leases, .jrnl, .clk, .cmt, .trig, .host, .chans, .groups] : List Part).all ([.freeCtr, .regs, .posted, .heldWrites, .leases, .jrnl, .clk, .cmt, .trig, .life, .host, .chans, .groups] : List Part).contains = true := by decide
theorem sub_241 : ([.chans] : List Part).all ([.freeCtr, .regs, .posted, .heldWrites, .leases, .jrnl, .clk, .cmt, .trig, .life, .host, .chans, .groups] : List Part).contains = true := by decide
theorem sub_242 : ([.regs, .clk, .chans] : List Part).all ([.freeCtr, .regs, .posted, .heldWrites, .leases, .jrnl, .clk, .cmt, .trig, .life, .host, .chans, .groups] : List Part).contains = true := by decide
theorem sub_243 : ([.regs, .jrnl, .cmt, .trig, .groups] : List Part).all ([.freeCtr, .regs, .posted, .heldWrites, .leases, .jrnl, .clk, .cmt, .trig, .life, .host, .chans, .groups] : List Part).contains = true := by decide
theorem sub_244 : ([.freeCtr, .regs, .posted, .heldWrites, .leases, .jrnl, .clk, .cmt, .trig, .life, .host, .chans, .groups] : List Part).all ([.freeCtr, .regs, .posted, .heldWrites, .leases, .jrnl, .jobs, .clk, .cmt, .trig, .life, .bist, .alrm, .host, .chans, .groups] : List Part).contains = true := by decide
theorem sub_245 : ([.freeCtr, .regs, .heldWrites, .leases, .jrnl, .jobs, .clk, .cmt, .trig, .bist, .alrm, .host, .chans, .groups] : List Part).all ([.freeCtr, .regs, .posted, .heldWrites, .leases, .jrnl, .jobs, .clk, .cmt, .trig, .life, .bist, .alrm, .host, .chans, .groups] : List Part).contains = true := by decide
theorem sub_246 : ([.regs] : List Part).all ([.freeCtr, .regs, .posted, .heldWrites, .leases, .jrnl, .jobs, .clk, .cmt, .trig, .life, .bist, .alrm, .host, .chans, .groups] : List Part).contains = true := by decide
theorem sub_247 : ([.regs, .clk, .chans] : List Part).all ([.freeCtr, .regs, .heldWrites, .leases, .jrnl, .jobs, .clk, .cmt, .trig, .bist, .alrm, .host, .chans, .groups] : List Part).contains = true := by decide
theorem sub_248 : ([.regs, .clk] : List Part).all ([.regs, .clk] : List Part).contains = true := by decide
theorem sub_249 : ([.clk] : List Part).all ([.clk] : List Part).contains = true := by decide
theorem sub_250 : ([.regs, .clk] : List Part).all ([.freeCtr, .regs, .posted, .heldWrites, .leases, .jrnl, .jobs, .clk, .cmt, .trig, .life, .bist, .alrm, .host, .chans, .groups] : List Part).contains = true := by decide
theorem sub_251 : ([.regs, .jrnl, .alrm] : List Part).all ([.freeCtr, .regs, .posted, .heldWrites, .leases, .jrnl, .jobs, .clk, .cmt, .trig, .life, .bist, .alrm, .host, .chans, .groups] : List Part).contains = true := by decide
theorem sub_252 : ([.clk] : List Part).all ([.freeCtr, .regs, .posted, .heldWrites, .leases, .jrnl, .jobs, .clk, .cmt, .trig, .life, .bist, .alrm, .host, .chans, .groups] : List Part).contains = true := by decide
theorem sub_253 : ([.freeCtr, .regs, .posted, .heldWrites, .leases, .jrnl, .jobs, .clk, .cmt, .trig, .life, .bist, .alrm, .host, .chans, .groups] : List Part).all ([.freeCtr, .regs, .posted, .heldWrites, .leases, .jrnl, .jobs, .clk, .cmt, .trig, .life, .bist, .alrm, .host, .chans, .groups] : List Part).contains = true := by decide
theorem sub_254 : ([.regs, .jrnl] : List Part).all ([.freeCtr, .regs, .posted, .heldWrites, .leases, .jrnl, .jobs, .clk, .cmt, .trig, .life, .bist, .alrm, .host, .chans, .groups] : List Part).contains = true := by decide
theorem sub_255 : ([.clk] : List Part).all ([.regs, .clk, .tk, .chans] : List Part).contains = true := by decide
theorem mem_256 : ([.regs, .clk, .tk, .chans] : List Part).contains .tk = true := by decide
theorem sub_257 : ([.chans] : List Part).all ([.regs, .clk, .tk, .chans] : List Part).contains = true := by decide
theorem sub_258 : ([.regs, .clk] : List Part).all ([.regs, .clk, .tk, .chans] : List Part).contains = true := by decide
theorem sub_259 : ([.regs] : List Part).all ([.freeCtr, .regs, .heldWrites, .leases, .jrnl, .clk, .cmt, .trig, .tk, .life, .host, .chans, .groups] : List Part).contains = true := by decide
theorem sub_260 : ([.clk] : List Part).all ([.freeCtr, .regs, .heldWrites, .leases, .jrnl, .clk, .cmt, .trig, .tk, .life, .host, .chans, .groups] : List Part).contains = true := by decide
theorem mem_261 : ([.freeCtr, .regs, .heldWrites, .leases, .jrnl, .clk, .cmt, .trig, .tk, .life, .host, .chans, .groups] : List Part).contains .tk = true := by decide
theorem sub_262 : ([.freeCtr, .regs, .jrnl, .clk, .life, .chans] : List Part).all ([.freeCtr, .regs, .heldWrites, .leases, .jrnl, .clk, .cmt, .trig, .tk, .life, .host, .chans, .groups] : List Part).contains = true := by decide
theorem sub_263 : ([.regs, .chans] : List Part).all ([.freeCtr, .regs, .heldWrites, .leases, .jrnl, .clk, .cmt, .trig, .tk, .life, .host, .chans, .groups] : List Part).contains = true := by decide
theorem sub_264 : ([.chans] : List Part).all ([.freeCtr, .regs, .heldWrites, .leases, .jrnl, .clk, .cmt, .trig, .tk, .life, .host, .chans, .groups] : List Part).contains = true := by decide
theorem sub_265 : ([.freeCtr, .regs, .heldWrites, .leases, .jrnl, .clk, .cmt, .trig, .life, .host, .chans, .groups] : List Part).all ([.freeCtr, .regs, .heldWrites, .leases, .jrnl, .clk, .cmt, .trig, .tk, .life, .host, .chans, .groups] : List Part).contains = true := by decide
theorem sub_266 : ([.groups] : List Part).all ([.chans, .groups] : List Part).contains = true := by decide
theorem sub_267 : ([.chans] : List Part).all ([.chans, .groups] : List Part).contains = true := by decide
theorem sub_268 : ([.regs, .jrnl, .trig, .chans, .groups] : List Part).all ([.regs, .jrnl, .cmt, .trig, .chans, .groups] : List Part).contains = true := by decide
theorem sub_269 : ([.groups] : List Part).all ([.regs, .jrnl, .cmt, .trig, .chans, .groups] : List Part).contains = true := by decide
theorem mem_270 : ([.tk] : List Part).contains .tk = true := by decide
theorem sub_271 : ([.tk] : List Part).all ([.tk] : List Part).contains = true := by decide
theorem sub_272 : ([.regs, .jrnl] : List Part).all ([.regs, .jrnl, .tk] : List Part).contains = true := by decide
theorem sub_273 : ([.tk] : List Part).all ([.regs, .jrnl, .tk] : List Part).contains = true := by decide
theorem sub_274 : ([.tk] : List Part).all ([.regs, .tk] : List Part).contains = true := by decide
theorem sub_275 : ([.regs] : List Part).all ([.regs, .tk] : List Part).contains = true := by decide
theorem sub_276 : ([.regs, .clk] : List Part).all ([.regs, .clk, .tk] : List Part).contains = true := by decide
theorem sub_277 : ([.tk] : List Part).all ([.regs, .clk, .tk] : List Part).contains = true := by decide
theorem sub_278 : ([.regs] : List Part).all ([.regs, .clk, .tk] : List Part).contains = true := by decide
theorem mem_279 : ([.life] : List Part).contains .life = true := by decide
theorem sub_280 : ([.regs, .life] : List Part).all ([.regs, .life] : List Part).contains = true := by decide
theorem sub_281 : ([.life] : List Part).all ([.regs, .life] : List Part).contains = true := by decide
theorem mem_282 : ([.jrnl] : List Part).contains .jrnl = true := by decide
theorem mem_283 : ([.regs, .jrnl, .host] : List Part).contains .host = true := by decide
theorem sub_284 : ([.regs] : List Part).all ([.regs, .jrnl, .host] : List Part).contains = true := by decide
theorem sub_285 : ([.regs, .jrnl] : List Part).all ([.regs, .jrnl, .host] : List Part).contains = true := by decide
theorem sub_286 : ([.jrnl] : List Part).all ([.regs, .jrnl, .host] : List Part).contains = true := by decide
theorem sub_287 : ([.regs, .jrnl, .host] : List Part).all ([.regs, .jrnl, .host] : List Part).contains = true := by decide
theorem sub_288 : ([.jrnl] : List Part).all ([.regs, .jrnl, .nvm, .life, .host] : List Part).contains = true := by decide
theorem sub_289 : ([.regs, .nvm, .life] : List Part).all ([.regs, .jrnl, .nvm, .life, .host] : List Part).contains = true := by decide
theorem sub_290 : ([.regs, .jrnl, .host] : List Part).all ([.regs, .jrnl, .nvm, .life, .host] : List Part).contains = true := by decide
theorem sub_291 : ([.regs] : List Part).all ([.regs, .jrnl, .nvm, .life, .host] : List Part).contains = true := by decide
theorem sub_292 : ([.freeCtr, .regs, .heldWrites, .leases, .jrnl, .jobs, .clk, .cmt, .trig, .bist, .host, .chans, .groups] : List Part).all ([.freeCtr, .regs, .heldWrites, .leases, .jrnl, .jobs, .nvm, .clk, .cmt, .trig, .life, .bist, .host, .chans, .groups] : List Part).contains = true := by decide
theorem sub_293 : ([.regs, .jrnl, .nvm, .life, .host] : List Part).all ([.freeCtr, .regs, .heldWrites, .leases, .jrnl, .jobs, .nvm, .clk, .cmt, .trig, .life, .bist, .host, .chans, .groups] : List Part).contains = true := by decide
theorem sub_294 : ([.jrnl] : List Part).all ([.regs, .jrnl] : List Part).contains = true := by decide
theorem mem_295 : ([.regs, .jrnl, .host] : List Part).contains .jrnl = true := by decide
theorem sub_296 : ([.regs] : List Part).all ([.regs, .nvm, .life, .bist] : List Part).contains = true := by decide
theorem mem_297 : ([.regs, .nvm, .life, .bist] : List Part).contains .bist = true := by decide
theorem sub_298 : ([.regs, .nvm, .life] : List Part).all ([.regs, .nvm, .life, .bist] : List Part).contains = true := by decide
theorem sub_299 : ([.regs, .nvm, .life, .bist] : List Part).all ([.freeCtr, .regs, .heldWrites, .leases, .jrnl, .jobs, .nvm, .clk, .cmt, .trig, .life, .bist, .host, .chans, .groups] : List Part).contains = true := by decide
theorem sub_300 : ([.regs] : List Part).all ([.regs, .bist] : List Part).contains = true := by decide
theorem mem_301 : ([.regs, .bist] : List Part).contains .bist = true := by decide
theorem sub_302 : ([.regs, .bist] : List Part).all ([.regs, .bist] : List Part).contains = true := by decide
theorem sub_303 : ([.regs, .nvm, .life, .bist] : List Part).all ([.regs, .nvm, .life, .bist] : List Part).contains = true := by decide
theorem sub_304 : ([.regs, .chans] : List Part).all ([.freeCtr, .regs, .heldWrites, .leases, .jrnl, .jobs, .nvm, .clk, .cmt, .trig, .life, .bist, .host, .chans, .groups] : List Part).contains = true := by decide
theorem sub_305 : ([.regs] : List Part).all ([.freeCtr, .regs, .heldWrites, .leases, .jrnl, .jobs, .nvm, .clk, .cmt, .trig, .life, .bist, .host, .chans, .groups] : List Part).contains = true := by decide
theorem sub_306 : ([.regs, .jobs] : List Part).all ([.freeCtr, .regs, .heldWrites, .leases, .jrnl, .jobs, .nvm, .clk, .cmt, .trig, .life, .bist, .host, .chans, .groups] : List Part).contains = true := by decide
theorem sub_307 : ([.regs, .bist] : List Part).all ([.freeCtr, .regs, .heldWrites, .leases, .jrnl, .jobs, .nvm, .clk, .cmt, .trig, .life, .bist, .host, .chans, .groups] : List Part).contains = true := by decide
theorem sub_308 : ([.chans] : List Part).all ([.freeCtr, .regs, .heldWrites, .leases, .jrnl, .jobs, .clk, .cmt, .trig, .bist, .host, .chans, .groups] : List Part).contains = true := by decide
theorem sub_309 : ([.regs, .jobs] : List Part).all ([.regs, .posted, .heldWrites, .jobs] : List Part).contains = true := by decide
theorem sub_310 : ([.posted, .heldWrites] : List Part).all ([.regs, .posted, .heldWrites, .jobs] : List Part).contains = true := by decide
theorem sub_311 : ([.regs, .nvm, .life] : List Part).all ([.freeCtr, .regs, .heldWrites, .leases, .jrnl, .jobs, .nvm, .clk, .cmt, .trig, .life, .bist, .host, .chans, .groups] : List Part).contains = true := by decide
theorem sub_312 : ([.freeCtr, .regs, .heldWrites, .leases, .jrnl, .jobs, .clk, .cmt, .trig, .bist, .host, .chans, .groups] : List Part).all ([.freeCtr, .regs, .posted, .heldWrites, .leases, .jrnl, .jobs, .nvm, .clk, .cmt, .trig, .life, .bist, .host, .chans, .groups] : List Part).contains = true := by decide
theorem sub_313 : ([.chans] : List Part).all ([.freeCtr, .regs, .posted, .heldWrites, .leases, .jrnl, .jobs, .nvm, .clk, .cmt, .trig, .life, .bist, .host, .chans, .groups] : List Part).contains = true := by decide
theorem sub_314 : ([.regs, .jobs] : List Part).all ([.freeCtr, .regs, .posted, .heldWrites, .leases, .jrnl, .jobs, .nvm, .clk, .cmt, .trig, .life, .bist, .host, .chans, .groups] : List Part).contains = true := by decide
theorem sub_315 : ([.regs, .posted, .heldWrites, .jobs] : List Part).all ([.freeCtr, .regs, .posted, .heldWrites, .leases, .jrnl, .jobs, .nvm, .clk, .cmt, .trig, .life, .bist, .host, .chans, .groups] : List Part).contains = true := by decide
theorem sub_316 : ([.freeCtr, .regs, .heldWrites, .leases, .jrnl, .jobs, .nvm, .clk, .cmt, .trig, .life, .bist, .host, .chans, .groups] : List Part).all ([.freeCtr, .regs, .posted, .heldWrites, .leases, .jrnl, .jobs, .nvm, .clk, .cmt, .trig, .life, .bist, .host, .chans, .groups] : List Part).contains = true := by decide
theorem sub_317 : ([.regs, .nvm, .life] : List Part).all ([.regs, .nvm, .life] : List Part).contains = true := by decide
theorem sub_318 : ([.regs, .jobs] : List Part).all ([.freeCtr, .regs, .heldWrites, .leases, .jrnl, .jobs, .clk, .cmt, .trig, .life, .bist, .host, .chans, .groups] : List Part).contains = true := by decide
theorem sub_319 : ([.life] : List Part).all ([.freeCtr, .regs, .heldWrites, .leases, .jrnl, .jobs, .clk, .cmt, .trig, .life, .bist, .host, .chans, .groups] : List Part).contains = true := by decide
theorem sub_320 : ([.freeCtr, .regs, .heldWrites, .leases, .jrnl, .jobs, .clk, .cmt, .trig, .life, .bist, .host, .chans, .groups] : List Part).all ([.freeCtr, .regs, .heldWrites, .leases, .jrnl, .jobs, .nvm, .clk, .cmt, .trig, .life, .bist, .host, .chans, .groups] : List Part).contains = true := by decide
theorem sub_321 : ([.freeCtr, .regs, .heldWrites, .leases, .jrnl, .jobs, .nvm, .clk, .cmt, .trig, .life, .bist, .host, .chans, .groups] : List Part).all ([.freeCtr, .regs, .heldWrites, .leases, .jrnl, .jobs, .nvm, .clk, .cmt, .trig, .life, .bist, .host, .chans, .groups] : List Part).contains = true := by decide
theorem mem_322 : ([.freeCtr, .regs, .heldWrites, .leases, .jrnl, .jobs, .nvm, .clk, .cmt, .trig, .life, .bist, .host, .chans, .groups] : List Part).contains .bist = true := by decide
theorem sub_323 : ([.freeCtr, .regs, .heldWrites, .leases, .jrnl, .jobs, .nvm, .clk, .cmt, .trig, .life, .bist, .host, .chans, .groups] : List Part).all ([.freeCtr, .regs, .posted, .heldWrites, .leases, .jrnl, .jobs, .nvm, .clk, .cmt, .trig, .tk, .life, .bist, .host, .chans, .groups] : List Part).contains = true := by decide
theorem sub_324 : ([.freeCtr, .regs, .heldWrites, .leases, .jrnl, .jobs, .clk, .cmt, .trig, .bist, .host, .chans, .groups] : List Part).all ([.freeCtr, .regs, .posted, .heldWrites, .leases, .jrnl, .jobs, .nvm, .clk, .cmt, .trig, .tk, .life, .bist, .host, .chans, .groups] : List Part).contains = true := by decide
theorem sub_325 : ([.freeCtr, .regs, .posted, .heldWrites, .leases, .jrnl, .jobs, .nvm, .clk, .cmt, .trig, .life, .bist, .host, .chans, .groups] : List Part).all ([.freeCtr, .regs, .posted, .heldWrites, .leases, .jrnl, .jobs, .nvm, .clk, .cmt, .trig, .tk, .life, .bist, .host, .chans, .groups] : List Part).contains = true := by decide
theorem sub_326 : ([.regs, .jobs] : List Part).all ([.freeCtr, .regs, .posted, .heldWrites, .leases, .jrnl, .jobs, .nvm, .clk, .cmt, .trig, .tk, .life, .bist, .host, .chans, .groups] : List Part).contains = true := by decide
theorem sub_327 : ([.freeCtr] : List Part).all ([.freeCtr, .regs, .posted, .heldWrites, .leases, .jrnl, .jobs, .nvm, .clk, .cmt, .trig, .tk, .life, .bist, .host, .chans, .groups] : List Part).contains = true := by decide
theorem sub_328 : ([.freeCtr, .regs, .heldWrites, .leases, .jrnl, .jobs, .nvm, .clk, .cmt, .trig, .tk, .life, .bist, .host, .chans, .groups] : List Part).all ([.freeCtr, .regs, .posted, .heldWrites, .leases, .jrnl, .jobs, .nvm, .clk, .cmt, .trig, .tk, .life, .bist, .host, .chans, .groups] : List Part).contains = true := by decide
theorem sub_329 : ([.regs] : List Part).all ([.freeCtr, .regs, .heldWrites, .leases, .jrnl, .jobs, .clk, .cmt, .trig, .host, .chans, .groups] : List Part).contains = true := by decide
theorem mem_330 : ([.freeCtr, .regs, .heldWrites, .leases, .jrnl, .jobs, .clk, .cmt, .trig, .host, .chans, .groups] : List Part).contains .jobs = true := by decide
theorem sub_331 : ([.freeCtr, .regs, .heldWrites, .leases, .jrnl, .clk, .cmt, .trig, .host, .chans, .groups] : List Part).all ([.freeCtr, .regs, .heldWrites, .leases, .jrnl, .jobs, .clk, .cmt, .trig, .host, .chans, .groups] : List Part).contains = true := by decide
theorem sub_332 : ([.regs, .chans] : List Part).all ([.freeCtr, .regs, .heldWrites, .leases, .jrnl, .jobs, .clk, .cmt, .trig, .host, .chans, .groups] : List Part).contains = true := by decide
theorem mem_333 : ([.nvm] : List Part).contains .nvm = true := by decide
theorem sub_334 : ([.regs] : List Part).all ([.freeCtr, .regs, .heldWrites, .leases, .jrnl, .jobs, .nvm, .clk, .cmt, .trig, .bist, .host, .chans, .groups] : List Part).contains = true := by decide
theorem sub_335 : ([.nvm] : List Part).all ([.freeCtr, .regs, .heldWrites, .leases, .jrnl, .jobs, .nvm, .clk, .cmt, .trig, .bist, .host, .chans, .groups] : List Part).contains = true := by decide
theorem sub_336 : ([.freeCtr, .regs, .heldWrites, .leases, .jrnl, .jobs, .clk, .cmt, .trig, .host, .chans, .groups] : List Part).all ([.freeCtr, .regs, .heldWrites, .leases, .jrnl, .jobs, .nvm, .clk, .cmt, .trig, .bist, .host, .chans, .groups] : List Part).contains = true := by decide
theorem sub_337 : ([.freeCtr, .regs, .heldWrites, .leases, .jrnl, .jobs, .clk, .cmt, .trig, .bist, .host, .chans, .groups] : List Part).all ([.freeCtr, .regs, .heldWrites, .leases, .jrnl, .jobs, .nvm, .clk, .cmt, .trig, .bist, .host, .chans, .groups] : List Part).contains = true := by decide
theorem sub_338 : ([.regs, .jrnl, .cmt, .trig, .groups] : List Part).all ([.freeCtr, .regs, .heldWrites, .leases, .jrnl, .jobs, .nvm, .clk, .cmt, .trig, .bist, .host, .chans, .groups] : List Part).contains = true := by decide
theorem sub_339 : ([.regs, .cmt] : List Part).all ([.freeCtr, .regs, .heldWrites, .leases, .jrnl, .jobs, .nvm, .clk, .cmt, .trig, .bist, .host, .chans, .groups] : List Part).contains = true := by decide
theorem sub_340 : ([.freeCtr, .regs, .heldWrites, .leases, .jrnl, .jobs, .nvm, .clk, .cmt, .trig, .bist, .host, .chans, .groups] : List Part).all ([.freeCtr, .regs, .heldWrites, .leases, .jrnl, .jobs, .nvm, .clk, .cmt, .trig, .bist, .host, .chans, .groups] : List Part).contains = true := by decide
theorem sub_341 : ([.regs, .jrnl] : List Part).all ([.freeCtr, .regs, .heldWrites, .leases, .jrnl, .jobs, .nvm, .clk, .cmt, .trig, .bist, .host, .chans, .groups] : List Part).contains = true := by decide
theorem mem_342 : ([.host] : List Part).contains .host = true := by decide
theorem sub_343 : ([.host] : List Part).all ([.regs, .heldWrites, .host] : List Part).contains = true := by decide
theorem mem_344 : ([.regs, .heldWrites, .host] : List Part).contains .heldWrites = true := by decide
theorem sub_345 : ([.regs] : List Part).all ([.regs, .heldWrites, .host] : List Part).contains = true := by decide
theorem sub_346 : ([.regs, .heldWrites, .host] : List Part).all ([.regs, .heldWrites, .jrnl, .host] : List Part).contains = true := by decide
theorem sub_347 : ([.regs, .jrnl] : List Part).all ([.regs, .heldWrites, .jrnl, .host] : List Part).contains = true := by decide
theorem sub_348 : ([.regs, .jrnl, .cmt, .trig, .groups] : List Part).all ([.freeCtr, .regs, .heldWrites, .leases, .jrnl, .clk, .cmt, .trig, .host, .chans, .groups] : List Part).contains = true := by decide
theorem sub_349 : ([.regs, .jrnl, .nvm] : List Part).all ([.freeCtr, .regs, .heldWrites, .leases, .jrnl, .jobs, .nvm, .clk, .cmt, .trig, .bist, .host, .chans, .groups] : List Part).contains = true := by decide
theorem sub_350 : ([.regs, .heldWrites, .jrnl, .host] : List Part).all ([.freeCtr, .regs, .heldWrites, .leases, .jrnl, .jobs, .nvm, .clk, .cmt, .trig, .bist, .host, .chans, .groups] : List Part).contains = true := by decide
theorem sub_351 : ([.freeCtr, .regs, .heldWrites, .leases, .jrnl, .clk, .cmt, .trig, .host, .chans, .groups] : List Part).all ([.freeCtr, .regs, .heldWrites, .leases, .jrnl, .jobs, .nvm, .clk, .cmt, .trig, .bist, .alrm, .host, .chans, .groups] : List Part).contains = true := by decide
theorem sub_352 : ([.regs] : List Part).all ([.freeCtr, .regs, .heldWrites, .leases, .jrnl, .jobs, .nvm, .clk, .cmt, .trig, .bist, .alrm, .host, .chans, .groups] : List Part).contains = true := by decide
theorem sub_353 : ([.regs, .jrnl] : List Part).all ([.freeCtr, .regs, .heldWrites, .leases, .jrnl, .jobs, .nvm, .clk, .cmt, .trig, .bist, .alrm, .host, .chans, .groups] : List Part).contains = true := by decide
theorem sub_354 : ([.freeCtr, .regs, .heldWrites, .leases, .jrnl, .jobs, .nvm, .clk, .cmt, .trig, .bist, .host, .chans, .groups] : List Part).all ([.freeCtr, .regs, .heldWrites, .leases, .jrnl, .jobs, .nvm, .clk, .cmt, .trig, .bist, .alrm, .host, .chans, .groups] : List Part).contains = true := by decide
theorem sub_355 : ([.regs, .jrnl, .alrm] : List Part).all ([.freeCtr, .regs, .heldWrites, .leases, .jrnl, .jobs, .nvm, .clk, .cmt, .trig, .bist, .alrm, .host, .chans, .groups] : List Part).contains = true := by decide
theorem sub_356 : ([.freeCtr, .regs, .heldWrites, .leases, .jrnl, .jobs, .nvm, .clk, .cmt, .trig, .bist, .alrm, .host, .chans, .groups] : List Part).all ([.freeCtr, .regs, .heldWrites, .leases, .jrnl, .jobs, .nvm, .clk, .cmt, .trig, .bist, .alrm, .host, .chans, .groups] : List Part).contains = true := by decide
theorem sub_357 : ([.freeCtr, .regs, .heldWrites, .leases, .jrnl, .jobs, .clk, .cmt, .trig, .bist, .alrm, .host, .chans, .groups] : List Part).all ([.freeCtr, .regs, .heldWrites, .leases, .jrnl, .jobs, .nvm, .clk, .cmt, .trig, .bist, .alrm, .host, .chans, .groups] : List Part).contains = true := by decide
theorem mem_358 : ([.freeCtr, .regs, .moon, .heldWrites, .leases, .jrnl, .jobs, .nvm, .clk, .cmt, .trig, .bist, .alrm, .host, .chans, .groups] : List Part).contains .moon = true := by decide
theorem sub_359 : ([.freeCtr, .regs, .heldWrites, .leases, .jrnl, .jobs, .nvm, .clk, .cmt, .trig, .bist, .alrm, .host, .chans, .groups] : List Part).all ([.freeCtr, .regs, .moon, .heldWrites, .leases, .jrnl, .jobs, .nvm, .clk, .cmt, .trig, .bist, .alrm, .host, .chans, .groups] : List Part).contains = true := by decide
theorem sub_360 : ([.regs] : List Part).all ([.freeCtr, .regs, .moon, .heldWrites, .leases, .jrnl, .jobs, .nvm, .clk, .cmt, .trig, .bist, .alrm, .host, .chans, .groups] : List Part).contains = true := by decide
theorem mem_361 : ([.freeCtr, .regs, .moon, .heldWrites, .leases, .jrnl, .jobs, .nvm, .clk, .cmt, .trig, .bist, .alrm, .host, .chans, .groups] : List Part).contains .cmt = true := by decide
theorem sub_362 : ([.host] : List Part).all ([.host, .chans] : List Part).contains = true := by decide
theorem sub_363 : ([.chans] : List Part).all ([.host, .chans] : List Part).contains = true := by decide
theorem sub_364 : ([.regs, .cap] : List Part).all ([.now, .freeCtr, .regs, .moon, .heldWrites, .leases, .jrnl, .jobs, .nvm, .clk, .cmt, .trig, .cap, .bist, .alrm, .host, .chans, .groups] : List Part).contains = true := by decide
theorem mem_365 : ([.now, .freeCtr, .regs, .moon, .heldWrites, .leases, .jrnl, .jobs, .nvm, .clk, .cmt, .trig, .cap, .bist, .alrm, .host, .chans, .groups] : List Part).contains .now = true := by decide
theorem sub_366 : ([.groups] : List Part).all ([.now, .freeCtr, .regs, .moon, .heldWrites, .leases, .jrnl, .jobs, .nvm, .clk, .cmt, .trig, .cap, .bist, .alrm, .host, .chans, .groups] : List Part).contains = true := by decide
theorem sub_367 : ([.clk] : List Part).all ([.now, .freeCtr, .regs, .moon, .heldWrites, .leases, .jrnl, .jobs, .nvm, .clk, .cmt, .trig, .cap, .bist, .alrm, .host, .chans, .groups] : List Part).contains = true := by decide
theorem sub_368 : ([.host, .chans] : List Part).all ([.now, .freeCtr, .regs, .moon, .heldWrites, .leases, .jrnl, .jobs, .nvm, .clk, .cmt, .trig, .cap, .bist, .alrm, .host, .chans, .groups] : List Part).contains = true := by decide
theorem sub_369 : ([.freeCtr, .regs, .moon, .heldWrites, .leases, .jrnl, .jobs, .nvm, .clk, .cmt, .trig, .bist, .alrm, .host, .chans, .groups] : List Part).all ([.now, .freeCtr, .regs, .moon, .heldWrites, .leases, .jrnl, .jobs, .nvm, .clk, .cmt, .trig, .cap, .bist, .alrm, .host, .chans, .groups] : List Part).contains = true := by decide
theorem sub_370 : ([.clk] : List Part).all ([.freeCtr, .regs, .heldWrites, .leases, .jrnl, .clk, .cmt, .trig, .host, .chans, .groups] : List Part).contains = true := by decide
theorem sub_371 : ([.freeCtr, .regs, .heldWrites, .leases, .jrnl, .clk, .cmt, .trig, .host, .chans, .groups] : List Part).all ([.freeCtr, .regs, .moon, .snap, .posted, .heldWrites, .leases, .jrnl, .jobs, .clk, .cmt, .trig, .life, .bist, .host, .chans, .groups] : List Part).contains = true := by decide
theorem sub_372 : ([.regs] : List Part).all ([.freeCtr, .regs, .moon, .snap, .posted, .heldWrites, .leases, .jrnl, .jobs, .clk, .cmt, .trig, .life, .bist, .host, .chans, .groups] : List Part).contains = true := by decide
theorem sub_373 : ([.regs, .jrnl, .chans] : List Part).all ([.freeCtr, .regs, .moon, .snap, .posted, .heldWrites, .leases, .jrnl, .jobs, .clk, .cmt, .trig, .life, .bist, .host, .chans, .groups] : List Part).contains = true := by decide
theorem sub_374 : ([.chans] : List Part).all ([.freeCtr, .regs, .moon, .snap, .posted, .heldWrites, .leases, .jrnl, .jobs, .clk, .cmt, .trig, .life, .bist, .host, .chans, .groups] : List Part).contains = true := by decide
theorem sub_375 : ([.regs, .moon, .snap] : List Part).all ([.freeCtr, .regs, .moon, .snap, .posted, .heldWrites, .leases, .jrnl, .jobs, .clk, .cmt, .trig, .life, .bist, .host, .chans, .groups] : List Part).contains = true := by decide
theorem sub_376 : ([.freeCtr, .regs, .heldWrites, .leases, .jrnl, .clk, .cmt, .trig, .life, .host, .chans, .groups] : List Part).all ([.freeCtr, .regs, .moon, .snap, .posted, .heldWrites, .leases, .jrnl, .jobs, .clk, .cmt, .trig, .life, .bist, .host, .chans, .groups] : List Part).contains = true := by decide
theorem sub_377 : ([.clk] : List Part).all ([.freeCtr, .regs, .moon, .snap, .posted, .heldWrites, .leases, .jrnl, .jobs, .clk, .cmt, .trig, .life, .bist, .host, .chans, .groups] : List Part).contains = true := by decide
theorem sub_378 : ([.regs, .posted, .jrnl] : List Part).all ([.freeCtr, .regs, .moon, .snap, .posted, .heldWrites, .leases, .jrnl, .jobs, .clk, .cmt, .trig, .life, .bist, .host, .chans, .groups] : List Part).contains = true := by decide
theorem sub_379 : ([.regs, .jrnl] : List Part).all ([.freeCtr, .regs, .moon, .snap, .posted, .heldWrites, .leases, .jrnl, .jobs, .clk, .cmt, .trig, .life, .bist, .host, .chans, .groups] : List Part).contains = true := by decide
theorem sub_380 : ([.regs, .chans] : List Part).all ([.freeCtr, .regs, .moon, .snap, .posted, .heldWrites, .leases, .jrnl, .jobs, .clk, .cmt, .trig, .life, .bist, .host, .chans, .groups] : List Part).contains = true := by decide
theorem sub_381 : ([.freeCtr, .regs, .clk, .chans] : List Part).all ([.freeCtr, .regs, .moon, .snap, .posted, .heldWrites, .leases, .jrnl, .jobs, .clk, .cmt, .trig, .life, .bist, .host, .chans, .groups] : List Part).contains = true := by decide
theorem sub_382 : ([.regs, .heldWrites, .leases, .jrnl, .cmt, .trig, .host, .chans, .groups] : List Part).all ([.freeCtr, .regs, .moon, .snap, .posted, .heldWrites, .leases, .jrnl, .jobs, .clk, .cmt, .trig, .life, .bist, .host, .chans, .groups] : List Part).contains = true := by decide
theorem sub_383 : ([.regs, .jrnl, .cmt, .trig, .groups] : List Part).all ([.freeCtr, .regs, .moon, .snap, .posted, .heldWrites, .leases, .jrnl, .jobs, .clk, .cmt, .trig, .life, .bist, .host, .chans, .groups] : List Part).contains = true := by decide
theorem sub_384 : ([.freeCtr, .regs, .heldWrites, .leases, .jrnl, .jobs, .clk, .cmt, .trig, .bist, .host, .chans, .groups] : List Part).all ([.freeCtr, .regs, .moon, .snap, .posted, .heldWrites, .leases, .jrnl, .jobs, .clk, .cmt, .trig, .life, .bist, .host, .chans, .groups] : List Part).contains = true := by decide
theorem sub_385 : ([.regs, .clk, .chans] : List Part).all ([.freeCtr, .regs, .moon, .snap, .posted, .heldWrites, .leases, .jrnl, .jobs, .clk, .cmt, .trig, .life, .bist, .host, .chans, .groups] : List Part).contains = true := by decide
theorem sub_386 : ([.regs, .cmt] : List Part).all ([.freeCtr, .regs, .moon, .snap, .posted, .heldWrites, .leases, .jrnl, .jobs, .clk, .cmt, .trig, .life, .bist, .host, .chans, .groups] : List Part).contains = true := by decide
theorem sub_387 : ([.freeCtr, .regs, .moon, .snap, .posted, .heldWrites, .leases, .jrnl, .jobs, .clk, .cmt, .trig, .life, .bist, .host, .chans, .groups] : List Part).all ([.freeCtr, .regs, .moon, .snap, .posted, .heldWrites, .leases, .jrnl, .jobs, .clk, .cmt, .trig, .life, .bist, .host, .chans, .groups] : List Part).contains = true := by decide
theorem sub_388 : ([.freeCtr, .regs, .moon, .snap, .heldWrites, .leases, .jrnl, .jobs, .clk, .cmt, .trig, .cap, .bist, .host, .chans, .groups] : List Part).all ([.freeCtr, .regs, .moon, .snap, .heldWrites, .leases, .jrnl, .jobs, .clk, .cmt, .trig, .cap, .bist, .host, .chans, .groups] : List Part).contains = true := by decide
theorem sub_389 : ([.regs] : List Part).all ([.freeCtr, .regs, .moon, .snap, .heldWrites, .leases, .jrnl, .jobs, .clk, .cmt, .trig, .cap, .bist, .host, .chans, .groups] : List Part).contains = true := by decide
theorem sub_390 : ([.regs, .jrnl] : List Part).all ([.freeCtr, .regs, .moon, .snap, .heldWrites, .leases, .jrnl, .jobs, .clk, .cmt, .trig, .cap, .bist, .host, .chans, .groups] : List Part).contains = true := by decide
theorem sub_391 : ([.freeCtr, .regs, .moon, .snap, .posted, .heldWrites, .leases, .jrnl, .jobs, .clk, .cmt, .trig, .life, .bist, .host, .chans, .groups] : List Part).all ([.freeCtr, .regs, .moon, .snap, .posted, .heldWrites, .leases, .jrnl, .jobs, .clk, .cmt, .trig, .cap, .life, .bist, .host, .chans, .groups] : List Part).contains = true := by decide
theorem sub_392 : ([.regs] : List Part).all ([.freeCtr, .regs, .moon, .snap, .posted, .heldWrites, .leases, .jrnl, .jobs, .clk, .cmt, .trig, .cap, .life, .bist, .host, .chans, .groups] : List Part).contains = true := by decide
theorem sub_393 : ([.regs, .jrnl] : List Part).all ([.freeCtr, .regs, .moon, .snap, .posted, .heldWrites, .leases, .jrnl, .jobs, .clk, .cmt, .trig, .cap, .life, .bist, .host, .chans, .groups] : List Part).contains = true := by decide
theorem sub_394 : ([.freeCtr, .regs, .heldWrites, .leases, .jrnl, .clk, .cmt, .trig, .host, .chans, .groups] : List Part).all ([.freeCtr, .regs, .moon, .snap, .posted, .heldWrites, .leases, .jrnl, .jobs, .clk, .cmt, .trig, .cap, .life, .bist, .host, .chans, .groups] : List Part).contains = true := by decide
theorem sub_395 : ([.freeCtr, .regs, .moon, .snap, .heldWrites, .leases, .jrnl, .jobs, .clk, .cmt, .trig, .cap, .bist, .host, .chans, .groups] : List Part).all ([.freeCtr, .regs, .moon, .snap, .posted, .heldWrites, .leases, .jrnl, .jobs, .clk, .cmt, .trig, .cap, .life, .bist, .host, .chans, .groups] : List Part).contains = true := by decide
theorem sub_396 : ([.leases] : List Part).all ([.regs, .leases, .nvm] : List Part).contains = true := by decide
theorem sub_397 : ([.regs] : List Part).all ([.regs, .leases, .nvm] : List Part).contains = true := by decide
theorem mem_398 : ([.regs, .leases, .nvm] : List Part).contains .nvm = true := by decide
theorem sub_399 : ([.regs] : List Part).all ([.freeCtr, .regs, .moon, .snap, .posted, .heldWrites, .leases, .jrnl, .jobs, .nvm, .clk, .cmt, .trig, .cap, .life, .bist, .host, .chans, .groups] : List Part).contains = true := by decide
theorem sub_400 : ([.freeCtr, .regs, .heldWrites, .leases, .jrnl, .jobs, .nvm, .clk, .cmt, .trig, .bist, .host, .chans, .groups] : List Part).all ([.freeCtr, .regs, .moon, .snap, .posted, .heldWrites, .leases, .jrnl, .jobs, .nvm, .clk, .cmt, .trig, .cap, .life, .bist, .host, .chans, .groups] : List Part).contains = true := by decide
theorem sub_401 : ([.freeCtr, .regs, .moon, .snap, .posted, .heldWrites, .leases, .jrnl, .jobs, .clk, .cmt, .trig, .cap, .life, .bist, .host, .chans, .groups] : List Part).all ([.freeCtr, .regs, .moon, .snap, .posted, .heldWrites, .leases, .jrnl, .jobs, .nvm, .clk, .cmt, .trig, .cap, .life, .bist, .host, .chans, .groups] : List Part).contains = true := by decide
theorem sub_402 : ([.host] : List Part).all ([.freeCtr, .regs, .moon, .snap, .posted, .heldWrites, .leases, .jrnl, .jobs, .nvm, .clk, .cmt, .trig, .cap, .life, .bist, .host, .chans, .groups] : List Part).contains = true := by decide
theorem sub_403 : ([.regs, .heldWrites, .host] : List Part).all ([.regs, .heldWrites, .leases, .jrnl, .host] : List Part).contains = true := by decide
theorem sub_404 : ([.regs, .leases, .jrnl] : List Part).all ([.regs, .heldWrites, .leases, .jrnl, .host] : List Part).contains = true := by decide
theorem sub_405 : ([.host] : List Part).all ([.regs, .heldWrites, .leases, .jrnl, .host] : List Part).contains = true := by decide
theorem sub_406 : ([.chans] : List Part).all ([.regs, .host, .chans] : List Part).contains = true := by decide
theorem sub_407 : ([.regs] : List Part).all ([.regs, .host, .chans] : List Part).contains = true := by decide
theorem mem_408 : ([.regs, .host, .chans] : List Part).contains .host = true := by decide
theorem sub_409 : ([.regs, .trig] : List Part).all ([.regs, .trig] : List Part).contains = true := by decide
theorem sub_410 : ([.regs, .cmt] : List Part).all ([.regs, .cmt] : List Part).contains = true := by decide
theorem mem_411 : ([.freeCtr, .regs, .moon, .snap, .posted, .heldWrites, .leases, .jrnl, .jobs, .nvmDom, .rst, .clk, .cmt, .trig, .cap, .tk, .life, .bist, .host, .chans, .groups] : List Part).contains .rst = true := by decide
theorem sub_412 : ([.freeCtr, .regs, .moon, .snap, .heldWrites, .leases, .jrnl, .jobs, .clk, .cmt, .trig, .cap, .bist, .host, .chans, .groups] : List Part).all ([.freeCtr, .regs, .moon, .snap, .posted, .heldWrites, .leases, .jrnl, .jobs, .nvmDom, .rst, .clk, .cmt, .trig, .cap, .tk, .life, .bist, .host, .chans, .groups] : List Part).contains = true := by decide
theorem sub_413 : ([.regs, .heldWrites, .leases, .jrnl, .host] : List Part).all ([.freeCtr, .regs, .moon, .snap, .posted, .heldWrites, .leases, .jrnl, .jobs, .nvmDom, .rst, .clk, .cmt, .trig, .cap, .tk, .life, .bist, .host, .chans, .groups] : List Part).contains = true := by decide
theorem sub_414 : ([.regs, .host, .chans] : List Part).all ([.freeCtr, .regs, .moon, .snap, .posted, .heldWrites, .leases, .jrnl, .jobs, .nvmDom, .rst, .clk, .cmt, .trig, .cap, .tk, .life, .bist, .host, .chans, .groups] : List Part).contains = true := by decide
theorem sub_415 : ([.regs, .jrnl] : List Part).all ([.freeCtr, .regs, .moon, .snap, .posted, .heldWrites, .leases, .jrnl, .jobs, .nvmDom, .rst, .clk, .cmt, .trig, .cap, .tk, .life, .bist, .host, .chans, .groups] : List Part).contains = true := by decide
theorem sub_416 : ([.freeCtr, .regs, .heldWrites, .leases, .jrnl, .jobs, .clk, .cmt, .trig, .bist, .host, .chans, .groups] : List Part).all ([.freeCtr, .regs, .moon, .snap, .posted, .heldWrites, .leases, .jrnl, .jobs, .nvmDom, .rst, .clk, .cmt, .trig, .cap, .tk, .life, .bist, .host, .chans, .groups] : List Part).contains = true := by decide
theorem sub_417 : ([.regs, .clk] : List Part).all ([.freeCtr, .regs, .moon, .snap, .posted, .heldWrites, .leases, .jrnl, .jobs, .nvmDom, .rst, .clk, .cmt, .trig, .cap, .tk, .life, .bist, .host, .chans, .groups] : List Part).contains = true := by decide
theorem sub_418 : ([.regs, .nvmDom, .life] : List Part).all ([.freeCtr, .regs, .moon, .snap, .posted, .heldWrites, .leases, .jrnl, .jobs, .nvmDom, .rst, .clk, .cmt, .trig, .cap, .tk, .life, .bist, .host, .chans, .groups] : List Part).contains = true := by decide
theorem sub_419 : ([.freeCtr, .regs, .moon, .snap, .posted, .heldWrites, .leases, .jrnl, .jobs, .clk, .cmt, .trig, .life, .bist, .host, .chans, .groups] : List Part).all ([.freeCtr, .regs, .moon, .snap, .posted, .heldWrites, .leases, .jrnl, .jobs, .nvmDom, .rst, .clk, .cmt, .trig, .cap, .tk, .life, .bist, .host, .chans, .groups] : List Part).contains = true := by decide
theorem sub_420 : ([.freeCtr, .regs, .heldWrites, .leases, .jrnl, .jobs, .clk, .cmt, .trig, .life, .bist, .host, .chans, .groups] : List Part).all ([.freeCtr, .regs, .moon, .snap, .posted, .heldWrites, .leases, .jrnl, .jobs, .nvmDom, .rst, .clk, .cmt, .trig, .cap, .tk, .life, .bist, .host, .chans, .groups] : List Part).contains = true := by decide
theorem sub_421 : ([.regs, .chans] : List Part).all ([.freeCtr, .regs, .moon, .snap, .posted, .heldWrites, .leases, .jrnl, .jobs, .nvmDom, .rst, .clk, .cmt, .trig, .cap, .tk, .life, .bist, .host, .chans, .groups] : List Part).contains = true := by decide
theorem sub_422 : ([.regs] : List Part).all ([.freeCtr, .regs, .moon, .snap, .posted, .heldWrites, .leases, .jrnl, .jobs, .nvmDom, .rst, .clk, .cmt, .trig, .cap, .tk, .life, .bist, .host, .chans, .groups] : List Part).contains = true := by decide
theorem sub_423 : ([.freeCtr, .regs, .heldWrites, .leases, .jrnl, .clk, .cmt, .trig, .host, .chans, .groups] : List Part).all ([.freeCtr, .regs, .moon, .snap, .posted, .heldWrites, .leases, .jrnl, .jobs, .nvmDom, .rst, .clk, .cmt, .trig, .cap, .tk, .life, .bist, .host, .chans, .groups] : List Part).contains = true := by decide
theorem sub_424 : ([.tk] : List Part).all ([.freeCtr, .regs, .moon, .snap, .posted, .heldWrites, .leases, .jrnl, .jobs, .nvmDom, .rst, .clk, .cmt, .trig, .cap, .tk, .life, .bist, .host, .chans, .groups] : List Part).contains = true := by decide
theorem sub_425 : ([.regs, .jrnl, .cmt, .trig, .chans, .groups] : List Part).all ([.freeCtr, .regs, .moon, .snap, .posted, .heldWrites, .leases, .jrnl, .jobs, .nvmDom, .rst, .clk, .cmt, .trig, .cap, .tk, .life, .bist, .host, .chans, .groups] : List Part).contains = true := by decide
theorem sub_426 : ([.regs, .jrnl, .tk] : List Part).all ([.freeCtr, .regs, .moon, .snap, .posted, .heldWrites, .leases, .jrnl, .jobs, .nvmDom, .rst, .clk, .cmt, .trig, .cap, .tk, .life, .bist, .host, .chans, .groups] : List Part).contains = true := by decide
theorem sub_427 : ([.regs, .groups] : List Part).all ([.freeCtr, .regs, .moon, .snap, .posted, .heldWrites, .leases, .jrnl, .jobs, .nvmDom, .rst, .clk, .cmt, .trig, .cap, .tk, .life, .bist, .host, .chans, .groups] : List Part).contains = true := by decide
theorem sub_428 : ([.regs, .jrnl, .cmt, .trig, .groups] : List Part).all ([.freeCtr, .regs, .moon, .snap, .posted, .heldWrites, .leases, .jrnl, .jobs, .nvmDom, .rst, .clk, .cmt, .trig, .cap, .tk, .life, .bist, .host, .chans, .groups] : List Part).contains = true := by decide
theorem sub_429 : ([.regs, .life] : List Part).all ([.freeCtr, .regs, .moon, .snap, .posted, .heldWrites, .leases, .jrnl, .jobs, .nvmDom, .rst, .clk, .cmt, .trig, .cap, .tk, .life, .bist, .host, .chans, .groups] : List Part).contains = true := by decide
theorem sub_430 : ([.regs, .cmt] : List Part).all ([.freeCtr, .regs, .moon, .snap, .posted, .heldWrites, .leases, .jrnl, .jobs, .nvmDom, .rst, .clk, .cmt, .trig, .cap, .tk, .life, .bist, .host, .chans, .groups] : List Part).contains = true := by decide
theorem mem_431 : ([.freeCtr, .regs, .moon, .snap, .posted, .heldWrites, .leases, .jrnl, .jobs, .nvmDom, .rst, .clk, .cmt, .trig, .cap, .tk, .life, .bist, .host, .chans, .groups] : List Part).contains .cmt = true := by decide
theorem sub_432 : ([.regs, .cap] : List Part).all ([.freeCtr, .regs, .moon, .snap, .posted, .heldWrites, .leases, .jrnl, .jobs, .nvmDom, .rst, .clk, .cmt, .trig, .cap, .tk, .life, .bist, .host, .chans, .groups] : List Part).contains = true := by decide
theorem sub_433 : ([.regs, .trig] : List Part).all ([.freeCtr, .regs, .moon, .snap, .posted, .heldWrites, .leases, .jrnl, .jobs, .nvmDom, .rst, .clk, .cmt, .trig, .cap, .tk, .life, .bist, .host, .chans, .groups] : List Part).contains = true := by decide
theorem sub_434 : ([.regs] : List Part).all ([.regs, .rst] : List Part).contains = true := by decide
theorem mem_435 : ([.regs, .rst] : List Part).contains .rst = true := by decide
theorem sub_436 : ([.freeCtr, .regs, .moon, .snap, .posted, .heldWrites, .leases, .jrnl, .jobs, .nvm, .clk, .cmt, .trig, .cap, .life, .bist, .host, .chans, .groups] : List Part).all ([.freeCtr, .regs, .moon, .snap, .posted, .heldWrites, .leases, .jrnl, .jobs, .nvm, .nvmDom, .rst, .clk, .cmt, .trig, .cap, .tk, .life, .bist, .host, .chans, .groups] : List Part).contains = true := by decide
theorem sub_437 : ([.freeCtr, .regs, .moon, .snap, .posted, .heldWrites, .leases, .jrnl, .jobs, .nvmDom, .rst, .clk, .cmt, .trig, .cap, .tk, .life, .bist, .host, .chans, .groups] : List Part).all ([.freeCtr, .regs, .moon, .snap, .posted, .heldWrites, .leases, .jrnl, .jobs, .nvm, .nvmDom, .rst, .clk, .cmt, .trig, .cap, .tk, .life, .bist, .host, .chans, .groups] : List Part).contains = true := by decide
theorem sub_438 : ([.freeCtr, .regs, .moon, .snap, .posted, .heldWrites, .leases, .jrnl, .jobs, .clk, .cmt, .trig, .life, .bist, .host, .chans, .groups] : List Part).all ([.freeCtr, .regs, .moon, .snap, .posted, .heldWrites, .leases, .jrnl, .jobs, .nvm, .nvmDom, .rst, .clk, .cmt, .trig, .cap, .tk, .life, .bist, .host, .chans, .groups] : List Part).contains = true := by decide
theorem sub_439 : ([.regs, .rst] : List Part).all ([.freeCtr, .regs, .moon, .snap, .posted, .heldWrites, .leases, .jrnl, .jobs, .nvm, .nvmDom, .rst, .clk, .cmt, .trig, .cap, .tk, .life, .bist, .host, .chans, .groups] : List Part).contains = true := by decide
theorem sub_440 : ([.regs, .jrnl] : List Part).all ([.freeCtr, .regs, .moon, .snap, .posted, .heldWrites, .leases, .jrnl, .jobs, .nvm, .nvmDom, .rst, .clk, .cmt, .trig, .cap, .tk, .life, .bist, .host, .chans, .groups] : List Part).contains = true := by decide
theorem sub_441 : ([.freeCtr, .regs, .moon, .snap, .posted, .heldWrites, .leases, .jrnl, .jobs, .nvm, .nvmDom, .rst, .clk, .cmt, .trig, .cap, .tk, .life, .bist, .host, .chans, .groups] : List Part).all ([.freeCtr, .regs, .moon, .snap, .posted, .heldWrites, .leases, .jrnl, .jobs, .nvm, .nvmDom, .rst, .clk, .cmt, .trig, .cap, .tk, .life, .bist, .host, .chans, .groups] : List Part).contains = true := by decide
theorem sub_442 : ([.regs, .leases, .nvm] : List Part).all ([.freeCtr, .regs, .moon, .snap, .posted, .heldWrites, .leases, .jrnl, .jobs, .nvm, .nvmDom, .rst, .clk, .cmt, .trig, .cap, .tk, .life, .bist, .host, .chans, .groups] : List Part).contains = true := by decide
theorem mem_443 : ([.freeCtr, .regs, .moon, .snap, .posted, .heldWrites, .leases, .jrnl, .jobs, .nvm, .nvmDom, .rst, .clk, .cmt, .trig, .cap, .tk, .life, .bist, .host, .chans, .groups] : List Part).contains .heldWrites = true := by decide
theorem sub_444 : ([.regs] : List Part).all ([.freeCtr, .regs, .moon, .snap, .posted, .heldWrites, .leases, .jrnl, .jobs, .nvm, .nvmDom, .rst, .clk, .cmt, .trig, .cap, .tk, .life, .bist, .host, .chans, .groups] : List Part).contains = true := by decide
theorem mem_445 : ([.freeCtr, .regs, .moon, .snap, .posted, .heldWrites, .leases, .jrnl, .jobs, .nvm, .nvmDom, .rst, .clk, .cmt, .trig, .cap, .tk, .life, .bist, .host, .chans, .groups] : List Part).contains .posted = true := by decide
theorem sub_446 : ([.host] : List Part).all ([.host] : List Part).contains = true := by decide
theorem sub_447 : ([.host] : List Part).all ([.regs, .host] : List Part).contains = true := by decide
theorem sub_448 : ([.host] : List Part).all ([.freeCtr, .regs, .moon, .snap, .posted, .heldWrites, .leases, .jrnl, .jobs, .nvm, .nvmDom, .rst, .clk, .cmt, .trig, .cap, .tk, .life, .bist, .host, .chans, .groups] : List Part).contains = true := by decide
theorem sub_449 : ([.host] : List Part).all ([.regs, .jrnl, .host] : List Part).contains = true := by decide
theorem sub_450 : ([.regs, .host] : List Part).all ([.regs, .jrnl, .host] : List Part).contains = true := by decide
theorem sub_451 : ([.regs, .host] : List Part).all ([.freeCtr, .regs, .moon, .snap, .posted, .heldWrites, .leases, .jrnl, .jobs, .nvm, .nvmDom, .rst, .clk, .cmt, .trig, .cap, .tk, .life, .bist, .host, .chans, .groups] : List Part).contains = true := by decide
theorem sub_452 : ([.regs, .heldWrites, .host] : List Part).all ([.regs, .heldWrites, .host] : List Part).contains = true := by decide
theorem sub_453 : ([.regs, .jrnl] : List Part).all ([.regs, .heldWrites, .leases, .jrnl, .host] : List Part).contains = true := by decide
theorem sub_454 : ([.regs, .jrnl, .host] : List Part).all ([.freeCtr, .regs, .moon, .snap, .posted, .heldWrites, .leases, .jrnl, .jobs, .nvm, .nvmDom, .rst, .clk, .cmt, .trig, .cap, .tk, .life, .bist, .host, .chans, .groups] : List Part).contains = true := by decide
theorem sub_455 : ([.regs, .heldWrites, .host] : List Part).all ([.freeCtr, .regs, .moon, .snap, .posted, .heldWrites, .leases, .jrnl, .jobs, .nvm, .nvmDom, .rst, .clk, .cmt, .trig, .cap, .tk, .life, .bist, .host, .chans, .groups] : List Part).contains = true := by decide
theorem sub_456 : ([.regs, .heldWrites, .leases, .jrnl, .host] : List Part).all ([.freeCtr, .regs, .moon, .snap, .posted, .heldWrites, .leases, .jrnl, .jobs, .nvm, .nvmDom, .rst, .clk, .cmt, .trig, .cap, .tk, .life, .bist, .host, .chans, .groups] : List Part).contains = true := by decide
theorem sub_457 : ([.regs, .chans] : List Part).all ([.freeCtr, .regs, .moon, .snap, .posted, .heldWrites, .leases, .jrnl, .jobs, .nvm, .nvmDom, .rst, .clk, .cmt, .trig, .cap, .tk, .life, .bist, .host, .chans, .groups] : List Part).contains = true := by decide
theorem sub_458 : ([.regs] : List Part).all ([.regs, .life, .chans] : List Part).contains = true := by decide
theorem sub_459 : ([.life] : List Part).all ([.regs, .life, .chans] : List Part).contains = true := by decide
theorem sub_460 : ([.regs, .chans] : List Part).all ([.regs, .life, .chans] : List Part).contains = true := by decide
theorem mem_461 : ([.regs, .jrnl, .rst, .host] : List Part).contains .rst = true := by decide
theorem sub_462 : ([.regs, .jrnl] : List Part).all ([.regs, .jrnl, .rst, .host] : List Part).contains = true := by decide
theorem sub_463 : ([.regs] : List Part).all ([.regs, .jrnl, .rst, .host] : List Part).contains = true := by decide
theorem sub_464 : ([.regs, .jrnl, .host] : List Part).all ([.regs, .jrnl, .rst, .host] : List Part).contains = true := by decide
theorem sub_465 : ([.regs, .jrnl, .tk] : List Part).all ([.regs, .jrnl, .tk, .life, .bist, .chans] : List Part).contains = true := by decide
theorem sub_466 : ([.regs, .bist] : List Part).all ([.regs, .jrnl, .tk, .life, .bist, .chans] : List Part).contains = true := by decide
theorem sub_467 : ([.regs, .life, .chans] : List Part).all ([.regs, .jrnl, .tk, .life, .bist, .chans] : List Part).contains = true := by decide
theorem sub_468 : ([.regs, .life] : List Part).all ([.regs, .jrnl, .tk, .life, .bist, .chans] : List Part).contains = true := by decide
theorem sub_469 : ([.regs] : List Part).all ([.regs, .jrnl, .tk, .life, .bist, .chans] : List Part).contains = true := by decide
theorem sub_470 : ([.regs, .chans] : List Part).all ([.regs, .jrnl, .tk, .life, .bist, .chans] : List Part).contains = true := by decide
theorem mem_471 : ([.snap] : List Part).contains .snap = true := by decide
theorem un_setReg {s : State} {a : Nat} {v : Word} : Unchanged [.regs] s (State.setReg s a v) := by
  have hk := Unchanged.refl [.regs] s
  unfold State.setReg
  exact un_with_regs mem_1 (hk)
theorem un_setFld {s : State} {a : Nat} {hi : Nat} {lo : Nat} {v : Nat} : Unchanged [.regs] s (State.setFld s a hi lo v) := by
  have hk := Unchanged.refl [.regs] s
  unfold State.setFld
  exact un_setReg.after sub_2 hk
theorem un_setBit {s : State} {a : Nat} {i : Nat} {b : Bool} : Unchanged [.regs] s (State.setBit s a i b) := by
  have hk := Unchanged.refl [.regs] s
  unfold State.setBit
  exact un_setFld.after sub_2 hk
theorem un_sat {s : State} {a : Nat} {hi : Nat} {lo : Nat} {k : Nat} : Unchanged [.regs] s (State.sat s a hi lo k) := by
  have hk := Unchanged.refl [.regs] s
  unfold State.sat
  exact un_setFld.after sub_2 hk
theorem un_wrap {s : State} {a : Nat} {hi : Nat} {lo : Nat} {k : Nat} : Unchanged [.regs] s (State.wrap s a hi lo k) := by
  have hk := Unchanged.refl [.regs] s
  unfold State.wrap
  exact un_setFld.after sub_2 hk
theorem un_sat32 {s : State} {a : Nat} {k : Nat} : Unchanged [.regs] s (State.sat32 s a k) := by
  have hk := Unchanged.refl [.regs] s
  unfold State.sat32
  exact un_sat.after sub_2 hk
theorem un_wrap32 {s : State} {a : Nat} {k : Nat} : Unchanged [.regs] s (State.wrap32 s a k) := by
  have hk := Unchanged.refl [.regs] s
  unfold State.wrap32
  exact un_wrap.after sub_2 hk
theorem un_wide {s : State} {aLo : Nat} {aHi : Nat} {hw : Nat} {k : Nat} : Unchanged [.regs] s (State.wide s aLo aHi hw k) := by
  have hk := Unchanged.refl [.regs] s
  unfold State.wide
  exact un_setFld.after sub_2 (un_setReg.after sub_2 hk)
theorem un_keepRegs {s : State} {p : Nat → Bool} : Unchanged [.regs] s (State.keepRegs s p) := by
  have hk := Unchanged.refl [.regs] s
  unfold State.keepRegs
  exact un_with_regs mem_1 (hk)
theorem un_setChan {s : State} {n : Ch} {c : Chan} : Unchanged [.chans] s (State.setChan s n c) := by
  have hk := Unchanged.refl [.chans] s
  unfold State.setChan
  exact un_with_chans mem_3 (hk)
theorem un_mapChan {s : State} {n : Ch} {f : Chan → Chan} : Unchanged [.chans] s (State.mapChan s n f) := by
  have hk := Unchanged.refl [.chans] s
  unfold State.mapChan
  exact un_setChan.after sub_4 hk
theorem un_setGroup {s : State} {g : Tg} {x : Group} : Unchanged [.groups] s (State.setGroup s g x) := by
  have hk := Unchanged.refl [.groups] s
  unfold State.setGroup
  exact un_with_groups mem_5 (hk)
theorem un_mapGroup {s : State} {g : Tg} {f : Group → Group} : Unchanged [.groups] s (State.mapGroup s g f) := by
  have hk := Unchanged.refl [.groups] s
  unfold State.mapGroup
  exact un_setGroup.after sub_6 hk
theorem un_mapCmt {s : State} {f : Cmt → Cmt} : Unchanged [.cmt] s (State.mapCmt s f) := by
  have hk := Unchanged.refl [.cmt] s
  unfold State.mapCmt
  exact un_with_cmt mem_7 (hk)
theorem un_tookFree {s : State} : Unchanged [.freeCtr] s (State.tookFree s) := by
  have hk := Unchanged.refl [.freeCtr] s
  unfold State.tookFree
  exact un_with_freeCtr mem_8 (hk)
theorem un_enterDrain {s : State} {l : List Page} : Unchanged [.clk] s (State.enterDrain s l) := by
  have hk := Unchanged.refl [.clk] s
  unfold State.enterDrain
  exact un_with_clk mem_9 (hk)
theorem un_jAppend {s : State} {o : Nat} {flags : Nat} {addr : Nat} {old : Word} {new : Word} : Unchanged [.regs, .jrnl] s (State.jAppend s o flags addr old new) := by
  have hk := Unchanged.refl [.regs, .jrnl] s
  unfold State.jAppend
  exact un_when (un_when (un_with_jrnl mem_10 (hk)) (un_setBit.after sub_11 (un_with_jrnl mem_10 (hk)))) (un_setReg.after sub_11 (un_when (un_with_jrnl mem_10 (hk)) (un_setBit.after sub_11 (un_with_jrnl mem_10 (hk)))))
theorem un_jEvent {s : State} {code : Nat} {addr : Nat} {new : Word} : Unchanged [.regs, .jrnl] s (State.jEvent s code addr new) := by
  have hk := Unchanged.refl [.regs, .jrnl] s
  unfold State.jEvent
  exact un_jAppend.after sub_12 hk
theorem un_ownSet {s : State} {o : Origin} {a : Nat} {v : Word} : Unchanged [.regs, .jrnl] s (State.ownSet s o a v) := by
  have hk := Unchanged.refl [.regs, .jrnl] s
  unfold State.ownSet
  exact un_jAppend.after sub_12 (un_setReg.after sub_11 hk)
theorem un_devSet {s : State} {a : Nat} {v : Word} : Unchanged [.regs, .jrnl] s (State.devSet s a v) := by
  have hk := Unchanged.refl [.regs, .jrnl] s
  unfold State.devSet
  exact un_ownSet.after sub_12 hk
theorem un_devShow {s : State} {a : Nat} {v : Word} : Unchanged [.regs, .jrnl] s (State.devShow s a v) := by
  have hk := Unchanged.refl [.regs, .jrnl] s
  unfold State.devShow
  exact (by split; exacts [hk, un_devSet.after sub_12 hk])
theorem un_devFld {s : State} {a : Nat} {hi : Nat} {lo : Nat} {v : Nat} : Unchanged [.regs, .jrnl] s (State.devFld s a hi lo v) := by
  have hk := Unchanged.refl [.regs, .jrnl] s
  unfold State.devFld
  exact un_devSet.after sub_12 hk
theorem un_intr {s : State} {p : Page} {i : Nat} : Unchanged [.regs] s (State.intr s p i) := by
  have hk := Unchanged.refl [.regs] s
  unfold State.intr
  exact un_setBit.after sub_2 hk
theorem un_cint {s : State} {n : Ch} {p : ChPage} {i : Nat} : Unchanged [.regs] s (State.cint s n p i) := by
  have hk := Unchanged.refl [.regs] s
  unfold State.cint
  exact un_intr.after sub_2 hk
theorem un_cintIf {s : State} {b : Bool} {n : Ch} {p : ChPage} {i : Nat} : Unchanged [.regs] s (State.cintIf s b n p i) := by
  have hk := Unchanged.refl [.regs] s
  unfold State.cintIf
  exact un_when hk (un_cint.after sub_2 hk)
theorem un_satInt {s : State} {a : Nat} {k : Nat} {p : Page} {i : Nat} : Unchanged [.regs] s (State.satInt s a k p i) := by
  have hk := Unchanged.refl [.regs] s
  unfold State.satInt
  exact un_when hk (un_intr.after sub_2 (un_sat32.after sub_2 hk))
theorem un_fldInt {s : State} {a : Nat} {hi : Nat} {lo : Nat} {p : Page} {i : Nat} : Unchanged [.regs] s (State.fldInt s a hi lo p i) := by
  have hk := Unchanged.refl [.regs] s
  unfold State.fldInt
  exact un_when hk (un_intr.after sub_2 (un_sat.after sub_2 hk))
theorem un_showLife {s : State} {i : Nat} : Unchanged [.regs] s (State.showLife s i) := by
  have hk := Unchanged.refl [.regs] s
  unfold State.showLife
  exact (by (try dsimp only); split; exacts [un_setReg.after sub_2 (un_setReg.after sub_2 hk), (by split; exacts [un_setReg.after sub_2 hk, (by split; exacts [un_setReg.after sub_2 hk, (by split; exacts [(by split; exacts [un_setReg.after sub_2 hk, hk]), (by split; exacts [un_setReg.after sub_2 hk, (by (try dsimp only); split; exacts [(by split; exacts [un_setReg.after sub_2 (un_setReg.after sub_2 (un_setReg.after sub_2 hk)), un_setReg.after sub_2 hk]), (by split; exacts [un_setReg.after sub_2 (un_setReg.after sub_2 hk), hk])])])])])])])
theorem un_lifeAdd {s : State} {i : Nat} {k : Nat} : Unchanged [.regs, .life] s (State.lifeAdd s i k) := by
  have hk := Unchanged.refl [.regs, .life] s
  unfold State.lifeAdd
  exact un_showLife.after sub_13 (un_with_life mem_14 (hk))
theorem un_showLatency {s : State} {n : Ch} : Unchanged [.regs] s (State.showLatency s n) := by
  have hk := Unchanged.refl [.regs] s
  unfold State.showLatency
  exact un_setReg.after sub_2 (un_setReg.after sub_2 (un_setReg.after sub_2 (un_setReg.after sub_2 (un_setReg.after sub_2 (un_setReg.after sub_2 (un_setReg.after sub_2 hk))))))
theorem un_showEngine {s : State} {n : Ch} : Unchanged [.regs] s (State.showEngine s n) := by
  have hk := Unchanged.refl [.regs] s
  unfold State.showEngine
  exact un_when hk (un_cint.after sub_2 (un_setBit.after sub_2 hk))
theorem un_retarget {s : State} {n : Ch} : Unchanged [.regs, .chans] s (State.retarget s n) := by
  have hk := Unchanged.refl [.regs, .chans] s
  unfold State.retarget
  exact (by (try dsimp only); split; exacts [(by split; exacts [hk, un_showEngine.after sub_15 (un_setBit.after sub_15 (un_mapChan.after sub_16 hk))]), (by split; exacts [hk, un_showEngine.after sub_15 (un_setBit.after sub_15 (un_mapChan.after sub_16 hk))])])
theorem un_showLatencies {s : State} {n : Ch} : Unchanged [.regs] s (State.showLatencies s n) := by
  have hk := Unchanged.refl [.regs] s
  unfold State.showLatencies
  exact un_when (un_showLatency.after sub_2 hk) (un_showLatency.after sub_2 (un_showLatency.after sub_2 hk))
theorem un_setLease {s : State} {p : Page} {t : Nat} : Unchanged [.leases] s (State.setLease s p t) := by
  have hk := Unchanged.refl [.leases] s
  unfold State.setLease
  exact un_with_leases mem_17 (hk)
theorem un_lockClear {s : State} {p : Page} : Unchanged [.regs, .leases] s (State.lockClear s p) := by
  have hk := Unchanged.refl [.regs, .leases] s
  unfold State.lockClear
  exact un_setLease.after sub_18 (un_setReg.after sub_19 hk)
theorem un_lockBroken {s : State} {p : Page} : Unchanged [.regs] s (State.lockBroken s p) := by
  have hk := Unchanged.refl [.regs] s
  unfold State.lockBroken
  exact un_intr.after sub_2 (un_setBit.after sub_2 hk)
theorem un_breakLock {s : State} {p : Page} : Unchanged [.regs, .leases, .jrnl] s (State.breakLock s p) := by
  have hk := Unchanged.refl [.regs, .leases, .jrnl] s
  unfold State.breakLock
  exact (by split; exacts [un_lockBroken.after sub_20 (un_jAppend.after sub_21 (un_lockClear.after sub_22 hk)), hk])
theorem un_breakLocksOf {s : State} {o : Origin} : Unchanged [.regs, .leases, .jrnl] s (State.breakLocksOf s o) := by
  have hk := Unchanged.refl [.regs, .leases, .jrnl] s
  unfold State.breakLocksOf
  exact un_foldl hk (fun x1_0 x1_1 x1_2 => (by split; exacts [un_breakLock.after sub_23 x1_2, x1_2]))
theorem un_mapPin {s : State} {k : Fin 16} {f : TrigPin → TrigPin} : Unchanged [.trig] s (State.mapPin s k f) := by
  have hk := Unchanged.refl [.trig] s
  unfold State.mapPin
  exact un_with_trig mem_24 (hk)
theorem un_shiftPin {s : State} {k : Fin 16} {d : Int} : Unchanged [.trig] s (State.shiftPin s k d) := by
  have hk := Unchanged.refl [.trig] s
  unfold State.shiftPin
  exact un_mapPin.after sub_25 hk
theorem un_mapKtl {s : State} {n : Ch} {f : KtlSt → KtlSt} : Unchanged [.chans] s (State.mapKtl s n f) := by
  have hk := Unchanged.refl [.chans] s
  unfold State.mapKtl
  exact un_mapChan.after sub_4 hk
theorem un_showLoop {s : State} {n : Ch} : Unchanged [.regs] s (State.showLoop s n) := by
  have hk := Unchanged.refl [.regs] s
  unfold State.showLoop
  exact un_cintIf.after sub_2 (un_setBit.after sub_2 hk)
theorem un_showNu {s : State} {n : Ch} : Unchanged [.regs] s (State.showNu s n) := by
  have hk := Unchanged.refl [.regs] s
  unfold State.showNu
  exact un_setReg.after sub_2 hk
theorem un_showNus {s : State} {g : Tg} : Unchanged [.regs] s (State.showNus s g) := by
  have hk := Unchanged.refl [.regs] s
  unfold State.showNus
  exact un_forCh hk (fun x1_0 x1_1 x1_2 => (by split; exacts [un_showNu.after sub_2 x1_2, x1_2]))
theorem un_showRate {s : State} {g : Tg} : Unchanged [.regs] s (State.showRate s g) := by
  have hk := Unchanged.refl [.regs] s
  unfold State.showRate
  exact un_forCh (un_setReg.after sub_2 hk) (fun x1_0 x1_1 x1_2 => (by split; exacts [un_showNu.after sub_2 x1_2, x1_2]))
theorem un_setGrp {s : State} {g : Tg} {w : Word} : Unchanged [.regs, .jrnl] s (State.setGrp s g w) := by
  have hk := Unchanged.refl [.regs, .jrnl] s
  unfold State.setGrp
  exact un_when (un_when (by split; exacts [un_devSet.after sub_12 hk, un_setReg.after sub_11 hk]) (un_intr.after sub_11 (by split; exacts [un_devSet.after sub_12 hk, un_setReg.after sub_11 hk]))) (un_intr.after sub_11 (un_when (by split; exacts [un_devSet.after sub_12 hk, un_setReg.after sub_11 hk]) (un_intr.after sub_11 (by split; exacts [un_devSet.after sub_12 hk, un_setReg.after sub_11 hk]))))
theorem un_showEngines4 {s : State} {g : Tg} : Unchanged [.regs] s (State.showEngines4 s g) := by
  have hk := Unchanged.refl [.regs] s
  unfold State.showEngines4
  exact un_forCh hk (fun x1_0 x1_1 x1_2 => (by split; exacts [un_showEngine.after sub_2 x1_2, x1_2]))
theorem un_onEnter {s : State} {g : Tg} {old : Nat} {new : Nat} : Unchanged [.regs, .groups] s (State.onEnter s g old new) := by
  have hk := Unchanged.refl [.regs, .groups] s
  unfold State.onEnter
  exact un_showRate.after sub_26 (by split; exacts [un_mapGroup.after sub_27 hk, un_mapGroup.after sub_27 hk, un_setReg.after sub_26 (un_mapGroup.after sub_27 hk), hk])
theorem un_showPpsOut {s : State} : Unchanged [.regs, .trig] s (State.showPpsOut s) := by
  have hk := Unchanged.refl [.regs, .trig] s
  unfold State.showPpsOut
  exact (by split; exacts [hk, un_setBit.after sub_28 (un_with_trig mem_29 (hk))])
theorem un_enterGrp {s : State} {g : Tg} {st : Nat} {sel : Nat} : Unchanged [.regs, .jrnl, .cmt, .trig, .groups] s (State.enterGrp s g st sel) := by
  have hk := Unchanged.refl [.regs, .jrnl, .cmt, .trig, .groups] s
  unfold State.enterGrp
  exact (by (try dsimp only); split; exacts [un_showEngines4.after sub_30 (un_showPpsOut.after sub_31 (un_when (by split; exacts [un_with_cmt mem_32 (un_setGrp.after sub_33 (un_mapGroup.after sub_34 (un_when (by split; exacts [hk, un_onEnter.after sub_35 hk]) (un_sat.after sub_30 (by split; exacts [hk, un_onEnter.after sub_35 hk]))))), un_with_cmt mem_32 (un_setGrp.after sub_33 (un_mapGroup.after sub_34 (un_when (by split; exacts [hk, un_onEnter.after sub_35 hk]) (un_sat.after sub_30 (by split; exacts [hk, un_onEnter.after sub_35 hk]))))), (by split; exacts [un_setGrp.after sub_33 (un_mapGroup.after sub_34 (un_when (by split; exacts [hk, un_onEnter.after sub_35 hk]) (un_sat.after sub_30 (by split; exacts [hk, un_onEnter.after sub_35 hk])))), un_with_cmt mem_32 (un_setGrp.after sub_33 (un_mapGroup.after sub_34 (un_when (by split; exacts [hk, un_onEnter.after sub_35 hk]) (un_sat.after sub_30 (by split; exacts [hk, un_onEnter.after sub_35 hk])))))]), un_setGrp.after sub_33 (un_mapGroup.after sub_34 (un_when (by split; exacts [hk, un_onEnter.after sub_35 hk]) (un_sat.after sub_30 (by split; exacts [hk, un_onEnter.after sub_35 hk]))))]) (un_showNus.after sub_30 (by split; exacts [un_with_cmt mem_32 (un_setGrp.after sub_33 (un_mapGroup.after sub_34 (un_when (by split; exacts [hk, un_onEnter.after sub_35 hk]) (un_sat.after sub_30 (by split; exacts [hk, un_onEnter.after sub_35 hk]))))), un_with_cmt mem_32 (un_setGrp.after sub_33 (un_mapGroup.after sub_34 (un_when (by split; exacts [hk, un_onEnter.after sub_35 hk]) (un_sat.after sub_30 (by split; exacts [hk, un_onEnter.after sub_35 hk]))))), (by split; exacts [un_setGrp.after sub_33 (un_mapGroup.after sub_34 (un_when (by split; exacts [hk, un_onEnter.after sub_35 hk]) (un_sat.after sub_30 (by split; exacts [hk, un_onEnter.after sub_35 hk])))), un_with_cmt mem_32 (un_setGrp.after sub_33 (un_mapGroup.after sub_34 (un_when (by split; exacts [hk, un_onEnter.after sub_35 hk]) (un_sat.after sub_30 (by split; exacts [hk, un_onEnter.after sub_35 hk])))))]), un_setGrp.after sub_33 (un_mapGroup.after sub_34 (un_when (by split; exacts [hk, un_onEnter.after sub_35 hk]) (un_sat.after sub_30 (by split; exacts [hk, un_onEnter.after sub_35 hk]))))])))), un_showPpsOut.after sub_31 (un_when (by split; exacts [un_with_cmt mem_32 (un_setGrp.after sub_33 (un_mapGroup.after sub_34 (un_when (by split; exacts [hk, un_onEnter.after sub_35 hk]) (un_sat.after sub_30 (by split; exacts [hk, un_onEnter.after sub_35 hk]))))), un_with_cmt mem_32 (un_setGrp.after sub_33 (un_mapGroup.after sub_34 (un_when (by split; exacts [hk, un_onEnter.after sub_35 hk]) (un_sat.after sub_30 (by split; exacts [hk, un_onEnter.after sub_35 hk]))))), (by split; exacts [un_setGrp.after sub_33 (un_mapGroup.after sub_34 (un_when (by split; exacts [hk, un_onEnter.after sub_35 hk]) (un_sat.after sub_30 (by split; exacts [hk, un_onEnter.after sub_35 hk])))), un_with_cmt mem_32 (un_setGrp.after sub_33 (un_mapGroup.after sub_34 (un_when (by split; exacts [hk, un_onEnter.after sub_35 hk]) (un_sat.after sub_30 (by split; exacts [hk, un_onEnter.after sub_35 hk])))))]), un_setGrp.after sub_33 (un_mapGroup.after sub_34 (un_when (by split; exacts [hk, un_onEnter.after sub_35 hk]) (un_sat.after sub_30 (by split; exacts [hk, un_onEnter.after sub_35 hk]))))]) (un_showNus.after sub_30 (by split; exacts [un_with_cmt mem_32 (un_setGrp.after sub_33 (un_mapGroup.after sub_34 (un_when (by split; exacts [hk, un_onEnter.after sub_35 hk]) (un_sat.after sub_30 (by split; exacts [hk, un_onEnter.after sub_35 hk]))))), un_with_cmt mem_32 (un_setGrp.after sub_33 (un_mapGroup.after sub_34 (un_when (by split; exacts [hk, un_onEnter.after sub_35 hk]) (un_sat.after sub_30 (by split; exacts [hk, un_onEnter.after sub_35 hk]))))), (by split; exacts [un_setGrp.after sub_33 (un_mapGroup.after sub_34 (un_when (by split; exacts [hk, un_onEnter.after sub_35 hk]) (un_sat.after sub_30 (by split; exacts [hk, un_onEnter.after sub_35 hk])))), un_with_cmt mem_32 (un_setGrp.after sub_33 (un_mapGroup.after sub_34 (un_when (by split; exacts [hk, un_onEnter.after sub_35 hk]) (un_sat.after sub_30 (by split; exacts [hk, un_onEnter.after sub_35 hk])))))]), un_setGrp.after sub_33 (un_mapGroup.after sub_34 (un_when (by split; exacts [hk, un_onEnter.after sub_35 hk]) (un_sat.after sub_30 (by split; exacts [hk, un_onEnter.after sub_35 hk]))))])))])
theorem un_clearDisc {s : State} {g : Tg} : Unchanged [.regs, .jrnl, .groups] s (State.clearDisc s g) := by
  have hk := Unchanged.refl [.regs, .jrnl, .groups] s
  unfold State.clearDisc
  exact un_mapGroup.after sub_36 (un_setGrp.after sub_37 hk)
theorem un_settleGroup {s : State} {g : Tg} : Unchanged [.regs, .jrnl, .cmt, .trig, .groups] s (State.settleGroup s g) := by
  have hk := Unchanged.refl [.regs, .jrnl, .cmt, .trig, .groups] s
  unfold State.settleGroup
  with_reducible (repeat' first | exact hk | assumption | refine un_enterGrp.after sub_38 ?_ | refine un_clearDisc.after sub_39 ?_ | refine un_setFld.after sub_30 ?_ | split | dsimp only | intro _)
theorem un_stepTime {s : State} {g : Tg} {d : Rat} : Unchanged [.regs, .jrnl, .trig, .chans, .groups] s (State.stepTime s g d) := by
  have hk := Unchanged.refl [.regs, .jrnl, .trig, .chans, .groups] s
  unfold State.stepTime
  exact un_fldInt.after sub_40 (un_devSet.after sub_41 (un_forCh (un_forCh (un_mapGroup.after sub_42 hk) (fun x2_0 x2_1 x2_2 => (by split; exacts [un_mapKtl.after sub_43 x2_2, x2_2]))) (fun x1_0 x1_1 x1_2 => (by split; exacts [un_shiftPin.after sub_44 x1_2, x1_2]))))
theorem un_oamPush {s : State} {n : Ch} {m : BitVec 128} : Unchanged [.chans] s (State.oamPush s n m) := by
  have hk := Unchanged.refl [.chans] s
  unfold State.oamPush
  exact un_mapChan.after sub_4 hk
theorem un_noteRx {s : State} {n : Ch} : Unchanged [.chans] s (State.noteRx s n) := by
  have hk := Unchanged.refl [.chans] s
  unfold State.noteRx
  exact (by (try dsimp only); split; exacts [hk, un_mapChan.after sub_4 hk])
theorem un_showAdapt {s : State} {n : Ch} : Unchanged [.regs] s (State.showAdapt s n) := by
  have hk := Unchanged.refl [.regs] s
  unfold State.showAdapt
  exact un_setReg.after sub_2 hk
theorem un_setOrbitLock {s : State} {n : Ch} {b : Bool} : Unchanged [.regs] s (State.setOrbitLock s n b) := by
  have hk := Unchanged.refl [.regs] s
  unfold State.setOrbitLock
  exact un_when hk (un_showAdapt.after sub_2 (un_cint.after sub_2 (un_setBit.after sub_2 hk)))
theorem un_setLine {s : State} {n : Ch} {mode : Nat} {ver : Nat} {rx : Nat} {tx : Nat} : Unchanged [.regs, .jrnl] s (State.setLine s n mode ver rx tx) := by
  have hk := Unchanged.refl [.regs, .jrnl] s
  unfold State.setLine
  exact un_setFld.after sub_11 (un_when hk (un_cint.after sub_11 (un_devSet.after sub_12 hk)))
theorem un_setLinkUp {s : State} {n : Ch} {b : Bool} : Unchanged [.regs] s (State.setLinkUp s n b) := by
  have hk := Unchanged.refl [.regs] s
  unfold State.setLinkUp
  exact un_when hk (un_showAdapt.after sub_2 (un_cint.after sub_2 (un_setBit.after sub_2 hk)))
theorem un_showNf {s : State} {n : Ch} : Unchanged [.regs] s (State.showNf s n) := by
  have hk := Unchanged.refl [.regs] s
  unfold State.showNf
  exact un_setBit.after sub_2 hk
theorem un_setLpi {s : State} {n : Ch} {tx : Bool} {b : Bool} : Unchanged [.regs, .chans] s (State.setLpi s n tx b) := by
  have hk := Unchanged.refl [.regs, .chans] s
  unfold State.setLpi
  exact un_when hk (un_showAdapt.after sub_15 (un_showNf.after sub_15 (un_cint.after sub_15 (un_setBit.after sub_15 (un_when (un_when hk (un_wrap.after sub_15 hk)) (un_mapKtl.after sub_16 (un_when hk (un_wrap.after sub_15 hk))))))))
theorem un_showLf {s : State} {n : Ch} : Unchanged [.regs] s (State.showLf s n) := by
  have hk := Unchanged.refl [.regs] s
  unfold State.showLf
  exact un_setBit.after sub_2 hk
theorem un_showPartner {s : State} {n : Ch} : Unchanged [.regs, .chans] s (State.showPartner s n) := by
  have hk := Unchanged.refl [.regs, .chans] s
  unfold State.showPartner
  exact un_when (un_when hk (un_mapChan.after sub_16 hk)) (un_cint.after sub_15 (un_setBit.after sub_15 (un_when hk (un_mapChan.after sub_16 hk))))
theorem un_showLow {s : State} {n : Ch} : Unchanged [.regs] s (State.showLow s n) := by
  have hk := Unchanged.refl [.regs] s
  unfold State.showLow
  exact un_when hk (un_cint.after sub_2 (un_setBit.after sub_2 hk))
theorem un_applyGain {s : State} {n : Ch} : Unchanged [.regs, .chans] s (State.applyGain s n) := by
  have hk := Unchanged.refl [.regs, .chans] s
  unfold State.applyGain
  exact un_showLatency.after sub_15 (un_showLow.after sub_15 (un_cint.after sub_15 (un_foldl (un_mapChan.after sub_16 (un_setReg.after sub_15 hk)) (fun x1_0 x1_1 x1_2 => un_setFld.after sub_15 x1_2))))
theorem un_applyTaps {s : State} {n : Ch} : Unchanged [.regs, .chans] s (State.applyTaps s n) := by
  have hk := Unchanged.refl [.regs, .chans] s
  unfold State.applyTaps
  exact un_mapChan.after sub_16 (un_foldl hk (fun x1_0 x1_1 x1_2 => (by split; exacts [un_setFld.after sub_15 x1_2, x1_2])))
theorem un_applyTiming {s : State} {n : Ch} : Unchanged [.regs] s (State.applyTiming s n) := by
  have hk := Unchanged.refl [.regs] s
  unfold State.applyTiming
  exact un_cintIf.after sub_2 (un_setBit.after sub_2 (un_setBit.after sub_2 hk))
theorem un_applyIter {s : State} {n : Ch} : Unchanged [.regs, .jrnl, .chans] s (State.applyIter s n) := by
  have hk := Unchanged.refl [.regs, .jrnl, .chans] s
  unfold State.applyIter
  exact un_cintIf.after sub_45 (un_showLatency.after sub_45 (un_mapChan.after sub_46 (un_devShow.after sub_47 hk)))
theorem un_applyPendingDown {s : State} {n : Ch} : Unchanged [.regs, .jrnl, .chans] s (State.applyPendingDown s n) := by
  have hk := Unchanged.refl [.regs, .jrnl, .chans] s
  unfold State.applyPendingDown
  exact un_when (un_when (un_when hk (un_applyGain.after sub_48 hk)) (un_applyIter.after sub_49 (un_when hk (un_applyGain.after sub_48 hk)))) (un_applyTaps.after sub_48 (un_when (un_when hk (un_applyGain.after sub_48 hk)) (un_applyIter.after sub_49 (un_when hk (un_applyGain.after sub_48 hk)))))
theorem un_showEcl {s : State} {n : Ch} : Unchanged [.regs, .chans] s (State.showEcl s n) := by
  have hk := Unchanged.refl [.regs, .chans] s
  unfold State.showEcl
  exact un_mapChan.after sub_16 (un_setReg.after sub_15 hk)
theorem un_setSingle {s : State} {n : Ch} {b : Bool} : Unchanged [.regs, .jrnl, .chans] s (State.setSingle s n b) := by
  have hk := Unchanged.refl [.regs, .jrnl, .chans] s
  unfold State.setSingle
  exact un_mapChan.after sub_46 (un_devShow.after sub_47 (un_when hk (un_cint.after sub_45 hk)))
theorem un_flushEbuf {s : State} {n : Ch} : Unchanged [.regs, .chans] s (State.flushEbuf s n) := by
  have hk := Unchanged.refl [.regs, .chans] s
  unfold State.flushEbuf
  exact un_mapChan.after sub_16 (un_setFld.after sub_15 (un_sat32.after sub_15 (un_wide.after sub_15 hk)))
theorem un_mailFailed {s : State} : Unchanged [.regs, .host] s (State.mailFailed s) := by
  have hk := Unchanged.refl [.regs, .host] s
  unfold State.mailFailed
  exact un_intr.after sub_50 (un_setFld.after sub_50 (un_with_host mem_51 (hk)))
theorem un_dropRemote {s : State} {n : Ch} : Unchanged [.regs, .heldWrites, .leases, .jrnl, .host, .chans] s (State.dropRemote s n) := by
  have hk := Unchanged.refl [.regs, .heldWrites, .leases, .jrnl, .host, .chans] s
  unfold State.dropRemote
  exact un_breakLocksOf.after sub_52 (by split; exacts [(by split; exacts [un_mailFailed.after sub_53 (un_mapChan.after sub_54 (un_with_heldWrites mem_55 (un_sat32.after sub_56 hk))), un_mapChan.after sub_54 (un_with_heldWrites mem_55 (un_sat32.after sub_56 hk))]), un_mapChan.after sub_54 (un_with_heldWrites mem_55 (un_sat32.after sub_56 hk))])
theorem un_dropOam {s : State} {n : Ch} : Unchanged [.regs, .chans] s (State.dropOam s n) := by
  have hk := Unchanged.refl [.regs, .chans] s
  unfold State.dropOam
  exact un_mapChan.after sub_16 (un_when hk (un_satInt.after sub_15 hk))
theorem un_capGrace {s : State} {n : Ch} : Unchanged [.chans] s (State.capGrace s n) := by
  have hk := Unchanged.refl [.chans] s
  unfold State.capGrace
  exact un_when hk (un_mapChan.after sub_4 hk)
theorem un_showRm {s : State} {n : Ch} : Unchanged [.regs] s (State.showRm s n) := by
  have hk := Unchanged.refl [.regs] s
  unfold State.showRm
  exact un_setFld.after sub_2 (un_setFld.after sub_2 hk)
theorem un_rmDrops {s : State} {n : Ch} {k : Nat} : Unchanged [.regs] s (State.rmDrops s n k) := by
  have hk := Unchanged.refl [.regs] s
  unfold State.rmDrops
  exact un_when hk (un_cint.after sub_2 (un_wide.after sub_2 hk))
theorem un_cutHost {s : State} {n : Ch} : Unchanged [.regs, .chans] s (State.cutHost s n) := by
  have hk := Unchanged.refl [.regs, .chans] s
  unfold State.cutHost
  exact un_showRm.after sub_15 (un_rmDrops.after sub_15 (un_mapChan.after sub_16 hk))
theorem un_cutFrames {s : State} {n : Ch} : Unchanged [.regs, .chans] s (State.cutFrames s n) := by
  have hk := Unchanged.refl [.regs, .chans] s
  unfold State.cutFrames
  exact (by (try dsimp only); split; exacts [un_setFld.after sub_15 (un_mapChan.after sub_16 (un_sat32.after sub_15 (un_mapChan.after sub_16 (un_cutHost.after sub_57 hk)))), un_mapChan.after sub_16 (un_cutHost.after sub_57 hk)])
theorem un_noSource {s : State} {n : Ch} : Unchanged [.cmt] s (State.noSource s n) := by
  have hk := Unchanged.refl [.cmt] s
  unfold State.noSource
  exact un_mapCmt.after sub_58 hk
theorem un_linkEnds {s : State} {n : Ch} : Unchanged [.regs, .heldWrites, .leases, .jrnl, .cmt, .host, .chans] s (State.linkEnds s n) := by
  have hk := Unchanged.refl [.regs, .heldWrites, .leases, .jrnl, .cmt, .host, .chans] s
  unfold State.linkEnds
  exact un_setLpi.after sub_59 (un_setLpi.after sub_59 (un_capGrace.after sub_60 (un_dropRemote.after sub_61 (un_dropOam.after sub_59 (un_flushEbuf.after sub_59 (un_cutFrames.after sub_59 (un_noSource.after sub_62 (un_setOrbitLock.after sub_63 (un_setLine.after sub_64 (un_setLinkUp.after sub_63 hk))))))))))
theorem un_linkDown {s : State} {n : Ch} : Unchanged [.regs, .heldWrites, .leases, .jrnl, .cmt, .trig, .host, .chans, .groups] s (State.linkDown s n) := by
  have hk := Unchanged.refl [.regs, .heldWrites, .leases, .jrnl, .cmt, .trig, .host, .chans, .groups] s
  unfold State.linkDown
  exact un_when (un_showEngine.after sub_65 (un_showPartner.after sub_66 (un_showLf.after sub_65 (un_showEcl.after sub_66 (un_showLatencies.after sub_65 (un_setFld.after sub_65 (un_setBit.after sub_65 (un_showLow.after sub_65 (un_setBit.after sub_65 (un_setBit.after sub_65 (un_showAdapt.after sub_65 (un_applyPendingDown.after sub_67 (un_mapChan.after sub_68 (un_setBit.after sub_65 (un_linkEnds.after sub_69 hk))))))))))))))) (un_settleGroup.after sub_70 (un_showEngine.after sub_65 (un_showPartner.after sub_66 (un_showLf.after sub_65 (un_showEcl.after sub_66 (un_showLatencies.after sub_65 (un_setFld.after sub_65 (un_setBit.after sub_65 (un_showLow.after sub_65 (un_setBit.after sub_65 (un_setBit.after sub_65 (un_showAdapt.after sub_65 (un_applyPendingDown.after sub_67 (un_mapChan.after sub_68 (un_setBit.after sub_65 (un_linkEnds.after sub_69 hk))))))))))))))))
theorem un_dropLink {s : State} {n : Ch} : Unchanged [.regs, .heldWrites, .leases, .jrnl, .cmt, .trig, .host, .chans, .groups] s (State.dropLink s n) := by
  have hk := Unchanged.refl [.regs, .heldWrites, .leases, .jrnl, .cmt, .trig, .host, .chans, .groups] s
  unfold State.dropLink
  exact (by split; exacts [un_linkDown.after sub_71 hk, hk])
theorem un_settleEngines {s : State} {n : Ch} : Unchanged [.regs, .jrnl, .chans] s (State.settleEngines s n) := by
  have hk := Unchanged.refl [.regs, .jrnl, .chans] s
  unfold State.settleEngines
  exact un_mapChan.after sub_46 (un_setSingle.after sub_49 hk)
theorem un_setSpread {s : State} {n : Ch} {v : Nat × Nat} : Unchanged [.clk] s (State.setSpread s n v) := by
  have hk := Unchanged.refl [.clk] s
  unfold State.setSpread
  exact un_with_clk mem_9 (hk)
theorem un_setTrain {s : State} {n : Ch} {kind : Nat} {ph : Nat} : Unchanged [.regs] s (State.setTrain s n kind ph) := by
  have hk := Unchanged.refl [.regs] s
  unfold State.setTrain
  exact un_showAdapt.after sub_2 (un_setReg.after sub_2 hk)
theorem un_linkIdle {s : State} {n : Ch} : Unchanged [.regs, .chans] s (State.linkIdle s n) := by
  have hk := Unchanged.refl [.regs, .chans] s
  unfold State.linkIdle
  exact un_mapChan.after sub_16 (un_setTrain.after sub_15 hk)
theorem un_startNeg {s : State} {n : Ch} : Unchanged [.freeCtr, .regs, .clk, .chans] s (State.startNeg s n) := by
  have hk := Unchanged.refl [.freeCtr, .regs, .clk, .chans] s
  unfold State.startNeg
  exact (by (try dsimp only); split; exacts [un_retarget.after sub_72 (un_mapChan.after sub_73 (un_tookFree.after sub_74 (un_setSpread.after sub_75 (un_setOrbitLock.after sub_76 (un_linkIdle.after sub_72 hk))))), un_setSpread.after sub_75 (un_setOrbitLock.after sub_76 (un_linkIdle.after sub_72 hk))])
theorem un_enterPhase {s : State} {n : Ch} {ph : Nat} {limit : Option Nat} : Unchanged [.regs, .chans] s (State.enterPhase s n ph limit) := by
  have hk := Unchanged.refl [.regs, .chans] s
  unfold State.enterPhase
  exact un_mapChan.after sub_16 (un_showAdapt.after sub_15 (un_setFld.after sub_15 hk))
theorem un_showAnn {s : State} {n : Ch} : Unchanged [.regs, .chans] s (State.showAnn s n) := by
  have hk := Unchanged.refl [.regs, .chans] s
  unfold State.showAnn
  exact (by split; exacts [un_mapChan.after sub_16 (un_setReg.after sub_15 hk), hk])
theorem un_startResume {s : State} {n : Ch} {kind : Nat} : Unchanged [.regs, .jrnl, .life, .chans] s (State.startResume s n kind) := by
  have hk := Unchanged.refl [.regs, .jrnl, .life, .chans] s
  unfold State.startResume
  exact un_showAnn.after sub_77 (un_retarget.after sub_77 (un_applyTiming.after sub_78 (un_settleEngines.after sub_79 (un_mapChan.after sub_80 (un_enterPhase.after sub_77 (un_setTrain.after sub_78 (un_setOrbitLock.after sub_78 (un_lifeAdd.after sub_81 (un_sat32.after sub_78 hk)))))))))
theorem un_startFast {s : State} {n : Ch} : Unchanged [.freeCtr, .regs, .jrnl, .clk, .life, .chans] s (State.startFast s n) := by
  have hk := Unchanged.refl [.freeCtr, .regs, .jrnl, .clk, .life, .chans] s
  unfold State.startFast
  exact (by split; exacts [un_startResume.after sub_82 hk, un_startNeg.after sub_83 hk])
theorem un_failTrain {s : State} {n : Ch} {cause : Nat} : Unchanged [.freeCtr, .regs, .jrnl, .clk, .chans] s (State.failTrain s n cause) := by
  have hk := Unchanged.refl [.freeCtr, .regs, .jrnl, .clk, .chans] s
  unfold State.failTrain
  exact (by (try dsimp only); split; exacts [un_mapChan.after sub_84 (un_setOrbitLock.after sub_85 (un_when (un_when (un_setFld.after sub_85 (un_satInt.after sub_85 hk)) (un_mapChan.after sub_84 (un_setFld.after sub_85 (un_satInt.after sub_85 hk)))) (un_satInt.after sub_85 (un_devShow.after sub_86 (un_when (un_setFld.after sub_85 (un_satInt.after sub_85 hk)) (un_mapChan.after sub_84 (un_setFld.after sub_85 (un_satInt.after sub_85 hk)))))))), un_startNeg.after sub_87 (un_setOrbitLock.after sub_85 (un_when (un_when (un_setFld.after sub_85 (un_satInt.after sub_85 hk)) (un_mapChan.after sub_84 (un_setFld.after sub_85 (un_satInt.after sub_85 hk)))) (un_satInt.after sub_85 (un_devShow.after sub_86 (un_when (un_setFld.after sub_85 (un_satInt.after sub_85 hk)) (un_mapChan.after sub_84 (un_setFld.after sub_85 (un_satInt.after sub_85 hk))))))))])
theorem un_comeUp {s : State} {n : Ch} : Unchanged [.regs, .jrnl, .chans] s (State.comeUp s n) := by
  have hk := Unchanged.refl [.regs, .jrnl, .chans] s
  unfold State.comeUp
  exact un_showPartner.after sub_48 (un_showLf.after sub_45 (un_showEcl.after sub_48 (un_showLatencies.after sub_45 (un_showLoop.after sub_45 (un_cintIf.after sub_45 (un_setBit.after sub_45 (un_settleEngines.after sub_49 (by split; exacts [un_mapChan.after sub_46 (un_setLine.after sub_47 (un_setLinkUp.after sub_45 (un_setFld.after sub_45 (un_setFld.after sub_45 hk)))), un_setReg.after sub_45 (un_setReg.after sub_45 (un_mapChan.after sub_46 (un_setLine.after sub_47 (un_setLinkUp.after sub_45 (un_setFld.after sub_45 (un_setFld.after sub_45 hk))))))]))))))))
theorem un_renegotiate {s : State} {n : Ch} : Unchanged [.freeCtr, .regs, .heldWrites, .leases, .jrnl, .clk, .cmt, .trig, .host, .chans, .groups] s (State.renegotiate s n) := by
  have hk := Unchanged.refl [.freeCtr, .regs, .heldWrites, .leases, .jrnl, .clk, .cmt, .trig, .host, .chans, .groups] s
  unfold State.renegotiate
  exact un_startNeg.after sub_88 (un_dropLink.after sub_89 hk)
theorem un_settleLink {s : State} {n : Ch} : Unchanged [.freeCtr, .regs, .heldWrites, .leases, .jrnl, .clk, .cmt, .trig, .host, .chans, .groups] s (State.settleLink s n) := by
  have hk := Unchanged.refl [.freeCtr, .regs, .heldWrites, .leases, .jrnl, .clk, .cmt, .trig, .host, .chans, .groups] s
  unfold State.settleLink
  exact (by split; exacts [hk, (by split; exacts [(by split; exacts [un_startNeg.after sub_88 hk, hk]), (by split; exacts [hk, un_setOrbitLock.after sub_90 (un_linkIdle.after sub_91 (un_dropLink.after sub_89 hk))])])])
theorem un_setPatSync {s : State} {n : Ch} {b : Bool} : Unchanged [.regs] s (State.setPatSync s n b) := by
  have hk := Unchanged.refl [.regs] s
  unfold State.setPatSync
  exact un_when hk (un_cint.after sub_2 (un_setBit.after sub_2 hk))
theorem un_modesReturn {s : State} {n : Ch} : Unchanged [.regs, .chans] s (State.modesReturn s n) := by
  have hk := Unchanged.refl [.regs, .chans] s
  unfold State.modesReturn
  exact un_setBit.after sub_15 (un_mapChan.after sub_16 hk)
theorem un_anRestart {s : State} {n : Ch} : Unchanged [.freeCtr, .regs, .heldWrites, .leases, .jrnl, .clk, .cmt, .trig, .host, .chans, .groups] s (State.anRestart s n) := by
  have hk := Unchanged.refl [.freeCtr, .regs, .heldWrites, .leases, .jrnl, .clk, .cmt, .trig, .host, .chans, .groups] s
  unfold State.anRestart
  exact (by split; exacts [un_mapChan.after sub_92 hk, un_renegotiate.after sub_93 (un_mapChan.after sub_92 (un_modesReturn.after sub_91 hk))])
theorem un_advWritten {s : State} {n : Ch} : Unchanged [.regs, .chans] s (State.advWritten s n) := by
  have hk := Unchanged.refl [.regs, .chans] s
  unfold State.advWritten
  exact (by split; exacts [un_mapChan.after sub_16 hk, un_modesReturn.after sub_57 hk])
theorem un_sweepEnded {s : State} {n : Ch} : Unchanged [.freeCtr, .regs, .heldWrites, .leases, .jrnl, .clk, .cmt, .trig, .host, .chans, .groups] s (State.sweepEnded s n) := by
  have hk := Unchanged.refl [.freeCtr, .regs, .heldWrites, .leases, .jrnl, .clk, .cmt, .trig, .host, .chans, .groups] s
  unfold State.sweepEnded
  exact (by split; exacts [hk, (by (try dsimp only); split; exacts [un_anRestart.after sub_93 (un_when hk (un_modesReturn.after sub_91 hk)), un_settleLink.after sub_93 (un_when hk (un_modesReturn.after sub_91 hk))])])
theorem un_showPwr {s : State} {n : Ch} : Unchanged [.regs] s (State.showPwr s n) := by
  have hk := Unchanged.refl [.regs] s
  unfold State.showPwr
  exact un_setReg.after sub_2 hk
theorem un_mapDom {s : State} {n : Ch} {k : Fin 3} {f : Dom → Dom} : Unchanged [.regs, .chans] s (State.mapDom s n k f) := by
  have hk := Unchanged.refl [.regs, .chans] s
  unfold State.mapDom
  exact un_showPwr.after sub_15 (un_mapChan.after sub_16 hk)
theorem un_showJobs {s : State} : Unchanged [.regs] s (State.showJobs s) := by
  have hk := Unchanged.refl [.regs] s
  unfold State.showJobs
  exact un_setReg.after sub_2 (un_setReg.after sub_2 hk)
theorem un_setSlot {s : State} {k : Fin 8} {j : JobSlot} : Unchanged [.regs, .jobs] s (State.setSlot s k j) := by
  have hk := Unchanged.refl [.regs, .jobs] s
  unfold State.setSlot
  exact un_showJobs.after sub_94 (un_setReg.after sub_94 (un_setReg.after sub_94 (un_setReg.after sub_94 (un_setReg.after sub_94 (un_setReg.after sub_94 (un_with_jobs mem_95 (hk)))))))
theorem un_mapSlot {s : State} {k : Fin 8} {f : JobSlot → JobSlot} : Unchanged [.regs, .jobs] s (State.mapSlot s k f) := by
  have hk := Unchanged.refl [.regs, .jobs] s
  unfold State.mapSlot
  exact un_setSlot.after sub_96 hk
theorem un_takePort {s : State} {d : Nat} : Unchanged [.regs] s (State.takePort s d) := by
  have hk := Unchanged.refl [.regs] s
  unfold State.takePort
  exact (by split; exacts [un_setFld.after sub_2 hk, hk])
theorem un_dropPort {s : State} {d : Nat} : Unchanged [.regs] s (State.dropPort s d) := by
  have hk := Unchanged.refl [.regs] s
  unfold State.dropPort
  exact un_foldl hk (fun x1_0 x1_1 x1_2 => (by split; exacts [un_setFld.after sub_2 x1_2, x1_2]))
theorem un_dropCoefs {s : State} {n : Ch} : Unchanged [.regs, .chans] s (State.dropCoefs s n) := by
  have hk := Unchanged.refl [.regs, .chans] s
  unfold State.dropCoefs
  exact un_mapChan.after sub_16 (un_keepRegs.after sub_15 hk)
theorem un_testStopped {s : State} {d : Nat} {k : Fin 8} : Unchanged [.regs, .bist, .chans] s (State.testStopped s d k) := by
  have hk := Unchanged.refl [.regs, .bist, .chans] s
  unfold State.testStopped
  exact (by (try dsimp only); split; exacts [un_mapDom.after sub_97 (un_when (un_with_bist mem_98 (un_setBit.after sub_99 (un_dropPort.after sub_99 hk))) (un_dropCoefs.after sub_97 (un_with_bist mem_98 (un_setBit.after sub_99 (un_dropPort.after sub_99 hk))))), un_showPwr.after sub_99 (un_when (un_with_bist mem_98 (un_setBit.after sub_99 (un_dropPort.after sub_99 hk))) (un_dropCoefs.after sub_97 (un_with_bist mem_98 (un_setBit.after sub_99 (un_dropPort.after sub_99 hk)))))])
theorem un_jobLeft {s : State} {k : Fin 8} {j : JobSlot} {st : JState} : Unchanged [.freeCtr, .regs, .heldWrites, .leases, .jrnl, .clk, .cmt, .trig, .bist, .host, .chans, .groups] s (State.jobLeft s k j st) := by
  have hk := Unchanged.refl [.freeCtr, .regs, .heldWrites, .leases, .jrnl, .clk, .cmt, .trig, .bist, .host, .chans, .groups] s
  unfold State.jobLeft
  exact (by split; exacts [(by split; exacts [un_sweepEnded.after sub_100 hk, hk]), (by split; exacts [un_testStopped.after sub_101 hk, (by split; exacts [un_intr.after sub_102 (un_setBit.after sub_102 hk), hk])])])
theorem un_endJob {s : State} {k : Fin 8} {st : JState} {err : Nat} : Unchanged [.freeCtr, .regs, .heldWrites, .leases, .jrnl, .jobs, .clk, .cmt, .trig, .bist, .host, .chans, .groups] s (State.endJob s k st err) := by
  have hk := Unchanged.refl [.freeCtr, .regs, .heldWrites, .leases, .jrnl, .jobs, .clk, .cmt, .trig, .bist, .host, .chans, .groups] s
  unfold State.endJob
  exact (by (try dsimp only); split; exacts [un_jobLeft.after sub_103 (un_intr.after sub_104 (un_setSlot.after sub_105 hk)), hk])
theorem un_endJobsOf {s : State} {n : Ch} {err : Nat} {spareEntry : Bool} : Unchanged [.freeCtr, .regs, .heldWrites, .leases, .jrnl, .jobs, .clk, .cmt, .trig, .bist, .host, .chans, .groups] s (State.endJobsOf s n err spareEntry) := by
  have hk := Unchanged.refl [.freeCtr, .regs, .heldWrites, .leases, .jrnl, .jobs, .clk, .cmt, .trig, .bist, .host, .chans, .groups] s
  unfold State.endJobsOf
  exact un_foldl hk (fun x1_0 x1_1 x1_2 => (by (try dsimp only); split; exacts [un_endJob.after sub_106 x1_2, x1_2]))
theorem un_jobRuns {s : State} {k : Fin 8} {j : JobSlot} : Unchanged [.freeCtr, .regs, .heldWrites, .leases, .jrnl, .clk, .cmt, .trig, .host, .chans, .groups] s (State.jobRuns s k j) := by
  have hk := Unchanged.refl [.freeCtr, .regs, .heldWrites, .leases, .jrnl, .clk, .cmt, .trig, .host, .chans, .groups] s
  unfold State.jobRuns
  exact (by split; exacts [(by (try dsimp only); split; exacts [un_settleLink.after sub_93 (un_mapDom.after sub_91 (un_takePort.after sub_90 hk)), un_takePort.after sub_90 hk]), (by split; exacts [(by split; exacts [(by split; exacts [hk, un_linkIdle.after sub_91 hk]), hk]), (by split; exacts [(by split; exacts [un_mapChan.after sub_92 hk, hk]), hk])])])
theorem un_startJob {s : State} {k : Fin 8} {dev : Bool} {typ : Byte} {target : Byte} {arg0 : Word} {arg1 : Word} : Unchanged [.freeCtr, .regs, .heldWrites, .leases, .jrnl, .jobs, .clk, .cmt, .trig, .bist, .host, .chans, .groups] s (State.startJob s k dev typ target arg0 arg1) := by
  have hk := Unchanged.refl [.freeCtr, .regs, .heldWrites, .leases, .jrnl, .jobs, .clk, .cmt, .trig, .bist, .host, .chans, .groups] s
  unfold State.startJob
  exact (by (try dsimp only); split; exacts [(by (try dsimp only); split; exacts [un_testStopped.after sub_107 (un_intr.after sub_104 (un_setSlot.after sub_105 (un_with_jobs mem_108 (hk)))), un_intr.after sub_104 (un_setSlot.after sub_105 (un_with_jobs mem_108 (hk)))]), (by (try dsimp only); split; exacts [un_jobRuns.after sub_109 (un_setSlot.after sub_105 (un_when (un_with_jobs mem_108 (hk)) (un_setBit.after sub_104 (un_with_jobs mem_108 (hk))))), un_setSlot.after sub_105 (un_when (un_with_jobs mem_108 (hk)) (un_setBit.after sub_104 (un_with_jobs mem_108 (hk))))])])
theorem un_devDispatch {s : State} : Unchanged [.freeCtr, .regs, .heldWrites, .leases, .jrnl, .jobs, .clk, .cmt, .trig, .bist, .host, .chans, .groups] s (State.devDispatch s) := by
  have hk := Unchanged.refl [.freeCtr, .regs, .heldWrites, .leases, .jrnl, .jobs, .clk, .cmt, .trig, .bist, .host, .chans, .groups] s
  unfold State.devDispatch
  exact (by split; exacts [(by split; exacts [hk, un_startJob.after sub_106 (un_jAppend.after sub_110 (un_setReg.after sub_104 (by split; exacts [un_with_jobs mem_108 (hk), un_devShow.after sub_110 (un_with_jobs mem_108 (hk))])))]), hk])
theorem un_devRequest {s : State} {typ : Byte} {target : Byte} {arg0 : Word} : Unchanged [.freeCtr, .regs, .heldWrites, .leases, .jrnl, .jobs, .clk, .cmt, .trig, .bist, .host, .chans, .groups] s (State.devRequest s typ target arg0) := by
  have hk := Unchanged.refl [.freeCtr, .regs, .heldWrites, .leases, .jrnl, .jobs, .clk, .cmt, .trig, .bist, .host, .chans, .groups] s
  unfold State.devRequest
  exact un_devDispatch.after sub_106 (un_showJobs.after sub_104 (un_with_jobs mem_108 (hk)))
theorem un_tookTurn {s : State} {k : Fin 8} : Unchanged [.jobs] s (State.tookTurn s k) := by
  have hk := Unchanged.refl [.jobs] s
  unfold State.tookTurn
  exact un_with_jobs mem_111 (hk)
theorem un_stepTaken {s : State} {k : Fin 8} : Unchanged [.regs, .jobs] s (State.stepTaken s k) := by
  have hk := Unchanged.refl [.regs, .jobs] s
  unfold State.stepTaken
  exact un_mapSlot.after sub_96 (un_tookTurn.after sub_112 hk)
theorem un_takeStep {L : List Part} {a s : State} {k : Fin 8} {f : State → State} (hL : [Part.regs, .jobs].all L.contains = true) (hk : Unchanged L a s) (hf : ∀ u, Unchanged L a u → Unchanged L a (f u)) : Unchanged L a (s.takeStep k f) := by
  unfold State.takeStep
  split
  · exact hf _ (un_stepTaken.after hL hk)
  · exact hk
theorem un_cmtCount {s : State} {a : Nat} : Unchanged [.regs] s (State.cmtCount s a) := by
  have hk := Unchanged.refl [.regs] s
  unfold State.cmtCount
  exact un_wrap32.after sub_2 hk
theorem un_showCmt {s : State} : Unchanged [.regs] s (State.showCmt s) := by
  have hk := Unchanged.refl [.regs] s
  unfold State.showCmt
  exact un_setFld.after sub_2 (un_forCh (un_forTg hk (fun x2_0 x2_1 x2_2 => un_setReg.after sub_2 x2_2)) (fun x1_0 x1_1 x1_2 => un_setFld.after sub_2 x1_2))
theorem un_expired {s : State} {c : Ch} {q : QComet} : Unchanged [.regs] s (State.expired s c q) := by
  have hk := Unchanged.refl [.regs] s
  unfold State.expired
  exact un_sat.after sub_2 (un_cmtCount.after sub_2 hk)
theorem un_emptyQueue {s : State} {c : Ch} : Unchanged [.regs, .cmt] s (State.emptyQueue s c) := by
  have hk := Unchanged.refl [.regs, .cmt] s
  unfold State.emptyQueue
  exact un_showCmt.after sub_113 (un_foldl (un_mapCmt.after sub_114 hk) (fun x1_0 x1_1 x1_2 => un_expired.after sub_113 x1_2))
theorem un_mapBuf {s : State} {n : Ch} {f : BufSt → BufSt} : Unchanged [.chans] s (State.mapBuf s n f) := by
  have hk := Unchanged.refl [.chans] s
  unfold State.mapBuf
  exact un_mapChan.after sub_4 hk
theorem un_countLrx {s : State} {n : Ch} {fs : List (List Blk)} : Unchanged [.regs] s (State.countLrx s n fs) := by
  have hk := Unchanged.refl [.regs] s
  unfold State.countLrx
  exact un_foldl hk (fun x1_0 x1_1 x1_2 => un_when (un_when (un_wide.after sub_2 (un_wide.after sub_2 x1_2)) (un_sat32.after sub_2 (un_wide.after sub_2 (un_wide.after sub_2 x1_2)))) (un_sat32.after sub_2 (un_when (un_wide.after sub_2 (un_wide.after sub_2 x1_2)) (un_sat32.after sub_2 (un_wide.after sub_2 (un_wide.after sub_2 x1_2))))))
theorem un_countLtx {s : State} {n : Ch} {fs : List (List Blk)} : Unchanged [.regs] s (State.countLtx s n fs) := by
  have hk := Unchanged.refl [.regs] s
  unfold State.countLtx
  exact un_foldl hk (fun x1_0 x1_1 x1_2 => un_when (un_wide.after sub_2 (un_wide.after sub_2 x1_2)) (un_sat32.after sub_2 (un_wide.after sub_2 (un_wide.after sub_2 x1_2))))
theorem un_ebufIn {s : State} {n : Ch} {l : List Blk} : Unchanged [.regs, .chans] s (State.ebufIn s n l) := by
  have hk := Unchanged.refl [.regs, .chans] s
  unfold State.ebufIn
  exact un_setFld.after sub_15 (un_mapBuf.after sub_16 (un_wide.after sub_15 hk))
theorem un_hostSend {s : State} {n : Ch} {l : List Blk} : Unchanged [.regs, .chans] s (State.hostSend s n l) := by
  have hk := Unchanged.refl [.regs, .chans] s
  unfold State.hostSend
  exact (by split; exacts [hk, un_mapBuf.after sub_16 (un_wide.after sub_15 hk)])
theorem un_rxDrop {s : State} {n : Ch} {k : Nat} : Unchanged [.regs] s (State.rxDrop s n k) := by
  have hk := Unchanged.refl [.regs] s
  unfold State.rxDrop
  exact un_cintIf.after sub_2 (un_wide.after sub_2 (un_wide.after sub_2 hk))
theorem un_hostTake {s : State} {n : Ch} {l : List Blk} {x : List Blk × List (List Blk)} : Unchanged [.regs, .chans] s (State.hostTake s n l x) := by
  have hk := Unchanged.refl [.regs, .chans] s
  unfold State.hostTake
  exact (by (try dsimp only); split; exacts [un_mapBuf.after sub_16 (un_rxDrop.after sub_15 hk), (by split; exacts [un_hostSend.after sub_57 (un_mapBuf.after sub_16 (un_rxDrop.after sub_15 hk)), un_hostSend.after sub_57 hk])])
theorem un_deliver {s : State} {n : Ch} {l : List Blk} : Unchanged [.regs, .chans] s (State.deliver s n l) := by
  have hk := Unchanged.refl [.regs, .chans] s
  unfold State.deliver
  exact (by (try dsimp only); split; exacts [un_mapChan.after sub_16 (un_countLrx.after sub_15 hk), (by split; exacts [un_mapBuf.after sub_16 (un_mapChan.after sub_16 (un_countLrx.after sub_15 hk)), un_when (un_hostTake.after sub_57 (un_mapChan.after sub_16 (un_countLrx.after sub_15 hk))) (un_ebufIn.after sub_57 (un_hostTake.after sub_57 (un_mapChan.after sub_16 (un_countLrx.after sub_15 hk))))])])
theorem un_rmDrop {s : State} {n : Ch} : Unchanged [.regs] s (State.rmDrop s n) := by
  have hk := Unchanged.refl [.regs] s
  unfold State.rmDrop
  exact un_cint.after sub_2 (un_wide.after sub_2 hk)
theorem un_rmPush {s : State} {n : Ch} {b : Blk} : Unchanged [.regs, .chans] s (State.rmPush s n b) := by
  have hk := Unchanged.refl [.regs, .chans] s
  unfold State.rmPush
  exact un_cintIf.after sub_15 (un_showRm.after sub_15 (un_mapBuf.after sub_16 hk))
theorem un_rmCancel {s : State} {n : Ch} : Unchanged [.regs, .chans] s (State.rmCancel s n) := by
  have hk := Unchanged.refl [.regs, .chans] s
  unfold State.rmCancel
  exact un_rmDrop.after sub_15 (un_showRm.after sub_15 (un_mapBuf.after sub_16 hk))
theorem un_hostBlock {s : State} {n : Ch} {b : Blk} : Unchanged [.regs, .chans] s (State.hostBlock s n b) := by
  have hk := Unchanged.refl [.regs, .chans] s
  unfold State.hostBlock
  exact (by (try dsimp only); split; exacts [un_showRm.after sub_15 (un_mapBuf.after sub_16 (by split; exacts [un_mapBuf.after sub_16 hk, (by split; exacts [(by split; exacts [un_rmCancel.after sub_57 (un_mapBuf.after sub_16 hk), un_rmPush.after sub_57 (un_mapBuf.after sub_16 hk)]), (by split; exacts [un_rmCancel.after sub_57 (un_mapBuf.after sub_16 hk), un_rmPush.after sub_57 (un_mapBuf.after sub_16 hk)])])])), (by split; exacts [(by (try dsimp only); split; exacts [(by split; exacts [un_rmDrop.after sub_15 (un_mapBuf.after sub_16 (un_wide.after sub_15 (un_mapBuf.after sub_16 hk))), un_rmPush.after sub_57 (un_mapBuf.after sub_16 (un_wide.after sub_15 (un_mapBuf.after sub_16 hk)))]), (by split; exacts [un_rmDrop.after sub_15 (un_mapBuf.after sub_16 (un_wide.after sub_15 (un_mapBuf.after sub_16 hk))), un_rmPush.after sub_57 (un_mapBuf.after sub_16 (un_wide.after sub_15 (un_mapBuf.after sub_16 hk)))])]), (by split; exacts [un_mapBuf.after sub_16 hk, (by split; exacts [un_wide.after sub_15 (un_mapBuf.after sub_16 hk), (by split; exacts [un_mapBuf.after sub_16 hk, un_rmPush.after sub_57 (un_mapBuf.after sub_16 hk)])])])])])
theorem un_hostFrame {s : State} {n : Ch} {f : HostIn} : Unchanged [.regs, .chans] s (State.hostFrame s n f) := by
  have hk := Unchanged.refl [.regs, .chans] s
  unfold State.hostFrame
  exact (by split; exacts [hk, un_foldl (un_mapBuf.after sub_16 hk) (fun x2_0 x2_1 x2_2 => un_hostBlock.after sub_57 x2_2)])
theorem un_sendPause {s : State} {n : Ch} {time : Nat} : Unchanged [.regs, .chans] s (State.sendPause s n time) := by
  have hk := Unchanged.refl [.regs, .chans] s
  unfold State.sendPause
  exact un_mapBuf.after sub_16 (un_wrap32.after sub_15 hk)
theorem un_xoff {s : State} {n : Ch} : Unchanged [.regs, .chans] s (State.xoff s n) := by
  have hk := Unchanged.refl [.regs, .chans] s
  unfold State.xoff
  exact un_mapBuf.after sub_16 (un_sendPause.after sub_57 hk)
theorem un_takeBlocks {s : State} {n : Ch} : Unchanged [.regs, .chans] s (State.takeBlocks s n) := by
  have hk := Unchanged.refl [.regs, .chans] s
  unfold State.takeBlocks
  exact (by (try dsimp only); split; exacts [hk, (by split; exacts [un_mapBuf.after sub_16 (un_setFld.after sub_15 (un_mapBuf.after sub_16 (un_ebufIn.after sub_57 hk))), un_showRm.after sub_15 (un_wide.after sub_15 (un_mapBuf.after sub_16 (un_ebufIn.after sub_57 hk)))])])
theorem un_ebufOut {s : State} {n : Ch} {k : Nat} : Unchanged [.regs, .chans] s (State.ebufOut s n k).1 := by
  have hk := Unchanged.refl [.regs, .chans] s
  unfold State.ebufOut
  exact un_setFld.after sub_15 (un_mapChan.after sub_16 (un_countLtx.after sub_15 (un_wide.after sub_15 hk)))
theorem un_fillOrbit {s : State} {n : Ch} : Unchanged [.regs, .chans] s (State.fillOrbit s n).1 := by
  have hk := Unchanged.refl [.regs, .chans] s
  unfold State.fillOrbit
  exact un_wide.after sub_15 (un_ebufOut.after sub_57 hk)
theorem un_sendStd {s : State} {n : Ch} : Unchanged [.regs, .chans] s (State.sendStd s n) := by
  have hk := Unchanged.refl [.regs, .chans] s
  unfold State.sendStd
  exact (by (try dsimp only); split; exacts [un_ebufOut.after sub_57 (un_takeBlocks.after sub_57 hk), (by (try dsimp only); split; exacts [un_mapChan.after sub_16 (un_ebufOut.after sub_57 (un_takeBlocks.after sub_57 hk)), un_wide.after sub_15 (un_mapChan.after sub_16 (un_ebufOut.after sub_57 (un_takeBlocks.after sub_57 hk)))])])
theorem un_tapFrame {s : State} {n : Ch} {f : List Blk} {room : Bool} {t : Nat × Nat × Nat} : Unchanged [.regs, .chans] s (State.tapFrame s n f room t) := by
  have hk := Unchanged.refl [.regs, .chans] s
  unfold State.tapFrame
  exact (by split; exacts [hk, (by split; exacts [un_mapBuf.after sub_16 (un_hostSend.after sub_57 (un_wide.after sub_15 hk)), un_mapBuf.after sub_16 (un_satInt.after sub_15 hk)])])
theorem un_relayFrame {s : State} {n : Ch} {f : List Blk} : Unchanged [.regs, .chans] s (State.relayFrame s n f) := by
  have hk := Unchanged.refl [.regs, .chans] s
  unfold State.relayFrame
  exact (by (try dsimp only); split; exacts [un_sat32.after sub_15 hk, (by split; exacts [un_sat32.after sub_15 hk, (by split; exacts [un_satInt.after sub_15 hk, (by split; exacts [hk, un_setFld.after sub_15 (un_mapBuf.after sub_16 (un_wide.after sub_15 hk))])])])])
theorem un_mapFec {s : State} {n : Ch} {f : FecSt → FecSt} : Unchanged [.chans] s (State.mapFec s n f) := by
  have hk := Unchanged.refl [.chans] s
  unfold State.mapFec
  exact un_mapChan.after sub_4 hk
theorem un_showEngines {s : State} {n : Ch} : Unchanged [.regs] s (State.showEngines s n) := by
  have hk := Unchanged.refl [.regs] s
  unfold State.showEngines
  exact un_setBit.after sub_2 (un_setBit.after sub_2 (un_setReg.after sub_2 hk))
theorem un_badCodeword {s : State} {n : Ch} : Unchanged [.freeCtr, .regs, .heldWrites, .leases, .jrnl, .clk, .cmt, .trig, .life, .host, .chans, .groups] s (State.badCodeword s n) := by
  have hk := Unchanged.refl [.freeCtr, .regs, .heldWrites, .leases, .jrnl, .clk, .cmt, .trig, .life, .host, .chans, .groups] s
  unfold State.badCodeword
  exact (by (try dsimp only); split; exacts [(by split; exacts [un_startFast.after sub_115 (un_dropLink.after sub_116 (un_sat32.after sub_117 (un_when (un_deliver.after sub_118 (un_mapChan.after sub_119 hk)) (un_showAdapt.after sub_117 (un_mapChan.after sub_119 (un_cint.after sub_117 (un_wrap32.after sub_117 (un_deliver.after sub_118 (un_mapChan.after sub_119 hk))))))))), un_when (un_deliver.after sub_118 (un_mapChan.after sub_119 hk)) (un_showAdapt.after sub_117 (un_mapChan.after sub_119 (un_cint.after sub_117 (un_wrap32.after sub_117 (un_deliver.after sub_118 (un_mapChan.after sub_119 hk))))))]), (by split; exacts [un_startFast.after sub_115 (un_dropLink.after sub_116 (un_sat32.after sub_117 (un_when (un_deliver.after sub_118 (un_mapChan.after sub_119 hk)) (un_showAdapt.after sub_117 (un_mapChan.after sub_119 (un_cint.after sub_117 (un_wrap32.after sub_117 (un_deliver.after sub_118 (un_mapChan.after sub_119 hk))))))))), un_when (un_deliver.after sub_118 (un_mapChan.after sub_119 hk)) (un_showAdapt.after sub_117 (un_mapChan.after sub_119 (un_cint.after sub_117 (un_wrap32.after sub_117 (un_deliver.after sub_118 (un_mapChan.after sub_119 hk))))))])])
theorem un_discardFlight {s : State} {n : Ch} : Unchanged [.freeCtr, .regs, .heldWrites, .leases, .jrnl, .clk, .cmt, .trig, .life, .host, .chans, .groups] s (State.discardFlight s n) := by
  have hk := Unchanged.refl [.freeCtr, .regs, .heldWrites, .leases, .jrnl, .clk, .cmt, .trig, .life, .host, .chans, .groups] s
  unfold State.discardFlight
  exact un_foldl (un_showEngines.after sub_117 (un_mapFec.after sub_119 (un_satInt.after sub_117 hk))) (fun x1_0 x1_1 x1_2 => un_badCodeword.after sub_120 x1_2)
theorem un_unitFenceActs {s : State} {n : Ch} : Unchanged [.freeCtr, .regs, .heldWrites, .leases, .jrnl, .clk, .cmt, .trig, .host, .chans, .groups] s (State.unitFenceActs s n) := by
  have hk := Unchanged.refl [.freeCtr, .regs, .heldWrites, .leases, .jrnl, .clk, .cmt, .trig, .host, .chans, .groups] s
  unfold State.unitFenceActs
  exact (by (try dsimp only); split; exacts [un_renegotiate.after sub_93 (un_mapFec.after sub_92 hk), un_mapFec.after sub_92 hk])
theorem un_engineBoundary {s : State} {n : Ch} : Unchanged [.chans] s (State.engineBoundary s n) := by
  have hk := Unchanged.refl [.chans] s
  unfold State.engineBoundary
  exact un_mapFec.after sub_4 hk
theorem un_markTg {s : State} {n : Ch} : Unchanged [.chans] s (State.markTg s n) := by
  have hk := Unchanged.refl [.chans] s
  unfold State.markTg
  exact un_mapChan.after sub_4 hk
theorem un_moveOne {s : State} {n : Ch} : Unchanged [.regs, .jrnl, .cmt, .trig, .chans, .groups] s (State.moveOne s n) := by
  have hk := Unchanged.refl [.regs, .jrnl, .cmt, .trig, .chans, .groups] s
  unfold State.moveOne
  exact un_showLoop.after sub_121 (un_showNu.after sub_121 (un_when (un_when (by split; exacts [un_showEngine.after sub_121 (un_devFld.after sub_122 (un_mapChan.after sub_123 (un_emptyQueue.after sub_124 hk))), un_showEngine.after sub_121 (un_mapKtl.after sub_123 (un_showEngine.after sub_121 (un_devFld.after sub_122 (un_mapChan.after sub_123 (un_emptyQueue.after sub_124 hk)))))]) (un_settleGroup.after sub_125 (by split; exacts [un_showEngine.after sub_121 (un_devFld.after sub_122 (un_mapChan.after sub_123 (un_emptyQueue.after sub_124 hk))), un_showEngine.after sub_121 (un_mapKtl.after sub_123 (un_showEngine.after sub_121 (un_devFld.after sub_122 (un_mapChan.after sub_123 (un_emptyQueue.after sub_124 hk)))))]))) (un_settleGroup.after sub_125 (un_when (by split; exacts [un_showEngine.after sub_121 (un_devFld.after sub_122 (un_mapChan.after sub_123 (un_emptyQueue.after sub_124 hk))), un_showEngine.after sub_121 (un_mapKtl.after sub_123 (un_showEngine.after sub_121 (un_devFld.after sub_122 (un_mapChan.after sub_123 (un_emptyQueue.after sub_124 hk)))))]) (un_settleGroup.after sub_125 (by split; exacts [un_showEngine.after sub_121 (un_devFld.after sub_122 (un_mapChan.after sub_123 (un_emptyQueue.after sub_124 hk))), un_showEngine.after sub_121 (un_mapKtl.after sub_123 (un_showEngine.after sub_121 (un_devFld.after sub_122 (un_mapChan.after sub_123 (un_emptyQueue.after sub_124 hk)))))]))))))
theorem un_followTg {s : State} {e : Ch} : Unchanged [.regs, .jrnl, .cmt, .trig, .chans, .groups] s (State.followTg s e) := by
  have hk := Unchanged.refl [.regs, .jrnl, .cmt, .trig, .chans, .groups] s
  unfold State.followTg
  exact (by (try dsimp only); split; exacts [un_moveOne.after sub_126 hk, hk])
theorem un_moveTg {s : State} {n : Ch} : Unchanged [.regs, .jrnl, .cmt, .trig, .chans, .groups] s (State.moveTg s n) := by
  have hk := Unchanged.refl [.regs, .jrnl, .cmt, .trig, .chans, .groups] s
  unfold State.moveTg
  exact un_followTg.after sub_126 (un_moveOne.after sub_126 hk)
theorem un_showSplit {s : State} {n : Ch} : Unchanged [.regs] s (State.showSplit s n) := by
  have hk := Unchanged.refl [.regs] s
  unfold State.showSplit
  exact un_when (un_setBit.after sub_2 hk) (un_intr.after sub_2 (un_setBit.after sub_2 hk))
theorem un_mirrorRly {s : State} {n : Ch} : Unchanged [.regs] s (State.mirrorRly s n) := by
  have hk := Unchanged.refl [.regs] s
  unfold State.mirrorRly
  exact un_setReg.after sub_2 hk
theorem un_setPair {s : State} {n : Ch} {v : Bool} : Unchanged [.freeCtr, .regs, .heldWrites, .leases, .jrnl, .clk, .cmt, .trig, .host, .chans, .groups] s (State.setPair s n v) := by
  have hk := Unchanged.refl [.freeCtr, .regs, .heldWrites, .leases, .jrnl, .clk, .cmt, .trig, .host, .chans, .groups] s
  unfold State.setPair
  exact (by (try dsimp only); split; exacts [un_when (un_devShow.after sub_127 (un_when (un_devShow.after sub_127 hk) (un_mapChan.after sub_92 (un_devShow.after sub_127 hk)))) (un_mapChan.after sub_92 (un_devShow.after sub_127 (un_when (un_devShow.after sub_127 hk) (un_mapChan.after sub_92 (un_devShow.after sub_127 hk))))), un_settleLink.after sub_93 (un_settleLink.after sub_93 (un_showLatency.after sub_90 (un_showLatency.after sub_90 (un_markTg.after sub_92 (un_markTg.after sub_92 (un_followTg.after sub_128 (un_showSplit.after sub_90 (un_showPartner.after sub_91 (un_showPartner.after sub_91 (un_setFld.after sub_90 (un_setFld.after sub_90 (un_when (un_devShow.after sub_127 (un_when (un_devShow.after sub_127 hk) (un_mapChan.after sub_92 (un_devShow.after sub_127 hk)))) (un_mapChan.after sub_92 (un_devShow.after sub_127 (un_when (un_devShow.after sub_127 hk) (un_mapChan.after sub_92 (un_devShow.after sub_127 hk)))))))))))))))))])
theorem un_settlePair {s : State} {n : Ch} : Unchanged [.freeCtr, .regs, .heldWrites, .leases, .jrnl, .clk, .cmt, .trig, .host, .chans, .groups] s (State.settlePair s n) := by
  have hk := Unchanged.refl [.freeCtr, .regs, .heldWrites, .leases, .jrnl, .clk, .cmt, .trig, .host, .chans, .groups] s
  unfold State.settlePair
  exact un_setPair.after sub_93 hk
theorem un_setAlarm {s : State} {st : Nat} : Unchanged [.regs, .jrnl] s (State.setAlarm s st) := by
  have hk := Unchanged.refl [.regs, .jrnl] s
  unfold State.setAlarm
  exact (by (try dsimp only); split; exacts [un_setReg.after sub_11 hk, un_devSet.after sub_12 hk])
theorem un_selectFault {s : State} {p : Page} {i : Nat} : Unchanged [.regs, .jrnl, .alrm] s (State.selectFault s p i) := by
  have hk := Unchanged.refl [.regs, .jrnl, .alrm] s
  unfold State.selectFault
  exact (by (try dsimp only); split; exacts [un_intr.after sub_129 (un_setAlarm.after sub_130 (un_with_alrm mem_131 (un_setReg.after sub_129 (un_sat32.after sub_129 hk)))), un_sat32.after sub_129 hk])
theorem un_showForced {s : State} {n : Ch} : Unchanged [.regs] s (State.showForced s n) := by
  have hk := Unchanged.refl [.regs] s
  unfold State.showForced
  exact un_setBit.after sub_2 hk
theorem un_showChanFence {s : State} {n : Ch} : Unchanged [.regs, .jrnl] s (State.showChanFence s n) := by
  have hk := Unchanged.refl [.regs, .jrnl] s
  unfold State.showChanFence
  exact un_showNf.after sub_11 (un_foldl hk (fun x1_0 x1_1 x1_2 => (by split; exacts [x1_2, un_devFld.after sub_12 x1_2])))
theorem un_chanFenceActs {s : State} {n : Ch} : Unchanged [.freeCtr, .regs, .heldWrites, .leases, .jrnl, .jobs, .clk, .cmt, .trig, .bist, .host, .chans, .groups] s (State.chanFenceActs s n) := by
  have hk := Unchanged.refl [.freeCtr, .regs, .heldWrites, .leases, .jrnl, .jobs, .clk, .cmt, .trig, .bist, .host, .chans, .groups] s
  unfold State.chanFenceActs
  exact un_when (un_showLf.after sub_104 (un_showEngine.after sub_104 (un_showPartner.after sub_132 (un_showPartner.after sub_132 (un_endJobsOf.after sub_106 (un_settleLink.after sub_109 (un_showForced.after sub_104 (un_showChanFence.after sub_110 hk)))))))) (un_settleGroup.after sub_133 (un_showLf.after sub_104 (un_showEngine.after sub_104 (un_showPartner.after sub_132 (un_showPartner.after sub_132 (un_endJobsOf.after sub_106 (un_settleLink.after sub_109 (un_showForced.after sub_104 (un_showChanFence.after sub_110 hk)))))))))
theorem un_pageFenceActs {s : State} {n : Ch} {p : ChPage} : Unchanged [.freeCtr, .regs, .heldWrites, .leases, .jrnl, .jobs, .clk, .cmt, .trig, .bist, .host, .chans, .groups] s (State.pageFenceActs s n p) := by
  have hk := Unchanged.refl [.freeCtr, .regs, .heldWrites, .leases, .jrnl, .jobs, .clk, .cmt, .trig, .bist, .host, .chans, .groups] s
  unfold State.pageFenceActs
  exact (by split; exacts [(by (try dsimp only); split; exacts [un_renegotiate.after sub_109 (un_setFld.after sub_104 (un_setBit.after sub_104 (un_setReg.after sub_104 (un_setPatSync.after sub_104 (un_devShow.after sub_110 (un_devShow.after sub_110 (un_foldl hk (fun x3_0 x3_1 x3_2 => (by (try dsimp only); split; exacts [un_endJob.after sub_106 x3_2, x3_2]))))))))), un_settleLink.after sub_109 (un_setFld.after sub_104 (un_setBit.after sub_104 (un_setReg.after sub_104 (un_setPatSync.after sub_104 (un_devShow.after sub_110 (un_devShow.after sub_110 (un_foldl hk (fun x3_0 x3_1 x3_2 => (by (try dsimp only); split; exacts [un_endJob.after sub_106 x3_2, x3_2])))))))))]), un_settlePair.after sub_109 hk, un_showLf.after sub_104 (un_settleLink.after sub_109 (un_setBit.after sub_104 hk)), un_when (un_unitFenceActs.after sub_109 hk) (un_renegotiate.after sub_109 (un_unitFenceActs.after sub_109 hk)), hk])
theorem un_chFenced {s : State} {n : Ch} {p : ChPage} {was : Bool} : Unchanged [.freeCtr, .regs, .heldWrites, .leases, .jrnl, .jobs, .clk, .cmt, .trig, .bist, .host, .chans, .groups] s (State.chFenced s n p was) := by
  have hk := Unchanged.refl [.freeCtr, .regs, .heldWrites, .leases, .jrnl, .jobs, .clk, .cmt, .trig, .bist, .host, .chans, .groups] s
  unfold State.chFenced
  exact (by split; exacts [un_pageFenceActs.after sub_106 (un_chanFenceActs.after sub_106 hk), un_pageFenceActs.after sub_106 hk])
theorem un_fenceCh {s : State} {n : Ch} {p : ChPage} : Unchanged [.freeCtr, .regs, .heldWrites, .leases, .jrnl, .jobs, .clk, .cmt, .trig, .bist, .host, .chans, .groups] s (State.fenceCh s n p) := by
  have hk := Unchanged.refl [.freeCtr, .regs, .heldWrites, .leases, .jrnl, .jobs, .clk, .cmt, .trig, .bist, .host, .chans, .groups] s
  unfold State.fenceCh
  exact (by split; exacts [hk, un_chFenced.after sub_106 (un_devFld.after sub_110 hk)])
theorem un_fenceChannel {s : State} {n : Ch} : Unchanged [.freeCtr, .regs, .heldWrites, .leases, .jrnl, .jobs, .clk, .cmt, .trig, .bist, .host, .chans, .groups] s (State.fenceChannel s n) := by
  have hk := Unchanged.refl [.freeCtr, .regs, .heldWrites, .leases, .jrnl, .jobs, .clk, .cmt, .trig, .bist, .host, .chans, .groups] s
  unfold State.fenceChannel
  exact un_fenceCh.after sub_106 hk
theorem un_fenceUnit {s : State} {n : Ch} {k : Nat} : Unchanged [.freeCtr, .regs, .heldWrites, .leases, .jrnl, .clk, .cmt, .trig, .host, .chans, .groups] s (State.fenceUnit s n k) := by
  have hk := Unchanged.refl [.freeCtr, .regs, .heldWrites, .leases, .jrnl, .clk, .cmt, .trig, .host, .chans, .groups] s
  unfold State.fenceUnit
  exact (by split; exacts [hk, un_unitFenceActs.after sub_93 (un_devFld.after sub_127 hk)])
theorem un_recordFault {s : State} {p : Page} {i : Nat} : Unchanged [.regs] s (State.recordFault s p i) := by
  have hk := Unchanged.refl [.regs] s
  unfold State.recordFault
  exact un_when (un_setBit.after sub_2 hk) (un_intr.after sub_2 (un_setBit.after sub_2 hk))
theorem un_detectCh {s : State} {n : Ch} {p : ChPage} {i : Nat} : Unchanged [.freeCtr, .regs, .heldWrites, .leases, .jrnl, .jobs, .clk, .cmt, .trig, .bist, .alrm, .host, .chans, .groups] s (State.detectCh s n p i) := by
  have hk := Unchanged.refl [.freeCtr, .regs, .heldWrites, .leases, .jrnl, .jobs, .clk, .cmt, .trig, .bist, .alrm, .host, .chans, .groups] s
  unfold State.detectCh
  exact (by split; exacts [hk, un_when (by split; exacts [un_recordFault.after sub_134 hk, (by split; exacts [un_fenceUnit.after sub_135 (un_recordFault.after sub_134 hk), (by split; exacts [un_fenceCh.after sub_136 (un_recordFault.after sub_134 hk), un_recordFault.after sub_134 hk])])]) (un_selectFault.after sub_137 (by split; exacts [un_recordFault.after sub_134 hk, (by split; exacts [un_fenceUnit.after sub_135 (un_recordFault.after sub_134 hk), (by split; exacts [un_fenceCh.after sub_136 (un_recordFault.after sub_134 hk), un_recordFault.after sub_134 hk])])]))])
theorem un_mapTrim {s : State} {n : Ch} {f : TrimSt → TrimSt} : Unchanged [.chans] s (State.mapTrim s n f) := by
  have hk := Unchanged.refl [.chans] s
  unfold State.mapTrim
  exact un_mapChan.after sub_4 hk
theorem un_mapRx {s : State} {n : Ch} {f : RxSt → RxSt} : Unchanged [.chans] s (State.mapRx s n f) := by
  have hk := Unchanged.refl [.chans] s
  unfold State.mapRx
  exact un_mapChan.after sub_4 hk
theorem un_showMaps {s : State} {n : Ch} {j : Bool} : Unchanged [.regs, .jrnl] s (State.showMaps s n j) := by
  have hk := Unchanged.refl [.regs, .jrnl] s
  unfold State.showMaps
  with_reducible (repeat' first | exact hk | assumption | refine un_setFld.after sub_11 ?_ | refine un_devSet.after sub_12 ?_ | refine un_setReg.after sub_11 ?_ | apply un_foldl | split | dsimp only | intro _)
theorem un_showTrim {s : State} {n : Ch} {pend : Bool} : Unchanged [.regs] s (State.showTrim s n pend) := by
  have hk := Unchanged.refl [.regs] s
  unfold State.showTrim
  exact un_setFld.after sub_2 (un_setFld.after sub_2 hk)
theorem un_trimCounts {s : State} {n : Ch} : Unchanged [.regs, .jrnl, .chans] s (State.trimCounts s n) := by
  have hk := Unchanged.refl [.regs, .jrnl, .chans] s
  unfold State.trimCounts
  exact un_intr.after sub_45 (un_wrap32.after sub_45 (un_devSet.after sub_47 (un_mapTrim.after sub_46 hk)))
theorem un_showBalance {s : State} {n : Ch} : Unchanged [.regs, .jrnl] s (State.showBalance s n) := by
  have hk := Unchanged.refl [.regs, .jrnl] s
  unfold State.showBalance
  exact un_when hk (un_devFld.after sub_12 hk)
theorem un_trimOn {s : State} {n : Ch} : Unchanged [.regs, .jrnl, .chans] s (State.trimOn s n) := by
  have hk := Unchanged.refl [.regs, .jrnl, .chans] s
  unfold State.trimOn
  exact (by split; exacts [hk, un_showEcl.after sub_48 (un_trimCounts.after sub_49 (un_showLatency.after sub_45 (un_showMaps.after sub_47 (un_showBalance.after sub_47 (un_when (un_setFld.after sub_45 (un_mapRx.after sub_46 (un_mapTrim.after sub_46 hk))) (un_setFld.after sub_45 (un_setFld.after sub_45 (un_mapRx.after sub_46 (un_mapTrim.after sub_46 hk)))))))))])
theorem un_trimAsk {s : State} {n : Ch} : Unchanged [.regs, .chans] s (State.trimAsk s n) := by
  have hk := Unchanged.refl [.regs, .chans] s
  unfold State.trimAsk
  exact un_showEcl.after sub_57 (un_mapTrim.after sub_16 hk)
theorem un_trimEvaluate {s : State} {n : Ch} : Unchanged [.regs, .chans] s (State.trimEvaluate s n) := by
  have hk := Unchanged.refl [.regs, .chans] s
  unfold State.trimEvaluate
  exact (by split; exacts [hk, (by (try dsimp only); split; exacts [un_showEcl.after sub_57 (un_showTrim.after sub_15 (un_mapTrim.after sub_16 (un_mapTrim.after sub_16 (un_setFld.after sub_15 hk)))), (by (try dsimp only); split; exacts [un_trimAsk.after sub_57 (un_showTrim.after sub_15 (un_mapTrim.after sub_16 (un_mapTrim.after sub_16 (un_setFld.after sub_15 hk)))), un_showTrim.after sub_15 (un_mapTrim.after sub_16 (un_mapTrim.after sub_16 (un_setFld.after sub_15 hk)))])])])
theorem un_refreshSpares {s : State} {n : Ch} : Unchanged [.regs, .chans] s (State.refreshSpares s n) := by
  have hk := Unchanged.refl [.regs, .chans] s
  unfold State.refreshSpares
  exact un_when (un_mapRx.after sub_16 hk) (un_setFld.after sub_15 (un_mapRx.after sub_16 hk))
theorem un_trimRx {s : State} {n : Ch} {rx : List Int} {k : Nat} : Unchanged [.regs, .jrnl, .chans] s (State.trimRx s n rx k) := by
  have hk := Unchanged.refl [.regs, .jrnl, .chans] s
  unfold State.trimRx
  exact un_showLatency.after sub_45 (un_cintIf.after sub_45 (un_showMaps.after sub_47 (un_showBalance.after sub_47 (un_refreshSpares.after sub_48 (un_mapRx.after sub_46 (un_mapTrim.after sub_46 hk))))))
theorem un_trimTx {s : State} {n : Ch} {tx : List Int} {k : Nat} : Unchanged [.regs, .jrnl, .chans] s (State.trimTx s n tx k) := by
  have hk := Unchanged.refl [.regs, .jrnl, .chans] s
  unfold State.trimTx
  exact un_showLatency.after sub_45 (un_showMaps.after sub_47 (un_when (un_mapRx.after sub_46 (un_mapTrim.after sub_46 hk)) (un_cint.after sub_45 (un_setFld.after sub_45 (un_mapRx.after sub_46 (un_mapTrim.after sub_46 hk))))))
theorem un_trimApplyRx {s : State} {n : Ch} : Unchanged [.regs, .jrnl, .chans] s (State.trimApplyRx s n) := by
  have hk := Unchanged.refl [.regs, .jrnl, .chans] s
  unfold State.trimApplyRx
  exact (by (try dsimp only); split; exacts [hk, un_showEcl.after sub_48 (un_trimCounts.after sub_49 (un_trimRx.after sub_49 (un_mapTrim.after sub_46 hk))), (by split; exacts [hk, un_showEcl.after sub_48 (by split; exacts [un_trimRx.after sub_49 (un_mapTrim.after sub_46 hk), un_trimCounts.after sub_49 (un_trimRx.after sub_49 (un_mapTrim.after sub_46 hk))])])])
theorem un_trimApplyTx {s : State} {n : Ch} : Unchanged [.regs, .jrnl, .chans] s (State.trimApplyTx s n) := by
  have hk := Unchanged.refl [.regs, .jrnl, .chans] s
  unfold State.trimApplyTx
  exact (by (try dsimp only); split; exacts [hk, un_showEcl.after sub_48 (un_trimCounts.after sub_49 (un_trimTx.after sub_49 (un_mapTrim.after sub_46 hk))), (by split; exacts [hk, un_showEcl.after sub_48 (by split; exacts [un_trimTx.after sub_49 (un_mapTrim.after sub_46 hk), un_trimCounts.after sub_49 (un_trimTx.after sub_49 (un_mapTrim.after sub_46 hk))])])])
theorem un_mapLink {s : State} {n : Ch} {f : LinkSt → LinkSt} : Unchanged [.chans] s (State.mapLink s n f) := by
  have hk := Unchanged.refl [.chans] s
  unfold State.mapLink
  exact un_mapChan.after sub_4 hk
theorem un_showSsc {s : State} {n : Ch} {ssc : Bool} {lp2 : Word} {leader : Bool} : Unchanged [.regs, .chans] s (State.showSsc s n ssc lp2 leader) := by
  have hk := Unchanged.refl [.regs, .chans] s
  unfold State.showSsc
  exact un_cintIf.after sub_15 (un_mapChan.after sub_16 (un_setReg.after sub_15 hk))
theorem un_startCold {s : State} {n : Ch} : Unchanged [.regs, .jrnl, .life, .chans] s (State.startCold s n) := by
  have hk := Unchanged.refl [.regs, .jrnl, .life, .chans] s
  unfold State.startCold
  exact un_retarget.after sub_77 (un_applyTiming.after sub_78 (un_settleEngines.after sub_79 (by split; exacts [un_mapChan.after sub_80 (un_mapLink.after sub_80 (un_setTrain.after sub_78 (un_lifeAdd.after sub_81 (un_sat32.after sub_78 hk)))), un_setReg.after sub_78 (un_setReg.after sub_78 (un_mapChan.after sub_80 (un_mapLink.after sub_80 (un_setTrain.after sub_78 (un_lifeAdd.after sub_81 (un_sat32.after sub_78 hk))))))])))
theorem un_negotiated {s : State} {n : Ch} {lpStd : BitVec 5} {lp : Option (Word × Word)} {leader : Bool} {fault : Bool} {lpNonce : BitVec 5} : Unchanged [.freeCtr, .regs, .jrnl, .clk, .life, .chans] s (State.negotiated s n lpStd lp leader fault lpNonce) := by
  have hk := Unchanged.refl [.freeCtr, .regs, .jrnl, .clk, .life, .chans] s
  unfold State.negotiated
  with_reducible (repeat' first | exact hk | assumption | refine un_startNeg.after sub_83 ?_ | refine un_showSsc.after sub_138 ?_ | refine un_setSpread.after sub_139 ?_ | refine un_mapLink.after sub_140 ?_ | refine un_devShow.after sub_141 ?_ | refine un_setReg.after sub_142 ?_ | refine un_startCold.after sub_82 ?_ | split | dsimp only | intro _)
theorem un_showMse {s : State} {n : Ch} {mean : Rat} : Unchanged [.regs, .chans] s (State.showMse s n mean) := by
  have hk := Unchanged.refl [.regs, .chans] s
  unfold State.showMse
  exact un_mapChan.after sub_16 (un_setReg.after sub_15 (un_setFld.after sub_15 (un_setFld.after sub_15 hk)))
theorem un_takeMse {s : State} {n : Ch} {errs : List Rat} : Unchanged [.regs, .chans] s (State.takeMse s n errs) := by
  have hk := Unchanged.refl [.regs, .chans] s
  unfold State.takeMse
  exact un_when hk (un_showMse.after sub_57 hk)
theorem un_transmit {s : State} {n : Ch} {o : OrbitOut} : Unchanged [.chans] s (State.transmit s n o) := by
  have hk := Unchanged.refl [.chans] s
  unfold State.transmit
  exact un_mapChan.after sub_4 hk
theorem un_sendQuietEcho {s : State} {n : Ch} : Unchanged [.chans] s (State.sendQuietEcho s n) := by
  have hk := Unchanged.refl [.chans] s
  unfold State.sendQuietEcho
  exact un_transmit.after sub_4 (un_mapChan.after sub_4 hk)
theorem un_sendTraining {s : State} {n : Ch} : Unchanged [.chans] s (State.sendTraining s n) := by
  have hk := Unchanged.refl [.chans] s
  unfold State.sendTraining
  exact un_transmit.after sub_4 (un_mapChan.after sub_4 hk)
theorem un_takeMark {s : State} {n : Ch} {found : Bool} : Unchanged [.freeCtr, .regs, .heldWrites, .leases, .jrnl, .clk, .cmt, .trig, .life, .host, .chans, .groups] s (State.takeMark s n found) := by
  have hk := Unchanged.refl [.freeCtr, .regs, .heldWrites, .leases, .jrnl, .clk, .cmt, .trig, .life, .host, .chans, .groups] s
  unfold State.takeMark
  exact (by split; exacts [un_mapLink.after sub_119 hk, (by (try dsimp only); split; exacts [un_startFast.after sub_115 (un_dropLink.after sub_116 (un_sat32.after sub_117 (un_mapLink.after sub_119 (un_satInt.after sub_117 hk)))), un_mapLink.after sub_119 (un_satInt.after sub_117 hk)])])
theorem un_takeTsw {s : State} {n : Ch} {w : BitVec 16} : Unchanged [.freeCtr, .regs, .jrnl, .clk, .chans] s (State.takeTsw s n w) := by
  have hk := Unchanged.refl [.freeCtr, .regs, .jrnl, .clk, .chans] s
  unfold State.takeTsw
  exact (by (try dsimp only); split; exacts [un_mapLink.after sub_84 hk, (by split; exacts [un_failTrain.after sub_143 (un_mapLink.after sub_84 hk), (by split; exacts [(by split; exacts [(by split; exacts [(by split; exacts [un_failTrain.after sub_143 (un_mapLink.after sub_84 hk), un_mapLink.after sub_84 hk]), (by split; exacts [un_failTrain.after sub_143 (un_mapLink.after sub_84 hk), un_mapLink.after sub_84 hk])]), (by split; exacts [(by split; exacts [un_failTrain.after sub_143 (un_mapLink.after sub_84 hk), un_mapLink.after sub_84 hk]), (by split; exacts [un_failTrain.after sub_143 (un_mapLink.after sub_84 hk), un_mapLink.after sub_84 hk])])]), (by split; exacts [(by split; exacts [un_failTrain.after sub_143 (un_mapLink.after sub_84 hk), un_mapLink.after sub_84 hk]), (by split; exacts [un_failTrain.after sub_143 (un_mapLink.after sub_84 hk), un_mapLink.after sub_84 hk])])])])])
theorem un_nextPhase {s : State} {n : Ch} : Unchanged [.regs, .chans] s (State.nextPhase s n) := by
  have hk := Unchanged.refl [.regs, .chans] s
  unfold State.nextPhase
  exact (by (try dsimp only); split; exacts [un_when (un_mapChan.after sub_16 (un_enterPhase.after sub_57 hk)) (un_setReg.after sub_15 (un_mapChan.after sub_16 (un_enterPhase.after sub_57 hk))), un_enterPhase.after sub_57 hk])
theorem un_phase4 {s : State} {n : Ch} : Unchanged [.regs, .jrnl, .chans] s (State.phase4 s n) := by
  have hk := Unchanged.refl [.regs, .jrnl, .chans] s
  unfold State.phase4
  exact (by (try dsimp only); split; exacts [(by split; exacts [(by (try dsimp only); split; exacts [un_comeUp.after sub_49 (un_mapChan.after sub_46 (un_mapLink.after sub_46 hk)), un_mapChan.after sub_46 (un_mapLink.after sub_46 hk)]), hk]), (by split; exacts [un_comeUp.after sub_49 hk, hk])])
theorem un_anEnable {s : State} {n : Ch} : Unchanged [.freeCtr, .regs, .clk, .chans] s (State.anEnable s n) := by
  have hk := Unchanged.refl [.freeCtr, .regs, .clk, .chans] s
  unfold State.anEnable
  exact (by split; exacts [hk, un_startNeg.after sub_144 hk])
theorem un_anDisable {s : State} {n : Ch} : Unchanged [.regs, .heldWrites, .leases, .jrnl, .cmt, .trig, .host, .chans, .groups] s (State.anDisable s n) := by
  have hk := Unchanged.refl [.regs, .heldWrites, .leases, .jrnl, .cmt, .trig, .host, .chans, .groups] s
  unfold State.anDisable
  exact un_setOrbitLock.after sub_65 (un_linkIdle.after sub_66 (un_dropLink.after sub_71 hk))
theorem un_startLoop {s : State} {n : Ch} : Unchanged [.regs, .heldWrites, .leases, .jrnl, .clk, .cmt, .trig, .host, .chans, .groups] s (State.startLoop s n) := by
  have hk := Unchanged.refl [.regs, .heldWrites, .leases, .jrnl, .clk, .cmt, .trig, .host, .chans, .groups] s
  unfold State.startLoop
  exact un_retarget.after sub_145 (un_applyTiming.after sub_146 (un_settleEngines.after sub_147 (un_mapChan.after sub_148 (un_enterPhase.after sub_145 (un_setTrain.after sub_146 (un_setSpread.after sub_149 (un_setOrbitLock.after sub_146 (un_linkIdle.after sub_145 (un_dropLink.after sub_150 hk)))))))))
theorem un_putCoef {s : State} {n : Ch} {q : RxRun} : Unchanged [.regs, .chans] s (State.putCoef s n q) := by
  have hk := Unchanged.refl [.regs, .chans] s
  unfold State.putCoef
  exact un_foldl (un_foldl (un_mapRx.after sub_16 hk) (fun x2_0 x2_1 x2_2 => un_setFld.after sub_15 x2_2)) (fun x1_0 x1_1 x1_2 => un_setFld.after sub_15 x1_2)
theorem un_takePower {s : State} {n : Ch} {rx : Int} {clips : Nat} : Unchanged [.regs] s (State.takePower s n rx clips) := by
  have hk := Unchanged.refl [.regs] s
  unfold State.takePower
  exact un_showLow.after sub_2 (un_cintIf.after sub_2 (un_setReg.after sub_2 (un_setReg.after sub_2 hk)))
theorem un_measurePower {s : State} {n : Ch} {p : RxPar} {m : RxMeas} {clips : Nat} : Unchanged [.regs] s (State.measurePower s n p m clips) := by
  have hk := Unchanged.refl [.regs] s
  unfold State.measurePower
  exact un_when hk (un_takePower.after sub_2 hk)
theorem un_measureEcho {s : State} {n : Ch} {p : RxPar} {m : RxMeas} : Unchanged [.regs] s (State.measureEcho s n p m) := by
  have hk := Unchanged.refl [.regs] s
  unfold State.measureEcho
  exact un_when hk (un_setFld.after sub_2 hk)
theorem un_measureResidual {s : State} {n : Ch} {p : RxPar} {q : RxRun} : Unchanged [.regs] s (State.measureResidual s n p q) := by
  have hk := Unchanged.refl [.regs] s
  unfold State.measureResidual
  exact (by (try dsimp only); split; exacts [un_when hk (un_setReg.after sub_2 hk), un_when hk (un_setReg.after sub_2 hk)])
theorem un_stdMse {s : State} {n : Ch} {errs : List Rat} : Unchanged [.regs, .chans] s (State.stdMse s n errs) := by
  have hk := Unchanged.refl [.regs, .chans] s
  unfold State.stdMse
  exact un_foldl hk (fun x1_0 x1_1 x1_2 => (by (try dsimp only); split; exacts [un_showMse.after sub_57 (un_mapRx.after sub_16 x1_2), un_mapRx.after sub_16 x1_2]))
theorem un_setCorr {s : State} {n : Ch} {e : Nat} {c : Rat × Rat} : Unchanged [.chans] s (State.setCorr s n e c) := by
  have hk := Unchanged.refl [.chans] s
  unfold State.setCorr
  exact un_mapRx.after sub_4 hk
theorem un_adaptSlices {s : State} {n : Ch} {p : RxPar} {codes : List Byte} : Unchanged [.chans] s (State.adaptSlices s n p codes) := by
  have hk := Unchanged.refl [.chans] s
  unfold State.adaptSlices
  exact (by split; exacts [hk, un_foldl hk (fun x2_0 x2_1 x2_2 => un_setCorr.after sub_4 x2_2)])
theorem un_receive {s : State} {n : Ch} {m : RxMeas} {clips : Nat} : Unchanged [.regs, .chans] s (State.receive s n m clips) := by
  have hk := Unchanged.refl [.regs, .chans] s
  unfold State.receive
  exact un_when (un_mapRx.after sub_16 (un_putCoef.after sub_57 (un_adaptSlices.after sub_16 (un_when (un_measureResidual.after sub_15 (un_measureEcho.after sub_15 (un_measurePower.after sub_15 hk))) (un_stdMse.after sub_57 (un_measureResidual.after sub_15 (un_measureEcho.after sub_15 (un_measurePower.after sub_15 hk)))))))) (un_showAdapt.after sub_15 (un_mapRx.after sub_16 (un_putCoef.after sub_57 (un_adaptSlices.after sub_16 (un_when (un_measureResidual.after sub_15 (un_measureEcho.after sub_15 (un_measurePower.after sub_15 hk))) (un_stdMse.after sub_57 (un_measureResidual.after sub_15 (un_measureEcho.after sub_15 (un_measurePower.after sub_15 hk)))))))))
theorem un_trimWaits {s : State} {n : Ch} : Unchanged [.regs, .chans] s (State.trimWaits s n) := by
  have hk := Unchanged.refl [.regs, .chans] s
  unfold State.trimWaits
  exact un_showEcl.after sub_57 (un_setBit.after sub_15 (un_mapTrim.after sub_16 hk))
theorem un_sliceFails {s : State} {n : Ch} {e : Nat} : Unchanged [.freeCtr, .regs, .heldWrites, .leases, .jrnl, .jobs, .clk, .cmt, .trig, .bist, .alrm, .host, .chans, .groups] s (State.sliceFails s n e) := by
  have hk := Unchanged.refl [.freeCtr, .regs, .heldWrites, .leases, .jrnl, .jobs, .clk, .cmt, .trig, .bist, .alrm, .host, .chans, .groups] s
  unfold State.sliceFails
  exact (by (try dsimp only); split; exacts [un_showMaps.after sub_151 (un_refreshSpares.after sub_152 (un_mapRx.after sub_153 (un_detectCh.after sub_154 hk))), (by (try dsimp only); split; exacts [un_trimWaits.after sub_152 (un_mapRx.after sub_153 (un_mapRx.after sub_153 (un_showMaps.after sub_151 (un_refreshSpares.after sub_152 (un_mapRx.after sub_153 (un_detectCh.after sub_154 hk)))))), un_fenceChannel.after sub_136 (un_mapRx.after sub_153 (un_showMaps.after sub_151 (un_refreshSpares.after sub_152 (un_mapRx.after sub_153 (un_detectCh.after sub_154 hk)))))])])
theorem un_segFails {s : State} {n : Ch} {e : Nat} : Unchanged [.freeCtr, .regs, .heldWrites, .leases, .jrnl, .jobs, .clk, .cmt, .trig, .bist, .alrm, .host, .chans, .groups] s (State.segFails s n e) := by
  have hk := Unchanged.refl [.freeCtr, .regs, .heldWrites, .leases, .jrnl, .jobs, .clk, .cmt, .trig, .bist, .alrm, .host, .chans, .groups] s
  unfold State.segFails
  exact (by (try dsimp only); split; exacts [un_showMaps.after sub_151 (un_mapRx.after sub_153 (un_detectCh.after sub_154 hk)), (by (try dsimp only); split; exacts [un_trimWaits.after sub_152 (un_mapRx.after sub_153 (un_mapRx.after sub_153 (un_showMaps.after sub_151 (un_mapRx.after sub_153 (un_detectCh.after sub_154 hk))))), un_fenceChannel.after sub_136 (un_mapRx.after sub_153 (un_showMaps.after sub_151 (un_mapRx.after sub_153 (un_detectCh.after sub_154 hk))))])])
theorem un_setTrLock {s : State} {n : Ch} {b : Bool} : Unchanged [.regs] s (State.setTrLock s n b) := by
  have hk := Unchanged.refl [.regs] s
  unfold State.setTrLock
  exact un_when hk (un_cint.after sub_2 (un_setBit.after sub_2 hk))
theorem un_trEstimate {s : State} {n : Ch} {e : Rat} : Unchanged [.regs, .chans] s (State.trEstimate s n e) := by
  have hk := Unchanged.refl [.regs, .chans] s
  unfold State.trEstimate
  exact (by (try dsimp only); split; exacts [un_setTrLock.after sub_15 (un_mapRx.after sub_16 (un_mapRx.after sub_16 hk)), (by split; exacts [un_setTrLock.after sub_15 (un_mapRx.after sub_16 (un_mapRx.after sub_16 hk)), un_mapRx.after sub_16 (un_mapRx.after sub_16 hk)])])
theorem un_showTiming {s : State} {n : Ch} : Unchanged [.regs] s (State.showTiming s n) := by
  have hk := Unchanged.refl [.regs] s
  unfold State.showTiming
  exact un_setFld.after sub_2 (un_setFld.after sub_2 hk)
theorem un_trTake {s : State} {n : Ch} {e : Option Rat} : Unchanged [.regs, .chans] s (State.trTake s n e) := by
  have hk := Unchanged.refl [.regs, .chans] s
  unfold State.trTake
  exact (by split; exacts [un_trEstimate.after sub_57 hk, un_mapRx.after sub_16 hk])
theorem un_nfRise {s : State} {n : Ch} {bands : List Int} : Unchanged [.regs] s (State.nfRise s n bands) := by
  have hk := Unchanged.refl [.regs] s
  unfold State.nfRise
  exact (by split; exacts [(by split; exacts [(by split; exacts [hk, un_cintIf.after sub_2 (un_setReg.after sub_2 hk)]), hk]), hk])
theorem un_putBands {s : State} {n : Ch} {bands : List Int} : Unchanged [.regs] s (State.putBands s n bands) := by
  have hk := Unchanged.refl [.regs] s
  unfold State.putBands
  exact un_foldl hk (fun x1_0 x1_1 x1_2 => un_setReg.after sub_2 x1_2)
theorem un_gainWritten {s : State} {n : Ch} : Unchanged [.regs, .chans] s (State.gainWritten s n) := by
  have hk := Unchanged.refl [.regs, .chans] s
  unfold State.gainWritten
  exact (by split; exacts [un_showEcl.after sub_57 (un_setBit.after sub_15 hk), un_applyGain.after sub_57 hk])
theorem un_tapsWritten {s : State} {n : Ch} {old : Word} : Unchanged [.regs, .chans] s (State.tapsWritten s n old) := by
  have hk := Unchanged.refl [.regs, .chans] s
  unfold State.tapsWritten
  exact (by split; exacts [hk, (by split; exacts [un_showEcl.after sub_57 (un_mapRx.after sub_16 hk), un_applyTaps.after sub_57 hk])])
theorem un_timingWritten {s : State} {n : Ch} {old : Word} : Unchanged [.regs, .chans] s (State.timingWritten s n old) := by
  have hk := Unchanged.refl [.regs, .chans] s
  unfold State.timingWritten
  exact (by split; exacts [hk, un_showEcl.after sub_57 (un_setBit.after sub_15 hk)])
theorem un_listenWritten {s : State} {n : Ch} {old : Word} : Unchanged [.freeCtr, .regs, .clk, .chans] s (State.listenWritten s n old) := by
  have hk := Unchanged.refl [.freeCtr, .regs, .clk, .chans] s
  unfold State.listenWritten
  exact (by (try dsimp only); split; exacts [un_showNf.after sub_76 (un_setOrbitLock.after sub_76 (un_linkIdle.after sub_72 hk)), (by split; exacts [un_startNeg.after sub_144 (un_showNf.after sub_76 hk), hk])])
theorem un_mapEcl {s : State} {n : Ch} {f : EclSt → EclSt} : Unchanged [.chans] s (State.mapEcl s n f) := by
  have hk := Unchanged.refl [.chans] s
  unfold State.mapEcl
  exact un_mapChan.after sub_4 hk
theorem un_mapLine {s : State} {n : Ch} {f : LineSt → LineSt} : Unchanged [.chans] s (State.mapLine s n f) := by
  have hk := Unchanged.refl [.chans] s
  unfold State.mapLine
  exact un_mapChan.after sub_4 hk
theorem un_eclStart {s : State} {n : Ch} {start : Word} {id : Byte} : Unchanged [.regs, .jrnl, .chans] s (State.eclStart s n start id) := by
  have hk := Unchanged.refl [.regs, .jrnl, .chans] s
  unfold State.eclStart
  exact un_trimApplyTx.after sub_49 (un_setReg.after sub_45 (un_setFld.after sub_45 (un_setBit.after sub_45 (un_mapLine.after sub_46 (un_mapEcl.after sub_46 hk)))))
theorem un_eclReceive {s : State} {n : Ch} : Unchanged [.regs, .jrnl, .chans] s (State.eclReceive s n) := by
  have hk := Unchanged.refl [.regs, .jrnl, .chans] s
  unfold State.eclReceive
  exact un_showAdapt.after sub_45 (un_showEcl.after sub_48 (un_mapChan.after sub_46 (un_when (un_when (un_when (un_trimApplyRx.after sub_49 hk) (un_applyGain.after sub_48 (un_trimApplyRx.after sub_49 hk))) (un_applyTaps.after sub_48 (un_when (un_trimApplyRx.after sub_49 hk) (un_applyGain.after sub_48 (un_trimApplyRx.after sub_49 hk))))) (un_applyTiming.after sub_45 (un_when (un_when (un_trimApplyRx.after sub_49 hk) (un_applyGain.after sub_48 (un_trimApplyRx.after sub_49 hk))) (un_applyTaps.after sub_48 (un_when (un_trimApplyRx.after sub_49 hk) (un_applyGain.after sub_48 (un_trimApplyRx.after sub_49 hk)))))))))
theorem un_eclEnd {s : State} {n : Ch} : Unchanged [.regs, .chans] s (State.eclEnd s n) := by
  have hk := Unchanged.refl [.regs, .chans] s
  unfold State.eclEnd
  exact un_mapLine.after sub_16 (un_showEcl.after sub_57 (un_mapEcl.after sub_16 (un_cint.after sub_15 (un_wrap32.after sub_15 hk))))
theorem un_eclMsg {s : State} {n : Ch} {m : BitVec 128} : Unchanged [.regs, .chans] s (State.eclMsg s n m) := by
  have hk := Unchanged.refl [.regs, .chans] s
  unfold State.eclMsg
  exact (by (try dsimp only); split; exacts [un_mapEcl.after sub_16 hk, (by split; exacts [un_setBit.after sub_15 (un_mapEcl.after sub_16 hk), hk])])
theorem un_orbitBlocks {s : State} {n : Ch} {ty : OrbitTy} : Unchanged [.regs, .chans] s (State.orbitBlocks s n ty).1 := by
  have hk := Unchanged.refl [.regs, .chans] s
  unfold State.orbitBlocks
  exact (by (try dsimp only); split; exacts [(by split; exacts [un_fillOrbit.after sub_57 (un_wide.after sub_15 hk), un_wide.after sub_15 (un_wide.after sub_15 hk)]), un_wide.after sub_15 (un_wide.after sub_15 hk), un_wide.after sub_15 (un_wide.after sub_15 hk), hk, hk, hk])
theorem un_orbitDone {s : State} {n : Ch} {ty : OrbitTy} : Unchanged [.regs, .chans] s (State.orbitDone s n ty) := by
  have hk := Unchanged.refl [.regs, .chans] s
  unfold State.orbitDone
  exact un_when (un_when (un_mapChan.after sub_16 (un_mapLine.after sub_16 hk)) (un_eclEnd.after sub_57 (un_mapChan.after sub_16 (un_mapLine.after sub_16 hk)))) (un_mapLine.after sub_16 (un_when (un_mapChan.after sub_16 (un_mapLine.after sub_16 hk)) (un_eclEnd.after sub_57 (un_mapChan.after sub_16 (un_mapLine.after sub_16 hk)))))
theorem un_sendOrbit {s : State} {n : Ch} {ty : OrbitTy} {t : Rat} : Unchanged [.regs, .chans] s (State.sendOrbit s n ty t) := by
  have hk := Unchanged.refl [.regs, .chans] s
  unfold State.sendOrbit
  exact un_showNf.after sub_15 (un_showEngine.after sub_15 (un_orbitDone.after sub_57 (by split; exacts [un_setBit.after sub_15 (un_setBit.after sub_15 (un_transmit.after sub_16 (un_setReg.after sub_15 (un_orbitBlocks.after sub_57 (un_when (un_setBit.after sub_15 hk) (un_takeBlocks.after sub_57 (un_setBit.after sub_15 hk))))))), un_mapKtl.after sub_16 (un_setBit.after sub_15 (un_setBit.after sub_15 (un_transmit.after sub_16 (un_setReg.after sub_15 (un_orbitBlocks.after sub_57 (un_when (un_setBit.after sub_15 hk) (un_takeBlocks.after sub_57 (un_setBit.after sub_15 hk))))))))])))
theorem un_sendPattern {s : State} {n : Ch} : Unchanged [.chans] s (State.sendPattern s n) := by
  have hk := Unchanged.refl [.chans] s
  unfold State.sendPattern
  exact un_transmit.after sub_4 (un_mapLine.after sub_4 hk)
theorem un_placeOam {s : State} {n : Ch} {t : Rat} : Unchanged [.regs, .chans] s (State.placeOam s n t) := by
  have hk := Unchanged.refl [.regs, .chans] s
  unfold State.placeOam
  exact (by split; exacts [un_mapLine.after sub_16 hk, un_mapLine.after sub_16 (un_wrap32.after sub_15 (un_when (un_when hk (un_wrap32.after sub_15 hk)) (un_wrap.after sub_15 (un_when hk (un_wrap32.after sub_15 hk)))))])
theorem un_setInfo {s : State} {n : Ch} {b : Bool} : Unchanged [.regs] s (State.setInfo s n b) := by
  have hk := Unchanged.refl [.regs] s
  unfold State.setInfo
  exact un_showLoop.after sub_2 (un_when hk (un_cint.after sub_2 (un_setBit.after sub_2 hk)))
theorem un_takeCap {s : State} {n : Ch} {m : BitVec 128} : Unchanged [.regs, .chans] s (State.takeCap s n m) := by
  have hk := Unchanged.refl [.regs, .chans] s
  unfold State.takeCap
  exact un_setInfo.after sub_15 (un_mapKtl.after sub_16 (un_setFld.after sub_15 (un_cintIf.after sub_15 (un_setReg.after sub_15 (un_setReg.after sub_15 hk)))))
theorem un_showOffset {s : State} {n : Ch} {t2 : Rat} : Unchanged [.regs] s (State.showOffset s n t2) := by
  have hk := Unchanged.refl [.regs] s
  unfold State.showOffset
  exact un_setFld.after sub_2 (un_setReg.after sub_2 hk)
theorem un_accept {s : State} {n : Ch} {theta : Rat} {d : Rat} {t2 : Rat} : Unchanged [.regs, .chans] s (State.accept s n theta d t2) := by
  have hk := Unchanged.refl [.regs, .chans] s
  unfold State.accept
  exact un_showNu.after sub_15 (un_wrap32.after sub_15 (un_showOffset.after sub_15 (un_setReg.after sub_15 (un_mapKtl.after sub_16 hk))))
theorem un_judge {s : State} {n : Ch} {theta : Rat} {d : Rat} {t2 : Rat} : Unchanged [.regs, .chans] s (State.judge s n theta d t2) := by
  have hk := Unchanged.refl [.regs, .chans] s
  unfold State.judge
  exact (by (try dsimp only); split; exacts [un_mapKtl.after sub_16 (un_satInt.after sub_15 hk), un_accept.after sub_57 hk])
theorem un_estimate {s : State} {n : Ch} {x : Stamp} {found : Bool} {t2 : Rat} {at' : Nat} : Unchanged [.regs, .chans] s (State.estimate s n x found t2 at') := by
  have hk := Unchanged.refl [.regs, .chans] s
  unfold State.estimate
  exact (by (try dsimp only); split; exacts [un_judge.after sub_57 hk, un_when hk (un_sat32.after sub_15 hk)])
theorem un_oamPieceIn {s : State} {n : Ch} {idx : Word} {piece : Option Nat} : Unchanged [.chans] s (State.oamPieceIn s n idx piece) := by
  have hk := Unchanged.refl [.chans] s
  unfold State.oamPieceIn
  exact un_mapLine.after sub_4 hk
theorem un_setRxIdx {s : State} {n : Ch} {idx : Word} : Unchanged [.regs, .chans] s (State.setRxIdx s n idx) := by
  have hk := Unchanged.refl [.regs, .chans] s
  unfold State.setRxIdx
  exact un_setReg.after sub_15 (un_mapLine.after sub_16 hk)
theorem un_fieldFails {s : State} {n : Ch} {idx : Word} : Unchanged [.regs, .chans] s (State.fieldFails s n idx) := by
  have hk := Unchanged.refl [.regs, .chans] s
  unfold State.fieldFails
  exact un_when (un_mapLink.after sub_16 (un_oamPieceIn.after sub_16 (un_setRxIdx.after sub_57 (un_satInt.after sub_15 hk)))) (un_setInfo.after sub_15 (un_mapLink.after sub_16 (un_oamPieceIn.after sub_16 (un_setRxIdx.after sub_57 (un_satInt.after sub_15 hk)))))
theorem un_lpiByType {s : State} {n : Ch} {was : Option OrbitTy} {x : Got} {found : Bool} : Unchanged [.regs, .chans] s (State.lpiByType s n was x found) := by
  have hk := Unchanged.refl [.regs, .chans] s
  unfold State.lpiByType
  exact (by split; exacts [hk, (by split; exacts [un_hostSend.after sub_57 (un_setLpi.after sub_57 hk), (by split; exacts [un_hostSend.after sub_57 (un_setLpi.after sub_57 (un_capGrace.after sub_16 hk)), hk])])])
theorem un_trainByType {s : State} {n : Ch} {x : Got} : Unchanged [.chans] s (State.trainByType s n x) := by
  have hk := Unchanged.refl [.chans] s
  unfold State.trainByType
  exact un_mapLink.after sub_4 hk
theorem un_upIfDue {s : State} {n : Ch} : Unchanged [.regs, .jrnl, .chans] s (State.upIfDue s n) := by
  have hk := Unchanged.refl [.regs, .jrnl, .chans] s
  unfold State.upIfDue
  exact un_when hk (un_comeUp.after sub_49 hk)
theorem un_showFlags {s : State} {n : Ch} {x : Got} : Unchanged [.regs] s (State.showFlags s n x) := by
  have hk := Unchanged.refl [.regs] s
  unfold State.showFlags
  exact un_setFld.after sub_2 hk
theorem un_takeField {s : State} {n : Ch} {x : Got} {found : Bool} {t2 : Rat} {at' : Nat} : Unchanged [.regs, .jrnl, .chans] s (State.takeField s n x found t2 at') := by
  have hk := Unchanged.refl [.regs, .jrnl, .chans] s
  unfold State.takeField
  exact un_showEngine.after sub_45 (un_estimate.after sub_48 (un_upIfDue.after sub_49 (un_lpiByType.after sub_48 (un_trainByType.after sub_46 (un_mapEcl.after sub_46 (un_showNf.after sub_45 (un_showAdapt.after sub_45 (un_mapLine.after sub_46 (un_oamPieceIn.after sub_46 (un_mapKtl.after sub_46 (un_showFlags.after sub_45 (un_setRxIdx.after sub_48 (un_wrap32.after sub_45 hk)))))))))))))
theorem un_quietOrbit {s : State} {n : Ch} : Unchanged [.regs, .jrnl, .chans] s (State.quietOrbit s n) := by
  have hk := Unchanged.refl [.regs, .jrnl, .chans] s
  unfold State.quietOrbit
  exact un_when (un_showNf.after sub_45 (un_showAdapt.after sub_45 (un_trimApplyRx.after sub_49 (un_mapLine.after sub_46 hk)))) (un_showEcl.after sub_48 (un_applyGain.after sub_48 (un_showNf.after sub_45 (un_showAdapt.after sub_45 (un_trimApplyRx.after sub_49 (un_mapLine.after sub_46 hk))))))
theorem un_oamDeliver {s : State} {n : Ch} {m : BitVec 128} : Unchanged [.regs, .chans] s (State.oamDeliver s n m) := by
  have hk := Unchanged.refl [.regs, .chans] s
  unfold State.oamDeliver
  exact (by split; exacts [un_eclMsg.after sub_57 hk, un_takeCap.after sub_57 hk, un_mapLine.after sub_16 hk])
theorem un_takeMsg_some {L : List Part} {k0 s t : State} {n : Ch} {ty : Nat} {m : BitVec 128} (he : s.takeMsg n ty = some (m, t)) (hL : L.contains .chans = true) (hk : Unchanged L k0 s) : Unchanged L k0 t := by
  unfold State.takeMsg at he
  split at he
  · injection he with he; injection he with h1 h2; subst h2; exact un_mapLine.after (by simp_all) hk
  · simp at he
theorem un_capDrop {s : State} {a : Nat} : Unchanged [.regs, .cap] s (State.capDrop s a) := by
  have hk := Unchanged.refl [.regs, .cap] s
  unfold State.capDrop
  exact un_with_cap mem_155 (un_satInt.after sub_156 hk)
theorem un_showCap {s : State} : Unchanged [.regs] s (State.showCap s) := by
  have hk := Unchanged.refl [.regs] s
  unfold State.showCap
  exact un_setReg.after sub_2 (un_setReg.after sub_2 hk)
theorem un_capWrite {s : State} {c : Capture} : Unchanged [.regs, .cap] s (State.capWrite s c) := by
  have hk := Unchanged.refl [.regs, .cap] s
  unfold State.capWrite
  exact (by split; exacts [un_capDrop.after sub_157 hk, un_when (un_when (un_intr.after sub_156 (un_showCap.after sub_156 (un_wrap32.after sub_156 (un_with_cap mem_155 (un_when hk (un_wrap32.after sub_156 hk)))))) (un_intr.after sub_156 (un_intr.after sub_156 (un_showCap.after sub_156 (un_wrap32.after sub_156 (un_with_cap mem_155 (un_when hk (un_wrap32.after sub_156 hk)))))))) (un_intr.after sub_156 (un_when (un_intr.after sub_156 (un_showCap.after sub_156 (un_wrap32.after sub_156 (un_with_cap mem_155 (un_when hk (un_wrap32.after sub_156 hk)))))) (un_intr.after sub_156 (un_intr.after sub_156 (un_showCap.after sub_156 (un_wrap32.after sub_156 (un_with_cap mem_155 (un_when hk (un_wrap32.after sub_156 hk)))))))))])
theorem un_capLog {s : State} {c : Capture} : Unchanged [.regs, .cap] s (State.capLog s c) := by
  have hk := Unchanged.refl [.regs, .cap] s
  unfold State.capLog
  exact (by split; exacts [hk, (by split; exacts [un_capDrop.after sub_157 hk, un_with_cap mem_155 (hk)])])
theorem un_capDrain {s : State} : Unchanged [.regs, .cap] s (State.capDrain s) := by
  have hk := Unchanged.refl [.regs, .cap] s
  unfold State.capDrain
  exact (by split; exacts [hk, (by split; exacts [hk, un_when (un_with_cap mem_155 (hk)) (un_capWrite.after sub_157 (un_with_cap mem_155 (hk)))])])
theorem un_capClear {s : State} : Unchanged [.regs, .cap] s (State.capClear s) := by
  have hk := Unchanged.refl [.regs, .cap] s
  unfold State.capClear
  exact un_showCap.after sub_156 (un_setReg.after sub_156 (un_with_cap mem_155 (hk)))
theorem un_capAcked {s : State} : Unchanged [.regs, .cap] s (State.capAcked s) := by
  have hk := Unchanged.refl [.regs, .cap] s
  unfold State.capAcked
  exact un_showCap.after sub_156 (un_with_cap mem_155 (hk))
theorem un_capwLoad {s : State} : Unchanged [.regs] s (State.capwLoad s) := by
  have hk := Unchanged.refl [.regs] s
  unfold State.capwLoad
  exact un_foldl (un_setReg.after sub_2 hk) (fun x1_0 x1_1 x1_2 => un_setReg.after sub_2 x1_2)
theorem un_capwAdvance {s : State} : Unchanged [.regs] s (State.capwAdvance s) := by
  have hk := Unchanged.refl [.regs] s
  unfold State.capwAdvance
  exact un_capwLoad.after sub_2 (un_setReg.after sub_2 hk)
theorem un_repPush {s : State} {g : Tg} {m : BitVec 128} : Unchanged [.regs, .cmt, .chans] s (State.repPush s g m) := by
  have hk := Unchanged.refl [.regs, .cmt, .chans] s
  unfold State.repPush
  exact (by (try dsimp only); split; exacts [un_oamPush.after sub_158 (un_with_cmt mem_159 (hk)), un_with_cmt mem_159 (un_satInt.after sub_160 hk)])
theorem un_capture {s : State} {c : Capture} {log : Bool} {report : Bool} : Unchanged [.regs, .cmt, .cap, .chans] s (State.capture s c log report) := by
  have hk := Unchanged.refl [.regs, .cmt, .cap, .chans] s
  unfold State.capture
  exact un_when (un_when hk (un_capLog.after sub_161 hk)) (un_repPush.after sub_162 (un_when hk (un_capLog.after sub_161 hk)))
theorem un_showPin {s : State} {k : Fin 16} : Unchanged [.regs] s (State.showPin s k) := by
  have hk := Unchanged.refl [.regs] s
  unfold State.showPin
  exact un_setBit.after sub_2 (un_setBit.after sub_2 hk)
theorem un_pinEdge {s : State} {k : Fin 16} {f : Int} : Unchanged [.trig] s (State.pinEdge s k f) := by
  have hk := Unchanged.refl [.trig] s
  unfold State.pinEdge
  exact un_mapPin.after sub_25 hk
theorem un_drivePin {L : List Part} {a s : State} {k : Fin 16} {f : Int} {act : State → State} (hL : [Part.regs, .trig].all L.contains = true) (hk : Unchanged L a (act s)) : Unchanged L a (s.drivePin k f act) := by
  unfold State.drivePin
  dsimp only
  split
  · exact un_showPin.after (by simp_all) hk
  · exact un_showPin.after (by simp_all) (un_pinEdge.after (by simp_all) hk)
theorem un_pinPulse {s : State} {k : Fin 16} {f w : Nat} : Unchanged [.regs, .trig] s (s.pinPulse k f w) :=
  un_drivePin rfl (un_mapPin.after rfl (Unchanged.refl _ _))
theorem un_pinBase {s : State} {k : Fin 16} {f : Int} {v : Bool} : Unchanged [.regs, .trig] s (State.pinBase s k f v) := by
  have hk := Unchanged.refl [.regs, .trig] s
  unfold State.pinBase
  exact un_drivePin rfl (un_setBit.after sub_28 hk)
theorem un_pinArm {s : State} {k : Fin 16} {f : Nat} {w : Nat} {seq : BitVec 16} : Unchanged [.regs, .trig] s (State.pinArm s k f w seq) := by
  have hk := Unchanged.refl [.regs, .trig] s
  unfold State.pinArm
  exact un_showPin.after sub_28 (un_mapPin.after sub_163 hk)
theorem un_cmtInt {s : State} {i : Nat} : Unchanged [.regs] s (State.cmtInt s i) := by
  have hk := Unchanged.refl [.regs] s
  unfold State.cmtInt
  exact un_intr.after sub_2 hk
theorem un_setSched {s : State} {e : Nat} {w : Nat} {v : Word} : Unchanged [.cmt] s (State.setSched s e w v) := by
  have hk := Unchanged.refl [.cmt] s
  unfold State.setSched
  exact un_mapCmt.after sub_58 hk
theorem un_entryLate {s : State} {e : Nat} : Unchanged [.cmt] s (State.entryLate s e) := by
  have hk := Unchanged.refl [.cmt] s
  unfold State.entryLate
  exact un_setSched.after sub_58 hk
theorem un_latePush {s : State} {n : Ch} {m : BitVec 128} : Unchanged [.regs, .chans] s (State.latePush s n m) := by
  have hk := Unchanged.refl [.regs, .chans] s
  unfold State.latePush
  exact (by split; exacts [un_sat.after sub_15 hk, un_oamPush.after sub_16 hk])
theorem un_answer {s : State} {q : QComet} {reason : Nat} : Unchanged [.regs, .cmt, .chans] s (State.answer s q reason) := by
  have hk := Unchanged.refl [.regs, .cmt, .chans] s
  unfold State.answer
  exact (by split; exacts [un_latePush.after sub_164 hk, un_entryLate.after sub_165 hk, hk])
theorem un_enqueue {s : State} {c : Ch} {q : QComet} : Unchanged [.regs, .cmt, .chans] s (State.enqueue s c q) := by
  have hk := Unchanged.refl [.regs, .cmt, .chans] s
  unfold State.enqueue
  exact (by (try dsimp only); split; exacts [un_sat.after sub_160 hk, (by split; exacts [un_answer.after sub_166 (un_fldInt.after sub_160 hk), (by split; exacts [un_fldInt.after sub_160 hk, un_mapCmt.after sub_165 (un_cmtCount.after sub_160 hk)])])])
theorem un_admitFire {s : State} {q : QComet} : Unchanged [.regs, .cmt, .chans] s (State.admitFire s q) := by
  have hk := Unchanged.refl [.regs, .cmt, .chans] s
  unfold State.admitFire
  exact (by (try dsimp only); split; exacts [un_fldInt.after sub_160 hk, (by split; exacts [un_answer.after sub_166 (un_fldInt.after sub_160 hk), (by split; exacts [un_fldInt.after sub_160 hk, un_mapCmt.after sub_165 (un_cmtCount.after sub_160 hk)])])])
theorem un_forward {s : State} {q : QComet} {l : List Ch} : Unchanged [.regs, .cmt, .chans] s (State.forward s q l) := by
  have hk := Unchanged.refl [.regs, .cmt, .chans] s
  unfold State.forward
  exact un_foldl hk (fun x1_0 x1_1 x1_2 => un_enqueue.after sub_166 x1_2)
theorem un_routeComet {s : State} {q : QComet} : Unchanged [.regs, .cmt, .chans] s (State.routeComet s q) := by
  have hk := Unchanged.refl [.regs, .cmt, .chans] s
  unfold State.routeComet
  exact (by (try dsimp only); split; exacts [(by (try dsimp only); split; exacts [un_admitFire.after sub_166 hk, un_forward.after sub_166 (un_admitFire.after sub_166 hk)]), (by split; exacts [un_admitFire.after sub_166 hk, (by split; exacts [un_answer.after sub_166 (un_fldInt.after sub_160 hk), (by split; exacts [un_fldInt.after sub_160 hk, (by (try dsimp only); split; exacts [un_fldInt.after sub_160 hk, un_forward.after sub_166 hk])])])])])
theorem un_remember {s : State} {g : Tg} {c : BitVec 96} : Unchanged [.cmt] s (State.remember s g c) := by
  have hk := Unchanged.refl [.cmt] s
  unfold State.remember
  exact un_mapCmt.after sub_58 hk
theorem un_takeComet {s : State} {n : Ch} {c : BitVec 96} : Unchanged [.regs, .cmt, .chans] s (State.takeComet s n c) := by
  have hk := Unchanged.refl [.regs, .cmt, .chans] s
  unfold State.takeComet
  exact (by (try dsimp only); split; exacts [hk, (by (try dsimp only); split; exacts [un_sat.after sub_160 (un_cmtCount.after sub_160 hk), un_showCmt.after sub_160 (un_routeComet.after sub_166 (un_remember.after sub_165 (un_cmtCount.after sub_160 hk)))])])
theorem un_expireAt {s : State} {c : Ch} {q : QComet} {report : Bool} : Unchanged [.regs, .cmt, .chans] s (State.expireAt s c q report) := by
  have hk := Unchanged.refl [.regs, .cmt, .chans] s
  unfold State.expireAt
  exact (by (try dsimp only); split; exacts [un_answer.after sub_166 (un_cmtInt.after sub_160 (un_expired.after sub_160 hk)), un_expired.after sub_160 hk])
theorem un_emptyFire {s : State} : Unchanged [.regs, .cmt] s (State.emptyFire s) := by
  have hk := Unchanged.refl [.regs, .cmt] s
  unfold State.emptyFire
  exact un_showCmt.after sub_113 (un_foldl (un_mapCmt.after sub_114 hk) (fun x1_0 x1_1 x1_2 => un_cmtCount.after sub_113 x1_2))
theorem un_expireQueue {s : State} {c : Ch} {before : QComet → Int} : Unchanged [.regs, .cmt, .chans] s (State.expireQueue s c before) := by
  have hk := Unchanged.refl [.regs, .cmt, .chans] s
  unfold State.expireQueue
  exact un_foldl (un_mapCmt.after sub_165 hk) (fun x1_0 x1_1 x1_2 => un_expireAt.after sub_166 x1_2)
theorem un_placeComet {s : State} {c : Ch} : Unchanged [.regs, .cmt, .chans] s (State.placeComet s c) := by
  have hk := Unchanged.refl [.regs, .cmt, .chans] s
  unfold State.placeComet
  exact (by split; exacts [hk, un_mapLine.after sub_158 (un_cmtCount.after sub_160 (un_mapCmt.after sub_165 hk))])
theorem un_fire {s : State} {q : QComet} : Unchanged [.regs, .trig, .cap] s (State.fire s q) := by
  have hk := Unchanged.refl [.regs, .trig, .cap] s
  unfold State.fire
  exact (by (try dsimp only); split; exacts [un_wrap.after sub_167 (un_pinPulse.after sub_168 (un_cmtCount.after sub_167 hk)), un_wrap.after sub_167 (un_pinBase.after sub_168 (un_cmtCount.after sub_167 hk)), un_wrap.after sub_167 (un_pinArm.after sub_168 (un_cmtCount.after sub_167 hk)), un_capLog.after sub_169 (un_cmtCount.after sub_167 hk)])
theorem un_setEntryF {s : State} {e : Nat} {f : Nat} : Unchanged [.cmt] s (State.setEntryF s e f) := by
  have hk := Unchanged.refl [.cmt] s
  unfold State.setEntryF
  exact un_setSched.after sub_58 (un_setSched.after sub_58 (un_setSched.after sub_58 hk))
theorem un_entryUsed {s : State} {e : Nat} {k : Nat} : Unchanged [.cmt] s (State.entryUsed s e k) := by
  have hk := Unchanged.refl [.cmt] s
  unfold State.entryUsed
  exact (by (try dsimp only); split; exacts [hk, (by (try dsimp only); split; exacts [un_setSched.after sub_58 (un_setSched.after sub_58 hk), un_setSched.after sub_58 hk])])
theorem un_inject {s : State} {g : Tg} {e : Nat} : Unchanged [.regs, .cmt, .chans] s (State.inject s g e) := by
  have hk := Unchanged.refl [.regs, .cmt, .chans] s
  unfold State.inject
  exact un_showCmt.after sub_160 (by split; exacts [un_entryUsed.after sub_165 (un_setEntryF.after sub_165 (un_routeComet.after sub_166 (un_remember.after sub_165 (un_mapCmt.after sub_165 (un_cmtCount.after sub_160 (un_setFld.after sub_160 hk)))))), un_setSched.after sub_165 (un_routeComet.after sub_166 (un_remember.after sub_165 (un_mapCmt.after sub_165 (un_cmtCount.after sub_160 (un_setFld.after sub_160 hk)))))])
theorem un_skipPeriods {s : State} {g : Tg} {e : Nat} : Unchanged [.cmt] s (State.skipPeriods s g e) := by
  have hk := Unchanged.refl [.cmt] s
  unfold State.skipPeriods
  exact un_setSched.after sub_58 (un_entryUsed.after sub_58 (un_setEntryF.after sub_58 hk))
theorem un_routeCmd {s : State} {d : Word} : Unchanged [.regs, .cmt] s (State.routeCmd s d) := by
  have hk := Unchanged.refl [.regs, .cmt] s
  unfold State.routeCmd
  exact (by (try dsimp only); split; exacts [un_setFld.after sub_113 (by split; exacts [un_setReg.after sub_113 (un_setReg.after sub_113 hk), (by split; exacts [un_mapCmt.after sub_114 hk, hk])]), (by split; exacts [un_setReg.after sub_113 (un_setReg.after sub_113 hk), (by split; exacts [un_mapCmt.after sub_114 hk, hk])])])
theorem un_showCmtw {s : State} : Unchanged [.regs] s (State.showCmtw s) := by
  have hk := Unchanged.refl [.regs] s
  unfold State.showCmtw
  exact un_setFld.after sub_2 (un_setBit.after sub_2 hk)
theorem un_cmtwCmd {s : State} {d : Word} : Unchanged [.regs, .cmt] s (State.cmtwCmd s d) := by
  have hk := Unchanged.refl [.regs, .cmt] s
  unfold State.cmtwCmd
  exact un_showCmtw.after sub_113 (by split; exacts [un_setFld.after sub_113 (un_setBit.after sub_113 (by split; exacts [un_foldl hk (fun x3_0 x3_1 x3_2 => un_setReg.after sub_113 x3_2), un_foldl hk (fun x3_0 x3_1 x3_2 => un_setSched.after sub_114 x3_2), un_foldl hk (fun x3_0 x3_1 x3_2 => un_setSched.after sub_114 x3_2), un_setSched.after sub_114 hk, hk])), un_setBit.after sub_113 (by split; exacts [un_foldl hk (fun x3_0 x3_1 x3_2 => un_setReg.after sub_113 x3_2), un_foldl hk (fun x3_0 x3_1 x3_2 => un_setSched.after sub_114 x3_2), un_foldl hk (fun x3_0 x3_1 x3_2 => un_setSched.after sub_114 x3_2), un_setSched.after sub_114 hk, hk])])
theorem un_takeCodeword {s : State} {n : Ch} {k : Nat} {syms : List Rat} {upset : List Nat} : Unchanged [.regs, .jrnl, .chans] s (State.takeCodeword s n k syms upset) := by
  have hk := Unchanged.refl [.regs, .jrnl, .chans] s
  unfold State.takeCodeword
  exact (by (try dsimp only); split; exacts [un_mapFec.after sub_46 (un_satInt.after sub_45 (un_wide.after sub_45 (un_when hk (un_applyIter.after sub_49 hk)))), (by split; exacts [un_mapFec.after sub_46 (un_satInt.after sub_45 (un_wide.after sub_45 (un_when hk (un_applyIter.after sub_49 hk)))), un_showEngines.after sub_45 (un_mapFec.after sub_46 (un_wide.after sub_45 (un_when hk (un_applyIter.after sub_49 hk))))])])
theorem un_takeClause {s : State} {n : Ch} {corr : Option Nat} {blks : List Blk} : Unchanged [.regs, .chans] s (State.takeClause s n corr blks) := by
  have hk := Unchanged.refl [.regs, .chans] s
  unfold State.takeClause
  exact un_deliver.after sub_57 (by split; exacts [un_setLpi.after sub_57 hk, (by (try dsimp only); split; exacts [un_mapFec.after sub_16 (un_wide.after sub_15 (un_wide.after sub_15 (un_setLpi.after sub_57 hk))), un_satInt.after sub_15 (un_wide.after sub_15 (un_setLpi.after sub_57 hk))])])
theorem un_berPublish {s : State} {n : Ch} : Unchanged [.regs, .chans] s (State.berPublish s n) := by
  have hk := Unchanged.refl [.regs, .chans] s
  unfold State.berPublish
  exact un_mapFec.after sub_16 (un_cint.after sub_15 (un_wrap32.after sub_15 (un_setReg.after sub_15 hk)))
theorem un_berFull {s : State} {n : Ch} : Unchanged [.regs, .chans] s (State.berFull s n) := by
  have hk := Unchanged.refl [.regs, .chans] s
  unfold State.berFull
  exact un_when hk (un_berPublish.after sub_57 hk)
theorem un_goodCodeword {s : State} {n : Ch} {k : Nat} {x : Flight} : Unchanged [.regs, .chans] s (State.goodCodeword s n k x) := by
  have hk := Unchanged.refl [.regs, .chans] s
  unfold State.goodCodeword
  exact un_deliver.after sub_57 (un_wide.after sub_15 (un_mapFec.after sub_16 (un_wide.after sub_15 (un_wide.after sub_15 (un_berFull.after sub_57 hk)))))
theorem un_uncorrectable {s : State} {n : Ch} : Unchanged [.freeCtr, .regs, .heldWrites, .leases, .jrnl, .clk, .cmt, .trig, .life, .host, .chans, .groups] s (State.uncorrectable s n) := by
  have hk := Unchanged.refl [.freeCtr, .regs, .heldWrites, .leases, .jrnl, .clk, .cmt, .trig, .life, .host, .chans, .groups] s
  unfold State.uncorrectable
  exact un_badCodeword.after sub_120 (un_mapFec.after sub_119 (un_satInt.after sub_117 (un_berFull.after sub_118 hk)))
theorem un_releaseCodeword {s : State} {n : Ch} {x : Flight} : Unchanged [.freeCtr, .regs, .heldWrites, .leases, .jrnl, .jobs, .clk, .cmt, .trig, .life, .bist, .alrm, .host, .chans, .groups] s (State.releaseCodeword s n x) := by
  have hk := Unchanged.refl [.freeCtr, .regs, .heldWrites, .leases, .jrnl, .jobs, .clk, .cmt, .trig, .life, .bist, .alrm, .host, .chans, .groups] s
  unfold State.releaseCodeword
  exact (by (try dsimp only); split; exacts [un_badCodeword.after sub_170 (un_showEngines.after sub_171 (un_mapFec.after sub_172 hk)), un_uncorrectable.after sub_170 (un_showEngines.after sub_171 (un_mapFec.after sub_172 hk)), (by split; exacts [un_goodCodeword.after sub_173 (un_showEngines.after sub_171 (un_mapFec.after sub_172 hk)), un_detectCh.after sub_174 (un_uncorrectable.after sub_170 (un_showEngines.after sub_171 (un_mapFec.after sub_172 hk)))])])
theorem un_iterWritten {s : State} {n : Ch} : Unchanged [.regs, .jrnl, .chans] s (State.iterWritten s n) := by
  have hk := Unchanged.refl [.regs, .jrnl, .chans] s
  unfold State.iterWritten
  exact (by split; exacts [un_showEcl.after sub_48 (un_setBit.after sub_45 hk), (by split; exacts [un_showEcl.after sub_48 (un_setBit.after sub_45 hk), un_applyIter.after sub_49 hk])])
theorem un_showPtp {s : State} {n : Ch} : Unchanged [.regs] s (State.showPtp s n) := by
  have hk := Unchanged.refl [.regs] s
  unfold State.showPtp
  exact un_cintIf.after sub_2 (un_foldl (un_setReg.after sub_2 hk) (fun x1_0 x1_1 x1_2 => un_setReg.after sub_2 x1_2))
theorem un_ptpPush {s : State} {n : Ch} {e : PtpEntry} : Unchanged [.regs, .chans] s (State.ptpPush s n e) := by
  have hk := Unchanged.refl [.regs, .chans] s
  unfold State.ptpPush
  exact (by split; exacts [un_satInt.after sub_15 hk, un_showPtp.after sub_15 (un_mapKtl.after sub_16 hk)])
theorem un_ptpPop {s : State} {n : Ch} : Unchanged [.regs, .chans] s (State.ptpPop s n) := by
  have hk := Unchanged.refl [.regs, .chans] s
  unfold State.ptpPop
  exact un_showPtp.after sub_15 (un_mapKtl.after sub_16 hk)
theorem un_ptpPass {s : State} {n : Ch} {m : PtpMsg} {old : List Byte} {new : List Byte} : Unchanged [.regs, .chans] s (State.ptpPass s n m old new) := by
  have hk := Unchanged.refl [.regs, .chans] s
  unfold State.ptpPass
  exact un_mapKtl.after sub_16 (un_wrap32.after sub_15 hk)
theorem un_ptpRelay {s : State} {n : Ch} {o : Ch} {f : List Byte} {m : PtpMsg} {e : Nat} {i : Nat} : Unchanged [.regs, .chans] s (State.ptpRelay s n o f m e i) := by
  have hk := Unchanged.refl [.regs, .chans] s
  unfold State.ptpRelay
  exact (by split; exacts [un_sat32.after sub_15 hk, (by split; exacts [un_ptpPass.after sub_57 hk, hk])])
theorem un_program {s : State} {a : Nat} {l : List Byte} : Unchanged [.regs, .nvm, .life] s (State.program s a l) := by
  have hk := Unchanged.refl [.regs, .nvm, .life] s
  unfold State.program
  exact (by split; exacts [hk, un_foldl (un_with_nvm mem_175 (hk)) (fun x2_0 x2_1 x2_2 => un_lifeAdd.after sub_176 x2_2)])
theorem un_showArea {s : State} : Unchanged [.regs] s (State.showArea s) := by
  have hk := Unchanged.refl [.regs] s
  unfold State.showArea
  exact un_when hk (un_intr.after sub_2 (un_setFld.after sub_2 hk))
theorem un_showSects {s : State} : Unchanged [.regs] s (State.showSects s) := by
  have hk := Unchanged.refl [.regs] s
  unfold State.showSects
  exact un_foldl hk (fun x1_0 x1_1 x1_2 => un_setReg.after sub_2 x1_2)
theorem un_fenceSector {s : State} {k : Nat} : Unchanged [.regs, .jrnl, .nvm] s (State.fenceSector s k) := by
  have hk := Unchanged.refl [.regs, .jrnl, .nvm] s
  unfold State.fenceSector
  exact (by split; exacts [hk, un_showArea.after sub_177 (un_devFld.after sub_178 (un_with_nvm mem_179 (hk)))])
theorem un_mapDiag {s : State} {n : Ch} {f : DiagSt → DiagSt} : Unchanged [.chans] s (State.mapDiag s n f) := by
  have hk := Unchanged.refl [.chans] s
  unfold State.mapDiag
  exact un_mapChan.after sub_4 hk
theorem un_publish {s : State} {n : Ch} {v : DiagView} : Unchanged [.regs] s (State.publish s n v) := by
  have hk := Unchanged.refl [.regs] s
  unfold State.publish
  exact un_cintIf.after sub_2 (un_cint.after sub_2 (un_wrap.after sub_2 (un_setBit.after sub_2 (un_foldl hk (fun x1_0 x1_1 x1_2 => un_setReg.after sub_2 x1_2)))))
theorem un_holdWritten {s : State} {n : Ch} : Unchanged [.regs, .chans] s (State.holdWritten s n) := by
  have hk := Unchanged.refl [.regs, .chans] s
  unfold State.holdWritten
  exact (by split; exacts [hk, (by split; exacts [(by (try dsimp only); split; exacts [un_publish.after sub_15 (un_mapDiag.after sub_16 hk), un_setBit.after sub_15 (un_publish.after sub_15 (un_mapDiag.after sub_16 hk))]), hk])])
theorem un_setProfile {s : State} {n : Ch} {p : Option Profile} {bad : Bool} {learned : Bool} : Unchanged [.regs, .chans] s (State.setProfile s n p bad learned) := by
  have hk := Unchanged.refl [.regs, .chans] s
  unfold State.setProfile
  exact un_cintIf.after sub_15 (un_setReg.after sub_15 (un_mapDiag.after sub_16 hk))
theorem un_loadProfile {s : State} {n : Ch} : Unchanged [.regs, .chans] s (State.loadProfile s n) := by
  have hk := Unchanged.refl [.regs, .chans] s
  unfold State.loadProfile
  exact (by (try dsimp only); split; exacts [un_setProfile.after sub_57 hk, (by split; exacts [un_setProfile.after sub_57 hk, (by split; exacts [un_setProfile.after sub_57 hk, un_setProfile.after sub_57 hk])])])
theorem un_settleLoop {s : State} {n : Ch} : Unchanged [.freeCtr, .regs, .heldWrites, .leases, .jrnl, .clk, .cmt, .trig, .host, .chans, .groups] s (State.settleLoop s n) := by
  have hk := Unchanged.refl [.freeCtr, .regs, .heldWrites, .leases, .jrnl, .clk, .cmt, .trig, .host, .chans, .groups] s
  unfold State.settleLoop
  exact (by split; exacts [un_retarget.after sub_91 (un_setOrbitLock.after sub_90 (un_linkIdle.after sub_91 (un_dropLink.after sub_89 hk))), (by split; exacts [(by split; exacts [un_startLoop.after sub_180 hk, un_linkIdle.after sub_91 (un_dropLink.after sub_89 hk)]), un_renegotiate.after sub_93 hk])])
theorem un_lbWritten {s : State} {n : Ch} {old : Word} : Unchanged [.freeCtr, .regs, .heldWrites, .leases, .jrnl, .clk, .cmt, .trig, .host, .chans, .groups] s (State.lbWritten s n old) := by
  have hk := Unchanged.refl [.freeCtr, .regs, .heldWrites, .leases, .jrnl, .clk, .cmt, .trig, .host, .chans, .groups] s
  unfold State.lbWritten
  exact (by (try dsimp only); split; exacts [(by split; exacts [un_showPartner.after sub_91 hk, un_settleLoop.after sub_93 (un_showPartner.after sub_91 hk)]), (by split; exacts [un_settlePair.after sub_93 (un_settleLoop.after sub_93 (un_showPartner.after sub_91 hk)), un_settlePair.after sub_93 (un_when (un_showPartner.after sub_91 hk) (un_cutHost.after sub_91 (un_showPartner.after sub_91 hk)))])])
theorem un_tpWritten {s : State} {n : Ch} {old : Word} : Unchanged [.freeCtr, .regs, .heldWrites, .leases, .jrnl, .clk, .cmt, .trig, .host, .chans, .groups] s (State.tpWritten s n old) := by
  have hk := Unchanged.refl [.freeCtr, .regs, .heldWrites, .leases, .jrnl, .clk, .cmt, .trig, .host, .chans, .groups] s
  unfold State.tpWritten
  exact (by (try dsimp only); split; exacts [un_when (un_when hk (un_mapDiag.after sub_92 (un_setPatSync.after sub_90 hk))) (un_mapChan.after sub_92 (un_when hk (un_mapDiag.after sub_92 (un_setPatSync.after sub_90 hk)))), un_settlePair.after sub_93 (un_settleLoop.after sub_93 (un_when (un_when hk (un_mapDiag.after sub_92 (un_setPatSync.after sub_90 hk))) (un_mapChan.after sub_92 (un_when hk (un_mapDiag.after sub_92 (un_setPatSync.after sub_90 hk))))))])
theorem un_checkSymbol {s : State} {n : Ch} {ok : Bool} : Unchanged [.regs, .chans] s (State.checkSymbol s n ok) := by
  have hk := Unchanged.refl [.regs, .chans] s
  unfold State.checkSymbol
  exact (by (try dsimp only); split; exacts [(by split; exacts [(by split; exacts [(by split; exacts [un_mapDiag.after sub_16 (un_setPatSync.after sub_15 (un_when (un_mapDiag.after sub_16 hk) (un_sat32.after sub_15 (un_mapDiag.after sub_16 hk)))), un_when (un_mapDiag.after sub_16 hk) (un_sat32.after sub_15 (un_mapDiag.after sub_16 hk))]), (by split; exacts [un_mapDiag.after sub_16 (un_setPatSync.after sub_15 (un_when (un_mapDiag.after sub_16 hk) (un_sat32.after sub_15 (un_mapDiag.after sub_16 hk)))), un_when (un_mapDiag.after sub_16 hk) (un_sat32.after sub_15 (un_mapDiag.after sub_16 hk))])]), (by split; exacts [(by split; exacts [un_mapDiag.after sub_16 (un_setPatSync.after sub_15 (un_when (un_mapDiag.after sub_16 hk) (un_sat32.after sub_15 (un_mapDiag.after sub_16 hk)))), un_when (un_mapDiag.after sub_16 hk) (un_sat32.after sub_15 (un_mapDiag.after sub_16 hk))]), (by split; exacts [un_mapDiag.after sub_16 (un_setPatSync.after sub_15 (un_when (un_mapDiag.after sub_16 hk) (un_sat32.after sub_15 (un_mapDiag.after sub_16 hk)))), un_when (un_mapDiag.after sub_16 hk) (un_sat32.after sub_15 (un_mapDiag.after sub_16 hk))])])]), (by split; exacts [(by split; exacts [(by split; exacts [un_mapDiag.after sub_16 (un_setPatSync.after sub_15 (un_when (un_mapDiag.after sub_16 hk) (un_sat32.after sub_15 (un_mapDiag.after sub_16 hk)))), un_when (un_mapDiag.after sub_16 hk) (un_sat32.after sub_15 (un_mapDiag.after sub_16 hk))]), (by split; exacts [un_mapDiag.after sub_16 (un_setPatSync.after sub_15 (un_when (un_mapDiag.after sub_16 hk) (un_sat32.after sub_15 (un_mapDiag.after sub_16 hk)))), un_when (un_mapDiag.after sub_16 hk) (un_sat32.after sub_15 (un_mapDiag.after sub_16 hk))])]), (by split; exacts [(by split; exacts [un_mapDiag.after sub_16 (un_setPatSync.after sub_15 (un_when (un_mapDiag.after sub_16 hk) (un_sat32.after sub_15 (un_mapDiag.after sub_16 hk)))), un_when (un_mapDiag.after sub_16 hk) (un_sat32.after sub_15 (un_mapDiag.after sub_16 hk))]), (by split; exacts [un_mapDiag.after sub_16 (un_setPatSync.after sub_15 (un_when (un_mapDiag.after sub_16 hk) (un_sat32.after sub_15 (un_mapDiag.after sub_16 hk)))), un_when (un_mapDiag.after sub_16 hk) (un_sat32.after sub_15 (un_mapDiag.after sub_16 hk))])])])])
theorem un_checkGroup {s : State} {n : Ch} {l : List Int} {got : Option (List Bool)} : Unchanged [.regs, .chans] s (State.checkGroup s n l got) := by
  have hk := Unchanged.refl [.regs, .chans] s
  unfold State.checkGroup
  exact un_foldl (un_mapDiag.after sub_16 hk) (fun x1_0 x1_1 x1_2 => un_checkSymbol.after sub_57 x1_2)
theorem un_patTakes {s : State} {n : Ch} {v : Int} : Unchanged [.regs, .chans] s (State.patTakes s n v) := by
  have hk := Unchanged.refl [.regs, .chans] s
  unfold State.patTakes
  exact (by split; exacts [un_checkGroup.after sub_57 hk, (by split; exacts [un_checkGroup.after sub_57 (un_mapDiag.after sub_16 hk), un_mapDiag.after sub_16 hk])])
theorem un_postOwn {s : State} {o : Origin} {a : Nat} {d : Word} {keep : Word} : Unchanged [.posted, .heldWrites] s (State.postOwn s o a d keep) := by
  have hk := Unchanged.refl [.posted, .heldWrites] s
  unfold State.postOwn
  exact (by (try dsimp only); split; exacts [un_with_heldWrites mem_181 (hk), un_with_posted mem_182 (hk)])
theorem un_discardAt {s : State} {p : Nat → Bool} : Unchanged [.regs, .posted, .jrnl] s (State.discardAt s p) := by
  have hk := Unchanged.refl [.regs, .posted, .jrnl] s
  unfold State.discardAt
  exact un_foldl (un_with_posted mem_183 (hk)) (fun x1_0 x1_1 x1_2 => un_jAppend.after sub_184 x1_2)
theorem un_discardPosted {s : State} {p : PDom → Bool} : Unchanged [.regs, .posted, .jrnl] s (State.discardPosted s p) := by
  have hk := Unchanged.refl [.regs, .posted, .jrnl] s
  unfold State.discardPosted
  exact un_discardAt.after sub_185 hk
theorem un_takeRetained {s : State} {n : Ch} {k : Fin 3} : Unchanged [.retained] s (State.takeRetained s n k) := by
  have hk := Unchanged.refl [.retained] s
  unfold State.takeRetained
  exact un_with_retained mem_186 (hk)
theorem un_clearDom {s : State} {n : Ch} {k : Fin 3} {kept : Bool} : Unchanged [.regs, .moon] s (State.clearDom s n k kept) := by
  have hk := Unchanged.refl [.regs, .moon] s
  unfold State.clearDom
  exact un_mirrorRly.after sub_187 (un_with_moon mem_188 (un_keepRegs.after sub_187 hk))
theorem un_bringUp {s : State} {n : Ch} : Unchanged [.freeCtr, .regs, .heldWrites, .leases, .jrnl, .clk, .cmt, .trig, .life, .host, .chans, .groups] s (State.bringUp s n) := by
  have hk := Unchanged.refl [.freeCtr, .regs, .heldWrites, .leases, .jrnl, .clk, .cmt, .trig, .life, .host, .chans, .groups] s
  unfold State.bringUp
  exact (by (try dsimp only); split; exacts [(by split; exacts [un_startLoop.after sub_189 hk, hk]), (by split; exacts [un_startResume.after sub_190 (un_mapChan.after sub_119 hk), un_settleLink.after sub_191 hk])])
theorem un_drainChan {s : State} {n : Ch} {l : List ChPage} : Unchanged [.regs, .clk, .chans] s (State.drainChan s n l) := by
  have hk := Unchanged.refl [.regs, .clk, .chans] s
  unfold State.drainChan
  exact (by (try dsimp only); split; exacts [un_mapChan.after sub_192 (un_sat32.after sub_193 (un_enterDrain.after sub_194 hk)), un_enterDrain.after sub_194 hk])
theorem un_tellPair {s : State} {n : Ch} : Unchanged [.freeCtr, .regs, .heldWrites, .leases, .jrnl, .clk, .cmt, .trig, .host, .chans, .groups] s (State.tellPair s n) := by
  have hk := Unchanged.refl [.freeCtr, .regs, .heldWrites, .leases, .jrnl, .clk, .cmt, .trig, .host, .chans, .groups] s
  unfold State.tellPair
  exact un_showPartner.after sub_91 (un_showPartner.after sub_91 (un_settlePair.after sub_93 hk))
theorem un_dspLeft {s : State} {n : Ch} : Unchanged [.freeCtr, .regs, .moon, .retained, .posted, .heldWrites, .leases, .jrnl, .jobs, .clk, .cmt, .trig, .life, .bist, .host, .chans, .groups] s (State.dspLeft s n) := by
  have hk := Unchanged.refl [.freeCtr, .regs, .moon, .retained, .posted, .heldWrites, .leases, .jrnl, .jobs, .clk, .cmt, .trig, .life, .bist, .host, .chans, .groups] s
  unfold State.dspLeft
  exact un_when (un_tellPair.after sub_195 (un_endJobsOf.after sub_196 (un_showForced.after sub_197 (un_setBit.after sub_197 (un_clearDom.after sub_198 (un_mapChan.after sub_199 (un_drainChan.after sub_200 (by split; exacts [un_takeRetained.after sub_201 (un_discardPosted.after sub_202 (un_discardFlight.after sub_203 (un_settleLink.after sub_195 hk))), un_discardPosted.after sub_202 (un_discardFlight.after sub_203 (un_settleLink.after sub_195 hk))])))))))) (un_settleGroup.after sub_204 (un_tellPair.after sub_195 (un_endJobsOf.after sub_196 (un_showForced.after sub_197 (un_setBit.after sub_197 (un_clearDom.after sub_198 (un_mapChan.after sub_199 (un_drainChan.after sub_200 (by split; exacts [un_takeRetained.after sub_201 (un_discardPosted.after sub_202 (un_discardFlight.after sub_203 (un_settleLink.after sub_195 hk))), un_discardPosted.after sub_202 (un_discardFlight.after sub_203 (un_settleLink.after sub_195 hk))])))))))))
theorem un_afeLeft {s : State} {n : Ch} : Unchanged [.freeCtr, .regs, .moon, .retained, .posted, .heldWrites, .leases, .jrnl, .jobs, .clk, .cmt, .trig, .bist, .host, .chans, .groups] s (State.afeLeft s n) := by
  have hk := Unchanged.refl [.freeCtr, .regs, .moon, .retained, .posted, .heldWrites, .leases, .jrnl, .jobs, .clk, .cmt, .trig, .bist, .host, .chans, .groups] s
  unfold State.afeLeft
  exact un_foldl (un_clearDom.after sub_205 (un_drainChan.after sub_206 (by split; exacts [un_takeRetained.after sub_207 (un_discardPosted.after sub_208 (un_settleLink.after sub_209 hk)), un_discardPosted.after sub_208 (un_settleLink.after sub_209 hk)]))) (fun x1_0 x1_1 x1_2 => (by (try dsimp only); split; exacts [un_endJob.after sub_210 x1_2, x1_2]))
theorem un_hlLeft {s : State} {n : Ch} : Unchanged [.freeCtr, .regs, .moon, .retained, .heldWrites, .leases, .jrnl, .clk, .cmt, .trig, .host, .chans, .groups] s (State.hlLeft s n) := by
  have hk := Unchanged.refl [.freeCtr, .regs, .moon, .retained, .heldWrites, .leases, .jrnl, .clk, .cmt, .trig, .host, .chans, .groups] s
  unfold State.hlLeft
  exact un_settleLink.after sub_211 (un_cintIf.after sub_212 (un_setBit.after sub_212 (un_clearDom.after sub_213 (un_mapChan.after sub_214 (un_drainChan.after sub_215 (by split; exacts [un_takeRetained.after sub_216 hk, hk]))))))
theorem un_dspOn {s : State} {n : Ch} : Unchanged [.freeCtr, .regs, .heldWrites, .leases, .jrnl, .clk, .cmt, .trig, .life, .host, .chans, .groups] s (State.dspOn s n) := by
  have hk := Unchanged.refl [.freeCtr, .regs, .heldWrites, .leases, .jrnl, .clk, .cmt, .trig, .life, .host, .chans, .groups] s
  unfold State.dspOn
  exact un_bringUp.after sub_120 (un_tellPair.after sub_191 (un_showEngine.after sub_117 (un_showForced.after sub_117 (un_foldl (un_mapChan.after sub_119 hk) (fun x1_0 x1_1 x1_2 => (by split; exacts [un_fenceUnit.after sub_191 x1_2, x1_2]))))))
theorem un_domArrive {s : State} {n : Ch} {k : Fin 3} {t : PState} : Unchanged [.freeCtr, .regs, .moon, .retained, .posted, .heldWrites, .leases, .jrnl, .jobs, .clk, .cmt, .trig, .life, .bist, .host, .chans, .groups] s (State.domArrive s n k t) := by
  have hk := Unchanged.refl [.freeCtr, .regs, .moon, .retained, .posted, .heldWrites, .leases, .jrnl, .jobs, .clk, .cmt, .trig, .life, .bist, .host, .chans, .groups] s
  unfold State.domArrive
  exact un_showNf.after sub_197 (un_showPwr.after sub_197 (by split; exacts [(by split; exacts [un_dspLeft.after sub_217 (un_intr.after sub_197 (un_mapDom.after sub_218 hk)), un_afeLeft.after sub_219 (un_intr.after sub_197 (un_mapDom.after sub_218 hk)), un_hlLeft.after sub_220 (un_intr.after sub_197 (un_mapDom.after sub_218 hk))]), (by split; exacts [(by split; exacts [un_dspOn.after sub_203 (un_intr.after sub_197 (un_mapDom.after sub_218 hk)), un_bringUp.after sub_203 (un_trimOn.after sub_221 (un_intr.after sub_197 (un_mapDom.after sub_218 hk))), un_bringUp.after sub_203 (un_intr.after sub_197 (un_mapDom.after sub_218 hk))]), (by split; exacts [un_clearDom.after sub_198 (un_mapChan.after sub_199 (un_intr.after sub_197 (un_mapDom.after sub_218 hk))), un_clearDom.after sub_198 (un_intr.after sub_197 (un_mapDom.after sub_218 hk))])])]))
theorem un_settleDom {s : State} {n : Ch} {k : Fin 3} : Unchanged [.freeCtr, .regs, .heldWrites, .leases, .jrnl, .clk, .cmt, .trig, .host, .chans, .groups] s (State.settleDom s n k) := by
  have hk := Unchanged.refl [.freeCtr, .regs, .heldWrites, .leases, .jrnl, .clk, .cmt, .trig, .host, .chans, .groups] s
  unfold State.settleDom
  exact (by (try dsimp only); split; exacts [hk, (by split; exacts [(by split; exacts [hk, (by split; exacts [un_mapDom.after sub_91 hk, un_settleLink.after sub_93 (un_mapDom.after sub_91 hk)])]), (by split; exacts [(by split; exacts [hk, un_mapDom.after sub_91 hk]), hk])])])
theorem un_settlePower {s : State} {n : Ch} : Unchanged [.freeCtr, .regs, .heldWrites, .leases, .jrnl, .clk, .cmt, .trig, .host, .chans, .groups] s (State.settlePower s n) := by
  have hk := Unchanged.refl [.freeCtr, .regs, .heldWrites, .leases, .jrnl, .clk, .cmt, .trig, .host, .chans, .groups] s
  unfold State.settlePower
  exact un_showPwr.after sub_90 (un_settleDom.after sub_93 (un_settleDom.after sub_93 (un_settleDom.after sub_93 (un_settleDom.after sub_93 (un_settleDom.after sub_93 hk)))))
theorem un_cancelTest {s : State} {n : Ch} {k : Fin 3} : Unchanged [.freeCtr, .regs, .heldWrites, .leases, .jrnl, .jobs, .clk, .cmt, .trig, .life, .bist, .host, .chans, .groups] s (State.cancelTest s n k) := by
  have hk := Unchanged.refl [.freeCtr, .regs, .heldWrites, .leases, .jrnl, .jobs, .clk, .cmt, .trig, .life, .bist, .host, .chans, .groups] s
  unfold State.cancelTest
  exact (by (try dsimp only); split; exacts [hk, (by split; exacts [un_bringUp.after sub_222 (un_endJob.after sub_223 hk), un_bringUp.after sub_222 (un_mapDom.after sub_224 (un_setBit.after sub_225 (un_showJobs.after sub_225 (un_with_jobs mem_226 (hk)))))])])
theorem un_powerWritten {s : State} {n : Ch} : Unchanged [.freeCtr, .regs, .heldWrites, .leases, .jrnl, .jobs, .clk, .cmt, .trig, .life, .bist, .host, .chans, .groups] s (State.powerWritten s n) := by
  have hk := Unchanged.refl [.freeCtr, .regs, .heldWrites, .leases, .jrnl, .jobs, .clk, .cmt, .trig, .life, .bist, .host, .chans, .groups] s
  unfold State.powerWritten
  exact un_settlePower.after sub_227 (un_cancelTest.after sub_228 (un_cancelTest.after sub_228 (un_cancelTest.after sub_228 (un_mapChan.after sub_229 hk))))
theorem un_showNvm {s : State} : Unchanged [.regs, .life] s (State.showNvm s) := by
  have hk := Unchanged.refl [.regs, .life] s
  unfold State.showNvm
  exact un_when (un_setReg.after sub_13 hk) (un_setReg.after sub_13 (un_with_life mem_14 (un_setReg.after sub_13 hk)))
theorem un_settleNvm {s : State} : Unchanged [.regs, .nvmDom, .life] s (State.settleNvm s) := by
  have hk := Unchanged.refl [.regs, .nvmDom, .life] s
  unfold State.settleNvm
  exact (by (try dsimp only); split; exacts [(by split; exacts [un_showNvm.after sub_230 hk, un_showNvm.after sub_230 (un_with_nvmDom mem_231 (hk))]), (by split; exacts [un_showNvm.after sub_230 hk, un_showNvm.after sub_230 (un_with_nvmDom mem_231 (hk))])])
theorem un_nvmReqWritten {s : State} : Unchanged [.regs, .nvmDom, .life] s (State.nvmReqWritten s) := by
  have hk := Unchanged.refl [.regs, .nvmDom, .life] s
  unfold State.nvmReqWritten
  exact un_settleNvm.after sub_232 (un_with_nvmDom mem_231 (hk))
theorem un_clkInt {s : State} {i : Nat} : Unchanged [.regs] s (State.clkInt s i) := by
  have hk := Unchanged.refl [.regs] s
  unfold State.clkInt
  exact un_intr.after sub_2 hk
theorem un_clkFault {s : State} {i : Nat} : Unchanged [.regs, .jrnl, .alrm] s (State.clkFault s i) := by
  have hk := Unchanged.refl [.regs, .jrnl, .alrm] s
  unfold State.clkFault
  exact un_when (un_recordFault.after sub_129 hk) (un_selectFault.after sub_233 (un_recordFault.after sub_129 hk))
theorem un_mapClk {s : State} {f : Clk → Clk} : Unchanged [.clk] s (State.mapClk s f) := by
  have hk := Unchanged.refl [.clk] s
  unfold State.mapClk
  exact un_with_clk mem_9 (hk)
theorem un_setJudge {s : State} {st : Nat} : Unchanged [.regs] s (State.setJudge s st) := by
  have hk := Unchanged.refl [.regs] s
  unfold State.setJudge
  exact un_setFld.after sub_2 hk
theorem un_setCross {s : State} {v : Bool} : Unchanged [.regs] s (State.setCross s v) := by
  have hk := Unchanged.refl [.regs] s
  unfold State.setCross
  exact un_when hk (un_clkInt.after sub_2 (un_setBit.after sub_2 hk))
theorem un_startJudging {s : State} : Unchanged [.regs, .clk] s (State.startJudging s) := by
  have hk := Unchanged.refl [.regs, .clk] s
  unfold State.startJudging
  exact un_setJudge.after sub_234 (un_mapClk.after sub_235 hk)
theorem un_setXb {s : State} {v : Bool} : Unchanged [.regs, .clk] s (State.setXb s v) := by
  have hk := Unchanged.refl [.regs, .clk] s
  unfold State.setXb
  exact (by (try dsimp only); split; exacts [un_mapClk.after sub_235 (un_setBit.after sub_234 hk), un_setCross.after sub_234 (un_mapClk.after sub_235 (un_setBit.after sub_234 hk))])
theorem un_cpllDown {s : State} {n : Ch} : Unchanged [.freeCtr, .regs, .posted, .heldWrites, .leases, .jrnl, .clk, .cmt, .trig, .life, .host, .chans, .groups] s (State.cpllDown s n) := by
  have hk := Unchanged.refl [.freeCtr, .regs, .posted, .heldWrites, .leases, .jrnl, .clk, .cmt, .trig, .life, .host, .chans, .groups] s
  unfold State.cpllDown
  exact un_when (un_showPartner.after sub_236 (un_showPartner.after sub_236 (un_showEngine.after sub_237 (un_discardPosted.after sub_238 (un_discardFlight.after sub_239 (un_settleLink.after sub_240 (un_showForced.after sub_237 (un_setBit.after sub_237 (un_mapChan.after sub_241 (un_drainChan.after sub_242 hk)))))))))) (un_settleGroup.after sub_243 (un_showPartner.after sub_236 (un_showPartner.after sub_236 (un_showEngine.after sub_237 (un_discardPosted.after sub_238 (un_discardFlight.after sub_239 (un_settleLink.after sub_240 (un_showForced.after sub_237 (un_setBit.after sub_237 (un_mapChan.after sub_241 (un_drainChan.after sub_242 hk)))))))))))
theorem un_cpllLoss {s : State} {n : Ch} : Unchanged [.freeCtr, .regs, .posted, .heldWrites, .leases, .jrnl, .jobs, .clk, .cmt, .trig, .life, .bist, .alrm, .host, .chans, .groups] s (State.cpllLoss s n) := by
  have hk := Unchanged.refl [.freeCtr, .regs, .posted, .heldWrites, .leases, .jrnl, .jobs, .clk, .cmt, .trig, .life, .bist, .alrm, .host, .chans, .groups] s
  unfold State.cpllLoss
  exact (by split; exacts [un_cpllDown.after sub_244 (un_detectCh.after sub_245 (un_fldInt.after sub_246 hk)), (by split; exacts [un_cpllDown.after sub_244 hk, hk])])
theorem un_hpllLoss {s : State} {n : Ch} : Unchanged [.freeCtr, .regs, .heldWrites, .leases, .jrnl, .jobs, .clk, .cmt, .trig, .bist, .alrm, .host, .chans, .groups] s (State.hpllLoss s n) := by
  have hk := Unchanged.refl [.freeCtr, .regs, .heldWrites, .leases, .jrnl, .jobs, .clk, .cmt, .trig, .bist, .alrm, .host, .chans, .groups] s
  unfold State.hpllLoss
  exact (by split; exacts [un_showLf.after sub_134 (un_setBit.after sub_134 (un_setBit.after sub_134 (un_mapChan.after sub_153 (un_drainChan.after sub_247 (un_detectCh.after sub_154 (un_fldInt.after sub_134 hk)))))), hk])
theorem un_setOut {s : State} {k : Fin 2} {ramp : Bool} {low : Bool} : Unchanged [.regs] s (State.setOut s k ramp low) := by
  have hk := Unchanged.refl [.regs] s
  unfold State.setOut
  exact un_when hk (un_clkInt.after sub_2 (un_setReg.after sub_2 hk))
theorem un_setOpll {s : State} {k : Fin 2} {l : Loop} : Unchanged [.regs, .clk] s (State.setOpll s k l) := by
  have hk := Unchanged.refl [.regs, .clk] s
  unfold State.setOpll
  exact un_setBit.after sub_234 (un_mapClk.after sub_235 hk)
theorem un_relockOut {s : State} {k : Fin 2} {hard : Bool} : Unchanged [.regs, .clk] s (State.relockOut s k hard) := by
  have hk := Unchanged.refl [.regs, .clk] s
  unfold State.relockOut
  exact un_setOut.after sub_234 (un_setOpll.after sub_248 hk)
theorem un_setRel {s : State} {k : Fin 2} {x : Rat} : Unchanged [.clk] s (State.setRel s k x) := by
  have hk := Unchanged.refl [.clk] s
  unfold State.setRel
  exact un_mapClk.after sub_249 hk
theorem un_slewOut {s : State} {k : Fin 2} : Unchanged [.clk] s (State.slewOut s k) := by
  have hk := Unchanged.refl [.clk] s
  unfold State.slewOut
  exact (by (try dsimp only); split; exacts [hk, un_setRel.after sub_249 hk])
theorem un_relockOuts {s : State} {src : Bool} : Unchanged [.regs, .clk] s (State.relockOuts s src) := by
  have hk := Unchanged.refl [.regs, .clk] s
  unfold State.relockOuts
  exact un_foldl hk (fun x1_0 x1_1 x1_2 => (by split; exacts [un_relockOut.after sub_248 x1_2, x1_2]))
theorem un_spllLoss {s : State} : Unchanged [.freeCtr, .regs, .posted, .heldWrites, .leases, .jrnl, .jobs, .clk, .cmt, .trig, .life, .bist, .alrm, .host, .chans, .groups] s (State.spllLoss s) := by
  have hk := Unchanged.refl [.freeCtr, .regs, .posted, .heldWrites, .leases, .jrnl, .jobs, .clk, .cmt, .trig, .life, .bist, .alrm, .host, .chans, .groups] s
  unfold State.spllLoss
  exact (by split; exacts [un_relockOuts.after sub_250 (un_forCh (un_clkFault.after sub_251 (un_when (un_sat.after sub_246 (un_setBit.after sub_246 (un_setBit.after sub_246 (un_mapClk.after sub_252 hk)))) (un_clkInt.after sub_246 (un_sat.after sub_246 (un_setBit.after sub_246 (un_setBit.after sub_246 (un_mapClk.after sub_252 hk))))))) (fun x2_0 x2_1 x2_2 => un_hpllLoss.after sub_245 (un_cpllLoss.after sub_253 x2_2))), hk])
theorem un_moveRef {s : State} {r : Nat} : Unchanged [.regs, .jrnl] s (State.moveRef s r) := by
  have hk := Unchanged.refl [.regs, .jrnl] s
  unfold State.moveRef
  exact un_devFld.after sub_12 (un_fldInt.after sub_11 hk)
theorem un_refFails {s : State} {xb : Bool} : Unchanged [.freeCtr, .regs, .posted, .heldWrites, .leases, .jrnl, .jobs, .clk, .cmt, .trig, .life, .bist, .alrm, .host, .chans, .groups] s (State.refFails s xb) := by
  have hk := Unchanged.refl [.freeCtr, .regs, .posted, .heldWrites, .leases, .jrnl, .jobs, .clk, .cmt, .trig, .life, .bist, .alrm, .host, .chans, .groups] s
  unfold State.refFails
  exact (by (try dsimp only); split; exacts [(by split; exacts [un_when (un_mapClk.after sub_252 (un_moveRef.after sub_254 (un_spllLoss.after sub_253 (un_setXb.after sub_250 (un_clkFault.after sub_251 hk))))) (un_setJudge.after sub_246 (un_mapClk.after sub_252 (un_moveRef.after sub_254 (un_spllLoss.after sub_253 (un_setXb.after sub_250 (un_clkFault.after sub_251 hk)))))), un_spllLoss.after sub_253 (un_setXb.after sub_250 (un_clkFault.after sub_251 hk))]), (by split; exacts [un_when (un_mapClk.after sub_252 (un_moveRef.after sub_254 (un_spllLoss.after sub_253 (un_mapClk.after sub_252 (un_startJudging.after sub_250 (un_setBit.after sub_246 (un_setBit.after sub_246 (un_clkFault.after sub_251 hk)))))))) (un_setJudge.after sub_246 (un_mapClk.after sub_252 (un_moveRef.after sub_254 (un_spllLoss.after sub_253 (un_mapClk.after sub_252 (un_startJudging.after sub_250 (un_setBit.after sub_246 (un_setBit.after sub_246 (un_clkFault.after sub_251 hk))))))))), un_spllLoss.after sub_253 (un_mapClk.after sub_252 (un_startJudging.after sub_250 (un_setBit.after sub_246 (un_setBit.after sub_246 (un_clkFault.after sub_251 hk)))))])])
theorem un_attemptFails {s : State} {cause : Nat} : Unchanged [.regs, .clk] s (State.attemptFails s cause) := by
  have hk := Unchanged.refl [.regs, .clk] s
  unfold State.attemptFails
  exact un_setJudge.after sub_234 (un_mapClk.after sub_235 (un_setFld.after sub_234 (un_fldInt.after sub_234 hk)))
theorem un_attemptPasses {s : State} {crossed : Bool} : Unchanged [.freeCtr, .regs, .posted, .heldWrites, .leases, .jrnl, .jobs, .clk, .cmt, .trig, .life, .bist, .alrm, .host, .chans, .groups] s (State.attemptPasses s crossed) := by
  have hk := Unchanged.refl [.freeCtr, .regs, .posted, .heldWrites, .leases, .jrnl, .jobs, .clk, .cmt, .trig, .life, .bist, .alrm, .host, .chans, .groups] s
  unfold State.attemptPasses
  exact (by (try dsimp only); split; exacts [(by split; exacts [un_spllLoss.after sub_253 (un_moveRef.after sub_254 (un_setJudge.after sub_246 (un_mapClk.after sub_252 (un_setBit.after sub_246 (un_setBit.after sub_246 hk))))), un_setJudge.after sub_246 (un_mapClk.after sub_252 (un_setBit.after sub_246 (un_setBit.after sub_246 hk)))]), un_setFld.after sub_246 (un_setJudge.after sub_246 (un_mapClk.after sub_252 (un_setBit.after sub_246 (un_setBit.after sub_246 hk))))])
theorem un_setPll {s : State} {p : Pll} {l : Loop} : Unchanged [.regs, .clk, .tk, .chans] s (State.setPll s p l) := by
  have hk := Unchanged.refl [.regs, .clk, .tk, .chans] s
  unfold State.setPll
  exact (by split; exacts [un_mapClk.after sub_255 hk, un_with_tk mem_256 (hk), un_mapChan.after sub_257 hk, un_mapChan.after sub_257 hk, un_setOpll.after sub_258 hk])
theorem un_gateOpens {s : State} {p : Pll} : Unchanged [.freeCtr, .regs, .heldWrites, .leases, .jrnl, .clk, .cmt, .trig, .tk, .life, .host, .chans, .groups] s (State.gateOpens s p) := by
  have hk := Unchanged.refl [.freeCtr, .regs, .heldWrites, .leases, .jrnl, .clk, .cmt, .trig, .tk, .life, .host, .chans, .groups] s
  unfold State.gateOpens
  exact (by split; exacts [un_setJudge.after sub_259 (un_mapClk.after sub_260 (un_clkInt.after sub_259 (un_setBit.after sub_259 (un_setBit.after sub_259 hk)))), un_with_tk mem_261 (hk), (by (try dsimp only); split; exacts [un_startFast.after sub_262 (un_showPartner.after sub_263 (un_showPartner.after sub_263 (un_showEngine.after sub_259 (un_showForced.after sub_259 (un_setBit.after sub_259 (un_mapChan.after sub_264 hk)))))), un_bringUp.after sub_265 (un_showPartner.after sub_263 (un_showPartner.after sub_263 (un_showEngine.after sub_259 (un_showForced.after sub_259 (un_setBit.after sub_259 (un_mapChan.after sub_264 hk))))))]), un_showLf.after sub_259 (un_bringUp.after sub_265 (un_setBit.after sub_259 (un_setBit.after sub_259 hk))), (by (try dsimp only); split; exacts [un_when hk (un_setRel.after sub_260 hk), un_setOut.after sub_259 (un_when hk (un_setRel.after sub_260 hk))])])
theorem un_outWritten {s : State} {k : Fin 2} {old : Word} : Unchanged [.regs, .clk] s (State.outWritten s k old) := by
  have hk := Unchanged.refl [.regs, .clk] s
  unfold State.outWritten
  exact (by (try dsimp only); split; exacts [un_setOut.after sub_234 (un_setOpll.after sub_248 hk), (by split; exacts [un_relockOut.after sub_248 hk, (by split; exacts [un_relockOut.after sub_248 hk, hk])])])
theorem un_clearWindow {s : State} {g : Tg} : Unchanged [.chans, .groups] s (State.clearWindow s g) := by
  have hk := Unchanged.refl [.chans, .groups] s
  unfold State.clearWindow
  exact un_mapGroup.after sub_266 (un_forCh hk (fun x1_0 x1_1 x1_2 => (by split; exacts [un_mapKtl.after sub_267 x1_2, x1_2])))
theorem un_judgeLock {s : State} {g : Tg} {e : Rat} : Unchanged [.regs, .jrnl, .cmt, .trig, .groups] s (State.judgeLock s g e) := by
  have hk := Unchanged.refl [.regs, .jrnl, .cmt, .trig, .groups] s
  unfold State.judgeLock
  exact (by (try dsimp only); split; exacts [(by (try dsimp only); split; exacts [(by split; exacts [un_enterGrp.after sub_38 (un_mapGroup.after sub_34 hk), un_mapGroup.after sub_34 hk]), (by split; exacts [un_enterGrp.after sub_38 (un_mapGroup.after sub_34 hk), un_mapGroup.after sub_34 hk])]), (by split; exacts [un_enterGrp.after sub_38 hk, hk])])
theorem un_steer {s : State} {g : Tg} {e : Rat} : Unchanged [.regs, .jrnl, .cmt, .trig, .chans, .groups] s (State.steer s g e) := by
  have hk := Unchanged.refl [.regs, .jrnl, .cmt, .trig, .chans, .groups] s
  unfold State.steer
  exact un_judgeLock.after sub_125 (un_showRate.after sub_121 (by split; exacts [un_stepTime.after sub_268 (un_mapGroup.after sub_269 (un_setReg.after sub_121 hk)), un_mapGroup.after sub_269 (un_setReg.after sub_121 hk)]))
theorem un_takeSrc {s : State} {g : Tg} : Unchanged [.regs, .jrnl, .cmt, .trig, .groups] s (State.takeSrc s g) := by
  have hk := Unchanged.refl [.regs, .jrnl, .cmt, .trig, .groups] s
  unfold State.takeSrc
  exact un_settleGroup.after sub_38 (un_mapGroup.after sub_34 hk)
theorem un_declare {s : State} {g : Tg} : Unchanged [.regs, .jrnl, .cmt, .trig, .groups] s (State.declare s g) := by
  have hk := Unchanged.refl [.regs, .jrnl, .cmt, .trig, .groups] s
  unfold State.declare
  exact un_settleGroup.after sub_38 (un_intr.after sub_30 (un_mapGroup.after sub_34 (un_setGrp.after sub_33 (un_sat.after sub_30 hk))))
theorem un_showPps {s : State} : Unchanged [.regs] s (State.showPps s) := by
  have hk := Unchanged.refl [.regs] s
  unfold State.showPps
  exact un_setFld.after sub_2 (un_setFld.after sub_2 (un_setReg.after sub_2 (un_setFld.after sub_2 (un_setReg.after sub_2 hk))))
theorem un_ppsMiss {s : State} {k : Fin 2} : Unchanged [.regs] s (State.ppsMiss s k) := by
  have hk := Unchanged.refl [.regs] s
  unfold State.ppsMiss
  exact (by split; exacts [un_fldInt.after sub_2 hk, un_fldInt.after sub_2 hk])
theorem un_showTap {s : State} {n : Ch} : Unchanged [.regs] s (State.showTap s n) := by
  have hk := Unchanged.refl [.regs] s
  unfold State.showTap
  exact un_setReg.after sub_2 hk
theorem un_showCorr {s : State} {n : Ch} : Unchanged [.regs] s (State.showCorr s n) := by
  have hk := Unchanged.refl [.regs] s
  unfold State.showCorr
  exact un_setReg.after sub_2 hk
theorem un_showCh {s : State} {n : Ch} : Unchanged [.regs] s (State.showCh s n) := by
  have hk := Unchanged.refl [.regs] s
  unfold State.showCh
  exact un_when (un_when hk (un_setBit.after sub_2 (un_setBit.after sub_2 (un_setFld.after sub_2 (un_showTap.after sub_2 hk))))) (un_showCorr.after sub_2 (un_when hk (un_setBit.after sub_2 (un_setBit.after sub_2 (un_setFld.after sub_2 (un_showTap.after sub_2 hk))))))
theorem un_showLive {s : State} : Unchanged [.regs] s (State.showLive s) := by
  have hk := Unchanged.refl [.regs] s
  unfold State.showLive
  exact un_forCh hk (fun x1_0 x1_1 x1_2 => un_showCh.after sub_2 x1_2)
theorem un_mapTk {s : State} {f : Tk → Tk} : Unchanged [.tk] s (State.mapTk s f) := by
  have hk := Unchanged.refl [.tk] s
  unfold State.mapTk
  exact un_with_tk mem_270 (hk)
theorem un_tkInt {s : State} {i : Nat} : Unchanged [.regs] s (State.tkInt s i) := by
  have hk := Unchanged.refl [.regs] s
  unfold State.tkInt
  exact un_intr.after sub_2 hk
theorem un_advance {s : State} : Unchanged [.groups] s (State.advance s) := by
  have hk := Unchanged.refl [.groups] s
  unfold State.advance
  exact (by split; exacts [un_with_groups mem_5 (hk), hk])
theorem un_capAsked {s : State} {d : Word} : Unchanged [.tk] s (State.capAsked s d) := by
  have hk := Unchanged.refl [.tk] s
  unfold State.capAsked
  exact un_when hk (un_mapTk.after sub_271 hk)
theorem un_timeTurned {s : State} : Unchanged [.regs] s (State.timeTurned s) := by
  have hk := Unchanged.refl [.regs] s
  unfold State.timeTurned
  exact un_tkInt.after sub_2 (un_setBit.after sub_2 hk)
theorem un_showLeap {s : State} : Unchanged [.regs, .jrnl] s (State.showLeap s) := by
  have hk := Unchanged.refl [.regs, .jrnl] s
  unfold State.showLeap
  exact un_setReg.after sub_11 (un_setReg.after sub_11 (un_setReg.after sub_11 (un_setReg.after sub_11 (un_setReg.after sub_11 (by split; exacts [(by split; exacts [un_tkInt.after sub_11 (un_devFld.after sub_12 (un_setBit.after sub_11 hk)), un_setBit.after sub_11 hk]), un_setBit.after sub_11 hk])))))
theorem un_timeDone {s : State} {g : Tg} {op : Nat} : Unchanged [.regs, .jrnl, .cmt, .trig, .chans, .groups] s (State.timeDone s g op) := by
  have hk := Unchanged.refl [.regs, .jrnl, .cmt, .trig, .chans, .groups] s
  unfold State.timeDone
  exact (by split; exacts [hk, un_showLeap.after sub_122 (un_settleGroup.after sub_125 (un_stepTime.after sub_268 (un_setBit.after sub_121 (un_tkInt.after sub_121 (un_wrap.after sub_121 (un_setBit.after sub_121 (un_when hk (un_mapGroup.after sub_269 hk))))))))])
theorem un_leapDone {s : State} {op : Nat} : Unchanged [.regs, .jrnl, .tk] s (State.leapDone s op) := by
  have hk := Unchanged.refl [.regs, .jrnl, .tk] s
  unfold State.leapDone
  exact (by split; exacts [un_showLeap.after sub_272 (un_mapTk.after sub_273 hk), un_showLeap.after sub_272 (un_mapTk.after sub_273 hk), un_showLeap.after sub_272 (un_mapTk.after sub_273 hk), hk])
theorem un_alarmTry {s : State} {a : Nat} : Unchanged [.regs, .jrnl] s (State.alarmTry s a) := by
  have hk := Unchanged.refl [.regs, .jrnl] s
  unfold State.alarmTry
  exact (by split; exacts [un_when (un_tkInt.after sub_11 (un_wrap32.after sub_11 hk)) (un_devFld.after sub_12 (un_tkInt.after sub_11 (un_wrap32.after sub_11 hk))), hk])
theorem un_tkxMissed {s : State} : Unchanged [.regs, .tk] s (State.tkxMissed s) := by
  have hk := Unchanged.refl [.regs, .tk] s
  unfold State.tkxMissed
  exact un_mapTk.after sub_274 (un_sat.after sub_275 hk)
theorem un_tkxFound {s : State} {k : Nat} : Unchanged [.regs, .clk, .tk] s (State.tkxFound s k) := by
  have hk := Unchanged.refl [.regs, .clk, .tk] s
  unfold State.tkxFound
  exact (by (try dsimp only); split; exacts [un_relockOuts.after sub_276 (un_mapTk.after sub_277 (un_tkInt.after sub_278 (un_setFld.after sub_278 (un_setBit.after sub_278 hk)))), un_setBit.after sub_278 (un_mapTk.after sub_277 (un_tkInt.after sub_278 (un_setFld.after sub_278 (un_setBit.after sub_278 hk))))])
theorem un_tkxFault {s : State} : Unchanged [.regs, .jrnl, .alrm] s (State.tkxFault s) := by
  have hk := Unchanged.refl [.regs, .jrnl, .alrm] s
  unfold State.tkxFault
  exact un_when (un_recordFault.after sub_129 hk) (un_selectFault.after sub_233 (un_recordFault.after sub_129 hk))
theorem un_mapLife {s : State} {f : Life → Life} : Unchanged [.life] s (State.mapLife s f) := by
  have hk := Unchanged.refl [.life] s
  unfold State.mapLife
  exact un_with_life mem_279 (hk)
theorem un_heatSeconds {s : State} : Unchanged [.regs, .life] s (State.heatSeconds s) := by
  have hk := Unchanged.refl [.regs, .life] s
  unfold State.heatSeconds
  exact (by split; exacts [hk, un_forCh (un_foldl hk (fun x3_0 x3_1 x3_2 => un_lifeAdd.after sub_280 x3_2)) (fun x2_0 x2_1 x2_2 => un_when x2_2 (un_lifeAdd.after sub_280 x2_2))])
theorem un_showHist {s : State} : Unchanged [.regs] s (State.showHist s) := by
  have hk := Unchanged.refl [.regs] s
  unfold State.showHist
  exact un_foldl hk (fun x1_0 x1_1 x1_2 => un_showLife.after sub_2 x1_2)
theorem un_showWear {s : State} : Unchanged [.regs] s (State.showWear s) := by
  have hk := Unchanged.refl [.regs] s
  unfold State.showWear
  exact un_showLife.after sub_2 hk
theorem un_showTotals {s : State} : Unchanged [.regs] s (State.showTotals s) := by
  have hk := Unchanged.refl [.regs] s
  unfold State.showTotals
  exact un_foldl (un_setReg.after sub_2 (un_setReg.after sub_2 hk)) (fun x1_0 x1_1 x1_2 => un_showLife.after sub_2 x1_2)
theorem un_loadLedger {s : State} : Unchanged [.regs, .life] s (State.loadLedger s) := by
  have hk := Unchanged.refl [.regs, .life] s
  unfold State.loadLedger
  exact (by split; exacts [un_showTotals.after sub_13 (un_intr.after sub_13 (un_setReg.after sub_13 (un_setReg.after sub_13 (un_mapLife.after sub_281 hk)))), un_showTotals.after sub_13 (un_when (un_setReg.after sub_13 (un_setReg.after sub_13 (un_setReg.after sub_13 (un_setReg.after sub_13 (un_mapLife.after sub_281 hk))))) (un_intr.after sub_13 (un_setReg.after sub_13 (un_setReg.after sub_13 (un_setReg.after sub_13 (un_setReg.after sub_13 (un_mapLife.after sub_281 hk)))))))])
theorem un_askLedger {s : State} : Unchanged [.freeCtr, .regs, .heldWrites, .leases, .jrnl, .jobs, .clk, .cmt, .trig, .bist, .host, .chans, .groups] s (State.askLedger s) := by
  have hk := Unchanged.refl [.freeCtr, .regs, .heldWrites, .leases, .jrnl, .jobs, .clk, .cmt, .trig, .bist, .host, .chans, .groups] s
  unfold State.askLedger
  exact (by split; exacts [hk, un_devRequest.after sub_106 hk])
theorem un_trendSelected {s : State} : Unchanged [.regs, .life] s (State.trendSelected s) := by
  have hk := Unchanged.refl [.regs, .life] s
  unfold State.trendSelected
  exact (by split; exacts [un_mapLife.after sub_281 (un_setReg.after sub_13 hk), un_mapLife.after sub_281 (un_setReg.after sub_13 hk)])
theorem un_mapJrnl {s : State} {f : Jrnl → Jrnl} : Unchanged [.jrnl] s (State.mapJrnl s f) := by
  have hk := Unchanged.refl [.jrnl] s
  unfold State.mapJrnl
  exact un_with_jrnl mem_282 (hk)
theorem un_gapEntry {s : State} {q : Word} {k : Word} : Unchanged [.regs, .jrnl, .host] s (State.gapEntry s q k) := by
  have hk := Unchanged.refl [.regs, .jrnl, .host] s
  unfold State.gapEntry
  exact un_with_host mem_283 (un_intr.after sub_284 (un_jAppend.after sub_285 hk))
theorem un_gapRecord {s : State} {q : Word} {k : Nat} : Unchanged [.regs, .jrnl, .host] s (State.gapRecord s q k) := by
  have hk := Unchanged.refl [.regs, .jrnl, .host] s
  unfold State.gapRecord
  exact un_mapJrnl.after sub_286 (un_gapEntry.after sub_287 hk)
theorem un_gapsBefore {s : State} : Unchanged [.regs, .jrnl, .host] s (State.gapsBefore s) := by
  have hk := Unchanged.refl [.regs, .jrnl, .host] s
  unfold State.gapsBefore
  exact (by (try dsimp only); split; exacts [(by split; exacts [un_gapRecord.after sub_287 hk, hk]), (by split; exacts [hk, un_gapRecord.after sub_287 hk])])
theorem un_commitPage {s : State} : Unchanged [.regs, .jrnl, .nvm, .life, .host] s (State.commitPage s) := by
  have hk := Unchanged.refl [.regs, .jrnl, .nvm, .life, .host] s
  unfold State.commitPage
  exact un_when (un_mapJrnl.after sub_288 (by split; exacts [(by split; exacts [(by split; exacts [un_mapJrnl.after sub_288 (un_mapJrnl.after sub_288 (un_program.after sub_289 (un_gapsBefore.after sub_290 hk))), un_mapJrnl.after sub_288 (un_program.after sub_289 (un_gapsBefore.after sub_290 hk))]), (by split; exacts [un_mapJrnl.after sub_288 (un_mapJrnl.after sub_288 (un_program.after sub_289 (un_gapsBefore.after sub_290 hk))), un_mapJrnl.after sub_288 (un_program.after sub_289 (un_gapsBefore.after sub_290 hk))])]), (by split; exacts [(by split; exacts [un_mapJrnl.after sub_288 (un_mapJrnl.after sub_288 (un_program.after sub_289 (un_gapsBefore.after sub_290 hk))), un_mapJrnl.after sub_288 (un_program.after sub_289 (un_gapsBefore.after sub_290 hk))]), (by split; exacts [un_mapJrnl.after sub_288 (un_mapJrnl.after sub_288 (un_program.after sub_289 (un_gapsBefore.after sub_290 hk))), un_mapJrnl.after sub_288 (un_program.after sub_289 (un_gapsBefore.after sub_290 hk))])])])) (un_setBit.after sub_291 (un_mapJrnl.after sub_288 (by split; exacts [(by split; exacts [(by split; exacts [un_mapJrnl.after sub_288 (un_mapJrnl.after sub_288 (un_program.after sub_289 (un_gapsBefore.after sub_290 hk))), un_mapJrnl.after sub_288 (un_program.after sub_289 (un_gapsBefore.after sub_290 hk))]), (by split; exacts [un_mapJrnl.after sub_288 (un_mapJrnl.after sub_288 (un_program.after sub_289 (un_gapsBefore.after sub_290 hk))), un_mapJrnl.after sub_288 (un_program.after sub_289 (un_gapsBefore.after sub_290 hk))])]), (by split; exacts [(by split; exacts [un_mapJrnl.after sub_288 (un_mapJrnl.after sub_288 (un_program.after sub_289 (un_gapsBefore.after sub_290 hk))), un_mapJrnl.after sub_288 (un_program.after sub_289 (un_gapsBefore.after sub_290 hk))]), (by split; exacts [un_mapJrnl.after sub_288 (un_mapJrnl.after sub_288 (un_program.after sub_289 (un_gapsBefore.after sub_290 hk))), un_mapJrnl.after sub_288 (un_program.after sub_289 (un_gapsBefore.after sub_290 hk))])])])))
theorem un_journalJob {s : State} {k : Fin 8} : Unchanged [.freeCtr, .regs, .heldWrites, .leases, .jrnl, .jobs, .nvm, .clk, .cmt, .trig, .life, .bist, .host, .chans, .groups] s (State.journalJob s k) := by
  have hk := Unchanged.refl [.freeCtr, .regs, .heldWrites, .leases, .jrnl, .jobs, .nvm, .clk, .cmt, .trig, .life, .bist, .host, .chans, .groups] s
  unfold State.journalJob
  exact un_endJob.after sub_292 (by split; exacts [un_commitPage.after sub_293 hk, hk])
theorem un_showEntry {s : State} {e : Option (BitVec 256)} : Unchanged [.regs] s (State.showEntry s e) := by
  have hk := Unchanged.refl [.regs] s
  unfold State.showEntry
  exact un_setReg.after sub_2 (un_foldl hk (fun x1_0 x1_1 x1_2 => un_setReg.after sub_2 x1_2))
theorem un_loadEntry {s : State} : Unchanged [.regs, .jrnl] s (State.loadEntry s) := by
  have hk := Unchanged.refl [.regs, .jrnl] s
  unfold State.loadEntry
  exact (by (try dsimp only); split; exacts [(by split; exacts [un_mapJrnl.after sub_294 (un_setReg.after sub_11 (un_showEntry.after sub_11 (un_mapJrnl.after sub_294 hk))), un_showEntry.after sub_11 (un_mapJrnl.after sub_294 hk)]), (by split; exacts [un_showEntry.after sub_11 (un_mapJrnl.after sub_294 hk), un_showEntry.after sub_11 (un_mapJrnl.after sub_294 hk)])])
theorem un_nextEntry {s : State} : Unchanged [.regs, .jrnl] s (State.nextEntry s) := by
  have hk := Unchanged.refl [.regs, .jrnl] s
  unfold State.nextEntry
  exact (by split; exacts [un_loadEntry.after sub_12 (un_setReg.after sub_11 hk), hk])
theorem un_newRing {s : State} : Unchanged [.regs, .jrnl, .host] s (State.newRing s) := by
  have hk := Unchanged.refl [.regs, .jrnl, .host] s
  unfold State.newRing
  exact un_gapEntry.after sub_287 (un_with_jrnl mem_295 (hk))
theorem un_loadLeap {s : State} : Unchanged [.regs, .jrnl, .tk] s (State.loadLeap s) := by
  have hk := Unchanged.refl [.regs, .jrnl, .tk] s
  unfold State.loadLeap
  exact un_showLeap.after sub_272 (un_mapTk.after sub_273 hk)
theorem un_nvmEffect_some {L : List Part} {k0 s t : State} {typ : Byte} {a : Nat} (he : s.nvmEffect typ a = some t) (hL : [.regs, .jrnl, .nvm, .tk, .life, .chans].all L.contains = true) (hk : Unchanged L k0 s) : Unchanged L k0 t := by
  have key : Unchanged [.regs, .jrnl, .nvm, .tk, .life, .chans] s t := by
    unfold State.nvmEffect at he
    generalize Fin.ofNat 16 a = n at he
    have hk := Unchanged.refl [.regs, .jrnl, .nvm, .tk, .life, .chans] s
    split at he
    · split at he <;> (injection he with he; subst he)
      · exact un_loadLeap.after rfl hk
      · exact un_loadProfile.after rfl hk
    split at he
    · split at he
      · injection he with he; subst he
        exact un_with_nvm rfl (un_foldl hk (fun t x h => un_program.after rfl h))
      · simp at he
    split at he
    · split at he
      · simp at he
      · injection he with he; subst he; exact un_program.after rfl hk
    split at he
    · split at he
      · simp at he
      · injection he with he; subst he; exact un_program.after rfl hk
    dsimp only at he
    split at he
    · simp at he
    · injection he with he; subst he; exact un_program.after rfl (un_setProfile.after rfl hk)
  exact key.after hL hk
theorem un_nvmWork {s : State} {k : Fin 8} {fault : Bool} : Unchanged [.freeCtr, .regs, .heldWrites, .leases, .jrnl, .jobs, .nvm, .clk, .cmt, .trig, .tk, .life, .bist, .host, .chans, .groups] s (s.nvmWork k fault) := by
  unfold State.nvmWork
  split
  · exact Unchanged.refl _ _
  dsimp only
  split
  · exact un_endJob.after rfl (un_nvmEffect_some ‹_› rfl (Unchanged.refl _ _))
  · exact un_endJob.after rfl (Unchanged.refl _ _)
theorem un_showRepairs {s : State} : Unchanged [.regs] s (State.showRepairs s) := by
  have hk := Unchanged.refl [.regs] s
  unfold State.showRepairs
  exact un_setFld.after sub_2 (un_setFld.after sub_2 hk)
theorem un_writeRepairs {s : State} : Unchanged [.regs, .nvm, .life, .bist] s (State.writeRepairs s) := by
  have hk := Unchanged.refl [.regs, .nvm, .life, .bist] s
  unfold State.writeRepairs
  exact un_showRepairs.after sub_296 (un_with_bist mem_297 (un_foldl hk (fun x1_0 x1_1 x1_2 => (by split; exacts [un_intr.after sub_296 (un_program.after sub_298 x1_2), x1_2]))))
theorem un_repairJob {s : State} {k : Fin 8} : Unchanged [.freeCtr, .regs, .heldWrites, .leases, .jrnl, .jobs, .nvm, .clk, .cmt, .trig, .life, .bist, .host, .chans, .groups] s (State.repairJob s k) := by
  have hk := Unchanged.refl [.freeCtr, .regs, .heldWrites, .leases, .jrnl, .jobs, .nvm, .clk, .cmt, .trig, .life, .bist, .host, .chans, .groups] s
  unfold State.repairJob
  exact (by split; exacts [un_endJob.after sub_292 (un_writeRepairs.after sub_299 hk), hk])
theorem un_showFail {s : State} : Unchanged [.regs] s (State.showFail s) := by
  have hk := Unchanged.refl [.regs] s
  unfold State.showFail
  exact (by (try dsimp only); split; exacts [un_setReg.after sub_2 (un_setReg.after sub_2 (un_setReg.after sub_2 (un_setReg.after sub_2 hk))), un_setReg.after sub_2 (un_setReg.after sub_2 (un_setReg.after sub_2 (un_setReg.after sub_2 hk)))])
theorem un_failEntry {s : State} {d : Nat} {inst : Nat} {code : Nat} {row : Nat} {bit : Nat} : Unchanged [.regs, .bist] s (State.failEntry s d inst code row bit) := by
  have hk := Unchanged.refl [.regs, .bist] s
  unfold State.failEntry
  exact un_wrap.after sub_300 (un_with_bist mem_301 (hk))
theorem un_elim {α : Type} {L : List Part} {k0 s : State} {x : Option α} {f : α → State} (hk : Unchanged L k0 s) (hf : ∀ a, Unchanged L k0 (f a)) : Unchanged L k0 (x.elim s f) := by
  cases x with
  | none => exact hk
  | some a => exact hf a
theorem un_logFails {s : State} {d : Nat} {insts : List Nat} {x : Found} : Unchanged [.regs, .bist] s (s.logFails d insts x) := by
  have hk := Unchanged.refl [.regs, .bist] s
  unfold State.logFails
  exact un_foldl (un_elim (un_foldl hk (fun x3_0 x3_1 x3_2 => un_foldl x3_2 (fun x5_0 x5_1 x5_2 => un_failEntry.after sub_302 x5_2))) (fun x2_0 => un_failEntry.after sub_302 (un_foldl hk (fun x4_0 x4_1 x4_2 => un_foldl x4_2 (fun x6_0 x6_1 x6_2 => un_failEntry.after sub_302 x6_2))))) (fun x1_0 x1_1 x1_2 => un_failEntry.after sub_302 x1_2)
theorem un_logRecords {s : State} {d : Nat} {recs : List Repair} {repair : Bool} : Unchanged [.regs, .nvm, .life, .bist] s (State.logRecords s d recs repair) := by
  have hk := Unchanged.refl [.regs, .nvm, .life, .bist] s
  unfold State.logRecords
  exact (by (try dsimp only); split; exacts [un_writeRepairs.after sub_303 (un_showFail.after sub_296 (un_with_bist mem_297 (hk))), un_showRepairs.after sub_296 (un_showFail.after sub_296 (un_with_bist mem_297 (hk)))])
theorem un_showVerdict {s : State} {d : Nat} {pass : Bool} {fits : Bool} {named : Bool} {total : Nat} {spent : Bool} : Unchanged [.regs] s (State.showVerdict s d pass fits named total spent) := by
  have hk := Unchanged.refl [.regs] s
  unfold State.showVerdict
  exact un_when (un_when (un_wrap.after sub_2 (un_setReg.after sub_2 hk)) (un_intr.after sub_2 (un_wrap.after sub_2 (un_setReg.after sub_2 hk)))) (un_intr.after sub_2 (un_when (un_wrap.after sub_2 (un_setReg.after sub_2 hk)) (un_intr.after sub_2 (un_wrap.after sub_2 (un_setReg.after sub_2 hk)))))
theorem un_testLeaves {s : State} {k : Fin 8} {n : Ch} {j : JobSlot} : Unchanged [.regs, .chans] s (State.testLeaves s k n j) := by
  have hk := Unchanged.refl [.regs, .chans] s
  unfold State.testLeaves
  exact (by split; exacts [un_mapDom.after sub_57 hk, un_showPwr.after sub_15 hk])
theorem un_testDone {s : State} {k : Fin 8} {x : Found} : Unchanged [.freeCtr, .regs, .heldWrites, .leases, .jrnl, .jobs, .nvm, .clk, .cmt, .trig, .life, .bist, .host, .chans, .groups] s (State.testDone s k x) := by
  have hk := Unchanged.refl [.freeCtr, .regs, .heldWrites, .leases, .jrnl, .jobs, .nvm, .clk, .cmt, .trig, .life, .bist, .host, .chans, .groups] s
  unfold State.testDone
  exact un_testLeaves.after sub_304 (un_endJob.after sub_292 (un_dropPort.after sub_305 (un_mapSlot.after sub_306 (un_showVerdict.after sub_305 (un_logRecords.after sub_299 (un_logFails.after sub_307 (un_elim hk (fun x1_0 => un_dropCoefs.after sub_304 hk))))))))
theorem un_tdrEnd {s : State} {k : Fin 8} {n : Ch} : Unchanged [.freeCtr, .regs, .heldWrites, .leases, .jrnl, .jobs, .clk, .cmt, .trig, .bist, .host, .chans, .groups] s (State.tdrEnd s k n) := by
  have hk := Unchanged.refl [.freeCtr, .regs, .heldWrites, .leases, .jrnl, .jobs, .clk, .cmt, .trig, .bist, .host, .chans, .groups] s
  unfold State.tdrEnd
  exact (by (try dsimp only); split; exacts [un_endJob.after sub_106 hk, un_endJob.after sub_106 (un_cint.after sub_104 (un_mapSlot.after sub_105 (un_foldl (un_setReg.after sub_104 (un_setReg.after sub_104 hk)) (fun x2_0 x2_1 x2_2 => (by split; exacts [un_setReg.after sub_104 (un_setReg.after sub_104 x2_2), un_setReg.after sub_104 (un_setReg.after sub_104 x2_2)])))))])
theorem un_tdrStep {s : State} {k : Fin 8} {vals : List Int} : Unchanged [.freeCtr, .regs, .heldWrites, .leases, .jrnl, .jobs, .clk, .cmt, .trig, .bist, .host, .chans, .groups] s (State.tdrStep s k vals) := by
  have hk := Unchanged.refl [.freeCtr, .regs, .heldWrites, .leases, .jrnl, .jobs, .clk, .cmt, .trig, .bist, .host, .chans, .groups] s
  unfold State.tdrStep
  exact (by (try dsimp only); split; exacts [hk, (by split; exacts [un_tdrEnd.after sub_106 hk, un_transmit.after sub_308 (un_mapSlot.after sub_105 hk)])])
theorem un_learnForm {s : State} {k : Fin 8} {n : Ch} : Unchanged [.regs, .posted, .heldWrites, .jobs] s (State.learnForm s k n) := by
  have hk := Unchanged.refl [.regs, .posted, .heldWrites, .jobs] s
  unfold State.learnForm
  exact un_mapSlot.after sub_309 (by split; exacts [(by split; exacts [(by split; exacts [un_postOwn.after sub_310 hk, hk]), (by split; exacts [un_postOwn.after sub_310 hk, hk])]), (by split; exacts [un_postOwn.after sub_310 hk, hk])])
theorem un_learnStore {s : State} {k : Fin 8} {n : Ch} : Unchanged [.freeCtr, .regs, .heldWrites, .leases, .jrnl, .jobs, .nvm, .clk, .cmt, .trig, .life, .bist, .host, .chans, .groups] s (State.learnStore s k n) := by
  have hk := Unchanged.refl [.freeCtr, .regs, .heldWrites, .leases, .jrnl, .jobs, .nvm, .clk, .cmt, .trig, .life, .bist, .host, .chans, .groups] s
  unfold State.learnStore
  exact (by (try dsimp only); split; exacts [un_endJob.after sub_292 (un_setProfile.after sub_304 hk), (by split; exacts [un_endJob.after sub_292 (un_setProfile.after sub_304 hk), un_endJob.after sub_292 (un_program.after sub_311 (un_setProfile.after sub_304 hk))])])
theorem un_learnStep {s : State} {k : Fin 8} : Unchanged [.freeCtr, .regs, .posted, .heldWrites, .leases, .jrnl, .jobs, .nvm, .clk, .cmt, .trig, .life, .bist, .host, .chans, .groups] s (State.learnStep s k) := by
  have hk := Unchanged.refl [.freeCtr, .regs, .posted, .heldWrites, .leases, .jrnl, .jobs, .nvm, .clk, .cmt, .trig, .life, .bist, .host, .chans, .groups] s
  unfold State.learnStep
  exact (by (try dsimp only); split; exacts [hk, (by (try dsimp only); split; exacts [(by split; exacts [un_endJob.after sub_312 hk, un_mapDiag.after sub_313 (un_mapSlot.after sub_314 hk)]), (by split; exacts [un_learnForm.after sub_315 hk, un_learnStore.after sub_316 hk])])])
theorem un_writeTrend {s : State} {due : Option (Nat × Word)} : Unchanged [.regs, .nvm, .life] s (State.writeTrend s due) := by
  have hk := Unchanged.refl [.regs, .nvm, .life] s
  unfold State.writeTrend
  exact (by split; exacts [un_foldl hk (fun x2_0 x2_1 x2_2 => (by split; exacts [x2_2, un_program.after sub_317 x2_2])), hk])
theorem un_ledgerDone {s : State} {k : Fin 8} {slot : Nat} : Unchanged [.freeCtr, .regs, .heldWrites, .leases, .jrnl, .jobs, .clk, .cmt, .trig, .life, .bist, .host, .chans, .groups] s (State.ledgerDone s k slot) := by
  have hk := Unchanged.refl [.freeCtr, .regs, .heldWrites, .leases, .jrnl, .jobs, .clk, .cmt, .trig, .life, .bist, .host, .chans, .groups] s
  unfold State.ledgerDone
  exact un_endJob.after sub_223 (un_mapSlot.after sub_318 (un_setFld.after sub_225 (un_setReg.after sub_225 (by split; exacts [un_wrap32.after sub_225 (un_setReg.after sub_225 (un_mapLife.after sub_319 (un_foldl hk (fun x2_0 x2_1 x2_2 => (by split; exacts [x2_2, un_mapSlot.after sub_318 x2_2]))))), un_mapLife.after sub_319 (un_foldl hk (fun x2_0 x2_1 x2_2 => (by split; exacts [x2_2, un_mapSlot.after sub_318 x2_2])))]))))
theorem un_ledgerStep {s : State} {k : Fin 8} {fault : Bool} : Unchanged [.freeCtr, .regs, .heldWrites, .leases, .jrnl, .jobs, .nvm, .clk, .cmt, .trig, .life, .bist, .host, .chans, .groups] s (State.ledgerStep s k fault) := by
  have hk := Unchanged.refl [.freeCtr, .regs, .heldWrites, .leases, .jrnl, .jobs, .nvm, .clk, .cmt, .trig, .life, .bist, .host, .chans, .groups] s
  unfold State.ledgerStep
  exact (by (try dsimp only); split; exacts [un_endJob.after sub_292 hk, (by split; exacts [un_mapSlot.after sub_306 hk, (by split; exacts [(by (try dsimp only); split; exacts [un_writeTrend.after sub_311 (un_program.after sub_311 hk), un_program.after sub_311 hk]), (by split; exacts [un_ledgerDone.after sub_320 hk, un_endJob.after sub_292 hk])])])])
theorem un_testStep {s : State} {k : Fin 8} {e : StepEnv} : Unchanged [.freeCtr, .regs, .heldWrites, .leases, .jrnl, .jobs, .nvm, .clk, .cmt, .trig, .life, .bist, .host, .chans, .groups] s (State.testStep s k e) := by
  have hk := Unchanged.refl [.freeCtr, .regs, .heldWrites, .leases, .jrnl, .jobs, .nvm, .clk, .cmt, .trig, .life, .bist, .host, .chans, .groups] s
  unfold State.testStep
  exact (by (try dsimp only); split; exacts [un_mapSlot.after sub_306 hk, (by (try dsimp only); split; exacts [(by split; exacts [(by split; exacts [un_testDone.after sub_321 (by split; exacts [un_with_bist mem_322 (un_mapSlot.after sub_306 hk), un_mapSlot.after sub_306 hk]), un_mapSlot.after sub_306 (by split; exacts [un_with_bist mem_322 (un_mapSlot.after sub_306 hk), un_mapSlot.after sub_306 hk])]), (by split; exacts [un_testDone.after sub_321 (by split; exacts [un_with_bist mem_322 (un_mapSlot.after sub_306 hk), un_mapSlot.after sub_306 hk]), un_mapSlot.after sub_306 (by split; exacts [un_with_bist mem_322 (un_mapSlot.after sub_306 hk), un_mapSlot.after sub_306 hk])])]), (by split; exacts [un_testDone.after sub_321 (by split; exacts [un_with_bist mem_322 (un_mapSlot.after sub_306 hk), un_mapSlot.after sub_306 hk]), un_mapSlot.after sub_306 (by split; exacts [un_with_bist mem_322 (un_mapSlot.after sub_306 hk), un_mapSlot.after sub_306 hk])])])])
theorem un_runStep {s : State} {k : Fin 8} {e : StepEnv} : Unchanged [.freeCtr, .regs, .posted, .heldWrites, .leases, .jrnl, .jobs, .nvm, .clk, .cmt, .trig, .tk, .life, .bist, .host, .chans, .groups] s (State.runStep s k e) := by
  have hk := Unchanged.refl [.freeCtr, .regs, .posted, .heldWrites, .leases, .jrnl, .jobs, .nvm, .clk, .cmt, .trig, .tk, .life, .bist, .host, .chans, .groups] s
  unfold State.runStep
  with_reducible (repeat' first | exact hk | assumption | refine un_testStep.after sub_323 ?_ | refine un_ledgerStep.after sub_323 ?_ | refine un_endJob.after sub_324 ?_ | refine un_tdrStep.after sub_324 ?_ | refine un_learnStep.after sub_325 ?_ | refine un_journalJob.after sub_323 ?_ | refine un_repairJob.after sub_323 ?_ | refine un_mapSlot.after sub_326 ?_ | refine un_tookFree.after sub_327 ?_ | refine un_nvmWork.after sub_328 ?_ | split | dsimp only | intro _)
theorem un_testsSkipped {s : State} : Unchanged [.freeCtr, .regs, .heldWrites, .leases, .jrnl, .jobs, .clk, .cmt, .trig, .host, .chans, .groups] s (State.testsSkipped s) := by
  have hk := Unchanged.refl [.freeCtr, .regs, .heldWrites, .leases, .jrnl, .jobs, .clk, .cmt, .trig, .host, .chans, .groups] s
  unfold State.testsSkipped
  exact un_forCh (un_showJobs.after sub_329 (un_with_jobs mem_330 (hk))) (fun x1_0 x1_1 x1_2 => un_settlePower.after sub_331 (un_when (un_when x1_2 (un_mapDom.after sub_332 x1_2)) (un_mapDom.after sub_332 (un_when x1_2 (un_mapDom.after sub_332 x1_2)))))
theorem un_failJobs {s : State} {err : Nat} {p : JobSlot → Bool} : Unchanged [.freeCtr, .regs, .heldWrites, .leases, .jrnl, .jobs, .clk, .cmt, .trig, .bist, .host, .chans, .groups] s (State.failJobs s err p) := by
  have hk := Unchanged.refl [.freeCtr, .regs, .heldWrites, .leases, .jrnl, .jobs, .clk, .cmt, .trig, .bist, .host, .chans, .groups] s
  unfold State.failJobs
  exact un_foldl hk (fun x1_0 x1_1 x1_2 => (by split; exacts [un_endJob.after sub_106 x1_2, x1_2]))
theorem un_nvmGone {s : State} : Unchanged [.nvm] s (State.nvmGone s) := by
  have hk := Unchanged.refl [.nvm] s
  unfold State.nvmGone
  exact un_with_nvm mem_333 (hk)
theorem un_showTrig {s : State} : Unchanged [.regs, .jrnl, .cmt, .trig, .groups] s (State.showTrig s) := by
  have hk := Unchanged.refl [.regs, .jrnl, .cmt, .trig, .groups] s
  unfold State.showTrig
  exact un_forTg (un_foldl (un_showPpsOut.after sub_31 hk) (fun x2_0 x2_1 x2_2 => un_showPin.after sub_30 x2_2)) (fun x1_0 x1_1 x1_2 => (by split; exacts [un_settleGroup.after sub_38 x1_2, x1_2]))
theorem un_devFenceActs {s : State} {p : DevPage} : Unchanged [.freeCtr, .regs, .heldWrites, .leases, .jrnl, .jobs, .nvm, .clk, .cmt, .trig, .bist, .host, .chans, .groups] s (State.devFenceActs s p) := by
  have hk := Unchanged.refl [.freeCtr, .regs, .heldWrites, .leases, .jrnl, .jobs, .nvm, .clk, .cmt, .trig, .bist, .host, .chans, .groups] s
  unfold State.devFenceActs
  exact (by split; exacts [un_setReg.after sub_334 (un_nvmGone.after sub_335 hk), un_setReg.after sub_334 (un_nvmGone.after sub_335 hk), un_testsSkipped.after sub_336 (un_failJobs.after sub_337 hk), un_testsSkipped.after sub_336 (un_failJobs.after sub_337 hk), un_showTrig.after sub_338 hk, un_emptyFire.after sub_339 (un_forCh hk (fun x2_0 x2_1 x2_2 => un_emptyQueue.after sub_339 x2_2)), un_emptyFire.after sub_339 (un_forCh hk (fun x2_0 x2_1 x2_2 => un_emptyQueue.after sub_339 x2_2)), hk])
theorem un_pageFenced {s : State} {p : Page} {was : Bool} : Unchanged [.freeCtr, .regs, .heldWrites, .leases, .jrnl, .jobs, .nvm, .clk, .cmt, .trig, .bist, .host, .chans, .groups] s (State.pageFenced s p was) := by
  have hk := Unchanged.refl [.freeCtr, .regs, .heldWrites, .leases, .jrnl, .jobs, .nvm, .clk, .cmt, .trig, .bist, .host, .chans, .groups] s
  unfold State.pageFenced
  exact (by split; exacts [un_chFenced.after sub_337 hk, un_devFenceActs.after sub_340 (by split; exacts [(by split; exacts [hk, un_devFld.after sub_341 hk]), hk])])
theorem un_fenceDev {s : State} {q : DevPage} : Unchanged [.freeCtr, .regs, .heldWrites, .leases, .jrnl, .jobs, .nvm, .clk, .cmt, .trig, .bist, .host, .chans, .groups] s (State.fenceDev s q) := by
  have hk := Unchanged.refl [.freeCtr, .regs, .heldWrites, .leases, .jrnl, .jobs, .nvm, .clk, .cmt, .trig, .bist, .host, .chans, .groups] s
  unfold State.fenceDev
  exact (by split; exacts [hk, un_pageFenced.after sub_340 (un_devFld.after sub_341 hk)])
theorem un_mapPort {s : State} {p : SPort} {f : Port → Port} : Unchanged [.host] s (State.mapPort s p f) := by
  have hk := Unchanged.refl [.host] s
  unfold State.mapPort
  exact (by split; exacts [un_with_host mem_342 (hk), un_with_host mem_342 (hk)])
theorem un_portStops {s : State} {p : SPort} : Unchanged [.regs, .heldWrites, .host] s (State.portStops s p) := by
  have hk := Unchanged.refl [.regs, .heldWrites, .host] s
  unfold State.portStops
  exact (by split; exacts [un_mapPort.after sub_343 (un_with_heldWrites mem_344 (un_when hk (un_setFld.after sub_345 hk))), hk])
theorem un_fencePort {s : State} {p : SPort} : Unchanged [.regs, .heldWrites, .jrnl, .host] s (State.fencePort s p) := by
  have hk := Unchanged.refl [.regs, .heldWrites, .jrnl, .host] s
  unfold State.fencePort
  exact (by split; exacts [hk, un_portStops.after sub_346 (un_devFld.after sub_347 hk)])
theorem un_fencePin {s : State} {k : Fin 16} : Unchanged [.regs, .jrnl] s (State.fencePin s k) := by
  have hk := Unchanged.refl [.regs, .jrnl] s
  unfold State.fencePin
  exact (by split; exacts [hk, un_showPin.after sub_11 (un_devFld.after sub_12 hk)])
theorem un_enterSafe {s : State} {cause : Nat} : Unchanged [.freeCtr, .regs, .heldWrites, .leases, .jrnl, .clk, .cmt, .trig, .host, .chans, .groups] s (State.enterSafe s cause) := by
  have hk := Unchanged.refl [.freeCtr, .regs, .heldWrites, .leases, .jrnl, .clk, .cmt, .trig, .host, .chans, .groups] s
  unfold State.enterSafe
  exact (by split; exacts [hk, un_showTrig.after sub_348 (un_setOut.after sub_90 (un_setOut.after sub_90 (un_forCh (un_intr.after sub_90 (un_setFld.after sub_90 (un_setAlarm.after sub_127 hk))) (fun x2_0 x2_1 x2_2 => un_showLf.after sub_90 (un_settleLink.after sub_93 x2_2)))))])
theorem un_alarmSelf {s : State} {parity : Bool} : Unchanged [.freeCtr, .regs, .heldWrites, .leases, .jrnl, .clk, .cmt, .trig, .host, .chans, .groups] s (State.alarmSelf s parity) := by
  have hk := Unchanged.refl [.freeCtr, .regs, .heldWrites, .leases, .jrnl, .clk, .cmt, .trig, .host, .chans, .groups] s
  unfold State.alarmSelf
  exact un_enterSafe.after sub_93 (un_intr.after sub_90 (un_setBit.after sub_90 hk))
theorem un_fenceUnitOf {s : State} {p : DevPage} {i : Nat} {k : Nat} : Unchanged [.freeCtr, .regs, .heldWrites, .leases, .jrnl, .jobs, .nvm, .clk, .cmt, .trig, .bist, .host, .chans, .groups] s (State.fenceUnitOf s p i k) := by
  have hk := Unchanged.refl [.freeCtr, .regs, .heldWrites, .leases, .jrnl, .jobs, .nvm, .clk, .cmt, .trig, .bist, .host, .chans, .groups] s
  unfold State.fenceUnitOf
  exact (by split; exacts [un_fenceSector.after sub_349 hk, un_fencePin.after sub_341 hk, un_fencePort.after sub_350 hk, un_fencePort.after sub_350 hk, (by split; exacts [un_fenceDev.after sub_340 hk, hk])])
theorem un_faultShows {s : State} {p : DevPage} {i : Nat} {k : Nat} : Unchanged [.regs, .jrnl] s (State.faultShows s p i k) := by
  have hk := Unchanged.refl [.regs, .jrnl] s
  unfold State.faultShows
  exact (by split; exacts [un_setBit.after sub_11 hk, un_with_jrnl mem_10 (hk), hk])
theorem un_detectDev {s : State} {p : DevPage} {i : Nat} {k : Nat} : Unchanged [.freeCtr, .regs, .heldWrites, .leases, .jrnl, .jobs, .nvm, .clk, .cmt, .trig, .bist, .alrm, .host, .chans, .groups] s (State.detectDev s p i k) := by
  have hk := Unchanged.refl [.freeCtr, .regs, .heldWrites, .leases, .jrnl, .jobs, .nvm, .clk, .cmt, .trig, .bist, .alrm, .host, .chans, .groups] s
  unfold State.detectDev
  exact (by split; exacts [un_alarmSelf.after sub_351 hk, (by split; exacts [hk, un_when (un_when (un_recordFault.after sub_352 (un_faultShows.after sub_353 hk)) (un_fenceUnitOf.after sub_354 (un_recordFault.after sub_352 (un_faultShows.after sub_353 hk)))) (un_selectFault.after sub_355 (un_when (un_recordFault.after sub_352 (un_faultShows.after sub_353 hk)) (un_fenceUnitOf.after sub_354 (un_recordFault.after sub_352 (un_faultShows.after sub_353 hk)))))])])
theorem un_corrected {s : State} {p : Page} {ldpc : Bool} : Unchanged [.regs] s (State.corrected s p ldpc) := by
  have hk := Unchanged.refl [.regs] s
  unfold State.corrected
  exact (by split; exacts [un_sat32.after sub_2 hk, un_when (un_sat32.after sub_2 hk) (un_sat32.after sub_2 (un_sat32.after sub_2 hk))])
theorem un_sense {s : State} {i : Nat} {t : BitVec 16} : Unchanged [.freeCtr, .regs, .heldWrites, .leases, .jrnl, .jobs, .nvm, .clk, .cmt, .trig, .bist, .alrm, .host, .chans, .groups] s (State.sense s i t) := by
  have hk := Unchanged.refl [.freeCtr, .regs, .heldWrites, .leases, .jrnl, .jobs, .nvm, .clk, .cmt, .trig, .bist, .alrm, .host, .chans, .groups] s
  unfold State.sense
  exact un_when (un_setBit.after sub_352 (un_setFld.after sub_352 hk)) (un_detectDev.after sub_356 (un_setBit.after sub_352 (un_setFld.after sub_352 hk)))
theorem un_drained {s : State} {p : Page} {items : Nat} : Unchanged [.freeCtr, .regs, .posted, .heldWrites, .leases, .jrnl, .clk, .cmt, .trig, .life, .host, .chans, .groups] s (State.drained s p items) := by
  have hk := Unchanged.refl [.freeCtr, .regs, .posted, .heldWrites, .leases, .jrnl, .clk, .cmt, .trig, .life, .host, .chans, .groups] s
  unfold State.drained
  exact (by (try dsimp only); split; exacts [un_discardFlight.after sub_239 (un_discardAt.after sub_238 hk), un_flushEbuf.after sub_236 (un_discardAt.after sub_238 hk), un_sat32.after sub_237 (un_discardAt.after sub_238 hk)])
theorem un_checkBalance {s : State} {p : Page} : Unchanged [.freeCtr, .regs, .heldWrites, .leases, .jrnl, .jobs, .nvm, .clk, .cmt, .trig, .bist, .alrm, .host, .chans, .groups] s (State.checkBalance s p) := by
  have hk := Unchanged.refl [.freeCtr, .regs, .heldWrites, .leases, .jrnl, .jobs, .nvm, .clk, .cmt, .trig, .bist, .alrm, .host, .chans, .groups] s
  unfold State.checkBalance
  exact (by split; exacts [hk, (by split; exacts [un_detectCh.after sub_357 hk, un_detectDev.after sub_356 hk])])
theorem un_checkDevices {s : State} : Unchanged [.freeCtr, .regs, .heldWrites, .leases, .jrnl, .jobs, .nvm, .clk, .cmt, .trig, .bist, .alrm, .host, .chans, .groups] s (State.checkDevices s) := by
  have hk := Unchanged.refl [.freeCtr, .regs, .heldWrites, .leases, .jrnl, .jobs, .nvm, .clk, .cmt, .trig, .bist, .alrm, .host, .chans, .groups] s
  unfold State.checkDevices
  exact un_checkBalance.after sub_356 (un_checkBalance.after sub_356 hk)
theorem un_moonRise {s : State} : Unchanged [.freeCtr, .regs, .moon, .heldWrites, .leases, .jrnl, .jobs, .nvm, .clk, .cmt, .trig, .bist, .alrm, .host, .chans, .groups] s (State.moonRise s) := by
  have hk := Unchanged.refl [.freeCtr, .regs, .moon, .heldWrites, .leases, .jrnl, .jobs, .nvm, .clk, .cmt, .trig, .bist, .alrm, .host, .chans, .groups] s
  unfold State.moonRise
  exact un_with_moon mem_358 (un_checkDevices.after sub_359 (un_showLive.after sub_360 (un_when (un_with_cmt mem_361 (hk)) (un_showCmtw.after sub_360 (un_with_cmt mem_361 (hk))))))
theorem un_noteViews {s : State} : Unchanged [.host, .chans] s (State.noteViews s) := by
  have hk := Unchanged.refl [.host, .chans] s
  unfold State.noteViews
  with_reducible (repeat' first | exact hk | assumption | refine un_mapPort.after sub_362 ?_ | refine un_noteRx.after sub_363 ?_ | apply un_foldl | split | dsimp only | intro _)
theorem un_tick {s : State} : Unchanged [.now, .freeCtr, .regs, .moon, .heldWrites, .leases, .jrnl, .jobs, .nvm, .clk, .cmt, .trig, .cap, .bist, .alrm, .host, .chans, .groups] s (State.tick s) := by
  have hk := Unchanged.refl [.now, .freeCtr, .regs, .moon, .heldWrites, .leases, .jrnl, .jobs, .nvm, .clk, .cmt, .trig, .cap, .bist, .alrm, .host, .chans, .groups] s
  unfold State.tick
  exact un_when (un_capDrain.after sub_364 (un_with_now mem_365 (un_advance.after sub_366 (un_slewOut.after sub_367 (un_slewOut.after sub_367 (un_noteViews.after sub_368 hk)))))) (un_moonRise.after sub_369 (un_capDrain.after sub_364 (un_with_now mem_365 (un_advance.after sub_366 (un_slewOut.after sub_367 (un_slewOut.after sub_367 (un_noteViews.after sub_368 hk)))))))
theorem un_mapWritten {s : State} : Unchanged [.regs, .chans] s (State.mapWritten s) := by
  have hk := Unchanged.refl [.regs, .chans] s
  unfold State.mapWritten
  exact un_forCh hk (fun x1_0 x1_1 x1_2 => un_markTg.after sub_16 (un_showSplit.after sub_15 x1_2))
theorem un_laneStill {s : State} {n : Ch} : Unchanged [.clk] s (State.laneStill s n) := by
  have hk := Unchanged.refl [.clk] s
  unfold State.laneStill
  exact un_with_clk mem_9 (hk)
theorem un_hlModeWritten {s : State} {n : Ch} {old : Word} : Unchanged [.freeCtr, .regs, .heldWrites, .leases, .jrnl, .clk, .cmt, .trig, .host, .chans, .groups] s (State.hlModeWritten s n old) := by
  have hk := Unchanged.refl [.freeCtr, .regs, .heldWrites, .leases, .jrnl, .clk, .cmt, .trig, .host, .chans, .groups] s
  unfold State.hlModeWritten
  exact (by (try dsimp only); split; exacts [(by split; exacts [hk, (by (try dsimp only); split; exacts [(by split; exacts [un_showLatency.after sub_90 (un_showLf.after sub_90 (un_setBit.after sub_90 (un_setBit.after sub_90 (un_when (un_mapChan.after sub_92 hk) (un_laneStill.after sub_370 (un_mapChan.after sub_92 hk)))))), un_renegotiate.after sub_93 (un_showLf.after sub_90 (un_setBit.after sub_90 (un_setBit.after sub_90 (un_when (un_mapChan.after sub_92 hk) (un_laneStill.after sub_370 (un_mapChan.after sub_92 hk))))))]), un_settleLink.after sub_93 (un_showLf.after sub_90 (un_setBit.after sub_90 (un_setBit.after sub_90 (un_when (un_mapChan.after sub_92 hk) (un_laneStill.after sub_370 (un_mapChan.after sub_92 hk))))))])]), (by split; exacts [hk, (by (try dsimp only); split; exacts [(by split; exacts [un_showLatency.after sub_90 (un_showLf.after sub_90 (un_setBit.after sub_90 (un_setBit.after sub_90 (un_when (un_mapChan.after sub_92 hk) (un_laneStill.after sub_370 (un_mapChan.after sub_92 hk)))))), un_renegotiate.after sub_93 (un_showLf.after sub_90 (un_setBit.after sub_90 (un_setBit.after sub_90 (un_when (un_mapChan.after sub_92 hk) (un_laneStill.after sub_370 (un_mapChan.after sub_92 hk))))))]), un_settleLink.after sub_93 (un_showLf.after sub_90 (un_setBit.after sub_90 (un_setBit.after sub_90 (un_when (un_mapChan.after sub_92 hk) (un_laneStill.after sub_370 (un_mapChan.after sub_92 hk))))))])])])
theorem un_clearPage {s : State} {p : Page} {keep : Nat → Bool} : Unchanged [.regs, .moon, .snap] s (s.clearPage p keep) :=
  fun x hx => by cases x <;> first | rfl | exact absurd hx (by decide)
theorem un_showAfe {s : State} {n : Ch} : Unchanged [.regs, .jrnl] s (State.showAfe s n) := by
  have hk := Unchanged.refl [.regs, .jrnl] s
  unfold State.showAfe
  exact (by split; exacts [un_showMaps.after sub_12 (un_setFld.after sub_11 (un_setFld.after sub_11 hk)), hk])
theorem un_chPageReset {s : State} {n : Ch} {p : ChPage} {unfence : Bool} : Unchanged [.freeCtr, .regs, .moon, .snap, .posted, .heldWrites, .leases, .jrnl, .jobs, .clk, .cmt, .trig, .life, .bist, .host, .chans, .groups] s (State.chPageReset s n p unfence) := by
  have hk := Unchanged.refl [.freeCtr, .regs, .moon, .snap, .posted, .heldWrites, .leases, .jrnl, .jobs, .clk, .cmt, .trig, .life, .bist, .host, .chans, .groups] s
  unfold State.chPageReset
  exact (by (try dsimp only); split; exacts [un_unitFenceActs.after sub_371 (un_showEngines.after sub_372 (un_showLatency.after sub_372 (un_iterWritten.after sub_373 (un_mapFec.after sub_374 (un_clearPage.after sub_375 (un_discardFlight.after sub_376 (un_enterDrain.after sub_377 (un_discardAt.after sub_378 hk)))))))), (by (try dsimp only); split; exacts [un_renegotiate.after sub_371 (un_showLatency.after sub_372 (un_showAfe.after sub_379 (un_mapRx.after sub_374 (un_clearPage.after sub_375 (un_applyGain.after sub_380 (un_setReg.after sub_372 (un_enterDrain.after sub_377 (un_discardAt.after sub_378 hk)))))))), un_showLatency.after sub_372 (un_showAfe.after sub_379 (un_mapRx.after sub_374 (un_clearPage.after sub_375 (un_applyGain.after sub_380 (un_setReg.after sub_372 (un_enterDrain.after sub_377 (un_discardAt.after sub_378 hk)))))))]), un_showEcl.after sub_380 (un_listenWritten.after sub_381 (un_mapChan.after sub_374 (un_mapRx.after sub_374 (un_clearPage.after sub_375 (un_enterDrain.after sub_377 (un_discardAt.after sub_378 hk)))))), un_startNeg.after sub_381 (un_clearPage.after sub_375 (un_setOrbitLock.after sub_372 (un_mapChan.after sub_374 (un_linkIdle.after sub_380 (un_dropLink.after sub_382 (un_enterDrain.after sub_377 (un_discardAt.after sub_378 hk))))))), un_showLf.after sub_372 (un_hlModeWritten.after sub_371 (un_mapChan.after sub_374 (un_clearPage.after sub_375 (un_enterDrain.after sub_377 (un_discardAt.after sub_378 hk))))), un_when (un_setFld.after sub_372 (un_showLatency.after sub_372 (un_showEngine.after sub_372 (un_mapKtl.after sub_374 (un_clearPage.after sub_375 (un_enterDrain.after sub_377 (un_discardAt.after sub_378 hk))))))) (un_settleGroup.after sub_383 (un_setFld.after sub_372 (un_showLatency.after sub_372 (un_showEngine.after sub_372 (un_mapKtl.after sub_374 (un_clearPage.after sub_375 (un_enterDrain.after sub_377 (un_discardAt.after sub_378 hk)))))))), un_tpWritten.after sub_371 (un_lbWritten.after sub_371 (un_mapChan.after sub_374 (un_clearPage.after sub_375 (un_foldl (un_enterDrain.after sub_377 (un_discardAt.after sub_378 hk)) (fun x2_0 x2_1 x2_2 => (by (try dsimp only); split; exacts [un_endJob.after sub_384 x2_2, x2_2])))))), un_showPartner.after sub_380 (un_showPartner.after sub_380 (un_setPair.after sub_371 (un_keepRegs.after sub_372 (un_clearPage.after sub_375 (un_discardAt.after sub_378 (un_enterDrain.after sub_377 (un_discardAt.after sub_378 hk))))))), un_clearPage.after sub_375 (un_enterDrain.after sub_377 (un_discardAt.after sub_378 hk))])
theorem un_chanResetActs {s : State} {n : Ch} {unfence : Bool} : Unchanged [.freeCtr, .regs, .moon, .snap, .posted, .heldWrites, .leases, .jrnl, .jobs, .clk, .cmt, .trig, .life, .bist, .host, .chans, .groups] s (State.chanResetActs s n unfence) := by
  have hk := Unchanged.refl [.freeCtr, .regs, .moon, .snap, .posted, .heldWrites, .leases, .jrnl, .jobs, .clk, .cmt, .trig, .life, .bist, .host, .chans, .groups] s
  unfold State.chanResetActs
  exact un_bringUp.after sub_376 (un_showLf.after sub_372 (un_when (un_showPartner.after sub_380 (un_settlePair.after sub_371 (un_showEngine.after sub_372 (un_showForced.after sub_372 (un_showPwr.after sub_372 (un_showLatency.after sub_372 (un_showAfe.after sub_379 (un_setBit.after sub_372 (un_when (un_keepRegs.after sub_372 (un_foldl (un_mapChan.after sub_374 (un_drainChan.after sub_385 (un_discardAt.after sub_378 (un_emptyQueue.after sub_386 (un_endJobsOf.after sub_384 (un_setOrbitLock.after sub_372 (un_linkIdle.after sub_380 (un_dropLink.after sub_382 hk)))))))) (fun x3_0 x3_1 x3_2 => un_clearPage.after sub_375 x3_2))) (un_mapChan.after sub_374 (un_keepRegs.after sub_372 (un_foldl (un_mapChan.after sub_374 (un_drainChan.after sub_385 (un_discardAt.after sub_378 (un_emptyQueue.after sub_386 (un_endJobsOf.after sub_384 (un_setOrbitLock.after sub_372 (un_linkIdle.after sub_380 (un_dropLink.after sub_382 hk)))))))) (fun x3_0 x3_1 x3_2 => un_clearPage.after sub_375 x3_2))))))))))))) (un_settleGroup.after sub_383 (un_showPartner.after sub_380 (un_settlePair.after sub_371 (un_showEngine.after sub_372 (un_showForced.after sub_372 (un_showPwr.after sub_372 (un_showLatency.after sub_372 (un_showAfe.after sub_379 (un_setBit.after sub_372 (un_when (un_keepRegs.after sub_372 (un_foldl (un_mapChan.after sub_374 (un_drainChan.after sub_385 (un_discardAt.after sub_378 (un_emptyQueue.after sub_386 (un_endJobsOf.after sub_384 (un_setOrbitLock.after sub_372 (un_linkIdle.after sub_380 (un_dropLink.after sub_382 hk)))))))) (fun x3_0 x3_1 x3_2 => un_clearPage.after sub_375 x3_2))) (un_mapChan.after sub_374 (un_keepRegs.after sub_372 (un_foldl (un_mapChan.after sub_374 (un_drainChan.after sub_385 (un_discardAt.after sub_378 (un_emptyQueue.after sub_386 (un_endJobsOf.after sub_384 (un_setOrbitLock.after sub_372 (un_linkIdle.after sub_380 (un_dropLink.after sub_382 hk)))))))) (fun x3_0 x3_1 x3_2 => un_clearPage.after sub_375 x3_2))))))))))))))))
theorem un_stampPages {s : State} {l : List Page} : Unchanged [.regs] s (State.stampPages s l) := by
  have hk := Unchanged.refl [.regs] s
  unfold State.stampPages
  exact un_foldl hk (fun x1_0 x1_1 x1_2 => un_setReg.after sub_2 x1_2)
theorem un_chanReset {s : State} {n : Ch} {o : Origin} : Unchanged [.freeCtr, .regs, .moon, .snap, .posted, .heldWrites, .leases, .jrnl, .jobs, .clk, .cmt, .trig, .life, .bist, .host, .chans, .groups] s (State.chanReset s n o) := by
  have hk := Unchanged.refl [.freeCtr, .regs, .moon, .snap, .posted, .heldWrites, .leases, .jrnl, .jobs, .clk, .cmt, .trig, .life, .bist, .host, .chans, .groups] s
  unfold State.chanReset
  exact (by split; exacts [un_mapChan.after sub_374 hk, un_chanResetActs.after sub_387 (un_stampPages.after sub_372 (un_jEvent.after sub_379 (un_mapChan.after sub_374 hk)))])
theorem un_resetDue {s : State} {n : Ch} : Unchanged [.freeCtr, .regs, .moon, .snap, .posted, .heldWrites, .leases, .jrnl, .jobs, .clk, .cmt, .trig, .life, .bist, .host, .chans, .groups] s (State.resetDue s n) := by
  have hk := Unchanged.refl [.freeCtr, .regs, .moon, .snap, .posted, .heldWrites, .leases, .jrnl, .jobs, .clk, .cmt, .trig, .life, .bist, .host, .chans, .groups] s
  unfold State.resetDue
  exact (by split; exacts [(by split; exacts [hk, un_chanReset.after sub_387 hk]), hk])
theorem un_devPageReset {s : State} {q : DevPage} {unfence : Bool} : Unchanged [.freeCtr, .regs, .moon, .snap, .heldWrites, .leases, .jrnl, .jobs, .clk, .cmt, .trig, .cap, .bist, .host, .chans, .groups] s (State.devPageReset s q unfence) := by
  have hd : Unchanged [.freeCtr, .regs, .moon, .snap, .heldWrites, .leases, .jrnl, .jobs, .clk, .cmt, .trig, .cap, .bist, .host, .chans, .groups] s (s.enterDrain [.dev q]) := un_enterDrain.after (by decide) (Unchanged.refl _ _)
  unfold State.devPageReset
  generalize s.enterDrain [.dev q] = u at hd ⊢
  have hc : ∀ (v : State) (p : DevPage), Unchanged [.freeCtr, .regs, .moon, .snap, .heldWrites, .leases, .jrnl, .jobs, .clk, .cmt, .trig, .cap, .bist, .host, .chans, .groups] s v → Unchanged [.freeCtr, .regs, .moon, .snap, .heldWrites, .leases, .jrnl, .jobs, .clk, .cmt, .trig, .cap, .bist, .host, .chans, .groups] s (v.clearPage (.dev p) (fun a => devLive a || faultReg unfence (.dev p) a)) := fun v p h => un_clearPage.after (by decide) h
  have h1 : Unchanged [.freeCtr, .regs, .moon, .snap, .heldWrites, .leases, .jrnl, .jobs, .clk, .cmt, .trig, .cap, .bist, .host, .chans, .groups] s _ := un_emptyFire.after (by decide) (un_forCh (f := fun n s => s.emptyQueue n) hd (fun n t h => un_emptyQueue.after (by decide) h))
  have h2 : Unchanged [.freeCtr, .regs, .moon, .snap, .heldWrites, .leases, .jrnl, .jobs, .clk, .cmt, .trig, .cap, .bist, .host, .chans, .groups] s _ := (un_mapCmt (f := fun m => { routes := m.routes, sched := m.sched, lastSrc := m.lastSrc, repLost := m.repLost })).after (by decide) h1
  have hq : Unchanged [.freeCtr, .regs, .moon, .snap, .heldWrites, .leases, .jrnl, .jobs, .clk, .cmt, .trig, .cap, .bist, .host, .chans, .groups] s _ := un_showCmtw.after (by decide) (un_showCmt.after (by decide) (hc _ .cmtw (hc _ .cmt h2)))
  have h4 : Unchanged [.freeCtr, .regs, .moon, .snap, .heldWrites, .leases, .jrnl, .jobs, .clk, .cmt, .trig, .cap, .bist, .host, .chans, .groups] s _ := un_showCap.after (by decide) (hc _ .capw (hc _ .cap (un_with_cap (v := {}) (by decide) hd)))
  have h5 := un_with_groups (v := (u.clearPage (.dev .trig) (fun a => devLive a || faultReg unfence (.dev .trig) a)).groups.map Group.noPps) (by decide) (un_with_trig (v := {}) (by decide) (hc _ .trig hd))
  have h6 := un_with_jobs (v := { (u.clearPage (.dev .job) (fun a => devLive a || faultReg unfence (.dev .job) a)).jobs with slots := Vector.replicate 8 {} }) (by decide) (hc _ .job hd)
  cases q
  case cmt => exact hq
  case cmtw => exact hq
  case cap => exact h4
  case capw => exact h4
  case trig => exact un_showPps.after (by decide) (un_showTrig.after (by decide) h5)
  case nvm => exact hc _ .nvmw (hc _ .nvm hd)
  case nvmw => exact hc _ .nvmw (hc _ .nvm hd)
  case job => exact un_devDispatch.after (by decide) (un_showJobs.after (by decide) h6)
  case bist => exact un_showRepairs.after (by decide) (un_with_bist (by decide) (hc _ .bist hd))
  all_goals exact hc _ _ hd
theorem un_devReset {s : State} {q : DevPage} {o : Origin} : Unchanged [.freeCtr, .regs, .moon, .snap, .heldWrites, .leases, .jrnl, .jobs, .clk, .cmt, .trig, .cap, .bist, .host, .chans, .groups] s (State.devReset s q o) := by
  have hk := Unchanged.refl [.freeCtr, .regs, .moon, .snap, .heldWrites, .leases, .jrnl, .jobs, .clk, .cmt, .trig, .cap, .bist, .host, .chans, .groups] s
  unfold State.devReset
  with_reducible (repeat' first | exact hk | assumption | refine un_devPageReset.after sub_388 ?_ | refine un_stampPages.after sub_389 ?_ | refine un_jEvent.after sub_390 ?_ | split | dsimp only | intro _)
theorem un_pageReturns {s : State} {p : Page} {was : Bool} : Unchanged [.freeCtr, .regs, .moon, .snap, .posted, .heldWrites, .leases, .jrnl, .jobs, .clk, .cmt, .trig, .cap, .life, .bist, .host, .chans, .groups] s (State.pageReturns s p was) := by
  have hk := Unchanged.refl [.freeCtr, .regs, .moon, .snap, .posted, .heldWrites, .leases, .jrnl, .jobs, .clk, .cmt, .trig, .cap, .life, .bist, .host, .chans, .groups] s
  unfold State.pageReturns
  with_reducible (repeat' first | exact hk | assumption | refine un_chanResetActs.after sub_391 ?_ | refine un_showForced.after sub_392 ?_ | refine un_showChanFence.after sub_393 ?_ | refine un_settleLink.after sub_394 ?_ | refine un_chPageReset.after sub_391 ?_ | refine un_devPageReset.after sub_395 ?_ | refine un_devFld.after sub_393 ?_ | split | dsimp only | intro _)
theorem un_owing {L : List Part} {k0 s : State} {f : State → State} (hr : L.contains .rst = true) (hk : Unchanged L k0 s) (hf : Unchanged L k0 (f s)) : Unchanged L k0 (s.owing f) := by
  intro x hx
  have h := hf x hx
  have h' := hk x hx
  cases x <;> first | exact h | exact h' | (rw [hr] at hx; cases hx)
theorem un_lifeStops {s : State} : Unchanged [.regs, .life] s (State.lifeStops s) := by
  have hk := Unchanged.refl [.regs, .life] s
  unfold State.lifeStops
  exact un_setReg.after sub_13 (un_setBit.after sub_13 (un_mapLife.after sub_281 hk))
theorem un_systemReset {s : State} {k : StartKind} {by_ : Nat} {keepCoef : Bool} : Unchanged [.regs, .moon, .retained, .snap, .posted, .heldWrites, .leases, .jrnl, .jobs, .nvm, .nvmDom, .rst, .clk, .cmt, .trig, .cap, .life, .bist, .alrm, .host, .chans, .groups] s (s.systemReset k by_ keepCoef) := by
  have h1 : Unchanged [.regs, .moon, .retained, .snap, .posted, .heldWrites, .leases, .jrnl, .jobs, .nvm, .nvmDom, .rst, .clk, .cmt, .trig, .cap, .life, .bist, .alrm, .host, .chans, .groups] s (s.discardPosted (fun q => q != .tpll)) := un_discardPosted.after (by decide) (Unchanged.refl _ _)
  unfold State.systemReset
  generalize s.discardPosted (fun q => q != .tpll) = u at h1 ⊢
  have h2 : ∀ v : State, v.now = u.now → v.freeCtr = u.freeCtr → v.pending = u.pending → v.tk = u.tk → Unchanged [.regs, .moon, .retained, .snap, .posted, .heldWrites, .leases, .jrnl, .jobs, .nvm, .nvmDom, .rst, .clk, .cmt, .trig, .cap, .life, .bist, .alrm, .host, .chans, .groups] s v := fun v a b c d x hx => by
    cases x
    case now => exact a.trans (h1 .now hx)
    case freeCtr => exact b.trans (h1 .freeCtr hx)
    case pending => exact c.trans (h1 .pending hx)
    case tk => exact d.trans (h1 .tk hx)
    all_goals exact absurd hx (by decide)
  dsimp only
  have h3 : ∀ v : State, v.now = u.now → v.freeCtr = u.freeCtr → v.pending = u.pending → v.tk = u.tk → ∀ (i j : Nat) (f : Ch → Bool),
      Unchanged [.regs, .moon, .retained, .snap, .posted, .heldWrites, .leases, .jrnl, .jobs, .nvm, .nvmDom, .rst, .clk, .cmt, .trig, .cap, .life, .bist, .alrm, .host, .chans, .groups] s ((v.forCh (fun n s => if f n then (s.setReg (Reg.pwrChReq n.val) 0x10).showPwr n else s)).lifeStops.lifeAdd i j) := fun v a b c d i j f =>
    un_lifeAdd.after (by decide) (un_lifeStops.after (by decide) (un_forCh (h2 v a b c d) (fun n t h => by split <;> [exact un_showPwr.after (by decide) (un_setReg.after (by decide) h); exact h])))
  refine un_owing (by decide) ?_ (un_forTg ?_ (fun g t h => un_settleGroup.after (by decide) h))
  all_goals refine h3 _ ?_ ?_ ?_ ?_ _ _ _ <;> rfl
theorem un_coreLoss {s : State} : Unchanged [.regs, .moon, .retained, .snap, .posted, .heldWrites, .leases, .jrnl, .jobs, .nvm, .nvmDom, .rst, .clk, .cmt, .trig, .cap, .life, .bist, .alrm, .host, .chans, .groups] s s.coreLoss := by
  unfold State.coreLoss
  have h2 : ∀ v : State, v.now = s.now → v.freeCtr = s.freeCtr → v.pending = s.pending → v.tk = s.tk → ∀ i j, Unchanged [.regs, .moon, .retained, .snap, .posted, .heldWrites, .leases, .jrnl, .jobs, .nvm, .nvmDom, .rst, .clk, .cmt, .trig, .cap, .life, .bist, .alrm, .host, .chans, .groups] s (v.lifeStops.lifeAdd i j) := fun v a b c d i j =>
    un_lifeAdd.after (by decide) (un_lifeStops.after (by decide) (fun x hx => by
      cases x <;> first | exact absurd hx (by decide) | assumption))
  dsimp only
  refine un_owing (by decide) ?_ (un_forTg ?_ (fun g t h => un_settleGroup.after (by decide) h))
  all_goals refine h2 _ ?_ ?_ ?_ ?_ _ _ <;> rfl
theorem un_ifBeyond {L : List Part} {a s : State} {surely never : Bool} {act : State → State} (hL : L.contains Part.freeCtr = true) (hk : Unchanged L a s) (ha : ∀ u, Unchanged L a u → Unchanged L a (act u)) : Unchanged L a (s.ifBeyond surely never act) := by
  have hf : Unchanged L a s.tookFree := un_tookFree.after (by rw [List.all_cons, List.all_nil, hL]; rfl) hk
  unfold State.ifBeyond
  split
  · exact ha _ hk
  split
  · exact hk
  split
  · exact ha _ hf
  · exact hf
theorem un_ifRailLow {L : List Part} {a s : State} {mv : Nat} {act : State → State} (hL : L.contains Part.freeCtr = true) (hk : Unchanged L a s) (ha : ∀ u, Unchanged L a u → Unchanged L a (act u)) : Unchanged L a (s.ifRailLow mv act) :=
  un_ifBeyond hL hk ha
theorem un_vaoReset {s : State} : Unchanged [.freeCtr, .regs, .moon, .retained, .snap, .posted, .heldWrites, .leases, .jrnl, .jobs, .nvm, .nvmDom, .rst, .clk, .cmt, .trig, .cap, .tk, .life, .bist, .alrm, .host, .chans, .groups] s s.vaoReset :=
  fun x hx => by cases x <;> first | rfl | exact absurd hx (by decide)
theorem un_afterRead {s : State} {a : Nat} : Unchanged [.regs, .jrnl] s (State.afterRead s a) := by
  have hk := Unchanged.refl [.regs, .jrnl] s
  unfold State.afterRead
  exact (by split; exacts [un_nextEntry.after sub_12 hk, (by split; exacts [un_capwAdvance.after sub_11 hk, hk])])
theorem un_storeReg {s : State} {o : Origin} {p : Page} {off : Nat} {d : Word} {w : Word} : Unchanged [.regs, .leases, .nvm] s (State.storeReg s o p off d w) := by
  have hk := Unchanged.refl [.regs, .leases, .nvm] s
  unfold State.storeReg
  exact (by split; exacts [un_setLease.after sub_396 (un_setReg.after sub_397 hk), (by split; exacts [un_with_nvm mem_398 (hk), (by split; exacts [hk, un_setReg.after sub_397 hk])])])
theorem un_intTested {s : State} {p : Page} {d : Word} : Unchanged [.regs] s (State.intTested s p d) := by
  have hk := Unchanged.refl [.regs] s
  unfold State.intTested
  exact un_setReg.after sub_2 hk
theorem un_snapAsked {s : State} {p : Page} : Unchanged [.host] s (State.snapAsked s p) := by
  have hk := Unchanged.refl [.host] s
  unfold State.snapAsked
  exact un_with_host mem_342 (hk)
theorem un_headerWrote {s : State} {o : Origin} {p : Page} {off : Nat} {old : Word} {d : Word} {fe : Bool} : Unchanged [.freeCtr, .regs, .moon, .snap, .posted, .heldWrites, .leases, .jrnl, .jobs, .nvm, .clk, .cmt, .trig, .cap, .life, .bist, .host, .chans, .groups] s (State.headerWrote s o p off old d fe) := by
  have hk := Unchanged.refl [.freeCtr, .regs, .moon, .snap, .posted, .heldWrites, .leases, .jrnl, .jobs, .nvm, .clk, .cmt, .trig, .cap, .life, .bist, .host, .chans, .groups] s
  unfold State.headerWrote
  exact (by split; exacts [un_intTested.after sub_399 hk, (by split; exacts [(by split; exacts [hk, (by split; exacts [un_pageFenced.after sub_400 hk, un_pageReturns.after sub_401 hk])]), (by split; exacts [(by split; exacts [un_intr.after sub_399 hk, hk]), (by split; exacts [(by split; exacts [un_snapAsked.after sub_402 hk, hk]), hk])])])])
theorem un_portFenceWritten {s : State} {old : Word} : Unchanged [.regs, .heldWrites, .leases, .jrnl, .host] s (State.portFenceWritten s old) := by
  have hk := Unchanged.refl [.regs, .heldWrites, .leases, .jrnl, .host] s
  unfold State.portFenceWritten
  with_reducible (repeat' first | exact hk | assumption | refine un_portStops.after sub_403 ?_ | refine un_breakLocksOf.after sub_404 ?_ | refine un_mapPort.after sub_405 ?_ | split | dsimp only | intro _)
theorem un_rmtGo {s : State} : Unchanged [.regs, .host, .chans] s (State.rmtGo s) := by
  have hk := Unchanged.refl [.regs, .host, .chans] s
  unfold State.rmtGo
  exact (by (try dsimp only); split; exacts [un_oamPush.after sub_406 (un_setReg.after sub_407 (un_with_host mem_408 (hk))), un_setReg.after sub_407 (un_with_host mem_408 (hk))])
theorem un_slotWritten {s : State} {k : Fin 8} {d : Word} : Unchanged [.freeCtr, .regs, .heldWrites, .leases, .jrnl, .jobs, .clk, .cmt, .trig, .bist, .host, .chans, .groups] s (State.slotWritten s k d) := by
  have hk := Unchanged.refl [.freeCtr, .regs, .heldWrites, .leases, .jrnl, .jobs, .clk, .cmt, .trig, .bist, .host, .chans, .groups] s
  unfold State.slotWritten
  exact (by (try dsimp only); split; exacts [un_startJob.after sub_106 (by split; exacts [un_endJob.after sub_106 hk, hk]), (by split; exacts [un_endJob.after sub_106 hk, hk])])
theorem un_alarmWritten {s : State} {d : Word} : Unchanged [.regs, .jrnl] s (State.alarmWritten s d) := by
  have hk := Unchanged.refl [.regs, .jrnl] s
  unfold State.alarmWritten
  exact (by split; exacts [un_setAlarm.after sub_12 hk, un_setAlarm.after sub_12 hk])
theorem un_applyEnWritten {s : State} : Unchanged [.regs, .chans] s (State.applyEnWritten s) := by
  have hk := Unchanged.refl [.regs, .chans] s
  unfold State.applyEnWritten
  exact (by split; exacts [hk, un_forCh hk (fun x2_0 x2_1 x2_2 => (by split; exacts [un_showEcl.after sub_57 (un_setBit.after sub_15 (un_mapTrim.after sub_16 x2_2)), x2_2]))])
theorem un_pinWritten {s : State} {k : Fin 16} {old : Word} : Unchanged [.regs, .trig] s (State.pinWritten s k old) := by
  have hk := Unchanged.refl [.regs, .trig] s
  unfold State.pinWritten
  exact un_showPin.after sub_28 (un_when (by split; exacts [hk, un_setBit.after sub_28 (un_mapPin.after sub_163 hk)]) (un_shiftPin.after sub_163 (by split; exacts [hk, un_setBit.after sub_28 (un_mapPin.after sub_163 hk)])))
theorem un_ppsInWritten {s : State} {old : Word} : Unchanged [.regs, .jrnl, .cmt, .trig, .groups] s (State.ppsInWritten s old) := by
  have hk := Unchanged.refl [.regs, .jrnl, .cmt, .trig, .groups] s
  unfold State.ppsInWritten
  with_reducible (repeat' first | exact hk | assumption | refine un_showPps.after sub_30 ?_ | refine un_mapGroup.after sub_34 ?_ | refine un_settleGroup.after sub_38 ?_ | apply un_forTg | split | dsimp only | intro _)
theorem un_ppsOutWritten {s : State} : Unchanged [.regs, .trig] s (State.ppsOutWritten s) := by
  have hk := Unchanged.refl [.regs, .trig] s
  unfold State.ppsOutWritten
  exact un_showPpsOut.after sub_409 hk
theorem un_freqWritten {s : State} {g : Tg} : Unchanged [.regs, .groups] s (State.freqWritten s g) := by
  have hk := Unchanged.refl [.regs, .groups] s
  unfold State.freqWritten
  exact (by split; exacts [un_showRate.after sub_26 (un_mapGroup.after sub_27 hk), hk])
theorem un_cmtwWrote {s : State} {off : Nat} {d : Word} : Unchanged [.regs, .cmt] s (State.cmtwWrote s off d) := by
  have hk := Unchanged.refl [.regs, .cmt] s
  unfold State.cmtwWrote
  exact (by split; exacts [un_cmtwCmd.after sub_410 hk, (by split; exacts [un_showCmtw.after sub_113 hk, hk])])
theorem un_devWrote {s : State} {o : Origin} {q : DevPage} {off : Nat} {old : Word} {d : Word} : Unchanged [.freeCtr, .regs, .moon, .snap, .posted, .heldWrites, .leases, .jrnl, .jobs, .nvmDom, .rst, .clk, .cmt, .trig, .cap, .tk, .life, .bist, .host, .chans, .groups] s (State.devWrote s o q off old d) := by
  have hk := Unchanged.refl [.freeCtr, .regs, .moon, .snap, .posted, .heldWrites, .leases, .jrnl, .jobs, .nvmDom, .rst, .clk, .cmt, .trig, .cap, .tk, .life, .bist, .host, .chans, .groups] s
  unfold State.devWrote
  exact (by (try dsimp only); split; exacts [(by split; exacts [(by split; exacts [un_with_rst mem_411 (hk), un_with_rst mem_411 (hk), hk]), (by split; exacts [un_when (un_when (un_when hk (un_devReset.after sub_412 hk)) (un_devReset.after sub_412 (un_when hk (un_devReset.after sub_412 hk)))) (un_devReset.after sub_412 (un_when (un_when hk (un_devReset.after sub_412 hk)) (un_devReset.after sub_412 (un_when hk (un_devReset.after sub_412 hk))))), hk])]), (by split; exacts [un_portFenceWritten.after sub_413 hk, (by split; exacts [un_rmtGo.after sub_414 hk, hk])]), (by split; exacts [un_loadEntry.after sub_415 hk, hk]), (by split; exacts [un_slotWritten.after sub_416 hk, hk]), (by split; exacts [un_outWritten.after sub_417 hk, (by split; exacts [un_outWritten.after sub_417 hk, hk])]), (by split; exacts [hk, (by split; exacts [un_nvmReqWritten.after sub_418 hk, (by split; exacts [un_resetDue.after sub_419 (un_powerWritten.after sub_420 hk), hk])])]), (by split; exacts [un_applyEnWritten.after sub_421 hk, hk]), (by split; exacts [un_showFail.after sub_422 hk, hk]), (by split; exacts [un_alarmWritten.after sub_415 hk, (by split; exacts [un_enterSafe.after sub_423 hk, hk])]), (by split; exacts [un_mapWritten.after sub_421 hk, hk]), (by split; exacts [un_capAsked.after sub_424 hk, (by split; exacts [un_timeDone.after sub_425 hk, (by split; exacts [(by split; exacts [un_showLeap.after sub_415 hk, un_tkInt.after sub_422 (un_showLeap.after sub_415 hk)]), (by split; exacts [un_leapDone.after sub_426 hk, (by split; exacts [un_showLeap.after sub_415 hk, (by split; exacts [(by split; exacts [un_freqWritten.after sub_427 hk, un_settleGroup.after sub_428 hk]), hk])])])])])]), (by split; exacts [un_showHist.after sub_422 hk, (by split; exacts [un_showWear.after sub_422 hk, (by split; exacts [un_trendSelected.after sub_429 hk, hk])])]), (by split; exacts [un_routeCmd.after sub_430 hk, (by split; exacts [un_showCmtw.after sub_422 (un_with_cmt mem_431 (hk)), hk])]), un_cmtwWrote.after sub_430 hk, (by split; exacts [un_capAcked.after sub_432 hk, (by split; exacts [un_capClear.after sub_432 hk, hk])]), (by split; exacts [un_capwLoad.after sub_422 hk, hk]), (by split; exacts [un_pinWritten.after sub_433 hk, (by split; exacts [un_ppsInWritten.after sub_428 hk, (by split; exacts [un_ppsOutWritten.after sub_433 hk, (by split; exacts [un_foldl hk (fun x6_0 x6_1 x6_2 => un_showPin.after sub_422 x6_2), hk])])])]), hk])
theorem un_blockResets {s : State} {n : Ch} {o : Origin} {d : Word} : Unchanged [.freeCtr, .regs, .moon, .snap, .posted, .heldWrites, .leases, .jrnl, .jobs, .clk, .cmt, .trig, .life, .bist, .host, .chans, .groups] s (State.blockResets s n o d) := by
  have hk := Unchanged.refl [.freeCtr, .regs, .moon, .snap, .posted, .heldWrites, .leases, .jrnl, .jobs, .clk, .cmt, .trig, .life, .bist, .host, .chans, .groups] s
  unfold State.blockResets
  exact un_foldl (un_foldl hk (fun x2_0 x2_1 x2_2 => un_jEvent.after sub_379 x2_2)) (fun x1_0 x1_1 x1_2 => un_chPageReset.after sub_387 x1_2)
theorem un_anWritten {s : State} {n : Ch} {old : Word} {d : Word} : Unchanged [.freeCtr, .regs, .heldWrites, .leases, .jrnl, .clk, .cmt, .trig, .host, .chans, .groups] s (State.anWritten s n old d) := by
  have hk := Unchanged.refl [.freeCtr, .regs, .heldWrites, .leases, .jrnl, .clk, .cmt, .trig, .host, .chans, .groups] s
  unfold State.anWritten
  exact (by (try dsimp only); split; exacts [(by split; exacts [un_anDisable.after sub_89 hk, hk]), (by split; exacts [un_anRestart.after sub_93 hk, (by split; exacts [un_anEnable.after sub_88 hk, hk])])])
theorem un_rlyWritten {s : State} {n : Ch} : Unchanged [.freeCtr, .regs, .heldWrites, .leases, .jrnl, .clk, .cmt, .trig, .host, .chans, .groups] s (State.rlyWritten s n) := by
  have hk := Unchanged.refl [.freeCtr, .regs, .heldWrites, .leases, .jrnl, .clk, .cmt, .trig, .host, .chans, .groups] s
  unfold State.rlyWritten
  exact (by (try dsimp only); split; exacts [un_settlePair.after sub_93 (un_mirrorRly.after sub_90 hk), un_setPair.after sub_93 (un_mirrorRly.after sub_90 hk)])
theorem un_chWrote {s : State} {o : Origin} {n : Ch} {q : ChPage} {off : Nat} {old : Word} {d : Word} : Unchanged [.freeCtr, .regs, .moon, .snap, .posted, .heldWrites, .leases, .jrnl, .jobs, .clk, .cmt, .trig, .life, .bist, .host, .chans, .groups] s (State.chWrote s o n q off old d) := by
  have hk := Unchanged.refl [.freeCtr, .regs, .moon, .snap, .posted, .heldWrites, .leases, .jrnl, .jobs, .clk, .cmt, .trig, .life, .bist, .host, .chans, .groups] s
  unfold State.chWrote
  exact (by (try dsimp only); split; exacts [(by split; exacts [(by split; exacts [un_chanReset.after sub_387 hk, un_blockResets.after sub_387 hk]), hk]), (by split; exacts [un_iterWritten.after sub_373 hk, (by split; exacts [un_unitFenceActs.after sub_371 hk, hk])]), (by split; exacts [un_gainWritten.after sub_380 hk, (by split; exacts [un_showCorr.after sub_372 hk, hk])]), (by split; exacts [un_showAdapt.after sub_372 hk, (by split; exacts [un_tapsWritten.after sub_380 hk, (by split; exacts [un_showTap.after sub_372 hk, (by split; exacts [un_timingWritten.after sub_380 hk, (by split; exacts [un_listenWritten.after sub_381 hk, hk])])])])]), (by split; exacts [un_anWritten.after sub_371 hk, (by split; exacts [un_advWritten.after sub_380 hk, hk])]), (by split; exacts [un_hlModeWritten.after sub_371 hk, hk]), (by split; exacts [un_ptpPop.after sub_380 hk, hk]), (by split; exacts [un_holdWritten.after sub_380 hk, (by split; exacts [un_lbWritten.after sub_371 hk, (by split; exacts [un_tpWritten.after sub_371 hk, hk])])]), (by split; exacts [un_rlyWritten.after sub_371 hk, hk]), hk])
theorem un_turnedAway {s : State} {p : Page} {off : Nat} : Unchanged [.regs, .rst] s (State.turnedAway s p off) := by
  have hk := Unchanged.refl [.regs, .rst] s
  unfold State.turnedAway
  exact (by split; exacts [un_timeTurned.after sub_434 hk, (by split; exacts [un_setBit.after sub_434 hk, (by split; exacts [un_with_rst mem_435 (hk), hk])])])
theorem un_wrote {s : State} {o : Origin} {p : Page} {off : Nat} {old : Word} {d : Word} {fe : Bool} : Unchanged [.freeCtr, .regs, .moon, .snap, .posted, .heldWrites, .leases, .jrnl, .jobs, .nvm, .nvmDom, .rst, .clk, .cmt, .trig, .cap, .tk, .life, .bist, .host, .chans, .groups] s (State.wrote s o p off old d fe) := by
  have hk := Unchanged.refl [.freeCtr, .regs, .moon, .snap, .posted, .heldWrites, .leases, .jrnl, .jobs, .nvm, .nvmDom, .rst, .clk, .cmt, .trig, .cap, .tk, .life, .bist, .host, .chans, .groups] s
  unfold State.wrote
  exact (by split; exacts [un_headerWrote.after sub_436 hk, (by split; exacts [un_devWrote.after sub_437 hk, un_chWrote.after sub_438 hk])])
theorem un_applyWrite {s : State} {w : PostedWrite} {posted : Bool} : Unchanged [.freeCtr, .regs, .moon, .snap, .posted, .heldWrites, .leases, .jrnl, .jobs, .nvm, .nvmDom, .rst, .clk, .cmt, .trig, .cap, .tk, .life, .bist, .host, .chans, .groups] s (State.applyWrite s w posted) := by
  have hk := Unchanged.refl [.freeCtr, .regs, .moon, .snap, .posted, .heldWrites, .leases, .jrnl, .jobs, .nvm, .nvmDom, .rst, .clk, .cmt, .trig, .cap, .tk, .life, .bist, .host, .chans, .groups] s
  unfold State.applyWrite
  exact (by split; exacts [hk, (by (try dsimp only); split; exacts [(by split; exacts [un_turnedAway.after sub_439 (un_jAppend.after sub_440 hk), un_wrote.after sub_441 (un_jAppend.after sub_440 (un_storeReg.after sub_442 hk))]), (by split; exacts [un_turnedAway.after sub_439 (un_jAppend.after sub_440 hk), un_wrote.after sub_441 (un_jAppend.after sub_440 (un_storeReg.after sub_442 hk))])])])
theorem un_servedFor {s : State} {o : Origin} : Unchanged [.host] s (State.servedFor s o) := by
  have hk := Unchanged.refl [.host] s
  unfold State.servedFor
  exact un_with_host mem_342 (hk)
theorem un_busErr {s : State} {o : Origin} {a : Nat} : Unchanged [.regs] s (State.busErr s o a) := by
  have hk := Unchanged.refl [.regs] s
  unfold State.busErr
  exact (by split; exacts [un_intr.after sub_2 (un_sat.after sub_2 (by split; exacts [hk, un_setReg.after sub_2 hk])), un_intr.after sub_2 (un_sat.after sub_2 (by split; exacts [hk, un_setReg.after sub_2 hk])), hk])
theorem un_contend {s : State} {p : Page} {foreign : Bool} : Unchanged [.regs] s (State.contend s p foreign) := by
  have hk := Unchanged.refl [.regs] s
  unfold State.contend
  exact (by split; exacts [un_intr.after sub_2 (un_setBit.after sub_2 hk), hk])
theorem un_fabricRead {s : State} {o : Origin} {a : Nat} : Unchanged [.regs, .jrnl] s (State.fabricRead s o a).1 := by
  have hk := Unchanged.refl [.regs, .jrnl] s
  unfold State.fabricRead
  exact (by split; exacts [un_busErr.after sub_11 hk, un_afterRead.after sub_12 hk])
theorem un_fabricWrite {s : State} {o : Origin} {v1 : Bool} {a : Nat} {d : Word} {keep : Word} : Unchanged [.freeCtr, .regs, .moon, .snap, .posted, .heldWrites, .leases, .jrnl, .jobs, .nvm, .nvmDom, .rst, .clk, .cmt, .trig, .cap, .tk, .life, .bist, .host, .chans, .groups] s (State.fabricWrite s o v1 a d keep).1 := by
  have hk := Unchanged.refl [.freeCtr, .regs, .moon, .snap, .posted, .heldWrites, .leases, .jrnl, .jobs, .nvm, .nvmDom, .rst, .clk, .cmt, .trig, .cap, .tk, .life, .bist, .host, .chans, .groups] s
  unfold State.fabricWrite
  exact (by split; exacts [(by (try dsimp only); split; exacts [(by (try dsimp only); split; exacts [un_with_heldWrites mem_443 (hk), un_contend.after sub_444 (un_with_posted mem_445 (hk))]), un_contend.after sub_444 (un_applyWrite.after sub_441 hk)]), un_busErr.after sub_444 (un_jAppend.after sub_440 hk)])
theorem un_landed {s : State} {w : PostedWrite} : Unchanged [.freeCtr, .regs, .moon, .snap, .posted, .heldWrites, .leases, .jrnl, .jobs, .nvm, .nvmDom, .rst, .clk, .cmt, .trig, .cap, .tk, .life, .bist, .host, .chans, .groups] s (State.landed s w) := by
  have hk := Unchanged.refl [.freeCtr, .regs, .moon, .snap, .posted, .heldWrites, .leases, .jrnl, .jobs, .nvm, .nvmDom, .rst, .clk, .cmt, .trig, .cap, .tk, .life, .bist, .host, .chans, .groups] s
  unfold State.landed
  exact (by split; exacts [un_owing rfl hk (un_applyWrite.after sub_441 hk), un_applyWrite.after sub_441 hk])
theorem un_popPosted {s : State} {q : PDom} : Unchanged [.freeCtr, .regs, .moon, .snap, .posted, .heldWrites, .leases, .jrnl, .jobs, .nvm, .nvmDom, .rst, .clk, .cmt, .trig, .cap, .tk, .life, .bist, .host, .chans, .groups] s (State.popPosted s q) := by
  have hk := Unchanged.refl [.freeCtr, .regs, .moon, .snap, .posted, .heldWrites, .leases, .jrnl, .jobs, .nvm, .nvmDom, .rst, .clk, .cmt, .trig, .cap, .tk, .life, .bist, .host, .chans, .groups] s
  unfold State.popPosted
  exact (by split; exacts [hk, (by split; exacts [hk, un_landed.after sub_441 (un_with_posted mem_445 (hk))])])
theorem un_crcCount {s : State} {p : SPort} : Unchanged [.regs] s (State.crcCount s p) := by
  have hk := Unchanged.refl [.regs] s
  unfold State.crcCount
  exact (by split; exacts [un_intr.after sub_2 (un_wrap32.after sub_2 hk), un_intr.after sub_2 (un_wrap32.after sub_2 hk)])
theorem un_refuseCount {s : State} {p : SPort} : Unchanged [.regs] s (State.refuseCount s p) := by
  have hk := Unchanged.refl [.regs] s
  unfold State.refuseCount
  exact un_wrap32.after sub_2 hk
theorem un_finish {s : State} {p : SPort} {tag : BitVec 5} {r : BitVec 3} {d : Word} : Unchanged [.host] s (State.finish s p tag r d) := by
  have hk := Unchanged.refl [.host] s
  unfold State.finish
  exact un_mapPort.after sub_446 hk
theorem un_failFrame {s : State} {p : SPort} {tag : BitVec 5} {r : BitVec 3} : Unchanged [.regs, .host] s (State.failFrame s p tag r) := by
  have hk := Unchanged.refl [.regs, .host] s
  unfold State.failFrame
  exact (by (try dsimp only); split; exacts [un_when hk (un_crcCount.after sub_50 hk), un_finish.after sub_447 (un_when hk (un_crcCount.after sub_50 hk))])
theorem un_burstCount {s : State} {p : SPort} {k : Nat} : Unchanged [.regs, .host] s (State.burstCount s p k) := by
  have hk := Unchanged.refl [.regs, .host] s
  unfold State.burstCount
  exact un_mapPort.after sub_447 (un_setFld.after sub_50 hk)
theorem un_touched {s : State} {p : SPort} {a : Nat} : Unchanged [.host] s (State.touched s p a) := by
  have hk := Unchanged.refl [.host] s
  unfold State.touched
  exact un_servedFor.after sub_446 (un_mapPort.after sub_446 hk)
theorem un_portWrite {s : State} {p : SPort} {a : Nat} {d : Word} {keep : Word} : Unchanged [.freeCtr, .regs, .moon, .snap, .posted, .heldWrites, .leases, .jrnl, .jobs, .nvm, .nvmDom, .rst, .clk, .cmt, .trig, .cap, .tk, .life, .bist, .host, .chans, .groups] s (State.portWrite s p a d keep).1 := by
  have hk := Unchanged.refl [.freeCtr, .regs, .moon, .snap, .posted, .heldWrites, .leases, .jrnl, .jobs, .nvm, .nvmDom, .rst, .clk, .cmt, .trig, .cap, .tk, .life, .bist, .host, .chans, .groups] s
  unfold State.portWrite
  exact un_fabricWrite.after sub_441 (un_touched.after sub_448 hk)
theorem un_frameWrite {s : State} {p : SPort} {tag : BitVec 5} {a : Nat} {d : Word} {keep : Word} {echo : Word} : Unchanged [.freeCtr, .regs, .moon, .snap, .posted, .heldWrites, .leases, .jrnl, .jobs, .nvm, .nvmDom, .rst, .clk, .cmt, .trig, .cap, .tk, .life, .bist, .host, .chans, .groups] s (State.frameWrite s p tag a d keep echo) := by
  have hk := Unchanged.refl [.freeCtr, .regs, .moon, .snap, .posted, .heldWrites, .leases, .jrnl, .jobs, .nvm, .nvmDom, .rst, .clk, .cmt, .trig, .cap, .tk, .life, .bist, .host, .chans, .groups] s
  unfold State.frameWrite
  exact (by split; exacts [un_finish.after sub_448 (un_pair ‹_› (un_portWrite.after sub_441 hk)), un_mapPort.after sub_448 (un_pair ‹_› (un_portWrite.after sub_441 hk))])
theorem un_frameRead {s : State} {p : SPort} {tag : BitVec 5} {a : Nat} {half : Option Bool} : Unchanged [.regs, .jrnl, .host] s (State.frameRead s p tag a half) := by
  have hk := Unchanged.refl [.regs, .jrnl, .host] s
  unfold State.frameRead
  exact (by split; exacts [un_finish.after sub_449 (un_pair ‹_› (un_fabricRead.after sub_285 (un_touched.after sub_449 hk)))])
theorem un_burstWrite {p : SPort} {tag : BitVec 5} {l : List (Nat × Word × Bool)} : ∀ {s : State} {made : Nat} {posted : Bool}, Unchanged [.freeCtr, .regs, .moon, .snap, .posted, .heldWrites, .leases, .jrnl, .jobs, .nvm, .nvmDom, .rst, .clk, .cmt, .trig, .cap, .tk, .life, .bist, .host, .chans, .groups] s (s.burstWrite p tag made posted l) := by
  induction l with
  | nil => intro s made posted; exact un_finish.after rfl (un_burstCount.after rfl (Unchanged.refl _ _))
  | cons x r ih =>
    intro s made posted
    obtain ⟨a, d, ok⟩ := x
    have hk := Unchanged.refl [.freeCtr, .regs, .moon, .snap, .posted, .heldWrites, .leases, .jrnl, .jobs, .nvm, .nvmDom, .rst, .clk, .cmt, .trig, .cap, .tk, .life, .bist, .host, .chans, .groups] s
    have h1 : Unchanged [.freeCtr, .regs, .moon, .snap, .posted, .heldWrites, .leases, .jrnl, .jobs, .nvm, .nvmDom, .rst, .clk, .cmt, .trig, .cap, .tk, .life, .bist, .host, .chans, .groups] s (s.portWrite p a d 0).1 := un_portWrite.after rfl hk
    unfold State.burstWrite
    split
    · exact un_burstCount.after rfl hk
    split
    · exact un_finish.after rfl (un_burstCount.after rfl (un_crcCount.after rfl hk))
    split
    · have h2 := un_pair ‹_› h1
      split
      · exact Unchanged.after ih rfl h2
      · exact un_finish.after rfl (un_burstCount.after rfl h2)
    · exact un_mapPort.after rfl (un_pair ‹_› h1)
theorem un_burstRead {p : SPort} {k : Nat} : ∀ {s : State} {a : Nat}, Unchanged [.regs, .jrnl, .host] s (s.burstRead p a k).1 := by
  induction k with
  | zero => intro s a; exact Unchanged.refl _ _
  | succ k ih =>
    intro s a
    have h1 : Unchanged [.regs, .jrnl, .host] s ((s.touched p a).fabricRead (portOrigin p) a).1 := un_fabricRead.after rfl (un_touched.after rfl (Unchanged.refl _ _))
    unfold State.burstRead
    split
    rename_i s' c w he
    have h2 : Unchanged [.regs, .jrnl, .host] s s' := un_pair he h1
    dsimp only
    split
    · have h3 : Unchanged [.regs, .jrnl, .host] s (s'.burstRead p ((a + 4) % 2 ^ 24) k).1 := Unchanged.after ih rfl h2
      generalize s'.burstRead p ((a + 4) % 2 ^ 24) k = y at h3
      exact h3
    · exact h2
theorem un_frameBurstRead {s : State} {p : SPort} {tag : BitVec 5} {a : Nat} {n : Nat} : Unchanged [.regs, .jrnl, .host] s (State.frameBurstRead s p tag a n) := by
  have hk := Unchanged.refl [.regs, .jrnl, .host] s
  unfold State.frameBurstRead
  exact (by split; exacts [un_mapPort.after sub_449 (un_burstCount.after sub_450 (un_pair ‹_› (un_burstRead.after sub_287 hk)))])
theorem un_resumePort {s : State} {p : SPort} {orphan : Bool} {c : BitVec 3} : Unchanged [.freeCtr, .regs, .moon, .snap, .posted, .heldWrites, .leases, .jrnl, .jobs, .nvm, .nvmDom, .rst, .clk, .cmt, .trig, .cap, .tk, .life, .bist, .host, .chans, .groups] s (State.resumePort s p orphan c) := by
  have hk := Unchanged.refl [.freeCtr, .regs, .moon, .snap, .posted, .heldWrites, .leases, .jrnl, .jobs, .nvm, .nvmDom, .rst, .clk, .cmt, .trig, .cap, .tk, .life, .bist, .host, .chans, .groups] s
  unfold State.resumePort
  exact (by (try dsimp only); split; exacts [(by split; exacts [un_burstCount.after sub_451 hk, hk]), (by split; exacts [(by split; exacts [(by split; exacts [un_burstWrite.after sub_441 (un_mapPort.after sub_448 hk), un_finish.after sub_448 (un_burstCount.after sub_451 hk)]), un_finish.after sub_448 hk]), hk])])
theorem un_portAbort {s : State} {p : SPort} {tag : BitVec 5} : Unchanged [.regs, .heldWrites, .host] s (State.portAbort s p tag) := by
  have hk := Unchanged.refl [.regs, .heldWrites, .host] s
  unfold State.portAbort
  exact (by split; exacts [un_finish.after sub_343 (un_portStops.after sub_452 hk), (by split; exacts [hk, un_finish.after sub_343 hk])])
theorem un_portReset {s : State} {p : SPort} {tag : BitVec 5} : Unchanged [.regs, .heldWrites, .leases, .jrnl, .host] s (State.portReset s p tag) := by
  have hk := Unchanged.refl [.regs, .heldWrites, .leases, .jrnl, .host] s
  unfold State.portReset
  exact un_finish.after sub_405 (un_breakLocksOf.after sub_404 (un_jEvent.after sub_453 (un_mapPort.after sub_405 (un_portStops.after sub_403 hk))))
theorem un_exec2 {s : State} {p : SPort} {k : Nat} {m : List Byte} : Unchanged [.freeCtr, .regs, .moon, .snap, .posted, .heldWrites, .leases, .jrnl, .jobs, .nvm, .nvmDom, .rst, .clk, .cmt, .trig, .cap, .tk, .life, .bist, .host, .chans, .groups] s (State.exec2 s p k m) := by
  have hk := Unchanged.refl [.freeCtr, .regs, .moon, .snap, .posted, .heldWrites, .leases, .jrnl, .jobs, .nvm, .nvmDom, .rst, .clk, .cmt, .trig, .cap, .tk, .life, .bist, .host, .chans, .groups] s
  unfold State.exec2
  exact (by (try dsimp only); split; exacts [un_finish.after sub_448 hk, un_frameRead.after sub_454 hk, un_frameWrite.after sub_441 hk, (by split; exacts [un_frameBurstRead.after sub_454 hk, un_failFrame.after sub_451 hk]), un_burstWrite.after sub_441 hk, (by split; exacts [un_portAbort.after sub_455 hk, (by split; exacts [un_portReset.after sub_456 hk, un_failFrame.after sub_451 hk])]), un_failFrame.after sub_451 hk])
theorem un_write1 {s : State} {p : SPort} {b : Nat} {h : BitVec 16} {latch : Option (BitVec 16 × Nat)} : Unchanged [.freeCtr, .regs, .moon, .snap, .posted, .heldWrites, .leases, .jrnl, .jobs, .nvm, .nvmDom, .rst, .clk, .cmt, .trig, .cap, .tk, .life, .bist, .host, .chans, .groups] s (State.write1 s p b h latch) := by
  have hk := Unchanged.refl [.freeCtr, .regs, .moon, .snap, .posted, .heldWrites, .leases, .jrnl, .jobs, .nvm, .nvmDom, .rst, .clk, .cmt, .trig, .cap, .tk, .life, .bist, .host, .chans, .groups] s
  unfold State.write1
  exact (by (try dsimp only); split; exacts [(by split; exacts [un_finish.after sub_448 (un_mapPort.after sub_448 hk), un_frameWrite.after sub_441 hk]), (by split; exacts [un_finish.after sub_448 (un_mapPort.after sub_448 hk), un_frameWrite.after sub_441 hk])])
theorem un_exec1 {s : State} {p : SPort} {m : List Byte} : Unchanged [.freeCtr, .regs, .moon, .snap, .posted, .heldWrites, .leases, .jrnl, .jobs, .nvm, .nvmDom, .rst, .clk, .cmt, .trig, .cap, .tk, .life, .bist, .host, .chans, .groups] s (State.exec1 s p m) := by
  have hk := Unchanged.refl [.freeCtr, .regs, .moon, .snap, .posted, .heldWrites, .leases, .jrnl, .jobs, .nvm, .nvmDom, .rst, .clk, .cmt, .trig, .cap, .tk, .life, .bist, .host, .chans, .groups] s
  unfold State.exec1
  exact (by (try dsimp only); split; exacts [un_finish.after sub_448 (un_mapPort.after sub_448 hk), un_frameRead.after sub_454 (un_mapPort.after sub_448 hk), un_write1.after sub_441 (un_mapPort.after sub_448 hk), un_failFrame.after sub_451 (un_mapPort.after sub_448 hk)])
theorem un_frameEnds {s : State} {p : SPort} {ready : Bool} {edges : Nat} {m : List Byte} : Unchanged [.freeCtr, .regs, .moon, .snap, .posted, .heldWrites, .leases, .jrnl, .jobs, .nvm, .nvmDom, .rst, .clk, .cmt, .trig, .cap, .tk, .life, .bist, .host, .chans, .groups] s (State.frameEnds s p ready edges m) := by
  have hk := Unchanged.refl [.freeCtr, .regs, .moon, .snap, .posted, .heldWrites, .leases, .jrnl, .jobs, .nvm, .nvmDom, .rst, .clk, .cmt, .trig, .cap, .tk, .life, .bist, .host, .chans, .groups] s
  unfold State.frameEnds
  with_reducible (repeat' first | exact hk | assumption | refine un_mapPort.after sub_448 ?_ | refine un_refuseCount.after sub_444 ?_ | refine un_failFrame.after sub_451 ?_ | refine un_exec1.after sub_441 ?_ | refine un_exec2.after sub_441 ?_ | split | dsimp only | intro _)
theorem un_frame {s : State} {p : SPort} {edges : Nat} {m : List Byte} {low : Nat} : Unchanged [.freeCtr, .regs, .moon, .snap, .posted, .heldWrites, .leases, .jrnl, .jobs, .nvm, .nvmDom, .rst, .clk, .cmt, .trig, .cap, .tk, .life, .bist, .host, .chans, .groups] s (State.frame s p edges m low) := by
  have hk := Unchanged.refl [.freeCtr, .regs, .moon, .snap, .posted, .heldWrites, .leases, .jrnl, .jobs, .nvm, .nvmDom, .rst, .clk, .cmt, .trig, .cap, .tk, .life, .bist, .host, .chans, .groups] s
  unfold State.frame
  exact (by (try dsimp only); split; exacts [un_mapPort.after sub_448 hk, un_frameEnds.after sub_441 (un_mapPort.after sub_448 hk)])
theorem un_mapWin {s : State} {n : Ch} {f : MdioWin → MdioWin} : Unchanged [.host] s (State.mapWin s n f) := by
  have hk := Unchanged.refl [.host] s
  unfold State.mapWin
  exact un_with_host mem_342 (hk)
theorem un_mdioReg {s : State} {a : Nat} : Unchanged [.regs] s (State.mdioReg s a).1 := by
  have hk := Unchanged.refl [.regs] s
  unfold State.mdioReg
  exact (by split; exacts [un_busErr.after sub_2 hk, hk])
theorem un_stdRead {s : State} {n : Ch} {mmd : Nat} {reg : Nat} : Unchanged [.regs] s (State.stdRead s n mmd reg).1 := by
  have hk := Unchanged.refl [.regs] s
  unfold State.stdRead
  exact (by split; exacts [hk, (by split; exacts [un_pair ‹_› (un_mdioReg.after sub_2 hk)]), (by split; exacts [un_pair ‹_› (un_mdioReg.after sub_2 hk)]), (by split; exacts [(by split; exacts [un_pair ‹_› (un_mdioReg.after sub_2 hk), (by split; exacts [un_pair ‹_› (un_mdioReg.after sub_2 (un_pair ‹_› (un_mdioReg.after sub_2 hk)))])])]), (by split; exacts [un_pair ‹_› (un_mdioReg.after sub_2 hk)]), (by split; exacts [(by split; exacts [un_pair ‹_› (un_mdioReg.after sub_2 (un_pair ‹_› (un_mdioReg.after sub_2 hk)))])]), (by split; exacts [un_pair ‹_› (un_mdioReg.after sub_2 hk)]), hk, hk])
theorem un_mdioWrite {s : State} {a : Nat} {d : Word} {keep : Word} : Unchanged [.freeCtr, .regs, .moon, .snap, .posted, .heldWrites, .leases, .jrnl, .jobs, .nvm, .nvmDom, .rst, .clk, .cmt, .trig, .cap, .tk, .life, .bist, .host, .chans, .groups] s (State.mdioWrite s a d keep) := by
  have hk := Unchanged.refl [.freeCtr, .regs, .moon, .snap, .posted, .heldWrites, .leases, .jrnl, .jobs, .nvm, .nvmDom, .rst, .clk, .cmt, .trig, .cap, .tk, .life, .bist, .host, .chans, .groups] s
  unfold State.mdioWrite
  exact un_fabricWrite.after sub_441 hk
theorem un_stdWrite {s : State} {n : Ch} {mmd : Nat} {reg : Nat} {d : BitVec 16} : Unchanged [.freeCtr, .regs, .moon, .snap, .posted, .heldWrites, .leases, .jrnl, .jobs, .nvm, .nvmDom, .rst, .clk, .cmt, .trig, .cap, .tk, .life, .bist, .host, .chans, .groups] s (State.stdWrite s n mmd reg d) := by
  have hk := Unchanged.refl [.freeCtr, .regs, .moon, .snap, .posted, .heldWrites, .leases, .jrnl, .jobs, .nvm, .nvmDom, .rst, .clk, .cmt, .trig, .cap, .tk, .life, .bist, .host, .chans, .groups] s
  unfold State.stdWrite
  exact (by (try dsimp only); split; exacts [un_mdioWrite.after sub_441 hk, un_mdioWrite.after sub_441 hk, un_mdioWrite.after sub_441 hk, un_mdioWrite.after sub_441 hk, un_mdioWrite.after sub_441 hk, un_mdioWrite.after sub_441 (un_mdioWrite.after sub_441 hk), un_mdioWrite.after sub_441 hk, un_jAppend.after sub_440 hk, un_jAppend.after sub_440 hk])
theorem un_winWrite {s : State} {phy : BitVec 5} {reg : Nat} {d : BitVec 16} : Unchanged [.regs, .host] s (State.winWrite s phy reg d) := by
  have hk := Unchanged.refl [.regs, .host] s
  unfold State.winWrite
  exact (by split; exacts [hk, (by split; exacts [(by split; exacts [un_sat.after sub_50 hk, hk]), un_mapWin.after sub_447 hk])])
theorem un_winRun {s : State} {n : Ch} : Unchanged [.freeCtr, .regs, .moon, .snap, .posted, .heldWrites, .leases, .jrnl, .jobs, .nvm, .nvmDom, .rst, .clk, .cmt, .trig, .cap, .tk, .life, .bist, .host, .chans, .groups] s (State.winRun s n) := by
  have hk := Unchanged.refl [.freeCtr, .regs, .moon, .snap, .posted, .heldWrites, .leases, .jrnl, .jobs, .nvm, .nvmDom, .rst, .clk, .cmt, .trig, .cap, .tk, .life, .bist, .host, .chans, .groups] s
  unfold State.winRun
  with_reducible (repeat' first | exact hk | assumption | refine un_mapWin.after sub_448 ?_ | refine un_fabricRead.after sub_440 ?_ | refine un_fabricWrite.after sub_441 ?_ | refine un_pair ‹_› ?_ | split | dsimp only | intro _)
theorem un_remoteAnswer {s : State} {n : Ch} {r : Remote} {c : BitVec 3} {d : Word} : Unchanged [.chans] s (State.remoteAnswer s n r c d) := by
  have hk := Unchanged.refl [.chans] s
  unfold State.remoteAnswer
  exact un_oamPush.after sub_4 (un_mapChan.after sub_4 hk)
theorem un_remoteDone {s : State} {n : Ch} {r : Remote} {c : BitVec 3} {d : Word} : Unchanged [.regs, .chans] s (State.remoteDone s n r c d) := by
  have hk := Unchanged.refl [.regs, .chans] s
  unfold State.remoteDone
  exact un_remoteAnswer.after sub_16 (un_wrap32.after sub_15 hk)
theorem un_mapJtag {s : State} {f : Jtag → Jtag} : Unchanged [.host] s (State.mapJtag s f) := by
  have hk := Unchanged.refl [.host] s
  unfold State.mapJtag
  exact un_with_host mem_342 (hk)
theorem un_jtagScan {s : State} {a : Addr} {write : Option Word} : Unchanged [.freeCtr, .regs, .moon, .snap, .posted, .heldWrites, .leases, .jrnl, .jobs, .nvm, .nvmDom, .rst, .clk, .cmt, .trig, .cap, .tk, .life, .bist, .host, .chans, .groups] s (State.jtagScan s a write) := by
  have hk := Unchanged.refl [.freeCtr, .regs, .moon, .snap, .posted, .heldWrites, .leases, .jrnl, .jobs, .nvm, .nvmDom, .rst, .clk, .cmt, .trig, .cap, .tk, .life, .bist, .host, .chans, .groups] s
  unfold State.jtagScan
  with_reducible (repeat' first | exact hk | assumption | refine un_mapJtag.after sub_448 ?_ | refine un_fabricRead.after sub_440 ?_ | refine un_servedFor.after sub_448 ?_ | refine un_fabricWrite.after sub_441 ?_ | refine un_pair ‹_› ?_ | split | dsimp only | intro _)
theorem un_resumed {s : State} {w : PostedWrite} {c : BitVec 3} : Unchanged [.freeCtr, .regs, .moon, .snap, .posted, .heldWrites, .leases, .jrnl, .jobs, .nvm, .nvmDom, .rst, .clk, .cmt, .trig, .cap, .tk, .life, .bist, .host, .chans, .groups] s (State.resumed s w c) := by
  have hk := Unchanged.refl [.freeCtr, .regs, .moon, .snap, .posted, .heldWrites, .leases, .jrnl, .jobs, .nvm, .nvmDom, .rst, .clk, .cmt, .trig, .cap, .tk, .life, .bist, .host, .chans, .groups] s
  unfold State.resumed
  exact (by split; exacts [un_resumePort.after sub_441 hk, un_resumePort.after sub_441 hk, (by split; exacts [un_mapWin.after sub_448 hk, hk]), (by split; exacts [un_remoteDone.after sub_457 hk, hk]), (by split; exacts [un_mapJtag.after sub_448 hk, hk]), hk])
theorem un_unhold {s : State} {q : PDom} : Unchanged [.freeCtr, .regs, .moon, .snap, .posted, .heldWrites, .leases, .jrnl, .jobs, .nvm, .nvmDom, .rst, .clk, .cmt, .trig, .cap, .tk, .life, .bist, .host, .chans, .groups] s (State.unhold s q) := by
  have hk := Unchanged.refl [.freeCtr, .regs, .moon, .snap, .posted, .heldWrites, .leases, .jrnl, .jobs, .nvm, .nvmDom, .rst, .clk, .cmt, .trig, .cap, .tk, .life, .bist, .host, .chans, .groups] s
  unfold State.unhold
  exact (by split; exacts [hk, (by split; exacts [hk, (by (try dsimp only); split; exacts [un_resumed.after sub_441 (un_with_heldWrites mem_443 (un_pair ‹_› (un_fabricWrite.after sub_441 (un_with_heldWrites mem_443 (hk))))), un_with_heldWrites mem_443 (un_pair ‹_› (un_fabricWrite.after sub_441 (un_with_heldWrites mem_443 (hk))))])])])
set_option maxRecDepth 4000 in
theorem un_loadTrims {s : State} {n : Ch} {g : Nat} : Unchanged [.regs, .chans] s (s.loadTrims n g) := by
  unfold State.loadTrims
  extract_lets put
  have hp : ∀ l w, Unchanged [.regs, .chans] s (put s l w) := fun l w => un_setReg.after (by decide) (un_mapTrim.after (by decide) (Unchanged.refl _ _))
  clear_value put
  split
  · exact hp _ _
  · exact un_intr.after (by decide) (hp _ _)
  · exact un_intr.after (by decide) (hp _ _)
theorem un_showCal {s : State} : Unchanged [.regs] s (State.showCal s) := by
  have hk := Unchanged.refl [.regs] s
  unfold State.showCal
  exact un_setReg.after sub_2 (un_setReg.after sub_2 (un_setReg.after sub_2 (un_setReg.after sub_2 hk)))
theorem un_loadGens {s : State} : Unchanged [.regs, .life, .chans] s (State.loadGens s) := by
  have hk := Unchanged.refl [.regs, .life, .chans] s
  unfold State.loadGens
  exact un_showCal.after sub_458 (un_forCh (by split; exacts [un_mapLife.after sub_459 (un_setReg.after sub_458 (un_setReg.after sub_458 hk)), un_setReg.after sub_458 (un_setReg.after sub_458 hk)]) (fun x1_0 x1_1 x1_2 => un_loadTrims.after sub_460 x1_2))
theorem un_loadRepairs {s : State} : Unchanged [.regs, .bist] s (State.loadRepairs s) := by
  have hk := Unchanged.refl [.regs, .bist] s
  unfold State.loadRepairs
  exact un_foldl (un_when (un_setFld.after sub_300 (un_showRepairs.after sub_300 (un_with_bist mem_301 (hk)))) (un_intr.after sub_300 (un_setFld.after sub_300 (un_showRepairs.after sub_300 (un_with_bist mem_301 (hk)))))) (fun x1_0 x1_1 x1_2 => un_setBit.after sub_300 x1_2)
theorem un_startFences {s : State} : Unchanged [.freeCtr, .regs, .heldWrites, .leases, .jrnl, .jobs, .clk, .cmt, .trig, .bist, .host, .chans, .groups] s (State.startFences s) := by
  have hk := Unchanged.refl [.freeCtr, .regs, .heldWrites, .leases, .jrnl, .jobs, .clk, .cmt, .trig, .bist, .host, .chans, .groups] s
  unfold State.startFences
  exact un_foldl (un_foldl (un_forCh hk (fun x3_0 x3_1 x3_2 => (by split; exacts [un_fenceChannel.after sub_106 x3_2, x3_2]))) (fun x2_0 x2_1 x2_2 => un_fenceUnit.after sub_109 x2_2)) (fun x1_0 x1_1 x1_2 => (by split; exacts [un_fenceCh.after sub_106 x1_2, x1_2]))
theorem un_jLate {s : State} {e : JEntry} : Unchanged [.regs, .jrnl] s (s.jLate e) :=
  un_with_jrnl rfl (un_jAppend.after rfl (Unchanged.refl _ _))
theorem un_startEvents {s : State} : Unchanged [.regs, .jrnl, .host] s (State.startEvents s) := by
  have hk := Unchanged.refl [.regs, .jrnl, .host] s
  unfold State.startEvents
  exact un_foldl (by split; exacts [un_jEvent.after sub_285 (un_newRing.after sub_287 hk), un_jEvent.after sub_285 (un_newRing.after sub_287 hk), un_jEvent.after sub_285 hk, un_jEvent.after sub_285 hk, hk]) (fun x1_0 x1_1 x1_2 => un_jEvent.after sub_285 x1_2)
theorem un_markReset {s : State} : Unchanged [.regs] s (State.markReset s) := by
  have hk := Unchanged.refl [.regs] s
  unfold State.markReset
  exact un_foldl hk (fun x1_0 x1_1 x1_2 => un_setReg.after sub_2 x1_2)
theorem un_owedBreaksDone {s : State} : Unchanged [.regs, .jrnl] s (State.owedBreaksDone s) := by
  have hk := Unchanged.refl [.regs, .jrnl] s
  unfold State.owedBreaksDone
  exact un_foldl hk (fun x1_0 x1_1 x1_2 => (by split; exacts [un_lockBroken.after sub_11 (un_jAppend.after sub_12 x1_2), x1_2]))
theorem un_owedEntries {s : State} : Unchanged [.regs, .jrnl, .rst, .host] s (State.owedEntries s) := by
  have hk := Unchanged.refl [.regs, .jrnl, .rst, .host] s
  unfold State.owedEntries
  exact un_with_rst mem_461 (un_owedBreaksDone.after sub_462 (un_foldl (un_markReset.after sub_463 (un_startEvents.after sub_464 hk)) (fun x1_0 x1_1 x1_2 => un_jLate.after sub_462 x1_2)))
theorem un_drainPosted {s : State} {q : PDom} : Unchanged [.freeCtr, .regs, .moon, .snap, .posted, .heldWrites, .leases, .jrnl, .jobs, .nvm, .nvmDom, .rst, .clk, .cmt, .trig, .cap, .tk, .life, .bist, .host, .chans, .groups] s (State.drainPosted s q) := by
  have hk := Unchanged.refl [.freeCtr, .regs, .moon, .snap, .posted, .heldWrites, .leases, .jrnl, .jobs, .nvm, .nvmDom, .rst, .clk, .cmt, .trig, .cap, .tk, .life, .bist, .host, .chans, .groups] s
  unfold State.drainPosted
  exact un_foldl hk (fun x1_0 x1_1 x1_2 => un_unhold.after sub_441 (un_popPosted.after sub_441 x1_2))
theorem un_restoreWrite {s : State} {a : Nat} {d : Word} : Unchanged [.freeCtr, .regs, .moon, .snap, .posted, .heldWrites, .leases, .jrnl, .jobs, .nvm, .nvmDom, .rst, .clk, .cmt, .trig, .cap, .tk, .life, .bist, .host, .chans, .groups] s (State.restoreWrite s a d).1 := by
  have hk := Unchanged.refl [.freeCtr, .regs, .moon, .snap, .posted, .heldWrites, .leases, .jrnl, .jobs, .nvm, .nvmDom, .rst, .clk, .cmt, .trig, .cap, .tk, .life, .bist, .host, .chans, .groups] s
  unfold State.restoreWrite
  exact (by split; exacts [un_pair ‹_› (un_fabricWrite.after sub_441 hk), (by split; exacts [un_pair ‹_› (un_fabricWrite.after sub_441 (un_drainPosted.after sub_441 hk))])])
theorem un_restoreCalendar {s : State} : Unchanged [.freeCtr, .regs, .moon, .snap, .posted, .heldWrites, .leases, .jrnl, .jobs, .nvm, .nvmDom, .rst, .clk, .cmt, .trig, .cap, .tk, .life, .bist, .host, .chans, .groups] s (State.restoreCalendar s) := by
  have hk := Unchanged.refl [.freeCtr, .regs, .moon, .snap, .posted, .heldWrites, .leases, .jrnl, .jobs, .nvm, .nvmDom, .rst, .clk, .cmt, .trig, .cap, .tk, .life, .bist, .host, .chans, .groups] s
  unfold State.restoreCalendar
  exact (by (try dsimp only); split; exacts [un_foldl (un_restoreWrite.after sub_441 hk) (fun x2_0 x2_1 x2_2 => un_restoreWrite.after sub_441 (un_restoreWrite.after sub_441 (un_restoreWrite.after sub_441 x2_2))), hk])
theorem un_applyEntries {s : State} {l : List (Nat × Bool × Word)} : Unchanged [.freeCtr, .regs, .moon, .snap, .posted, .heldWrites, .leases, .jrnl, .jobs, .nvm, .nvmDom, .rst, .clk, .cmt, .trig, .cap, .tk, .life, .bist, .host, .chans, .groups] s (State.applyEntries s l) := by
  have hk := Unchanged.refl [.freeCtr, .regs, .moon, .snap, .posted, .heldWrites, .leases, .jrnl, .jobs, .nvm, .nvmDom, .rst, .clk, .cmt, .trig, .cap, .tk, .life, .bist, .host, .chans, .groups] s
  unfold State.applyEntries
  exact un_foldl hk (fun x1_0 x1_1 x1_2 => (by split; exacts [(by split; exacts [un_when (un_sat.after sub_444 (un_pair ‹_› (un_restoreWrite.after sub_441 x1_2))) (un_sat.after sub_444 (un_sat.after sub_444 (un_pair ‹_› (un_restoreWrite.after sub_441 x1_2))))]), x1_2]))
theorem un_loadNvm {s : State} : Unchanged [.regs, .jrnl, .tk, .life, .bist, .chans] s (State.loadNvm s) := by
  have hk := Unchanged.refl [.regs, .jrnl, .tk, .life, .bist, .chans] s
  unfold State.loadNvm
  exact un_loadLeap.after sub_465 (un_forCh (un_loadRepairs.after sub_466 (un_loadGens.after sub_467 (un_loadLedger.after sub_468 (un_showArea.after sub_469 (un_showSects.after sub_469 hk))))) (fun x1_0 x1_1 x1_2 => un_loadProfile.after sub_470 x1_2))
theorem un_showStart {s : State} : Unchanged [.regs] s (State.showStart s) := by
  have hk := Unchanged.refl [.regs] s
  unfold State.showStart
  exact un_when (un_setReg.after sub_2 (un_setReg.after sub_2 hk)) (un_intr.after sub_2 (un_setReg.after sub_2 (un_setReg.after sub_2 hk)))
theorem un_writeKeep {s : State} {o : Origin} {a : Nat} {d : Word} {keep : Word} : Unchanged [.freeCtr, .regs, .moon, .snap, .posted, .heldWrites, .leases, .jrnl, .jobs, .nvm, .nvmDom, .rst, .clk, .cmt, .trig, .cap, .tk, .life, .bist, .host, .chans, .groups] s (State.writeKeep s o a d keep) := by
  have hk := Unchanged.refl [.freeCtr, .regs, .moon, .snap, .posted, .heldWrites, .leases, .jrnl, .jobs, .nvm, .nvmDom, .rst, .clk, .cmt, .trig, .cap, .tk, .life, .bist, .host, .chans, .groups] s
  unfold State.writeKeep
  exact (by split; exacts [hk, un_when (un_fabricWrite.after sub_441 (un_when hk (un_drainPosted.after sub_441 hk))) (un_popPosted.after sub_441 (un_fabricWrite.after sub_441 (un_when hk (un_drainPosted.after sub_441 hk))))])
theorem un_writeNow {s : State} {o : Origin} {a : Nat} {d : Word} : Unchanged [.freeCtr, .regs, .moon, .snap, .posted, .heldWrites, .leases, .jrnl, .jobs, .nvm, .nvmDom, .rst, .clk, .cmt, .trig, .cap, .tk, .life, .bist, .host, .chans, .groups] s (State.writeNow s o a d) := by
  have hk := Unchanged.refl [.freeCtr, .regs, .moon, .snap, .posted, .heldWrites, .leases, .jrnl, .jobs, .nvm, .nvmDom, .rst, .clk, .cmt, .trig, .cap, .tk, .life, .bist, .host, .chans, .groups] s
  unfold State.writeNow
  exact un_writeKeep.after sub_441 hk
theorem un_writeFld {s : State} {o : Origin} {a : Nat} {hi : Nat} {lo : Nat} {v : Nat} : Unchanged [.freeCtr, .regs, .moon, .snap, .posted, .heldWrites, .leases, .jrnl, .jobs, .nvm, .nvmDom, .rst, .clk, .cmt, .trig, .cap, .tk, .life, .bist, .host, .chans, .groups] s (State.writeFld s o a hi lo v) := by
  have hk := Unchanged.refl [.freeCtr, .regs, .moon, .snap, .posted, .heldWrites, .leases, .jrnl, .jobs, .nvm, .nvmDom, .rst, .clk, .cmt, .trig, .cap, .tk, .life, .bist, .host, .chans, .groups] s
  unfold State.writeFld
  exact un_writeKeep.after sub_441 hk
theorem un_writeKeyed {s : State} {o : Origin} {a : Nat} {hi : Nat} {i : Nat} {b : Bool} : Unchanged [.freeCtr, .regs, .moon, .snap, .posted, .heldWrites, .leases, .jrnl, .jobs, .nvm, .nvmDom, .rst, .clk, .cmt, .trig, .cap, .tk, .life, .bist, .host, .chans, .groups] s (State.writeKeyed s o a hi i b) := by
  have hk := Unchanged.refl [.freeCtr, .regs, .moon, .snap, .posted, .heldWrites, .leases, .jrnl, .jobs, .nvm, .nvmDom, .rst, .clk, .cmt, .trig, .cap, .tk, .life, .bist, .host, .chans, .groups] s
  unfold State.writeKeyed
  exact un_writeKeep.after sub_441 hk
theorem un_capturePage {s : State} {p : Page} : Unchanged [.snap] s (State.capturePage s p) := by
  have hk := Unchanged.refl [.snap] s
  unfold State.capturePage
  exact un_with_snap mem_471 (hk)
theorem un_snapShown {s : State} {p : Page} : Unchanged [.regs] s (State.snapShown s p) := by
  have hk := Unchanged.refl [.regs] s
  unfold State.snapShown
  exact un_intr.after sub_2 (un_setReg.after sub_2 hk)

end Sys2Proof.Machine
end

