-- ==== Sys2Proof/Laws/Keeps.lean ====
section
/-! SUPPORT. What every shared operation keeps: the queue of waiting commands, the clock, the sectors fenced for good, the canonical form of everything held by key, and the bounds of the memories. One lemma for each operation, from the one below to the one above, so that no later proof opens an operation for these facts. -/

set_option Elab.async false

namespace Sys2Proof.Machine

/-- What no operation and no command changes or breaks, from one state to a later one: the queue, the clock, sectors fenced for good (R418), the canonical form and the bounds. -/
structure Keeps (s t : State) : Prop where
  queue : t.pending = s.pending
  now : t.now = s.now
  fence : ∀ k, s.nvm.sectFence.getLsbD k = true → t.nvm.sectFence.getLsbD k = true
  canonical : s.Canonical → t.Canonical
  bounded : s.Bounded → t.Bounded

theorem Keeps.refl (s : State) : Keeps s s := ⟨rfl, rfl, fun _ h => h, id, id⟩
theorem Keeps.trans {a b c : State} (h : Keeps a b) (k : Keeps b c) : Keeps a c :=
  ⟨k.queue.trans h.queue, k.now.trans h.now, fun i x => k.fence i (h.fence i x), fun x => k.canonical (h.canonical x), fun x => k.bounded (h.bounded x)⟩

/-- A state that differs only in what Keeps does not speak of. -/
theorem keeps_mk {a u : State} (h : Keeps a u) {t : State} (h1 : t.pending = u.pending) (h0 : t.now = u.now) (h2 : t.regs = u.regs) (h3 : t.moon = u.moon)
  (h4 : t.retained = u.retained) (h5 : t.snap = u.snap) (h6 : t.leases = u.leases) (h7 : t.nvm.mem = u.nvm.mem)
  (h8 : t.nvm.sectFence = u.nvm.sectFence) (h9 : t.cmt.sched = u.cmt.sched) (h10 : t.cmt.routes = u.cmt.routes)
  (h11 : t.jrnl.ring = u.jrnl.ring) (h12 : t.jrnl.tokens = u.jrnl.tokens) (h13 : t.posted = u.posted)
  (h14 : t.bist.failLog = u.bist.failLog) (h15 : t.cap.log = u.cap.log) : Keeps a t := by
  refine h.trans ⟨h1, h0, fun k => by rw [h8]; exact id, ?_, ?_⟩
  · rintro ⟨a, b, c, d, e, f, g, i⟩
    exact ⟨h2 ▸ a, h3 ▸ b, h4 ▸ c, h5 ▸ d, h6 ▸ e, h7 ▸ f, h9 ▸ g, h10 ▸ i⟩
  · rintro ⟨a, b, c, d, e⟩
    exact ⟨h11 ▸ a, h12 ▸ b, fun q => by unfold State.postedIn; rw [h13]; exact c q, h14 ▸ d, h15 ▸ e⟩

/-- The same, with the operation before it last. -/
theorem keeps_mk' {a u t : State} (h1 : t.pending = u.pending) (h0 : t.now = u.now) (h2 : t.regs = u.regs) (h3 : t.moon = u.moon)
  (h4 : t.retained = u.retained) (h5 : t.snap = u.snap) (h6 : t.leases = u.leases) (h7 : t.nvm.mem = u.nvm.mem)
  (h8 : t.nvm.sectFence = u.nvm.sectFence) (h9 : t.cmt.sched = u.cmt.sched) (h10 : t.cmt.routes = u.cmt.routes)
  (h11 : t.jrnl.ring = u.jrnl.ring) (h12 : t.jrnl.tokens = u.jrnl.tokens) (h13 : t.posted = u.posted)
  (h14 : t.bist.failLog = u.bist.failLog) (h15 : t.cap.log = u.cap.log) (h : Keeps a u) : Keeps a t :=
  keeps_mk h h1 h0 h2 h3 h4 h5 h6 h7 h8 h9 h10 h11 h12 h13 h14 h15

/-- The state of a pair that an operation answers. -/
theorem keeps_pair {α : Type} {a t : State} {x : State × α} {y : α} (e : x = (t, y)) (h : Keeps a x.1) : Keeps a t := by
  rw [e] at h; exact h

theorem keeps_when {a s : State} {b : Bool} {f : State → State} (h : Keeps a s) (hf : Keeps a (f s)) : Keeps a (s.when b f) := by
  unfold State.when; split <;> assumption

theorem keeps_foldl {α} {a s : State} {l : List α} {f : State → α → State} (h : Keeps a s) (hf : ∀ t x, Keeps a t → Keeps a (f t x)) : Keeps a (l.foldl f s) := by
  induction l generalizing s with
  | nil => exact h
  | cons x r ih => exact ih (hf s x h)
theorem keeps_forCh {a s : State} {f : Ch → State → State} (h : Keeps a s) (hf : ∀ n t, Keeps a t → Keeps a (f n t)) : Keeps a (s.forCh f) :=
  keeps_foldl h (fun t x => hf x t)
theorem keeps_forTg {a s : State} {f : Tg → State → State} (h : Keeps a s) (hf : ∀ n t, Keeps a t → Keeps a (f n t)) : Keeps a (s.forTg f) :=
  keeps_foldl h (fun t x => hf x t)
theorem keeps_setReg {a s : State} {x : Nat} {v : Word} (h : Keeps a s) : Keeps a (s.setReg x v) := by
  refine h.trans ⟨rfl, rfl, fun _ h => h, ?_, ?_⟩
  · rintro ⟨a, b, c, d, e, f, g, i⟩
    exact ⟨Store.put_wf _ _ _ _ a, b, c, d, e, f, g, i⟩
  · rintro ⟨a, b, c, d, e⟩
    exact ⟨a, b, c, d, e⟩
theorem keeps_keepRegs {a s : State} {p : Nat → Bool} (h : Keeps a s) : Keeps a (s.keepRegs p) := by
  refine h.trans ⟨rfl, rfl, fun _ h => h, ?_, ?_⟩
  · rintro ⟨a, b, c, d, e, f, g, i⟩
    exact ⟨Store.keep_wf _ _ _ a, b, c, d, e, f, g, i⟩
  · rintro ⟨a, b, c, d, e⟩
    exact ⟨a, b, c, d, e⟩

theorem keeps_with_alrm {a u : State} {v : Alrm} (h : Keeps a u) : Keeps a { u with alrm := v } :=
  keeps_mk h rfl rfl rfl rfl rfl rfl rfl rfl rfl rfl rfl rfl rfl rfl rfl rfl
theorem keeps_with_chans {a u : State} {v : Vector Chan 16} (h : Keeps a u) : Keeps a { u with chans := v } :=
  keeps_mk h rfl rfl rfl rfl rfl rfl rfl rfl rfl rfl rfl rfl rfl rfl rfl rfl
theorem keeps_with_clk {a u : State} {v : Clk} (h : Keeps a u) : Keeps a { u with clk := v } :=
  keeps_mk h rfl rfl rfl rfl rfl rfl rfl rfl rfl rfl rfl rfl rfl rfl rfl rfl
theorem keeps_with_freeCtr {a u : State} {v : Nat} (h : Keeps a u) : Keeps a { u with freeCtr := v } :=
  keeps_mk h rfl rfl rfl rfl rfl rfl rfl rfl rfl rfl rfl rfl rfl rfl rfl rfl
theorem keeps_with_groups {a u : State} {v : Vector Group 4} (h : Keeps a u) : Keeps a { u with groups := v } :=
  keeps_mk h rfl rfl rfl rfl rfl rfl rfl rfl rfl rfl rfl rfl rfl rfl rfl rfl
theorem keeps_with_heldWrites {a u : State} {v : List PostedWrite} (h : Keeps a u) : Keeps a { u with heldWrites := v } :=
  keeps_mk h rfl rfl rfl rfl rfl rfl rfl rfl rfl rfl rfl rfl rfl rfl rfl rfl
theorem keeps_with_host {a u : State} {v : HostPort} (h : Keeps a u) : Keeps a { u with host := v } :=
  keeps_mk h rfl rfl rfl rfl rfl rfl rfl rfl rfl rfl rfl rfl rfl rfl rfl rfl
theorem keeps_with_jobs {a u : State} {v : Jobs} (h : Keeps a u) : Keeps a { u with jobs := v } :=
  keeps_mk h rfl rfl rfl rfl rfl rfl rfl rfl rfl rfl rfl rfl rfl rfl rfl rfl
theorem keeps_with_life {a u : State} {v : Life} (h : Keeps a u) : Keeps a { u with life := v } :=
  keeps_mk h rfl rfl rfl rfl rfl rfl rfl rfl rfl rfl rfl rfl rfl rfl rfl rfl
theorem keeps_with_nvmDom {a u : State} {v : Dom} (h : Keeps a u) : Keeps a { u with nvmDom := v } :=
  keeps_mk h rfl rfl rfl rfl rfl rfl rfl rfl rfl rfl rfl rfl rfl rfl rfl rfl
theorem keeps_with_rst {a u : State} {v : Rst} (h : Keeps a u) : Keeps a { u with rst := v } :=
  keeps_mk h rfl rfl rfl rfl rfl rfl rfl rfl rfl rfl rfl rfl rfl rfl rfl rfl
theorem keeps_with_tk {a u : State} {v : Tk} (h : Keeps a u) : Keeps a { u with tk := v } :=
  keeps_mk h rfl rfl rfl rfl rfl rfl rfl rfl rfl rfl rfl rfl rfl rfl rfl rfl
theorem keeps_with_trig {a u : State} {v : Trig} (h : Keeps a u) : Keeps a { u with trig := v } :=
  keeps_mk h rfl rfl rfl rfl rfl rfl rfl rfl rfl rfl rfl rfl rfl rfl rfl rfl

theorem keeps_setFld {k0 : State} {s : State} {a : Nat} {hi : Nat} {lo : Nat} {v : Nat} (hk : Keeps k0 s) : Keeps k0 (State.setFld s a hi lo v) := by
  unfold State.setFld
  exact keeps_setReg hk
theorem keeps_setBit {k0 : State} {s : State} {a : Nat} {i : Nat} {b : Bool} (hk : Keeps k0 s) : Keeps k0 (State.setBit s a i b) := by
  unfold State.setBit
  exact keeps_setFld hk
theorem keeps_sat {k0 : State} {s : State} {a : Nat} {hi : Nat} {lo : Nat} {k : Nat} (hk : Keeps k0 s) : Keeps k0 (State.sat s a hi lo k) := by
  unfold State.sat
  exact keeps_setFld hk
theorem keeps_wrap {k0 : State} {s : State} {a : Nat} {hi : Nat} {lo : Nat} {k : Nat} (hk : Keeps k0 s) : Keeps k0 (State.wrap s a hi lo k) := by
  unfold State.wrap
  exact keeps_setFld hk
theorem keeps_sat32 {k0 : State} {s : State} {a : Nat} {k : Nat} (hk : Keeps k0 s) : Keeps k0 (State.sat32 s a k) := by
  unfold State.sat32
  exact keeps_sat hk
theorem keeps_wrap32 {k0 : State} {s : State} {a : Nat} {k : Nat} (hk : Keeps k0 s) : Keeps k0 (State.wrap32 s a k) := by
  unfold State.wrap32
  exact keeps_wrap hk
theorem keeps_wide {k0 : State} {s : State} {aLo : Nat} {aHi : Nat} {hw : Nat} {k : Nat} (hk : Keeps k0 s) : Keeps k0 (State.wide s aLo aHi hw k) := by
  unfold State.wide
  exact keeps_setFld (keeps_setReg hk)
theorem keeps_setChan {k0 : State} {s : State} {n : Ch} {c : Chan} (hk : Keeps k0 s) : Keeps k0 (State.setChan s n c) := by
  unfold State.setChan
  exact keeps_with_chans hk
theorem keeps_mapChan {k0 : State} {s : State} {n : Ch} {f : Chan → Chan} (hk : Keeps k0 s) : Keeps k0 (State.mapChan s n f) := by
  unfold State.mapChan
  exact keeps_setChan hk
theorem keeps_setGroup {k0 : State} {s : State} {g : Tg} {x : Group} (hk : Keeps k0 s) : Keeps k0 (State.setGroup s g x) := by
  unfold State.setGroup
  exact keeps_with_groups hk
theorem keeps_mapGroup {k0 : State} {s : State} {g : Tg} {f : Group → Group} (hk : Keeps k0 s) : Keeps k0 (State.mapGroup s g f) := by
  unfold State.mapGroup
  exact keeps_setGroup hk
theorem keeps_mapCmt {k0 : State} {s : State} {f : Cmt → Cmt} (hk : Keeps k0 s) (h1 : Store.Wf (fun _ => (0 : Word)) s.cmt.sched → Store.Wf (fun _ => 0) (f s.cmt).sched)
   (h2 : Store.Wf (fun _ => ((0 : Word), (0 : Word))) s.cmt.routes → Store.Wf (fun _ => (0, 0)) (f s.cmt).routes) : Keeps k0 (s.mapCmt f) :=
  hk.trans ⟨rfl, rfl, fun _ h => h, fun ⟨a, b, c, d, e, f, g, i⟩ => ⟨a, b, c, d, e, f, h1 g, h2 i⟩,
    fun ⟨a, b, c, d, e⟩ => ⟨a, b, c, d, e⟩⟩
theorem keeps_tookFree {k0 : State} {s : State} (hk : Keeps k0 s) : Keeps k0 (State.tookFree s) := by
  unfold State.tookFree
  exact keeps_with_freeCtr hk
theorem keeps_enterDrain {k0 : State} {s : State} {l : List Page} (hk : Keeps k0 s) : Keeps k0 (State.enterDrain s l) := by
  unfold State.enterDrain
  exact keeps_with_clk hk
theorem keeps_with_cmt {a s : State} {j : Cmt} (h : Keeps a s) (h1 : Store.Wf (fun _ => (0 : Word)) s.cmt.sched → Store.Wf (fun _ => 0) j.sched)
    (h2 : Store.Wf (fun _ => ((0 : Word), (0 : Word))) s.cmt.routes → Store.Wf (fun _ => (0, 0)) j.routes) : Keeps a { s with cmt := j } :=
  h.trans ⟨rfl, rfl, fun _ h => h, fun ⟨a, b, c, d, e, f, g, i⟩ => ⟨a, b, c, d, e, f, h1 g, h2 i⟩,
    fun ⟨a, b, c, d, e⟩ => ⟨a, b, c, d, e⟩⟩
theorem keeps_with_jrnl {a s : State} {j : Jrnl} (h : Keeps a s) (h1 : s.jrnl.ring.length ≤ ringSize → j.ring.length ≤ ringSize)
    (h2 : s.jrnl.tokens ≤ 8 → j.tokens ≤ 8) : Keeps a { s with jrnl := j } :=
  h.trans ⟨rfl, rfl, fun _ h => h, fun ⟨a, b, c, d, e, f, g, i⟩ => ⟨a, b, c, d, e, f, g, i⟩,
    fun ⟨a, b, c, d, e⟩ => ⟨h1 a, h2 b, c, d, e⟩⟩
theorem keeps_with_nvm {a s : State} {j : Nvm} (h : Keeps a s) (h1 : Memory.wf s.nvm.mem → Memory.wf j.mem)
    (h2 : ∀ k, s.nvm.sectFence.getLsbD k = true → j.sectFence.getLsbD k = true) : Keeps a { s with nvm := j } :=
  h.trans ⟨rfl, rfl, h2, fun ⟨a, b, c, d, e, f, g, i⟩ => ⟨a, b, c, d, e, h1 f, g, i⟩,
    fun ⟨a, b, c, d, e⟩ => ⟨a, b, c, d, e⟩⟩
theorem keeps_with_cap {a s : State} {j : Cap} (h : Keeps a s) (h1 : s.cap.log.length ≤ capSize → j.log.length ≤ capSize)
     : Keeps a { s with cap := j } :=
  h.trans ⟨rfl, rfl, fun _ h => h, fun ⟨a, b, c, d, e, f, g, i⟩ => ⟨a, b, c, d, e, f, g, i⟩,
    fun ⟨a, b, c, d, e⟩ => ⟨a, b, c, d, h1 e⟩⟩
theorem keeps_with_bist {a s : State} {j : Bist} (h : Keeps a s) (h1 : s.bist.failLog.length ≤ 32 → j.failLog.length ≤ 32)
     : Keeps a { s with bist := j } :=
  h.trans ⟨rfl, rfl, fun _ h => h, fun ⟨a, b, c, d, e, f, g, i⟩ => ⟨a, b, c, d, e, f, g, i⟩,
    fun ⟨a, b, c, d, e⟩ => ⟨a, b, c, h1 d, e⟩⟩
theorem keeps_posted {a s : State} {j : List PostedWrite} (h : Keeps a s)
    (h1 : (∀ q, (j.filter (fun w => pdomAt w.addr == q)).length ≤ max 8 (s.posted.filter (fun w => pdomAt w.addr == q)).length))
     : Keeps a { s with posted := j } :=
  h.trans ⟨rfl, rfl, fun _ h => h, fun ⟨a, b, c, d, e, f, g, i⟩ => ⟨a, b, c, d, e, f, g, i⟩,
    fun ⟨a, b, c, d, e⟩ => ⟨a, b, fun q => by have := h1 q; have := c q; unfold State.postedIn at *; dsimp only; omega, d, e⟩⟩
theorem keeps_jAppend {k0 : State} {s : State} {o flags addr : Nat} {old new : Word} (hk : Keeps k0 s) : Keeps k0 (s.jAppend o flags addr old new) := by
  unfold State.jAppend
  dsimp only
  refine keeps_when (keeps_when (keeps_with_jrnl hk ?_ ?_) ?_) ?_
  · intro _; simp only [List.length_take]; omega
  · exact id
  · exact keeps_setReg (keeps_with_jrnl hk (by intro _; simp only [List.length_take]; omega) id)
  · exact keeps_setReg (keeps_when (keeps_with_jrnl hk (by intro _; simp only [List.length_take]; omega) id) (keeps_setReg (keeps_with_jrnl hk (by intro _; simp only [List.length_take]; omega) id)))
theorem keeps_jEvent {k0 : State} {s : State} {code : Nat} {addr : Nat} {new : Word} (hk : Keeps k0 s) : Keeps k0 (State.jEvent s code addr new) := by
  unfold State.jEvent
  exact keeps_jAppend hk
theorem keeps_ownSet {k0 : State} {s : State} {o : Origin} {a : Nat} {v : Word} (hk : Keeps k0 s) : Keeps k0 (State.ownSet s o a v) := by
  unfold State.ownSet
  exact keeps_jAppend (keeps_setReg hk)
theorem keeps_devSet {k0 : State} {s : State} {a : Nat} {v : Word} (hk : Keeps k0 s) : Keeps k0 (State.devSet s a v) := by
  unfold State.devSet
  exact keeps_ownSet hk
theorem keeps_devShow {k0 : State} {s : State} {a : Nat} {v : Word} (hk : Keeps k0 s) : Keeps k0 (State.devShow s a v) := by
  unfold State.devShow
  exact (by split; exacts [hk, keeps_devSet hk])
theorem keeps_devFld {k0 : State} {s : State} {a : Nat} {hi : Nat} {lo : Nat} {v : Nat} (hk : Keeps k0 s) : Keeps k0 (State.devFld s a hi lo v) := by
  unfold State.devFld
  exact keeps_devSet hk
theorem keeps_intr {k0 : State} {s : State} {p : Page} {i : Nat} (hk : Keeps k0 s) : Keeps k0 (State.intr s p i) := by
  unfold State.intr
  exact keeps_setBit hk
theorem keeps_cint {k0 : State} {s : State} {n : Ch} {p : ChPage} {i : Nat} (hk : Keeps k0 s) : Keeps k0 (State.cint s n p i) := by
  unfold State.cint
  exact keeps_intr hk
theorem keeps_cintIf {k0 : State} {s : State} {b : Bool} {n : Ch} {p : ChPage} {i : Nat} (hk : Keeps k0 s) : Keeps k0 (State.cintIf s b n p i) := by
  unfold State.cintIf
  exact keeps_when hk (keeps_cint hk)
theorem keeps_satInt {k0 : State} {s : State} {a : Nat} {k : Nat} {p : Page} {i : Nat} (hk : Keeps k0 s) : Keeps k0 (State.satInt s a k p i) := by
  unfold State.satInt
  exact keeps_when hk (keeps_intr (keeps_sat32 hk))
theorem keeps_fldInt {k0 : State} {s : State} {a : Nat} {hi : Nat} {lo : Nat} {p : Page} {i : Nat} (hk : Keeps k0 s) : Keeps k0 (State.fldInt s a hi lo p i) := by
  unfold State.fldInt
  exact keeps_when hk (keeps_intr (keeps_sat hk))
theorem keeps_showLife {k0 : State} {s : State} {i : Nat} (hk : Keeps k0 s) : Keeps k0 (State.showLife s i) := by
  unfold State.showLife
  with_reducible (repeat' first | exact hk | assumption | apply keeps_setReg | exact id | exact fun _ h => h | split | dsimp only | intro _)
theorem keeps_lifeAdd {k0 : State} {s : State} {i : Nat} {k : Nat} (hk : Keeps k0 s) : Keeps k0 (State.lifeAdd s i k) := by
  unfold State.lifeAdd
  exact keeps_showLife (keeps_with_life hk)
theorem keeps_showLatency {k0 : State} {s : State} {n : Ch} (hk : Keeps k0 s) : Keeps k0 (State.showLatency s n) := by
  unfold State.showLatency
  exact keeps_setReg (keeps_setReg (keeps_setReg (keeps_setReg (keeps_setReg (keeps_setReg (keeps_setReg hk))))))
theorem keeps_showEngine {k0 : State} {s : State} {n : Ch} (hk : Keeps k0 s) : Keeps k0 (State.showEngine s n) := by
  unfold State.showEngine
  exact keeps_when hk (keeps_cint (keeps_setBit hk))
theorem keeps_retarget {k0 : State} {s : State} {n : Ch} (hk : Keeps k0 s) : Keeps k0 (State.retarget s n) := by
  unfold State.retarget
  exact (by dsimp only; split; exacts [(by split; exacts [hk, keeps_showEngine (keeps_setBit (keeps_mapChan hk))]), (by split; exacts [hk, keeps_showEngine (keeps_setBit (keeps_mapChan hk))])])
theorem keeps_showLatencies {k0 : State} {s : State} {n : Ch} (hk : Keeps k0 s) : Keeps k0 (State.showLatencies s n) := by
  unfold State.showLatencies
  exact keeps_when (keeps_showLatency hk) (keeps_showLatency (keeps_showLatency hk))
theorem keeps_setLease {k0 : State} {s : State} {p : Page} {t : Nat} (hk : Keeps k0 s) : Keeps k0 (s.setLease p t) :=
  hk.trans ⟨rfl, rfl, fun _ h => h, fun ⟨a, b, c, d, e, f, g, i⟩ => ⟨a, b, c, d, Store.put_wf _ _ _ _ e, f, g, i⟩,
    fun ⟨a, b, c, d, e⟩ => ⟨a, b, c, d, e⟩⟩
theorem keeps_lockClear {k0 : State} {s : State} {p : Page} (hk : Keeps k0 s) : Keeps k0 (State.lockClear s p) := by
  unfold State.lockClear
  exact keeps_setLease (keeps_setReg hk)
theorem keeps_lockBroken {k0 : State} {s : State} {p : Page} (hk : Keeps k0 s) : Keeps k0 (State.lockBroken s p) := by
  unfold State.lockBroken
  exact keeps_intr (keeps_setBit hk)
theorem keeps_breakLock {k0 : State} {s : State} {p : Page} (hk : Keeps k0 s) : Keeps k0 (State.breakLock s p) := by
  unfold State.breakLock
  exact (by split; exacts [keeps_lockBroken (keeps_jAppend (keeps_lockClear hk)), hk])
theorem keeps_breakLocksOf {k0 : State} {s : State} {o : Origin} (hk : Keeps k0 s) : Keeps k0 (State.breakLocksOf s o) := by
  unfold State.breakLocksOf
  exact keeps_foldl hk (fun x1_0 x1_1 x1_2 => (by split; exacts [keeps_breakLock x1_2, x1_2]))
theorem keeps_mapPin {k0 : State} {s : State} {k : Fin 16} {f : TrigPin → TrigPin} (hk : Keeps k0 s) : Keeps k0 (State.mapPin s k f) := by
  unfold State.mapPin
  exact keeps_with_trig hk
theorem keeps_shiftPin {k0 : State} {s : State} {k : Fin 16} {d : Int} (hk : Keeps k0 s) : Keeps k0 (State.shiftPin s k d) := by
  unfold State.shiftPin
  exact keeps_mapPin hk
theorem keeps_mapKtl {k0 : State} {s : State} {n : Ch} {f : KtlSt → KtlSt} (hk : Keeps k0 s) : Keeps k0 (State.mapKtl s n f) := by
  unfold State.mapKtl
  exact keeps_mapChan hk
theorem keeps_showLoop {k0 : State} {s : State} {n : Ch} (hk : Keeps k0 s) : Keeps k0 (State.showLoop s n) := by
  unfold State.showLoop
  exact keeps_cintIf (keeps_setBit hk)
theorem keeps_showNu {k0 : State} {s : State} {n : Ch} (hk : Keeps k0 s) : Keeps k0 (State.showNu s n) := by
  unfold State.showNu
  exact keeps_setReg hk
theorem keeps_showNus {k0 : State} {s : State} {g : Tg} (hk : Keeps k0 s) : Keeps k0 (State.showNus s g) := by
  unfold State.showNus
  exact keeps_forCh hk (fun x1_0 x1_1 x1_2 => (by split; exacts [keeps_showNu x1_2, x1_2]))
theorem keeps_showRate {k0 : State} {s : State} {g : Tg} (hk : Keeps k0 s) : Keeps k0 (State.showRate s g) := by
  unfold State.showRate
  exact keeps_forCh (keeps_setReg hk) (fun x1_0 x1_1 x1_2 => (by split; exacts [keeps_showNu x1_2, x1_2]))
theorem keeps_setGrp {k0 : State} {s : State} {g : Tg} {w : Word} (hk : Keeps k0 s) : Keeps k0 (State.setGrp s g w) := by
  unfold State.setGrp
  exact keeps_when (keeps_when (by split; exacts [keeps_devSet hk, keeps_setReg hk]) (keeps_intr (by split; exacts [keeps_devSet hk, keeps_setReg hk]))) (keeps_intr (keeps_when (by split; exacts [keeps_devSet hk, keeps_setReg hk]) (keeps_intr (by split; exacts [keeps_devSet hk, keeps_setReg hk]))))
theorem keeps_showEngines4 {k0 : State} {s : State} {g : Tg} (hk : Keeps k0 s) : Keeps k0 (State.showEngines4 s g) := by
  unfold State.showEngines4
  exact keeps_forCh hk (fun x1_0 x1_1 x1_2 => (by split; exacts [keeps_showEngine x1_2, x1_2]))
theorem keeps_onEnter {k0 : State} {s : State} {g : Tg} {old : Nat} {new : Nat} (hk : Keeps k0 s) : Keeps k0 (State.onEnter s g old new) := by
  unfold State.onEnter
  exact keeps_showRate (by split; exacts [keeps_mapGroup hk, keeps_mapGroup hk, keeps_setReg (keeps_mapGroup hk), hk])
theorem keeps_showPpsOut {k0 : State} {s : State} (hk : Keeps k0 s) : Keeps k0 (State.showPpsOut s) := by
  unfold State.showPpsOut
  exact (by split; exacts [hk, keeps_setBit (keeps_with_trig hk)])
theorem keeps_enterGrp {k0 : State} {s : State} {g : Tg} {st : Nat} {sel : Nat} (hk : Keeps k0 s) : Keeps k0 (State.enterGrp s g st sel) := by
  unfold State.enterGrp
  exact (by dsimp only; split; exacts [keeps_showEngines4 (keeps_showPpsOut (keeps_when (by split; exacts [keeps_with_cmt (keeps_setGrp (keeps_mapGroup (keeps_when (by split; exacts [hk, keeps_onEnter hk]) (keeps_sat (by split; exacts [hk, keeps_onEnter hk]))))) id id, keeps_with_cmt (keeps_setGrp (keeps_mapGroup (keeps_when (by split; exacts [hk, keeps_onEnter hk]) (keeps_sat (by split; exacts [hk, keeps_onEnter hk]))))) id id, (by split; exacts [keeps_setGrp (keeps_mapGroup (keeps_when (by split; exacts [hk, keeps_onEnter hk]) (keeps_sat (by split; exacts [hk, keeps_onEnter hk])))), keeps_with_cmt (keeps_setGrp (keeps_mapGroup (keeps_when (by split; exacts [hk, keeps_onEnter hk]) (keeps_sat (by split; exacts [hk, keeps_onEnter hk]))))) id id]), keeps_setGrp (keeps_mapGroup (keeps_when (by split; exacts [hk, keeps_onEnter hk]) (keeps_sat (by split; exacts [hk, keeps_onEnter hk]))))]) (keeps_showNus (by split; exacts [keeps_with_cmt (keeps_setGrp (keeps_mapGroup (keeps_when (by split; exacts [hk, keeps_onEnter hk]) (keeps_sat (by split; exacts [hk, keeps_onEnter hk]))))) id id, keeps_with_cmt (keeps_setGrp (keeps_mapGroup (keeps_when (by split; exacts [hk, keeps_onEnter hk]) (keeps_sat (by split; exacts [hk, keeps_onEnter hk]))))) id id, (by split; exacts [keeps_setGrp (keeps_mapGroup (keeps_when (by split; exacts [hk, keeps_onEnter hk]) (keeps_sat (by split; exacts [hk, keeps_onEnter hk])))), keeps_with_cmt (keeps_setGrp (keeps_mapGroup (keeps_when (by split; exacts [hk, keeps_onEnter hk]) (keeps_sat (by split; exacts [hk, keeps_onEnter hk]))))) id id]), keeps_setGrp (keeps_mapGroup (keeps_when (by split; exacts [hk, keeps_onEnter hk]) (keeps_sat (by split; exacts [hk, keeps_onEnter hk]))))])))), keeps_showPpsOut (keeps_when (by split; exacts [keeps_with_cmt (keeps_setGrp (keeps_mapGroup (keeps_when (by split; exacts [hk, keeps_onEnter hk]) (keeps_sat (by split; exacts [hk, keeps_onEnter hk]))))) id id, keeps_with_cmt (keeps_setGrp (keeps_mapGroup (keeps_when (by split; exacts [hk, keeps_onEnter hk]) (keeps_sat (by split; exacts [hk, keeps_onEnter hk]))))) id id, (by split; exacts [keeps_setGrp (keeps_mapGroup (keeps_when (by split; exacts [hk, keeps_onEnter hk]) (keeps_sat (by split; exacts [hk, keeps_onEnter hk])))), keeps_with_cmt (keeps_setGrp (keeps_mapGroup (keeps_when (by split; exacts [hk, keeps_onEnter hk]) (keeps_sat (by split; exacts [hk, keeps_onEnter hk]))))) id id]), keeps_setGrp (keeps_mapGroup (keeps_when (by split; exacts [hk, keeps_onEnter hk]) (keeps_sat (by split; exacts [hk, keeps_onEnter hk]))))]) (keeps_showNus (by split; exacts [keeps_with_cmt (keeps_setGrp (keeps_mapGroup (keeps_when (by split; exacts [hk, keeps_onEnter hk]) (keeps_sat (by split; exacts [hk, keeps_onEnter hk]))))) id id, keeps_with_cmt (keeps_setGrp (keeps_mapGroup (keeps_when (by split; exacts [hk, keeps_onEnter hk]) (keeps_sat (by split; exacts [hk, keeps_onEnter hk]))))) id id, (by split; exacts [keeps_setGrp (keeps_mapGroup (keeps_when (by split; exacts [hk, keeps_onEnter hk]) (keeps_sat (by split; exacts [hk, keeps_onEnter hk])))), keeps_with_cmt (keeps_setGrp (keeps_mapGroup (keeps_when (by split; exacts [hk, keeps_onEnter hk]) (keeps_sat (by split; exacts [hk, keeps_onEnter hk]))))) id id]), keeps_setGrp (keeps_mapGroup (keeps_when (by split; exacts [hk, keeps_onEnter hk]) (keeps_sat (by split; exacts [hk, keeps_onEnter hk]))))])))])
theorem keeps_clearDisc {k0 : State} {s : State} {g : Tg} (hk : Keeps k0 s) : Keeps k0 (State.clearDisc s g) := by
  unfold State.clearDisc
  exact keeps_mapGroup (keeps_setGrp hk)
theorem keeps_settleGroup {k0 : State} {s : State} {g : Tg} (hk : Keeps k0 s) : Keeps k0 (State.settleGroup s g) := by
  unfold State.settleGroup
  with_reducible (repeat' first | exact hk | assumption | apply keeps_enterGrp | apply keeps_clearDisc | apply keeps_setFld | exact id | exact fun _ h => h | split | dsimp only | intro _)
theorem keeps_stepTime {k0 : State} {s : State} {g : Tg} {d : Rat} (hk : Keeps k0 s) : Keeps k0 (State.stepTime s g d) := by
  unfold State.stepTime
  exact keeps_fldInt (keeps_devSet (keeps_forCh (keeps_forCh (keeps_mapGroup hk) (fun x4_0 x4_1 x4_2 => (by split; exacts [keeps_mapKtl x4_2, x4_2]))) (fun x3_0 x3_1 x3_2 => (by split; exacts [keeps_shiftPin x3_2, x3_2]))))
theorem keeps_oamPush {k0 : State} {s : State} {n : Ch} {m : BitVec 128} (hk : Keeps k0 s) : Keeps k0 (State.oamPush s n m) := by
  unfold State.oamPush
  exact keeps_mapChan hk
theorem keeps_noteRx {k0 : State} {s : State} {n : Ch} (hk : Keeps k0 s) : Keeps k0 (State.noteRx s n) := by
  unfold State.noteRx
  exact (by dsimp only; split; exacts [hk, keeps_mapChan hk])
theorem keeps_showAdapt {k0 : State} {s : State} {n : Ch} (hk : Keeps k0 s) : Keeps k0 (State.showAdapt s n) := by
  unfold State.showAdapt
  exact keeps_setReg hk
theorem keeps_setOrbitLock {k0 : State} {s : State} {n : Ch} {b : Bool} (hk : Keeps k0 s) : Keeps k0 (State.setOrbitLock s n b) := by
  unfold State.setOrbitLock
  exact keeps_when hk (keeps_showAdapt (keeps_cint (keeps_setBit hk)))
theorem keeps_setLine {k0 : State} {s : State} {n : Ch} {mode : Nat} {ver : Nat} {rx : Nat} {tx : Nat} (hk : Keeps k0 s) : Keeps k0 (State.setLine s n mode ver rx tx) := by
  unfold State.setLine
  exact keeps_setFld (keeps_when hk (keeps_cint (keeps_devSet hk)))
theorem keeps_setLinkUp {k0 : State} {s : State} {n : Ch} {b : Bool} (hk : Keeps k0 s) : Keeps k0 (State.setLinkUp s n b) := by
  unfold State.setLinkUp
  exact keeps_when hk (keeps_showAdapt (keeps_cint (keeps_setBit hk)))
theorem keeps_showNf {k0 : State} {s : State} {n : Ch} (hk : Keeps k0 s) : Keeps k0 (State.showNf s n) := by
  unfold State.showNf
  exact keeps_setBit hk
theorem keeps_setLpi {k0 : State} {s : State} {n : Ch} {tx : Bool} {b : Bool} (hk : Keeps k0 s) : Keeps k0 (State.setLpi s n tx b) := by
  unfold State.setLpi
  exact keeps_when hk (keeps_showAdapt (keeps_showNf (keeps_cint (keeps_setBit (keeps_when (keeps_when hk (keeps_wrap hk)) (keeps_mapKtl (keeps_when hk (keeps_wrap hk))))))))
theorem keeps_showLf {k0 : State} {s : State} {n : Ch} (hk : Keeps k0 s) : Keeps k0 (State.showLf s n) := by
  unfold State.showLf
  exact keeps_setBit hk
theorem keeps_showPartner {k0 : State} {s : State} {n : Ch} (hk : Keeps k0 s) : Keeps k0 (State.showPartner s n) := by
  unfold State.showPartner
  exact keeps_when (keeps_when hk (keeps_mapChan hk)) (keeps_cint (keeps_setBit (keeps_when hk (keeps_mapChan hk))))
theorem keeps_showLow {k0 : State} {s : State} {n : Ch} (hk : Keeps k0 s) : Keeps k0 (State.showLow s n) := by
  unfold State.showLow
  exact keeps_when hk (keeps_cint (keeps_setBit hk))
theorem keeps_applyGain {k0 : State} {s : State} {n : Ch} (hk : Keeps k0 s) : Keeps k0 (State.applyGain s n) := by
  unfold State.applyGain
  exact keeps_showLatency (keeps_showLow (keeps_cint (keeps_foldl (keeps_mapChan (keeps_setReg hk)) (fun x4_0 x4_1 x4_2 => keeps_setFld x4_2))))
theorem keeps_applyTaps {k0 : State} {s : State} {n : Ch} (hk : Keeps k0 s) : Keeps k0 (State.applyTaps s n) := by
  unfold State.applyTaps
  exact keeps_mapChan (keeps_foldl hk (fun x2_0 x2_1 x2_2 => (by split; exacts [keeps_setFld x2_2, x2_2])))
theorem keeps_applyTiming {k0 : State} {s : State} {n : Ch} (hk : Keeps k0 s) : Keeps k0 (State.applyTiming s n) := by
  unfold State.applyTiming
  exact keeps_cintIf (keeps_setBit (keeps_setBit hk))
theorem keeps_applyIter {k0 : State} {s : State} {n : Ch} (hk : Keeps k0 s) : Keeps k0 (State.applyIter s n) := by
  unfold State.applyIter
  exact keeps_cintIf (keeps_showLatency (keeps_mapChan (keeps_devShow hk)))
theorem keeps_applyPendingDown {k0 : State} {s : State} {n : Ch} (hk : Keeps k0 s) : Keeps k0 (State.applyPendingDown s n) := by
  unfold State.applyPendingDown
  exact keeps_when (keeps_when (keeps_when hk (keeps_applyGain hk)) (keeps_applyIter (keeps_when hk (keeps_applyGain hk)))) (keeps_applyTaps (keeps_when (keeps_when hk (keeps_applyGain hk)) (keeps_applyIter (keeps_when hk (keeps_applyGain hk)))))
theorem keeps_showEcl {k0 : State} {s : State} {n : Ch} (hk : Keeps k0 s) : Keeps k0 (State.showEcl s n) := by
  unfold State.showEcl
  exact keeps_mapChan (keeps_setReg hk)
theorem keeps_setSingle {k0 : State} {s : State} {n : Ch} {b : Bool} (hk : Keeps k0 s) : Keeps k0 (State.setSingle s n b) := by
  unfold State.setSingle
  exact keeps_mapChan (keeps_devShow (keeps_when hk (keeps_cint hk)))
theorem keeps_flushEbuf {k0 : State} {s : State} {n : Ch} (hk : Keeps k0 s) : Keeps k0 (State.flushEbuf s n) := by
  unfold State.flushEbuf
  exact keeps_mapChan (keeps_setFld (keeps_sat32 (keeps_wide hk)))
theorem keeps_mailFailed {k0 : State} {s : State} (hk : Keeps k0 s) : Keeps k0 (State.mailFailed s) := by
  unfold State.mailFailed
  exact keeps_intr (keeps_setFld (keeps_with_host hk))
theorem keeps_dropRemote {k0 : State} {s : State} {n : Ch} (hk : Keeps k0 s) : Keeps k0 (State.dropRemote s n) := by
  unfold State.dropRemote
  exact keeps_breakLocksOf (by split; exacts [(by split; exacts [keeps_mailFailed (keeps_mapChan (keeps_with_heldWrites (keeps_sat32 hk))), keeps_mapChan (keeps_with_heldWrites (keeps_sat32 hk))]), keeps_mapChan (keeps_with_heldWrites (keeps_sat32 hk))])
theorem keeps_dropOam {k0 : State} {s : State} {n : Ch} (hk : Keeps k0 s) : Keeps k0 (State.dropOam s n) := by
  unfold State.dropOam
  exact keeps_mapChan (keeps_when hk (keeps_satInt hk))
theorem keeps_capGrace {k0 : State} {s : State} {n : Ch} (hk : Keeps k0 s) : Keeps k0 (State.capGrace s n) := by
  unfold State.capGrace
  exact keeps_when hk (keeps_mapChan hk)
theorem keeps_showRm {k0 : State} {s : State} {n : Ch} (hk : Keeps k0 s) : Keeps k0 (State.showRm s n) := by
  unfold State.showRm
  exact keeps_setFld (keeps_setFld hk)
theorem keeps_rmDrops {k0 : State} {s : State} {n : Ch} {k : Nat} (hk : Keeps k0 s) : Keeps k0 (State.rmDrops s n k) := by
  unfold State.rmDrops
  exact keeps_when hk (keeps_cint (keeps_wide hk))
theorem keeps_cutHost {k0 : State} {s : State} {n : Ch} (hk : Keeps k0 s) : Keeps k0 (State.cutHost s n) := by
  unfold State.cutHost
  exact keeps_showRm (keeps_rmDrops (keeps_mapChan hk))
theorem keeps_cutFrames {k0 : State} {s : State} {n : Ch} (hk : Keeps k0 s) : Keeps k0 (State.cutFrames s n) := by
  unfold State.cutFrames
  exact (by dsimp only; split; exacts [keeps_setFld (keeps_mapChan (keeps_sat32 (keeps_mapChan (keeps_cutHost hk)))), keeps_mapChan (keeps_cutHost hk)])
theorem keeps_noSource {k0 : State} {s : State} {n : Ch} (hk : Keeps k0 s) : Keeps k0 (State.noSource s n) := by
  unfold State.noSource
  exact keeps_mapCmt hk id id
theorem keeps_linkEnds {k0 : State} {s : State} {n : Ch} (hk : Keeps k0 s) : Keeps k0 (State.linkEnds s n) := by
  unfold State.linkEnds
  exact keeps_setLpi (keeps_setLpi (keeps_capGrace (keeps_dropRemote (keeps_dropOam (keeps_flushEbuf (keeps_cutFrames (keeps_noSource (keeps_setOrbitLock (keeps_setLine (keeps_setLinkUp hk))))))))))
theorem keeps_linkDown {k0 : State} {s : State} {n : Ch} (hk : Keeps k0 s) : Keeps k0 (State.linkDown s n) := by
  unfold State.linkDown
  exact keeps_when (keeps_showEngine (keeps_showPartner (keeps_showLf (keeps_showEcl (keeps_showLatencies (keeps_setFld (keeps_setBit (keeps_showLow (keeps_setBit (keeps_setBit (keeps_showAdapt (keeps_applyPendingDown (keeps_mapChan (keeps_setBit (keeps_linkEnds hk))))))))))))))) (keeps_settleGroup (keeps_showEngine (keeps_showPartner (keeps_showLf (keeps_showEcl (keeps_showLatencies (keeps_setFld (keeps_setBit (keeps_showLow (keeps_setBit (keeps_setBit (keeps_showAdapt (keeps_applyPendingDown (keeps_mapChan (keeps_setBit (keeps_linkEnds hk))))))))))))))))
theorem keeps_dropLink {k0 : State} {s : State} {n : Ch} (hk : Keeps k0 s) : Keeps k0 (State.dropLink s n) := by
  unfold State.dropLink
  exact (by split; exacts [keeps_linkDown hk, hk])
theorem keeps_settleEngines {k0 : State} {s : State} {n : Ch} (hk : Keeps k0 s) : Keeps k0 (State.settleEngines s n) := by
  unfold State.settleEngines
  exact keeps_mapChan (keeps_setSingle hk)
theorem keeps_setSpread {k0 : State} {s : State} {n : Ch} {v : Nat × Nat} (hk : Keeps k0 s) : Keeps k0 (State.setSpread s n v) := by
  unfold State.setSpread
  exact keeps_with_clk hk
theorem keeps_setTrain {k0 : State} {s : State} {n : Ch} {kind : Nat} {ph : Nat} (hk : Keeps k0 s) : Keeps k0 (State.setTrain s n kind ph) := by
  unfold State.setTrain
  exact keeps_showAdapt (keeps_setReg hk)
theorem keeps_linkIdle {k0 : State} {s : State} {n : Ch} (hk : Keeps k0 s) : Keeps k0 (State.linkIdle s n) := by
  unfold State.linkIdle
  exact keeps_mapChan (keeps_setTrain hk)
theorem keeps_startNeg {k0 : State} {s : State} {n : Ch} (hk : Keeps k0 s) : Keeps k0 (State.startNeg s n) := by
  unfold State.startNeg
  exact (by dsimp only; split; exacts [keeps_retarget (keeps_mapChan (keeps_tookFree (keeps_setSpread (keeps_setOrbitLock (keeps_linkIdle hk))))), keeps_setSpread (keeps_setOrbitLock (keeps_linkIdle hk))])
theorem keeps_enterPhase {k0 : State} {s : State} {n : Ch} {ph : Nat} {limit : Option Nat} (hk : Keeps k0 s) : Keeps k0 (State.enterPhase s n ph limit) := by
  unfold State.enterPhase
  exact keeps_mapChan (keeps_showAdapt (keeps_setFld hk))
theorem keeps_showAnn {k0 : State} {s : State} {n : Ch} (hk : Keeps k0 s) : Keeps k0 (State.showAnn s n) := by
  unfold State.showAnn
  exact (by split; exacts [keeps_mapChan (keeps_setReg hk), hk])
theorem keeps_startResume {k0 : State} {s : State} {n : Ch} {kind : Nat} (hk : Keeps k0 s) : Keeps k0 (State.startResume s n kind) := by
  unfold State.startResume
  exact keeps_showAnn (keeps_retarget (keeps_applyTiming (keeps_settleEngines (keeps_mapChan (keeps_enterPhase (keeps_setTrain (keeps_setOrbitLock (keeps_lifeAdd (keeps_sat32 hk)))))))))
theorem keeps_startFast {k0 : State} {s : State} {n : Ch} (hk : Keeps k0 s) : Keeps k0 (State.startFast s n) := by
  unfold State.startFast
  exact (by split; exacts [keeps_startResume hk, keeps_startNeg hk])
theorem keeps_failTrain {k0 : State} {s : State} {n : Ch} {cause : Nat} (hk : Keeps k0 s) : Keeps k0 (State.failTrain s n cause) := by
  unfold State.failTrain
  exact (by dsimp only; split; exacts [keeps_mapChan (keeps_setOrbitLock (keeps_when (keeps_when (keeps_setFld (keeps_satInt hk)) (keeps_mapChan (keeps_setFld (keeps_satInt hk)))) (keeps_satInt (keeps_devShow (keeps_when (keeps_setFld (keeps_satInt hk)) (keeps_mapChan (keeps_setFld (keeps_satInt hk)))))))), keeps_startNeg (keeps_setOrbitLock (keeps_when (keeps_when (keeps_setFld (keeps_satInt hk)) (keeps_mapChan (keeps_setFld (keeps_satInt hk)))) (keeps_satInt (keeps_devShow (keeps_when (keeps_setFld (keeps_satInt hk)) (keeps_mapChan (keeps_setFld (keeps_satInt hk))))))))])
theorem keeps_comeUp {k0 : State} {s : State} {n : Ch} (hk : Keeps k0 s) : Keeps k0 (State.comeUp s n) := by
  unfold State.comeUp
  exact keeps_showPartner (keeps_showLf (keeps_showEcl (keeps_showLatencies (keeps_showLoop (keeps_cintIf (keeps_setBit (keeps_settleEngines (by split; exacts [keeps_mapChan (keeps_setLine (keeps_setLinkUp (keeps_setFld (keeps_setFld hk)))), keeps_setReg (keeps_setReg (keeps_mapChan (keeps_setLine (keeps_setLinkUp (keeps_setFld (keeps_setFld hk))))))]))))))))
theorem keeps_renegotiate {k0 : State} {s : State} {n : Ch} (hk : Keeps k0 s) : Keeps k0 (State.renegotiate s n) := by
  unfold State.renegotiate
  exact keeps_startNeg (keeps_dropLink hk)
theorem keeps_settleLink {k0 : State} {s : State} {n : Ch} (hk : Keeps k0 s) : Keeps k0 (State.settleLink s n) := by
  unfold State.settleLink
  exact (by split; exacts [hk, (by split; exacts [(by split; exacts [keeps_startNeg hk, hk]), (by split; exacts [hk, keeps_setOrbitLock (keeps_linkIdle (keeps_dropLink hk))])])])
theorem keeps_setPatSync {k0 : State} {s : State} {n : Ch} {b : Bool} (hk : Keeps k0 s) : Keeps k0 (State.setPatSync s n b) := by
  unfold State.setPatSync
  exact keeps_when hk (keeps_cint (keeps_setBit hk))
theorem keeps_modesReturn {k0 : State} {s : State} {n : Ch} (hk : Keeps k0 s) : Keeps k0 (State.modesReturn s n) := by
  unfold State.modesReturn
  exact keeps_setBit (keeps_mapChan hk)
theorem keeps_anRestart {k0 : State} {s : State} {n : Ch} (hk : Keeps k0 s) : Keeps k0 (State.anRestart s n) := by
  unfold State.anRestart
  exact (by split; exacts [keeps_mapChan hk, keeps_renegotiate (keeps_mapChan (keeps_modesReturn hk))])
theorem keeps_advWritten {k0 : State} {s : State} {n : Ch} (hk : Keeps k0 s) : Keeps k0 (State.advWritten s n) := by
  unfold State.advWritten
  exact (by split; exacts [keeps_mapChan hk, keeps_modesReturn hk])
theorem keeps_sweepEnded {k0 : State} {s : State} {n : Ch} (hk : Keeps k0 s) : Keeps k0 (State.sweepEnded s n) := by
  unfold State.sweepEnded
  exact (by split; exacts [hk, (by dsimp only; split; exacts [keeps_anRestart (keeps_when hk (keeps_modesReturn hk)), keeps_settleLink (keeps_when hk (keeps_modesReturn hk))])])
theorem keeps_showPwr {k0 : State} {s : State} {n : Ch} (hk : Keeps k0 s) : Keeps k0 (State.showPwr s n) := by
  unfold State.showPwr
  exact keeps_setReg hk
theorem keeps_mapDom {k0 : State} {s : State} {n : Ch} {k : Fin 3} {f : Dom → Dom} (hk : Keeps k0 s) : Keeps k0 (State.mapDom s n k f) := by
  unfold State.mapDom
  exact keeps_showPwr (keeps_mapChan hk)
theorem keeps_showJobs {k0 : State} {s : State} (hk : Keeps k0 s) : Keeps k0 (State.showJobs s) := by
  unfold State.showJobs
  exact keeps_setReg (keeps_setReg hk)
theorem keeps_setSlot {k0 : State} {s : State} {k : Fin 8} {j : JobSlot} (hk : Keeps k0 s) : Keeps k0 (State.setSlot s k j) := by
  unfold State.setSlot
  exact keeps_showJobs (keeps_setReg (keeps_setReg (keeps_setReg (keeps_setReg (keeps_setReg (keeps_with_jobs hk))))))
theorem keeps_mapSlot {k0 : State} {s : State} {k : Fin 8} {f : JobSlot → JobSlot} (hk : Keeps k0 s) : Keeps k0 (State.mapSlot s k f) := by
  unfold State.mapSlot
  exact keeps_setSlot hk
theorem keeps_takePort {k0 : State} {s : State} {d : Nat} (hk : Keeps k0 s) : Keeps k0 (State.takePort s d) := by
  unfold State.takePort
  exact (by split; exacts [keeps_setFld hk, hk])
theorem keeps_dropPort {k0 : State} {s : State} {d : Nat} (hk : Keeps k0 s) : Keeps k0 (State.dropPort s d) := by
  unfold State.dropPort
  exact keeps_foldl hk (fun x1_0 x1_1 x1_2 => (by split; exacts [keeps_setFld x1_2, x1_2]))
theorem keeps_dropCoefs {k0 : State} {s : State} {n : Ch} (hk : Keeps k0 s) : Keeps k0 (State.dropCoefs s n) := by
  unfold State.dropCoefs
  exact keeps_mapChan (keeps_keepRegs hk)
theorem keeps_testStopped {k0 : State} {s : State} {d : Nat} {k : Fin 8} (hk : Keeps k0 s) : Keeps k0 (State.testStopped s d k) := by
  unfold State.testStopped
  exact (by dsimp only; split; exacts [keeps_mapDom (keeps_when (keeps_with_bist (keeps_setBit (keeps_dropPort hk)) id) (keeps_dropCoefs (keeps_with_bist (keeps_setBit (keeps_dropPort hk)) id))), keeps_showPwr (keeps_when (keeps_with_bist (keeps_setBit (keeps_dropPort hk)) id) (keeps_dropCoefs (keeps_with_bist (keeps_setBit (keeps_dropPort hk)) id)))])
theorem keeps_jobLeft {k0 : State} {s : State} {k : Fin 8} {j : JobSlot} {st : JState} (hk : Keeps k0 s) : Keeps k0 (State.jobLeft s k j st) := by
  unfold State.jobLeft
  exact (by split; exacts [(by split; exacts [keeps_sweepEnded hk, hk]), (by split; exacts [keeps_testStopped hk, (by split; exacts [keeps_intr (keeps_setBit hk), hk])])])
theorem keeps_endJob {k0 : State} {s : State} {k : Fin 8} {st : JState} {err : Nat} (hk : Keeps k0 s) : Keeps k0 (State.endJob s k st err) := by
  unfold State.endJob
  exact (by dsimp only; split; exacts [keeps_jobLeft (keeps_intr (keeps_setSlot hk)), hk])
theorem keeps_endJobsOf {k0 : State} {s : State} {n : Ch} {err : Nat} {spareEntry : Bool} (hk : Keeps k0 s) : Keeps k0 (State.endJobsOf s n err spareEntry) := by
  unfold State.endJobsOf
  exact keeps_foldl hk (fun x1_0 x1_1 x1_2 => (by dsimp only; split; exacts [keeps_endJob x1_2, x1_2]))
theorem keeps_jobRuns {k0 : State} {s : State} {k : Fin 8} {j : JobSlot} (hk : Keeps k0 s) : Keeps k0 (State.jobRuns s k j) := by
  unfold State.jobRuns
  exact (by split; exacts [(by dsimp only; split; exacts [keeps_settleLink (keeps_mapDom (keeps_takePort hk)), keeps_takePort hk]), (by split; exacts [(by split; exacts [(by split; exacts [hk, keeps_linkIdle hk]), hk]), (by split; exacts [(by split; exacts [keeps_mapChan hk, hk]), hk])])])
theorem keeps_startJob {k0 : State} {s : State} {k : Fin 8} {dev : Bool} {typ : Byte} {target : Byte} {arg0 : Word} {arg1 : Word} (hk : Keeps k0 s) : Keeps k0 (State.startJob s k dev typ target arg0 arg1) := by
  unfold State.startJob
  exact (by (try dsimp only); split; exacts [(by (try dsimp only); split; exacts [keeps_testStopped (keeps_intr (keeps_setSlot (keeps_with_jobs hk))), keeps_intr (keeps_setSlot (keeps_with_jobs hk))]), (by (try dsimp only); split; exacts [keeps_jobRuns (keeps_setSlot (keeps_when (keeps_with_jobs hk) (keeps_setBit (keeps_with_jobs hk)))), keeps_setSlot (keeps_when (keeps_with_jobs hk) (keeps_setBit (keeps_with_jobs hk)))])])
theorem keeps_devDispatch {k0 : State} {s : State} (hk : Keeps k0 s) : Keeps k0 (State.devDispatch s) := by
  unfold State.devDispatch
  exact (by split; exacts [(by split; exacts [hk, keeps_startJob (keeps_jAppend (keeps_setReg (by split; exacts [keeps_with_jobs hk, keeps_devShow (keeps_with_jobs hk)])))]), hk])
theorem keeps_devRequest {k0 : State} {s : State} {typ : Byte} {target : Byte} {arg0 : Word} (hk : Keeps k0 s) : Keeps k0 (State.devRequest s typ target arg0) := by
  unfold State.devRequest
  exact keeps_devDispatch (keeps_showJobs (keeps_with_jobs hk))
theorem keeps_tookTurn {k0 : State} {s : State} {k : Fin 8} (hk : Keeps k0 s) : Keeps k0 (State.tookTurn s k) := by
  unfold State.tookTurn
  exact keeps_with_jobs hk
theorem keeps_stepTaken {k0 : State} {s : State} {k : Fin 8} (hk : Keeps k0 s) : Keeps k0 (State.stepTaken s k) := by
  unfold State.stepTaken
  exact keeps_mapSlot (keeps_tookTurn hk)
theorem keeps_takeStep {k0 : State} {s : State} {k : Fin 8} {f : State → State} (hk : Keeps k0 s) (hf : ∀ u, Keeps k0 u → Keeps k0 (f u)) : Keeps k0 (s.takeStep k f) := by
  unfold State.takeStep
  split
  · exact hf _ (keeps_stepTaken hk)
  · exact hk
theorem keeps_cmtCount {k0 : State} {s : State} {a : Nat} (hk : Keeps k0 s) : Keeps k0 (State.cmtCount s a) := by
  unfold State.cmtCount
  exact keeps_wrap32 hk
theorem keeps_showCmt {k0 : State} {s : State} (hk : Keeps k0 s) : Keeps k0 (State.showCmt s) := by
  unfold State.showCmt
  exact keeps_setFld (keeps_forCh (keeps_forTg hk (fun x3_0 x3_1 x3_2 => keeps_setReg x3_2)) (fun x2_0 x2_1 x2_2 => keeps_setFld x2_2))
theorem keeps_expired {k0 : State} {s : State} {c : Ch} {q : QComet} (hk : Keeps k0 s) : Keeps k0 (State.expired s c q) := by
  unfold State.expired
  exact keeps_sat (keeps_cmtCount hk)
theorem keeps_emptyQueue {k0 : State} {s : State} {c : Ch} (hk : Keeps k0 s) : Keeps k0 (State.emptyQueue s c) := by
  unfold State.emptyQueue
  exact keeps_showCmt (keeps_foldl (keeps_mapCmt hk id id) (fun x2_0 x2_1 x2_2 => keeps_expired x2_2))
theorem keeps_mapBuf {k0 : State} {s : State} {n : Ch} {f : BufSt → BufSt} (hk : Keeps k0 s) : Keeps k0 (State.mapBuf s n f) := by
  unfold State.mapBuf
  exact keeps_mapChan hk
theorem keeps_countLrx {k0 : State} {s : State} {n : Ch} {fs : List (List Blk)} (hk : Keeps k0 s) : Keeps k0 (State.countLrx s n fs) := by
  unfold State.countLrx
  exact keeps_foldl hk (fun x1_0 x1_1 x1_2 => keeps_when (keeps_when (keeps_wide (keeps_wide x1_2)) (keeps_sat32 (keeps_wide (keeps_wide x1_2)))) (keeps_sat32 (keeps_when (keeps_wide (keeps_wide x1_2)) (keeps_sat32 (keeps_wide (keeps_wide x1_2))))))
theorem keeps_countLtx {k0 : State} {s : State} {n : Ch} {fs : List (List Blk)} (hk : Keeps k0 s) : Keeps k0 (State.countLtx s n fs) := by
  unfold State.countLtx
  exact keeps_foldl hk (fun x1_0 x1_1 x1_2 => keeps_when (keeps_wide (keeps_wide x1_2)) (keeps_sat32 (keeps_wide (keeps_wide x1_2))))
theorem keeps_ebufIn {k0 : State} {s : State} {n : Ch} {l : List Blk} (hk : Keeps k0 s) : Keeps k0 (State.ebufIn s n l) := by
  unfold State.ebufIn
  exact keeps_setFld (keeps_mapBuf (keeps_wide hk))
theorem keeps_hostSend {k0 : State} {s : State} {n : Ch} {l : List Blk} (hk : Keeps k0 s) : Keeps k0 (State.hostSend s n l) := by
  unfold State.hostSend
  exact (by split; exacts [hk, keeps_mapBuf (keeps_wide hk)])
theorem keeps_rxDrop {k0 : State} {s : State} {n : Ch} {k : Nat} (hk : Keeps k0 s) : Keeps k0 (State.rxDrop s n k) := by
  unfold State.rxDrop
  exact keeps_cintIf (keeps_wide (keeps_wide hk))
theorem keeps_hostTake {k0 : State} {s : State} {n : Ch} {l : List Blk} {x : List Blk × List (List Blk)} (hk : Keeps k0 s) : Keeps k0 (State.hostTake s n l x) := by
  unfold State.hostTake
  exact (by dsimp only; split; exacts [keeps_mapBuf (keeps_rxDrop hk), (by split; exacts [keeps_hostSend (keeps_mapBuf (keeps_rxDrop hk)), keeps_hostSend hk])])
theorem keeps_deliver {k0 : State} {s : State} {n : Ch} {l : List Blk} (hk : Keeps k0 s) : Keeps k0 (State.deliver s n l) := by
  unfold State.deliver
  exact (by dsimp only; split; exacts [keeps_mapChan (keeps_countLrx hk), (by split; exacts [keeps_mapBuf (keeps_mapChan (keeps_countLrx hk)), keeps_when (keeps_hostTake (keeps_mapChan (keeps_countLrx hk))) (keeps_ebufIn (keeps_hostTake (keeps_mapChan (keeps_countLrx hk))))])])
theorem keeps_rmDrop {k0 : State} {s : State} {n : Ch} (hk : Keeps k0 s) : Keeps k0 (State.rmDrop s n) := by
  unfold State.rmDrop
  exact keeps_cint (keeps_wide hk)
theorem keeps_rmPush {k0 : State} {s : State} {n : Ch} {b : Blk} (hk : Keeps k0 s) : Keeps k0 (State.rmPush s n b) := by
  unfold State.rmPush
  exact keeps_cintIf (keeps_showRm (keeps_mapBuf hk))
theorem keeps_rmCancel {k0 : State} {s : State} {n : Ch} (hk : Keeps k0 s) : Keeps k0 (State.rmCancel s n) := by
  unfold State.rmCancel
  exact keeps_rmDrop (keeps_showRm (keeps_mapBuf hk))
theorem keeps_hostBlock {k0 : State} {s : State} {n : Ch} {b : Blk} (hk : Keeps k0 s) : Keeps k0 (State.hostBlock s n b) := by
  unfold State.hostBlock
  with_reducible (repeat' first | exact hk | assumption | apply keeps_showRm | apply keeps_mapBuf | apply keeps_rmCancel | apply keeps_rmPush | apply keeps_rmDrop | apply keeps_wide | exact id | exact fun _ h => h | split | dsimp only | intro _)
theorem keeps_hostFrame {k0 : State} {s : State} {n : Ch} {f : HostIn} (hk : Keeps k0 s) : Keeps k0 (State.hostFrame s n f) := by
  unfold State.hostFrame
  exact (by split; exacts [hk, keeps_foldl (keeps_mapBuf hk) (fun x2_0 x2_1 x2_2 => keeps_hostBlock x2_2)])
theorem keeps_sendPause {k0 : State} {s : State} {n : Ch} {time : Nat} (hk : Keeps k0 s) : Keeps k0 (State.sendPause s n time) := by
  unfold State.sendPause
  exact keeps_mapBuf (keeps_wrap32 hk)
theorem keeps_xoff {k0 : State} {s : State} {n : Ch} (hk : Keeps k0 s) : Keeps k0 (State.xoff s n) := by
  unfold State.xoff
  exact keeps_mapBuf (keeps_sendPause hk)
theorem keeps_takeBlocks {k0 : State} {s : State} {n : Ch} (hk : Keeps k0 s) : Keeps k0 (State.takeBlocks s n) := by
  unfold State.takeBlocks
  exact (by dsimp only; split; exacts [hk, (by split; exacts [keeps_mapBuf (keeps_setFld (keeps_mapBuf (keeps_ebufIn hk))), keeps_showRm (keeps_wide (keeps_mapBuf (keeps_ebufIn hk)))])])
theorem keeps_ebufOut {k0 : State} {s : State} {n : Ch} {k : Nat} (hk : Keeps k0 s) : Keeps k0 (State.ebufOut s n k).1 := by
  unfold State.ebufOut
  exact keeps_setFld (keeps_mapChan (keeps_countLtx (keeps_wide hk)))
theorem keeps_fillOrbit {k0 : State} {s : State} {n : Ch} (hk : Keeps k0 s) : Keeps k0 (State.fillOrbit s n).1 := by
  unfold State.fillOrbit
  exact keeps_wide (keeps_ebufOut hk)
theorem keeps_sendStd {k0 : State} {s : State} {n : Ch} (hk : Keeps k0 s) : Keeps k0 (State.sendStd s n) := by
  unfold State.sendStd
  with_reducible (repeat' first | exact hk | assumption | apply keeps_ebufOut | apply keeps_takeBlocks | apply keeps_mapChan | apply keeps_wide | exact id | exact fun _ h => h | split | dsimp only | intro _)
theorem keeps_tapFrame {k0 : State} {s : State} {n : Ch} {f : List Blk} {room : Bool} {t : Nat × Nat × Nat} (hk : Keeps k0 s) : Keeps k0 (State.tapFrame s n f room t) := by
  unfold State.tapFrame
  exact (by split; exacts [hk, (by split; exacts [keeps_mapBuf (keeps_hostSend (keeps_wide hk)), keeps_mapBuf (keeps_satInt hk)])])
theorem keeps_relayFrame {k0 : State} {s : State} {n : Ch} {f : List Blk} (hk : Keeps k0 s) : Keeps k0 (State.relayFrame s n f) := by
  unfold State.relayFrame
  exact (by dsimp only; split; exacts [keeps_sat32 hk, (by split; exacts [keeps_sat32 hk, (by split; exacts [keeps_satInt hk, (by split; exacts [hk, keeps_setFld (keeps_mapBuf (keeps_wide hk))])])])])
theorem keeps_mapFec {k0 : State} {s : State} {n : Ch} {f : FecSt → FecSt} (hk : Keeps k0 s) : Keeps k0 (State.mapFec s n f) := by
  unfold State.mapFec
  exact keeps_mapChan hk
theorem keeps_showEngines {k0 : State} {s : State} {n : Ch} (hk : Keeps k0 s) : Keeps k0 (State.showEngines s n) := by
  unfold State.showEngines
  exact keeps_setBit (keeps_setBit (keeps_setReg hk))
theorem keeps_badCodeword {k0 : State} {s : State} {n : Ch} (hk : Keeps k0 s) : Keeps k0 (State.badCodeword s n) := by
  unfold State.badCodeword
  exact (by dsimp only; split; exacts [(by split; exacts [keeps_startFast (keeps_dropLink (keeps_sat32 (keeps_when (keeps_deliver (keeps_mapChan hk)) (keeps_showAdapt (keeps_mapChan (keeps_cint (keeps_wrap32 (keeps_deliver (keeps_mapChan hk))))))))), keeps_when (keeps_deliver (keeps_mapChan hk)) (keeps_showAdapt (keeps_mapChan (keeps_cint (keeps_wrap32 (keeps_deliver (keeps_mapChan hk))))))]), (by split; exacts [keeps_startFast (keeps_dropLink (keeps_sat32 (keeps_when (keeps_deliver (keeps_mapChan hk)) (keeps_showAdapt (keeps_mapChan (keeps_cint (keeps_wrap32 (keeps_deliver (keeps_mapChan hk))))))))), keeps_when (keeps_deliver (keeps_mapChan hk)) (keeps_showAdapt (keeps_mapChan (keeps_cint (keeps_wrap32 (keeps_deliver (keeps_mapChan hk))))))])])
theorem keeps_discardFlight {k0 : State} {s : State} {n : Ch} (hk : Keeps k0 s) : Keeps k0 (State.discardFlight s n) := by
  unfold State.discardFlight
  exact keeps_foldl (keeps_showEngines (keeps_mapFec (keeps_satInt hk))) (fun x1_0 x1_1 x1_2 => keeps_badCodeword x1_2)
theorem keeps_unitFenceActs {k0 : State} {s : State} {n : Ch} (hk : Keeps k0 s) : Keeps k0 (State.unitFenceActs s n) := by
  unfold State.unitFenceActs
  exact (by dsimp only; split; exacts [keeps_renegotiate (keeps_mapFec hk), keeps_mapFec hk])
theorem keeps_engineBoundary {k0 : State} {s : State} {n : Ch} (hk : Keeps k0 s) : Keeps k0 (State.engineBoundary s n) := by
  unfold State.engineBoundary
  exact keeps_mapFec hk
theorem keeps_markTg {k0 : State} {s : State} {n : Ch} (hk : Keeps k0 s) : Keeps k0 (State.markTg s n) := by
  unfold State.markTg
  exact keeps_mapChan hk
theorem keeps_moveOne {k0 : State} {s : State} {n : Ch} (hk : Keeps k0 s) : Keeps k0 (State.moveOne s n) := by
  unfold State.moveOne
  exact keeps_showLoop (keeps_showNu (keeps_when (keeps_when (by split; exacts [keeps_showEngine (keeps_devFld (keeps_mapChan (keeps_emptyQueue hk))), keeps_showEngine (keeps_mapKtl (keeps_showEngine (keeps_devFld (keeps_mapChan (keeps_emptyQueue hk)))))]) (keeps_settleGroup (by split; exacts [keeps_showEngine (keeps_devFld (keeps_mapChan (keeps_emptyQueue hk))), keeps_showEngine (keeps_mapKtl (keeps_showEngine (keeps_devFld (keeps_mapChan (keeps_emptyQueue hk)))))]))) (keeps_settleGroup (keeps_when (by split; exacts [keeps_showEngine (keeps_devFld (keeps_mapChan (keeps_emptyQueue hk))), keeps_showEngine (keeps_mapKtl (keeps_showEngine (keeps_devFld (keeps_mapChan (keeps_emptyQueue hk)))))]) (keeps_settleGroup (by split; exacts [keeps_showEngine (keeps_devFld (keeps_mapChan (keeps_emptyQueue hk))), keeps_showEngine (keeps_mapKtl (keeps_showEngine (keeps_devFld (keeps_mapChan (keeps_emptyQueue hk)))))]))))))
theorem keeps_followTg {k0 : State} {s : State} {e : Ch} (hk : Keeps k0 s) : Keeps k0 (State.followTg s e) := by
  unfold State.followTg
  exact (by dsimp only; split; exacts [keeps_moveOne hk, hk])
theorem keeps_moveTg {k0 : State} {s : State} {n : Ch} (hk : Keeps k0 s) : Keeps k0 (State.moveTg s n) := by
  unfold State.moveTg
  exact keeps_followTg (keeps_moveOne hk)
theorem keeps_showSplit {k0 : State} {s : State} {n : Ch} (hk : Keeps k0 s) : Keeps k0 (State.showSplit s n) := by
  unfold State.showSplit
  exact keeps_when (keeps_setBit hk) (keeps_intr (keeps_setBit hk))
theorem keeps_mirrorRly {k0 : State} {s : State} {n : Ch} (hk : Keeps k0 s) : Keeps k0 (State.mirrorRly s n) := by
  unfold State.mirrorRly
  exact keeps_setReg hk
theorem keeps_setPair {k0 : State} {s : State} {n : Ch} {v : Bool} (hk : Keeps k0 s) : Keeps k0 (State.setPair s n v) := by
  unfold State.setPair
  exact (by dsimp only; split; exacts [keeps_when (keeps_devShow (keeps_when (keeps_devShow hk) (keeps_mapChan (keeps_devShow hk)))) (keeps_mapChan (keeps_devShow (keeps_when (keeps_devShow hk) (keeps_mapChan (keeps_devShow hk))))), keeps_settleLink (keeps_settleLink (keeps_showLatency (keeps_showLatency (keeps_markTg (keeps_markTg (keeps_followTg (keeps_showSplit (keeps_showPartner (keeps_showPartner (keeps_setFld (keeps_setFld (keeps_when (keeps_devShow (keeps_when (keeps_devShow hk) (keeps_mapChan (keeps_devShow hk)))) (keeps_mapChan (keeps_devShow (keeps_when (keeps_devShow hk) (keeps_mapChan (keeps_devShow hk)))))))))))))))))])
theorem keeps_settlePair {k0 : State} {s : State} {n : Ch} (hk : Keeps k0 s) : Keeps k0 (State.settlePair s n) := by
  unfold State.settlePair
  exact keeps_setPair hk
theorem keeps_setAlarm {k0 : State} {s : State} {st : Nat} (hk : Keeps k0 s) : Keeps k0 (State.setAlarm s st) := by
  unfold State.setAlarm
  exact (by dsimp only; split; exacts [keeps_setReg hk, keeps_devSet hk])
theorem keeps_selectFault {k0 : State} {s : State} {p : Page} {i : Nat} (hk : Keeps k0 s) : Keeps k0 (State.selectFault s p i) := by
  unfold State.selectFault
  exact (by dsimp only; split; exacts [keeps_intr (keeps_setAlarm (keeps_with_alrm (keeps_setReg (keeps_sat32 hk)))), keeps_sat32 hk])
theorem keeps_showForced {k0 : State} {s : State} {n : Ch} (hk : Keeps k0 s) : Keeps k0 (State.showForced s n) := by
  unfold State.showForced
  exact keeps_setBit hk
theorem keeps_showChanFence {k0 : State} {s : State} {n : Ch} (hk : Keeps k0 s) : Keeps k0 (State.showChanFence s n) := by
  unfold State.showChanFence
  exact keeps_showNf (keeps_foldl hk (fun x2_0 x2_1 x2_2 => (by split; exacts [x2_2, keeps_devFld x2_2])))
theorem keeps_chanFenceActs {k0 : State} {s : State} {n : Ch} (hk : Keeps k0 s) : Keeps k0 (State.chanFenceActs s n) := by
  unfold State.chanFenceActs
  exact keeps_when (keeps_showLf (keeps_showEngine (keeps_showPartner (keeps_showPartner (keeps_endJobsOf (keeps_settleLink (keeps_showForced (keeps_showChanFence hk)))))))) (keeps_settleGroup (keeps_showLf (keeps_showEngine (keeps_showPartner (keeps_showPartner (keeps_endJobsOf (keeps_settleLink (keeps_showForced (keeps_showChanFence hk)))))))))
theorem keeps_pageFenceActs {k0 : State} {s : State} {n : Ch} {p : ChPage} (hk : Keeps k0 s) : Keeps k0 (State.pageFenceActs s n p) := by
  unfold State.pageFenceActs
  with_reducible (repeat' first | exact hk | assumption | apply keeps_renegotiate | apply keeps_setFld | apply keeps_setBit | apply keeps_setReg | apply keeps_setPatSync | apply keeps_devShow | apply keeps_foldl | apply keeps_endJob | apply keeps_settleLink | apply keeps_settlePair | apply keeps_showLf | apply keeps_when | apply keeps_unitFenceActs | exact id | exact fun _ h => h | split | dsimp only | intro _)
theorem keeps_chFenced {k0 : State} {s : State} {n : Ch} {p : ChPage} {was : Bool} (hk : Keeps k0 s) : Keeps k0 (State.chFenced s n p was) := by
  unfold State.chFenced
  exact (by split; exacts [keeps_pageFenceActs (keeps_chanFenceActs hk), keeps_pageFenceActs hk])
theorem keeps_fenceCh {k0 : State} {s : State} {n : Ch} {p : ChPage} (hk : Keeps k0 s) : Keeps k0 (State.fenceCh s n p) := by
  unfold State.fenceCh
  exact (by split; exacts [hk, keeps_chFenced (keeps_devFld hk)])
theorem keeps_fenceChannel {k0 : State} {s : State} {n : Ch} (hk : Keeps k0 s) : Keeps k0 (State.fenceChannel s n) := by
  unfold State.fenceChannel
  exact keeps_fenceCh hk
theorem keeps_fenceUnit {k0 : State} {s : State} {n : Ch} {k : Nat} (hk : Keeps k0 s) : Keeps k0 (State.fenceUnit s n k) := by
  unfold State.fenceUnit
  exact (by split; exacts [hk, keeps_unitFenceActs (keeps_devFld hk)])
theorem keeps_recordFault {k0 : State} {s : State} {p : Page} {i : Nat} (hk : Keeps k0 s) : Keeps k0 (State.recordFault s p i) := by
  unfold State.recordFault
  exact keeps_when (keeps_setBit hk) (keeps_intr (keeps_setBit hk))
theorem keeps_detectCh {k0 : State} {s : State} {n : Ch} {p : ChPage} {i : Nat} (hk : Keeps k0 s) : Keeps k0 (State.detectCh s n p i) := by
  unfold State.detectCh
  exact (by split; exacts [hk, keeps_when (by split; exacts [keeps_recordFault hk, (by split; exacts [keeps_fenceUnit (keeps_recordFault hk), (by split; exacts [keeps_fenceCh (keeps_recordFault hk), keeps_recordFault hk])])]) (keeps_selectFault (by split; exacts [keeps_recordFault hk, (by split; exacts [keeps_fenceUnit (keeps_recordFault hk), (by split; exacts [keeps_fenceCh (keeps_recordFault hk), keeps_recordFault hk])])]))])
theorem keeps_mapTrim {k0 : State} {s : State} {n : Ch} {f : TrimSt → TrimSt} (hk : Keeps k0 s) : Keeps k0 (State.mapTrim s n f) := by
  unfold State.mapTrim
  exact keeps_mapChan hk
theorem keeps_mapRx {k0 : State} {s : State} {n : Ch} {f : RxSt → RxSt} (hk : Keeps k0 s) : Keeps k0 (State.mapRx s n f) := by
  unfold State.mapRx
  exact keeps_mapChan hk
theorem keeps_showMaps {k0 : State} {s : State} {n : Ch} {j : Bool} (hk : Keeps k0 s) : Keeps k0 (State.showMaps s n j) := by
  unfold State.showMaps
  with_reducible (repeat' first | exact hk | assumption | apply keeps_setFld | apply keeps_foldl | apply keeps_devSet | apply keeps_setReg | exact id | exact fun _ h => h | split | dsimp only | intro _)
theorem keeps_showTrim {k0 : State} {s : State} {n : Ch} {pend : Bool} (hk : Keeps k0 s) : Keeps k0 (State.showTrim s n pend) := by
  unfold State.showTrim
  exact keeps_setFld (keeps_setFld hk)
theorem keeps_trimCounts {k0 : State} {s : State} {n : Ch} (hk : Keeps k0 s) : Keeps k0 (State.trimCounts s n) := by
  unfold State.trimCounts
  exact keeps_intr (keeps_wrap32 (keeps_devSet (keeps_mapTrim hk)))
theorem keeps_showBalance {k0 : State} {s : State} {n : Ch} (hk : Keeps k0 s) : Keeps k0 (State.showBalance s n) := by
  unfold State.showBalance
  exact keeps_when hk (keeps_devFld hk)
theorem keeps_trimOn {k0 : State} {s : State} {n : Ch} (hk : Keeps k0 s) : Keeps k0 (State.trimOn s n) := by
  unfold State.trimOn
  exact (by split; exacts [hk, keeps_showEcl (keeps_trimCounts (keeps_showLatency (keeps_showMaps (keeps_showBalance (keeps_when (keeps_setFld (keeps_mapRx (keeps_mapTrim hk))) (keeps_setFld (keeps_setFld (keeps_mapRx (keeps_mapTrim hk)))))))))])
theorem keeps_trimAsk {k0 : State} {s : State} {n : Ch} (hk : Keeps k0 s) : Keeps k0 (State.trimAsk s n) := by
  unfold State.trimAsk
  exact keeps_showEcl (keeps_mapTrim hk)
theorem keeps_trimEvaluate {k0 : State} {s : State} {n : Ch} (hk : Keeps k0 s) : Keeps k0 (State.trimEvaluate s n) := by
  unfold State.trimEvaluate
  with_reducible (repeat' first | exact hk | assumption | apply keeps_showEcl | apply keeps_showTrim | apply keeps_mapTrim | apply keeps_setFld | apply keeps_trimAsk | exact id | exact fun _ h => h | split | dsimp only | intro _)
theorem keeps_refreshSpares {k0 : State} {s : State} {n : Ch} (hk : Keeps k0 s) : Keeps k0 (State.refreshSpares s n) := by
  unfold State.refreshSpares
  exact keeps_when (keeps_mapRx hk) (keeps_setFld (keeps_mapRx hk))
theorem keeps_trimRx {k0 : State} {s : State} {n : Ch} {rx : List Int} {k : Nat} (hk : Keeps k0 s) : Keeps k0 (State.trimRx s n rx k) := by
  unfold State.trimRx
  exact keeps_showLatency (keeps_cintIf (keeps_showMaps (keeps_showBalance (keeps_refreshSpares (keeps_mapRx (keeps_mapTrim hk))))))
theorem keeps_trimTx {k0 : State} {s : State} {n : Ch} {tx : List Int} {k : Nat} (hk : Keeps k0 s) : Keeps k0 (State.trimTx s n tx k) := by
  unfold State.trimTx
  exact keeps_showLatency (keeps_showMaps (keeps_when (keeps_mapRx (keeps_mapTrim hk)) (keeps_cint (keeps_setFld (keeps_mapRx (keeps_mapTrim hk))))))
theorem keeps_trimApplyRx {k0 : State} {s : State} {n : Ch} (hk : Keeps k0 s) : Keeps k0 (State.trimApplyRx s n) := by
  unfold State.trimApplyRx
  exact (by dsimp only; split; exacts [hk, keeps_showEcl (keeps_trimCounts (keeps_trimRx (keeps_mapTrim hk))), (by split; exacts [hk, keeps_showEcl (by split; exacts [keeps_trimRx (keeps_mapTrim hk), keeps_trimCounts (keeps_trimRx (keeps_mapTrim hk))])])])
theorem keeps_trimApplyTx {k0 : State} {s : State} {n : Ch} (hk : Keeps k0 s) : Keeps k0 (State.trimApplyTx s n) := by
  unfold State.trimApplyTx
  exact (by dsimp only; split; exacts [hk, keeps_showEcl (keeps_trimCounts (keeps_trimTx (keeps_mapTrim hk))), (by split; exacts [hk, keeps_showEcl (by split; exacts [keeps_trimTx (keeps_mapTrim hk), keeps_trimCounts (keeps_trimTx (keeps_mapTrim hk))])])])
theorem keeps_mapLink {k0 : State} {s : State} {n : Ch} {f : LinkSt → LinkSt} (hk : Keeps k0 s) : Keeps k0 (State.mapLink s n f) := by
  unfold State.mapLink
  exact keeps_mapChan hk
theorem keeps_showSsc {k0 : State} {s : State} {n : Ch} {ssc : Bool} {lp2 : Word} {leader : Bool} (hk : Keeps k0 s) : Keeps k0 (State.showSsc s n ssc lp2 leader) := by
  unfold State.showSsc
  exact keeps_cintIf (keeps_mapChan (keeps_setReg hk))
theorem keeps_startCold {k0 : State} {s : State} {n : Ch} (hk : Keeps k0 s) : Keeps k0 (State.startCold s n) := by
  unfold State.startCold
  exact keeps_retarget (keeps_applyTiming (keeps_settleEngines (by split; exacts [keeps_mapChan (keeps_mapLink (keeps_setTrain (keeps_lifeAdd (keeps_sat32 hk)))), keeps_setReg (keeps_setReg (keeps_mapChan (keeps_mapLink (keeps_setTrain (keeps_lifeAdd (keeps_sat32 hk))))))])))
theorem keeps_negotiated {k0 : State} {s : State} {n : Ch} {lpStd : BitVec 5} {lp : Option (Word × Word)} {leader : Bool} {fault : Bool} {lpNonce : BitVec 5} (hk : Keeps k0 s) : Keeps k0 (State.negotiated s n lpStd lp leader fault lpNonce) := by
  unfold State.negotiated
  with_reducible (repeat' first | exact hk | assumption | apply keeps_startNeg | apply keeps_showSsc | apply keeps_setSpread | apply keeps_mapLink | apply keeps_devShow | apply keeps_setReg | apply keeps_startCold | exact id | exact fun _ h => h | split | dsimp only | intro _)
theorem keeps_showMse {k0 : State} {s : State} {n : Ch} {mean : Rat} (hk : Keeps k0 s) : Keeps k0 (State.showMse s n mean) := by
  unfold State.showMse
  exact keeps_mapChan (keeps_setReg (keeps_setFld (keeps_setFld hk)))
theorem keeps_takeMse {k0 : State} {s : State} {n : Ch} {errs : List Rat} (hk : Keeps k0 s) : Keeps k0 (State.takeMse s n errs) := by
  unfold State.takeMse
  exact keeps_when hk (keeps_showMse hk)
theorem keeps_transmit {k0 : State} {s : State} {n : Ch} {o : OrbitOut} (hk : Keeps k0 s) : Keeps k0 (State.transmit s n o) := by
  unfold State.transmit
  exact keeps_mapChan hk
theorem keeps_sendQuietEcho {k0 : State} {s : State} {n : Ch} (hk : Keeps k0 s) : Keeps k0 (State.sendQuietEcho s n) := by
  unfold State.sendQuietEcho
  exact keeps_transmit (keeps_mapChan hk)
theorem keeps_sendTraining {k0 : State} {s : State} {n : Ch} (hk : Keeps k0 s) : Keeps k0 (State.sendTraining s n) := by
  unfold State.sendTraining
  exact keeps_transmit (keeps_mapChan hk)
theorem keeps_takeMark {k0 : State} {s : State} {n : Ch} {found : Bool} (hk : Keeps k0 s) : Keeps k0 (State.takeMark s n found) := by
  unfold State.takeMark
  exact (by split; exacts [keeps_mapLink hk, (by dsimp only; split; exacts [keeps_startFast (keeps_dropLink (keeps_sat32 (keeps_mapLink (keeps_satInt hk)))), keeps_mapLink (keeps_satInt hk)])])
theorem keeps_takeTsw {k0 : State} {s : State} {n : Ch} {w : BitVec 16} (hk : Keeps k0 s) : Keeps k0 (State.takeTsw s n w) := by
  unfold State.takeTsw
  exact (by dsimp only; split; exacts [keeps_mapLink hk, (by split; exacts [keeps_failTrain (keeps_mapLink hk), (by split; exacts [(by split; exacts [(by split; exacts [(by split; exacts [keeps_failTrain (keeps_mapLink hk), keeps_mapLink hk]), (by split; exacts [keeps_failTrain (keeps_mapLink hk), keeps_mapLink hk])]), (by split; exacts [(by split; exacts [keeps_failTrain (keeps_mapLink hk), keeps_mapLink hk]), (by split; exacts [keeps_failTrain (keeps_mapLink hk), keeps_mapLink hk])])]), (by split; exacts [(by split; exacts [keeps_failTrain (keeps_mapLink hk), keeps_mapLink hk]), (by split; exacts [keeps_failTrain (keeps_mapLink hk), keeps_mapLink hk])])])])])
theorem keeps_nextPhase {k0 : State} {s : State} {n : Ch} (hk : Keeps k0 s) : Keeps k0 (State.nextPhase s n) := by
  unfold State.nextPhase
  exact (by dsimp only; split; exacts [keeps_when (keeps_mapChan (keeps_enterPhase hk)) (keeps_setReg (keeps_mapChan (keeps_enterPhase hk))), keeps_enterPhase hk])
theorem keeps_phase4 {k0 : State} {s : State} {n : Ch} (hk : Keeps k0 s) : Keeps k0 (State.phase4 s n) := by
  unfold State.phase4
  with_reducible (repeat' first | exact hk | assumption | apply keeps_comeUp | apply keeps_mapChan | apply keeps_mapLink | exact id | exact fun _ h => h | split | dsimp only | intro _)
theorem keeps_anEnable {k0 : State} {s : State} {n : Ch} (hk : Keeps k0 s) : Keeps k0 (State.anEnable s n) := by
  unfold State.anEnable
  exact (by split; exacts [hk, keeps_startNeg hk])
theorem keeps_anDisable {k0 : State} {s : State} {n : Ch} (hk : Keeps k0 s) : Keeps k0 (State.anDisable s n) := by
  unfold State.anDisable
  exact keeps_setOrbitLock (keeps_linkIdle (keeps_dropLink hk))
theorem keeps_startLoop {k0 : State} {s : State} {n : Ch} (hk : Keeps k0 s) : Keeps k0 (State.startLoop s n) := by
  unfold State.startLoop
  exact keeps_retarget (keeps_applyTiming (keeps_settleEngines (keeps_mapChan (keeps_enterPhase (keeps_setTrain (keeps_setSpread (keeps_setOrbitLock (keeps_linkIdle (keeps_dropLink hk)))))))))
theorem keeps_putCoef {k0 : State} {s : State} {n : Ch} {q : RxRun} (hk : Keeps k0 s) : Keeps k0 (State.putCoef s n q) := by
  unfold State.putCoef
  exact keeps_foldl (keeps_foldl (keeps_mapRx hk) (fun x2_0 x2_1 x2_2 => keeps_setFld x2_2)) (fun x1_0 x1_1 x1_2 => keeps_setFld x1_2)
theorem keeps_takePower {k0 : State} {s : State} {n : Ch} {rx : Int} {clips : Nat} (hk : Keeps k0 s) : Keeps k0 (State.takePower s n rx clips) := by
  unfold State.takePower
  exact keeps_showLow (keeps_cintIf (keeps_setReg (keeps_setReg hk)))
theorem keeps_measurePower {k0 : State} {s : State} {n : Ch} {p : RxPar} {m : RxMeas} {clips : Nat} (hk : Keeps k0 s) : Keeps k0 (State.measurePower s n p m clips) := by
  unfold State.measurePower
  exact keeps_when hk (keeps_takePower hk)
theorem keeps_measureEcho {k0 : State} {s : State} {n : Ch} {p : RxPar} {m : RxMeas} (hk : Keeps k0 s) : Keeps k0 (State.measureEcho s n p m) := by
  unfold State.measureEcho
  exact keeps_when hk (keeps_setFld hk)
theorem keeps_measureResidual {k0 : State} {s : State} {n : Ch} {p : RxPar} {q : RxRun} (hk : Keeps k0 s) : Keeps k0 (State.measureResidual s n p q) := by
  unfold State.measureResidual
  exact (by dsimp only; split; exacts [keeps_when hk (keeps_setReg hk), keeps_when hk (keeps_setReg hk)])
theorem keeps_stdMse {k0 : State} {s : State} {n : Ch} {errs : List Rat} (hk : Keeps k0 s) : Keeps k0 (State.stdMse s n errs) := by
  unfold State.stdMse
  exact keeps_foldl hk (fun x1_0 x1_1 x1_2 => (by dsimp only; split; exacts [keeps_showMse (keeps_mapRx x1_2), keeps_mapRx x1_2]))
theorem keeps_setCorr {k0 : State} {s : State} {n : Ch} {e : Nat} {c : Rat × Rat} (hk : Keeps k0 s) : Keeps k0 (State.setCorr s n e c) := by
  unfold State.setCorr
  exact keeps_mapRx hk
theorem keeps_adaptSlices {k0 : State} {s : State} {n : Ch} {p : RxPar} {codes : List Byte} (hk : Keeps k0 s) : Keeps k0 (State.adaptSlices s n p codes) := by
  unfold State.adaptSlices
  exact (by split; exacts [hk, keeps_foldl hk (fun x2_0 x2_1 x2_2 => keeps_setCorr x2_2)])
theorem keeps_receive {k0 : State} {s : State} {n : Ch} {m : RxMeas} {clips : Nat} (hk : Keeps k0 s) : Keeps k0 (State.receive s n m clips) := by
  unfold State.receive
  exact keeps_when (keeps_mapRx (keeps_putCoef (keeps_adaptSlices (keeps_when (keeps_measureResidual (keeps_measureEcho (keeps_measurePower hk))) (keeps_stdMse (keeps_measureResidual (keeps_measureEcho (keeps_measurePower hk)))))))) (keeps_showAdapt (keeps_mapRx (keeps_putCoef (keeps_adaptSlices (keeps_when (keeps_measureResidual (keeps_measureEcho (keeps_measurePower hk))) (keeps_stdMse (keeps_measureResidual (keeps_measureEcho (keeps_measurePower hk)))))))))
theorem keeps_trimWaits {k0 : State} {s : State} {n : Ch} (hk : Keeps k0 s) : Keeps k0 (State.trimWaits s n) := by
  unfold State.trimWaits
  exact keeps_showEcl (keeps_setBit (keeps_mapTrim hk))
theorem keeps_sliceFails {k0 : State} {s : State} {n : Ch} {e : Nat} (hk : Keeps k0 s) : Keeps k0 (State.sliceFails s n e) := by
  unfold State.sliceFails
  with_reducible (repeat' first | exact hk | assumption | apply keeps_showMaps | apply keeps_refreshSpares | apply keeps_mapRx | apply keeps_detectCh | apply keeps_trimWaits | apply keeps_fenceChannel | exact id | exact fun _ h => h | split | dsimp only | intro _)
theorem keeps_segFails {k0 : State} {s : State} {n : Ch} {e : Nat} (hk : Keeps k0 s) : Keeps k0 (State.segFails s n e) := by
  unfold State.segFails
  with_reducible (repeat' first | exact hk | assumption | apply keeps_showMaps | apply keeps_mapRx | apply keeps_detectCh | apply keeps_trimWaits | apply keeps_fenceChannel | exact id | exact fun _ h => h | split | dsimp only | intro _)
theorem keeps_setTrLock {k0 : State} {s : State} {n : Ch} {b : Bool} (hk : Keeps k0 s) : Keeps k0 (State.setTrLock s n b) := by
  unfold State.setTrLock
  exact keeps_when hk (keeps_cint (keeps_setBit hk))
theorem keeps_trEstimate {k0 : State} {s : State} {n : Ch} {e : Rat} (hk : Keeps k0 s) : Keeps k0 (State.trEstimate s n e) := by
  unfold State.trEstimate
  exact (by dsimp only; split; exacts [keeps_setTrLock (keeps_mapRx (keeps_mapRx hk)), (by split; exacts [keeps_setTrLock (keeps_mapRx (keeps_mapRx hk)), keeps_mapRx (keeps_mapRx hk)])])
theorem keeps_showTiming {k0 : State} {s : State} {n : Ch} (hk : Keeps k0 s) : Keeps k0 (State.showTiming s n) := by
  unfold State.showTiming
  exact keeps_setFld (keeps_setFld hk)
theorem keeps_trTake {k0 : State} {s : State} {n : Ch} {e : Option Rat} (hk : Keeps k0 s) : Keeps k0 (State.trTake s n e) := by
  unfold State.trTake
  exact (by split; exacts [keeps_trEstimate hk, keeps_mapRx hk])
theorem keeps_nfRise {k0 : State} {s : State} {n : Ch} {bands : List Int} (hk : Keeps k0 s) : Keeps k0 (State.nfRise s n bands) := by
  unfold State.nfRise
  exact (by split; exacts [(by split; exacts [(by split; exacts [hk, keeps_cintIf (keeps_setReg hk)]), hk]), hk])
theorem keeps_putBands {k0 : State} {s : State} {n : Ch} {bands : List Int} (hk : Keeps k0 s) : Keeps k0 (State.putBands s n bands) := by
  unfold State.putBands
  exact keeps_foldl hk (fun x1_0 x1_1 x1_2 => keeps_setReg x1_2)
theorem keeps_gainWritten {k0 : State} {s : State} {n : Ch} (hk : Keeps k0 s) : Keeps k0 (State.gainWritten s n) := by
  unfold State.gainWritten
  exact (by split; exacts [keeps_showEcl (keeps_setBit hk), keeps_applyGain hk])
theorem keeps_tapsWritten {k0 : State} {s : State} {n : Ch} {old : Word} (hk : Keeps k0 s) : Keeps k0 (State.tapsWritten s n old) := by
  unfold State.tapsWritten
  exact (by split; exacts [hk, (by split; exacts [keeps_showEcl (keeps_mapRx hk), keeps_applyTaps hk])])
theorem keeps_timingWritten {k0 : State} {s : State} {n : Ch} {old : Word} (hk : Keeps k0 s) : Keeps k0 (State.timingWritten s n old) := by
  unfold State.timingWritten
  exact (by split; exacts [hk, keeps_showEcl (keeps_setBit hk)])
theorem keeps_listenWritten {k0 : State} {s : State} {n : Ch} {old : Word} (hk : Keeps k0 s) : Keeps k0 (State.listenWritten s n old) := by
  unfold State.listenWritten
  exact (by dsimp only; split; exacts [keeps_showNf (keeps_setOrbitLock (keeps_linkIdle hk)), (by split; exacts [keeps_startNeg (keeps_showNf hk), hk])])
theorem keeps_mapEcl {k0 : State} {s : State} {n : Ch} {f : EclSt → EclSt} (hk : Keeps k0 s) : Keeps k0 (State.mapEcl s n f) := by
  unfold State.mapEcl
  exact keeps_mapChan hk
theorem keeps_mapLine {k0 : State} {s : State} {n : Ch} {f : LineSt → LineSt} (hk : Keeps k0 s) : Keeps k0 (State.mapLine s n f) := by
  unfold State.mapLine
  exact keeps_mapChan hk
theorem keeps_eclStart {k0 : State} {s : State} {n : Ch} {start : Word} {id : Byte} (hk : Keeps k0 s) : Keeps k0 (State.eclStart s n start id) := by
  unfold State.eclStart
  exact keeps_trimApplyTx (keeps_setReg (keeps_setFld (keeps_setBit (keeps_mapLine (keeps_mapEcl hk)))))
theorem keeps_eclReceive {k0 : State} {s : State} {n : Ch} (hk : Keeps k0 s) : Keeps k0 (State.eclReceive s n) := by
  unfold State.eclReceive
  exact keeps_showAdapt (keeps_showEcl (keeps_mapChan (keeps_when (keeps_when (keeps_when (keeps_trimApplyRx hk) (keeps_applyGain (keeps_trimApplyRx hk))) (keeps_applyTaps (keeps_when (keeps_trimApplyRx hk) (keeps_applyGain (keeps_trimApplyRx hk))))) (keeps_applyTiming (keeps_when (keeps_when (keeps_trimApplyRx hk) (keeps_applyGain (keeps_trimApplyRx hk))) (keeps_applyTaps (keeps_when (keeps_trimApplyRx hk) (keeps_applyGain (keeps_trimApplyRx hk)))))))))
theorem keeps_eclEnd {k0 : State} {s : State} {n : Ch} (hk : Keeps k0 s) : Keeps k0 (State.eclEnd s n) := by
  unfold State.eclEnd
  exact keeps_mapLine (keeps_showEcl (keeps_mapEcl (keeps_cint (keeps_wrap32 hk))))
theorem keeps_eclMsg {k0 : State} {s : State} {n : Ch} {m : BitVec 128} (hk : Keeps k0 s) : Keeps k0 (State.eclMsg s n m) := by
  unfold State.eclMsg
  exact (by dsimp only; split; exacts [keeps_mapEcl hk, (by split; exacts [keeps_setBit (keeps_mapEcl hk), hk])])
theorem keeps_orbitBlocks {k0 : State} {s : State} {n : Ch} {ty : OrbitTy} (hk : Keeps k0 s) : Keeps k0 (State.orbitBlocks s n ty).1 := by
  unfold State.orbitBlocks
  exact (by dsimp only; split; exacts [(by split; exacts [keeps_fillOrbit (keeps_wide hk), keeps_wide (keeps_wide hk)]), keeps_wide (keeps_wide hk), keeps_wide (keeps_wide hk), hk, hk, hk])
theorem keeps_orbitDone {k0 : State} {s : State} {n : Ch} {ty : OrbitTy} (hk : Keeps k0 s) : Keeps k0 (State.orbitDone s n ty) := by
  unfold State.orbitDone
  exact keeps_when (keeps_when (keeps_mapChan (keeps_mapLine hk)) (keeps_eclEnd (keeps_mapChan (keeps_mapLine hk)))) (keeps_mapLine (keeps_when (keeps_mapChan (keeps_mapLine hk)) (keeps_eclEnd (keeps_mapChan (keeps_mapLine hk)))))
theorem keeps_sendOrbit {k0 : State} {s : State} {n : Ch} {ty : OrbitTy} {t : Rat} (hk : Keeps k0 s) : Keeps k0 (State.sendOrbit s n ty t) := by
  unfold State.sendOrbit
  exact keeps_showNf (keeps_showEngine (keeps_orbitDone (by split; exacts [keeps_setBit (keeps_setBit (keeps_transmit (keeps_setReg (keeps_orbitBlocks (keeps_when (keeps_setBit hk) (keeps_takeBlocks (keeps_setBit hk))))))), keeps_mapKtl (keeps_setBit (keeps_setBit (keeps_transmit (keeps_setReg (keeps_orbitBlocks (keeps_when (keeps_setBit hk) (keeps_takeBlocks (keeps_setBit hk))))))))])))
theorem keeps_sendPattern {k0 : State} {s : State} {n : Ch} (hk : Keeps k0 s) : Keeps k0 (State.sendPattern s n) := by
  unfold State.sendPattern
  exact keeps_transmit (keeps_mapLine hk)
theorem keeps_placeOam {k0 : State} {s : State} {n : Ch} {t : Rat} (hk : Keeps k0 s) : Keeps k0 (State.placeOam s n t) := by
  unfold State.placeOam
  exact (by split; exacts [keeps_mapLine hk, keeps_mapLine (keeps_wrap32 (keeps_when (keeps_when hk (keeps_wrap32 hk)) (keeps_wrap (keeps_when hk (keeps_wrap32 hk)))))])
theorem keeps_setInfo {k0 : State} {s : State} {n : Ch} {b : Bool} (hk : Keeps k0 s) : Keeps k0 (State.setInfo s n b) := by
  unfold State.setInfo
  exact keeps_showLoop (keeps_when hk (keeps_cint (keeps_setBit hk)))
theorem keeps_takeCap {k0 : State} {s : State} {n : Ch} {m : BitVec 128} (hk : Keeps k0 s) : Keeps k0 (State.takeCap s n m) := by
  unfold State.takeCap
  exact keeps_setInfo (keeps_mapKtl (keeps_setFld (keeps_cintIf (keeps_setReg (keeps_setReg hk)))))
theorem keeps_showOffset {k0 : State} {s : State} {n : Ch} {t2 : Rat} (hk : Keeps k0 s) : Keeps k0 (State.showOffset s n t2) := by
  unfold State.showOffset
  exact keeps_setFld (keeps_setReg hk)
theorem keeps_accept {k0 : State} {s : State} {n : Ch} {theta : Rat} {d : Rat} {t2 : Rat} (hk : Keeps k0 s) : Keeps k0 (State.accept s n theta d t2) := by
  unfold State.accept
  exact keeps_showNu (keeps_wrap32 (keeps_showOffset (keeps_setReg (keeps_mapKtl hk))))
theorem keeps_judge {k0 : State} {s : State} {n : Ch} {theta : Rat} {d : Rat} {t2 : Rat} (hk : Keeps k0 s) : Keeps k0 (State.judge s n theta d t2) := by
  unfold State.judge
  exact (by dsimp only; split; exacts [keeps_mapKtl (keeps_satInt hk), keeps_accept hk])
theorem keeps_estimate {k0 : State} {s : State} {n : Ch} {x : Stamp} {found : Bool} {t2 : Rat} {at' : Nat} (hk : Keeps k0 s) : Keeps k0 (State.estimate s n x found t2 at') := by
  unfold State.estimate
  exact (by dsimp only; split; exacts [keeps_judge hk, keeps_when hk (keeps_sat32 hk)])
theorem keeps_oamPieceIn {k0 : State} {s : State} {n : Ch} {idx : Word} {piece : Option Nat} (hk : Keeps k0 s) : Keeps k0 (State.oamPieceIn s n idx piece) := by
  unfold State.oamPieceIn
  exact keeps_mapLine hk
theorem keeps_setRxIdx {k0 : State} {s : State} {n : Ch} {idx : Word} (hk : Keeps k0 s) : Keeps k0 (State.setRxIdx s n idx) := by
  unfold State.setRxIdx
  exact keeps_setReg (keeps_mapLine hk)
theorem keeps_fieldFails {k0 : State} {s : State} {n : Ch} {idx : Word} (hk : Keeps k0 s) : Keeps k0 (State.fieldFails s n idx) := by
  unfold State.fieldFails
  exact keeps_when (keeps_mapLink (keeps_oamPieceIn (keeps_setRxIdx (keeps_satInt hk)))) (keeps_setInfo (keeps_mapLink (keeps_oamPieceIn (keeps_setRxIdx (keeps_satInt hk)))))
theorem keeps_lpiByType {k0 : State} {s : State} {n : Ch} {was : Option OrbitTy} {x : Got} {found : Bool} (hk : Keeps k0 s) : Keeps k0 (State.lpiByType s n was x found) := by
  unfold State.lpiByType
  exact (by split; exacts [hk, (by split; exacts [keeps_hostSend (keeps_setLpi hk), (by split; exacts [keeps_hostSend (keeps_setLpi (keeps_capGrace hk)), hk])])])
theorem keeps_trainByType {k0 : State} {s : State} {n : Ch} {x : Got} (hk : Keeps k0 s) : Keeps k0 (State.trainByType s n x) := by
  unfold State.trainByType
  exact keeps_mapLink hk
theorem keeps_upIfDue {k0 : State} {s : State} {n : Ch} (hk : Keeps k0 s) : Keeps k0 (State.upIfDue s n) := by
  unfold State.upIfDue
  exact keeps_when hk (keeps_comeUp hk)
theorem keeps_showFlags {k0 : State} {s : State} {n : Ch} {x : Got} (hk : Keeps k0 s) : Keeps k0 (State.showFlags s n x) := by
  unfold State.showFlags
  exact keeps_setFld hk
theorem keeps_takeField {k0 : State} {s : State} {n : Ch} {x : Got} {found : Bool} {t2 : Rat} {at' : Nat} (hk : Keeps k0 s) : Keeps k0 (State.takeField s n x found t2 at') := by
  unfold State.takeField
  exact keeps_showEngine (keeps_estimate (keeps_upIfDue (keeps_lpiByType (keeps_trainByType (keeps_mapEcl (keeps_showNf (keeps_showAdapt (keeps_mapLine (keeps_oamPieceIn (keeps_mapKtl (keeps_showFlags (keeps_setRxIdx (keeps_wrap32 hk)))))))))))))
theorem keeps_quietOrbit {k0 : State} {s : State} {n : Ch} (hk : Keeps k0 s) : Keeps k0 (State.quietOrbit s n) := by
  unfold State.quietOrbit
  exact keeps_when (keeps_showNf (keeps_showAdapt (keeps_trimApplyRx (keeps_mapLine hk)))) (keeps_showEcl (keeps_applyGain (keeps_showNf (keeps_showAdapt (keeps_trimApplyRx (keeps_mapLine hk))))))
theorem keeps_oamDeliver {k0 : State} {s : State} {n : Ch} {m : BitVec 128} (hk : Keeps k0 s) : Keeps k0 (State.oamDeliver s n m) := by
  unfold State.oamDeliver
  exact (by split; exacts [keeps_eclMsg hk, keeps_takeCap hk, keeps_mapLine hk])
theorem keeps_takeMsg_some {k0 s t : State} {n : Ch} {ty : Nat} {m : BitVec 128} (he : s.takeMsg n ty = some (m, t)) (hk : Keeps k0 s) : Keeps k0 t := by
  unfold State.takeMsg at he
  split at he
  · injection he with he; injection he with h1 h2; subst h2; exact keeps_mapLine hk
  · simp at he
theorem keeps_capDrop {k0 : State} {s : State} {a : Nat} (hk : Keeps k0 s) : Keeps k0 (State.capDrop s a) :=
  keeps_with_cap (keeps_satInt hk) (by
    have h : (s.satInt a 1 (.dev .cap) 3).cap = s.cap := by unfold State.satInt State.when; split <;> rfl
    rw [h]; exact id)
theorem keeps_showCap {k0 : State} {s : State} (hk : Keeps k0 s) : Keeps k0 (State.showCap s) := by
  unfold State.showCap
  exact keeps_setReg (keeps_setReg hk)
theorem keeps_capWrite {k0 : State} {s : State} {c : Capture} (hk : Keeps k0 s) : Keeps k0 (State.capWrite s c) := by
  unfold State.capWrite
  dsimp only
  have h1 : Keeps k0 (s.when (s.cap.log.length == capSize) (fun s => s.wrap32 Reg.capOvrCount 1)) := by exact keeps_when hk (keeps_wrap32 hk)
  split
  · exact keeps_capDrop hk
  refine keeps_when (keeps_when (keeps_intr (keeps_showCap (keeps_wrap32 (keeps_with_cap h1 ?_)))) (keeps_intr (keeps_intr (keeps_showCap (keeps_wrap32 (keeps_with_cap h1 ?_)))))) (keeps_intr (keeps_when (keeps_intr (keeps_showCap (keeps_wrap32 (keeps_with_cap h1 ?_)))) (keeps_intr (keeps_intr (keeps_showCap (keeps_wrap32 (keeps_with_cap h1 ?_))))))) <;>
  · intro _; simp only [List.length_take]; omega
theorem keeps_capLog {k0 : State} {s : State} {c : Capture} (hk : Keeps k0 s) : Keeps k0 (State.capLog s c) := by
  unfold State.capLog
  exact (by split; exacts [hk, (by split; exacts [keeps_capDrop hk, keeps_with_cap hk id])])
theorem keeps_capDrain {k0 : State} {s : State} (hk : Keeps k0 s) : Keeps k0 (State.capDrain s) := by
  unfold State.capDrain
  exact (by split; exacts [hk, (by split; exacts [hk, keeps_when (keeps_with_cap hk id) (keeps_capWrite (keeps_with_cap hk id))])])
theorem keeps_capClear {k0 : State} {s : State} (hk : Keeps k0 s) : Keeps k0 (s.capClear) :=
  keeps_showCap (keeps_setReg (keeps_with_cap hk (fun _ => Nat.zero_le _)))
theorem keeps_capAcked {k0 : State} {s : State} (hk : Keeps k0 s) : Keeps k0 (s.capAcked) :=
  keeps_showCap (keeps_with_cap hk (by intro _; simp only [List.length_take]; omega))
theorem keeps_capwLoad {k0 : State} {s : State} (hk : Keeps k0 s) : Keeps k0 (State.capwLoad s) := by
  unfold State.capwLoad
  exact keeps_foldl (keeps_setReg hk) (fun x1_0 x1_1 x1_2 => keeps_setReg x1_2)
theorem keeps_capwAdvance {k0 : State} {s : State} (hk : Keeps k0 s) : Keeps k0 (State.capwAdvance s) := by
  unfold State.capwAdvance
  exact keeps_capwLoad (keeps_setReg hk)
theorem keeps_repPush {k0 : State} {s : State} {g : Tg} {m : BitVec 128} (hk : Keeps k0 s) : Keeps k0 (State.repPush s g m) := by
  unfold State.repPush
  dsimp only
  split
  · exact keeps_oamPush (keeps_with_cmt hk id id)
  · have h : (s.satInt Reg.capRepDrop 1 (.dev .cap) 4).cmt = s.cmt := by unfold State.satInt State.when; split <;> rfl
    exact keeps_with_cmt (keeps_satInt hk) (by rw [h]; exact id) (by rw [h]; exact id)
theorem keeps_capture {k0 : State} {s : State} {c : Capture} {log : Bool} {report : Bool} (hk : Keeps k0 s) : Keeps k0 (State.capture s c log report) := by
  unfold State.capture
  exact keeps_when (keeps_when hk (keeps_capLog hk)) (keeps_repPush (keeps_when hk (keeps_capLog hk)))
theorem keeps_showPin {k0 : State} {s : State} {k : Fin 16} (hk : Keeps k0 s) : Keeps k0 (State.showPin s k) := by
  unfold State.showPin
  exact keeps_setBit (keeps_setBit hk)
theorem keeps_pinEdge {k0 : State} {s : State} {k : Fin 16} {f : Int} (hk : Keeps k0 s) : Keeps k0 (State.pinEdge s k f) := by
  unfold State.pinEdge
  exact keeps_mapPin hk
theorem keeps_drivePin {k0 : State} {s : State} {k : Fin 16} {f : Int} {act : State → State} (hk : Keeps k0 (act s)) : Keeps k0 (s.drivePin k f act) := by
  unfold State.drivePin
  dsimp only
  split
  · exact keeps_showPin hk
  · exact keeps_showPin (keeps_pinEdge hk)
theorem keeps_pinPulse {k0 : State} {s : State} {k : Fin 16} {f : Nat} {w : Nat} (hk : Keeps k0 s) : Keeps k0 (State.pinPulse s k f w) := by
  unfold State.pinPulse
  exact keeps_drivePin (keeps_mapPin hk)
theorem keeps_pinBase {k0 : State} {s : State} {k : Fin 16} {f : Int} {v : Bool} (hk : Keeps k0 s) : Keeps k0 (State.pinBase s k f v) := by
  unfold State.pinBase
  exact keeps_drivePin (keeps_setBit hk)
theorem keeps_pinArm {k0 : State} {s : State} {k : Fin 16} {f : Nat} {w : Nat} {seq : BitVec 16} (hk : Keeps k0 s) : Keeps k0 (State.pinArm s k f w seq) := by
  unfold State.pinArm
  exact keeps_showPin (keeps_mapPin hk)
theorem keeps_cmtInt {k0 : State} {s : State} {i : Nat} (hk : Keeps k0 s) : Keeps k0 (State.cmtInt s i) := by
  unfold State.cmtInt
  exact keeps_intr hk
theorem keeps_setSched {k0 : State} {s : State} {e : Nat} {w : Nat} {v : Word} (hk : Keeps k0 s) : Keeps k0 (s.setSched e w v) :=
  keeps_mapCmt hk (fun h => Store.put_wf _ _ _ _ h) id
theorem keeps_entryLate {k0 : State} {s : State} {e : Nat} (hk : Keeps k0 s) : Keeps k0 (State.entryLate s e) := by
  unfold State.entryLate
  exact keeps_setSched hk
theorem keeps_latePush {k0 : State} {s : State} {n : Ch} {m : BitVec 128} (hk : Keeps k0 s) : Keeps k0 (State.latePush s n m) := by
  unfold State.latePush
  exact (by split; exacts [keeps_sat hk, keeps_oamPush hk])
theorem keeps_answer {k0 : State} {s : State} {q : QComet} {reason : Nat} (hk : Keeps k0 s) : Keeps k0 (State.answer s q reason) := by
  unfold State.answer
  exact (by split; exacts [keeps_latePush hk, keeps_entryLate hk, hk])
theorem keeps_enqueue {k0 : State} {s : State} {c : Ch} {q : QComet} (hk : Keeps k0 s) : Keeps k0 (State.enqueue s c q) := by
  unfold State.enqueue
  exact (by dsimp only; split; exacts [keeps_sat hk, (by split; exacts [keeps_answer (keeps_fldInt hk), (by split; exacts [keeps_fldInt hk, keeps_mapCmt (keeps_cmtCount hk) id id])])])
theorem keeps_admitFire {k0 : State} {s : State} {q : QComet} (hk : Keeps k0 s) : Keeps k0 (State.admitFire s q) := by
  unfold State.admitFire
  exact (by dsimp only; split; exacts [keeps_fldInt hk, (by split; exacts [keeps_answer (keeps_fldInt hk), (by split; exacts [keeps_fldInt hk, keeps_mapCmt (keeps_cmtCount hk) id id])])])
theorem keeps_forward {k0 : State} {s : State} {q : QComet} {l : List Ch} (hk : Keeps k0 s) : Keeps k0 (State.forward s q l) := by
  unfold State.forward
  exact keeps_foldl hk (fun x1_0 x1_1 x1_2 => keeps_enqueue x1_2)
theorem keeps_routeComet {k0 : State} {s : State} {q : QComet} (hk : Keeps k0 s) : Keeps k0 (State.routeComet s q) := by
  unfold State.routeComet
  with_reducible (repeat' first | exact hk | assumption | apply keeps_admitFire | apply keeps_forward | apply keeps_answer | apply keeps_fldInt | exact id | exact fun _ h => h | split | dsimp only | intro _)
theorem keeps_remember {k0 : State} {s : State} {g : Tg} {c : BitVec 96} (hk : Keeps k0 s) : Keeps k0 (State.remember s g c) := by
  unfold State.remember
  exact keeps_mapCmt hk id id
theorem keeps_takeComet {k0 : State} {s : State} {n : Ch} {c : BitVec 96} (hk : Keeps k0 s) : Keeps k0 (State.takeComet s n c) := by
  unfold State.takeComet
  with_reducible (repeat' first | exact hk | assumption | apply keeps_sat | apply keeps_cmtCount | apply keeps_showCmt | apply keeps_routeComet | apply keeps_remember | exact id | exact fun _ h => h | split | dsimp only | intro _)
theorem keeps_expireAt {k0 : State} {s : State} {c : Ch} {q : QComet} {report : Bool} (hk : Keeps k0 s) : Keeps k0 (State.expireAt s c q report) := by
  unfold State.expireAt
  exact (by dsimp only; split; exacts [keeps_answer (keeps_cmtInt (keeps_expired hk)), keeps_expired hk])
theorem keeps_emptyFire {k0 : State} {s : State} (hk : Keeps k0 s) : Keeps k0 (State.emptyFire s) := by
  unfold State.emptyFire
  exact keeps_showCmt (keeps_foldl (keeps_mapCmt hk id id) (fun x2_0 x2_1 x2_2 => keeps_cmtCount x2_2))
theorem keeps_expireQueue {k0 : State} {s : State} {c : Ch} {before : QComet → Int} (hk : Keeps k0 s) : Keeps k0 (State.expireQueue s c before) := by
  unfold State.expireQueue
  exact keeps_foldl (keeps_mapCmt hk id id) (fun x1_0 x1_1 x1_2 => keeps_expireAt x1_2)
theorem keeps_placeComet {k0 : State} {s : State} {c : Ch} (hk : Keeps k0 s) : Keeps k0 (State.placeComet s c) := by
  unfold State.placeComet
  exact (by split; exacts [hk, keeps_mapLine (keeps_cmtCount (keeps_mapCmt hk id id))])
theorem keeps_fire {k0 : State} {s : State} {q : QComet} (hk : Keeps k0 s) : Keeps k0 (State.fire s q) := by
  unfold State.fire
  exact (by dsimp only; split; exacts [keeps_wrap (keeps_pinPulse (keeps_cmtCount hk)), keeps_wrap (keeps_pinBase (keeps_cmtCount hk)), keeps_wrap (keeps_pinArm (keeps_cmtCount hk)), keeps_capLog (keeps_cmtCount hk)])
theorem keeps_setEntryF {k0 : State} {s : State} {e : Nat} {f : Nat} (hk : Keeps k0 s) : Keeps k0 (State.setEntryF s e f) := by
  unfold State.setEntryF
  exact keeps_setSched (keeps_setSched (keeps_setSched hk))
theorem keeps_entryUsed {k0 : State} {s : State} {e : Nat} {k : Nat} (hk : Keeps k0 s) : Keeps k0 (State.entryUsed s e k) := by
  unfold State.entryUsed
  with_reducible (repeat' first | exact hk | assumption | apply keeps_setSched | exact id | exact fun _ h => h | split | dsimp only | intro _)
theorem keeps_inject {k0 : State} {s : State} {g : Tg} {e : Nat} (hk : Keeps k0 s) : Keeps k0 (State.inject s g e) := by
  unfold State.inject
  exact keeps_showCmt (by split; exacts [keeps_entryUsed (keeps_setEntryF (keeps_routeComet (keeps_remember (keeps_mapCmt (keeps_cmtCount (keeps_setFld hk)) id id)))), keeps_setSched (keeps_routeComet (keeps_remember (keeps_mapCmt (keeps_cmtCount (keeps_setFld hk)) id id)))])
theorem keeps_skipPeriods {k0 : State} {s : State} {g : Tg} {e : Nat} (hk : Keeps k0 s) : Keeps k0 (State.skipPeriods s g e) := by
  unfold State.skipPeriods
  exact keeps_setSched (keeps_entryUsed (keeps_setEntryF hk))
theorem keeps_routeCmd {k0 : State} {s : State} {d : Word} (hk : Keeps k0 s) : Keeps k0 (State.routeCmd s d) := by
  unfold State.routeCmd
  with_reducible (repeat' first | exact hk | assumption | apply keeps_setFld | apply keeps_setReg | apply keeps_mapCmt | exact id | exact fun _ h => h | split | dsimp only | intro _)
  all_goals first | exact Store.put_wf _ _ _ _ ‹_› | exact fun h => Store.put_wf _ _ _ _ h
theorem keeps_showCmtw {k0 : State} {s : State} (hk : Keeps k0 s) : Keeps k0 (State.showCmtw s) := by
  unfold State.showCmtw
  exact keeps_setFld (keeps_setBit hk)
theorem keeps_cmtwCmd {k0 : State} {s : State} {d : Word} (hk : Keeps k0 s) : Keeps k0 (State.cmtwCmd s d) := by
  unfold State.cmtwCmd
  exact keeps_showCmtw (by split; exacts [keeps_setFld (keeps_setBit (by split; exacts [keeps_foldl hk (fun x6_0 x6_1 x6_2 => keeps_setReg x6_2), keeps_foldl hk (fun x6_0 x6_1 x6_2 => keeps_setSched x6_2), keeps_foldl hk (fun x6_0 x6_1 x6_2 => keeps_setSched x6_2), keeps_setSched hk, hk])), keeps_setBit (by split; exacts [keeps_foldl hk (fun x5_0 x5_1 x5_2 => keeps_setReg x5_2), keeps_foldl hk (fun x5_0 x5_1 x5_2 => keeps_setSched x5_2), keeps_foldl hk (fun x5_0 x5_1 x5_2 => keeps_setSched x5_2), keeps_setSched hk, hk])])
theorem keeps_takeCodeword {k0 : State} {s : State} {n : Ch} {k : Nat} {syms : List Rat} {upset : List Nat} (hk : Keeps k0 s) : Keeps k0 (State.takeCodeword s n k syms upset) := by
  unfold State.takeCodeword
  exact (by dsimp only; split; exacts [keeps_mapFec (keeps_satInt (keeps_wide (keeps_when hk (keeps_applyIter hk)))), (by split; exacts [keeps_mapFec (keeps_satInt (keeps_wide (keeps_when hk (keeps_applyIter hk)))), keeps_showEngines (keeps_mapFec (keeps_wide (keeps_when hk (keeps_applyIter hk))))])])
theorem keeps_takeClause {k0 : State} {s : State} {n : Ch} {corr : Option Nat} {blks : List Blk} (hk : Keeps k0 s) : Keeps k0 (State.takeClause s n corr blks) := by
  unfold State.takeClause
  exact keeps_deliver (by split; exacts [keeps_setLpi hk, (by dsimp only; split; exacts [keeps_mapFec (keeps_wide (keeps_wide (keeps_setLpi hk))), keeps_satInt (keeps_wide (keeps_setLpi hk))])])
theorem keeps_berPublish {k0 : State} {s : State} {n : Ch} (hk : Keeps k0 s) : Keeps k0 (State.berPublish s n) := by
  unfold State.berPublish
  exact keeps_mapFec (keeps_cint (keeps_wrap32 (keeps_setReg hk)))
theorem keeps_berFull {k0 : State} {s : State} {n : Ch} (hk : Keeps k0 s) : Keeps k0 (State.berFull s n) := by
  unfold State.berFull
  exact keeps_when hk (keeps_berPublish hk)
theorem keeps_goodCodeword {k0 : State} {s : State} {n : Ch} {k : Nat} {x : Flight} (hk : Keeps k0 s) : Keeps k0 (State.goodCodeword s n k x) := by
  unfold State.goodCodeword
  exact keeps_deliver (keeps_wide (keeps_mapFec (keeps_wide (keeps_wide (keeps_berFull hk)))))
theorem keeps_uncorrectable {k0 : State} {s : State} {n : Ch} (hk : Keeps k0 s) : Keeps k0 (State.uncorrectable s n) := by
  unfold State.uncorrectable
  exact keeps_badCodeword (keeps_mapFec (keeps_satInt (keeps_berFull hk)))
theorem keeps_releaseCodeword {k0 : State} {s : State} {n : Ch} {x : Flight} (hk : Keeps k0 s) : Keeps k0 (State.releaseCodeword s n x) := by
  unfold State.releaseCodeword
  exact (by dsimp only; split; exacts [keeps_badCodeword (keeps_showEngines (keeps_mapFec hk)), keeps_uncorrectable (keeps_showEngines (keeps_mapFec hk)), (by split; exacts [keeps_goodCodeword (keeps_showEngines (keeps_mapFec hk)), keeps_detectCh (keeps_uncorrectable (keeps_showEngines (keeps_mapFec hk)))])])
theorem keeps_iterWritten {k0 : State} {s : State} {n : Ch} (hk : Keeps k0 s) : Keeps k0 (State.iterWritten s n) := by
  unfold State.iterWritten
  exact (by split; exacts [keeps_showEcl (keeps_setBit hk), (by split; exacts [keeps_showEcl (keeps_setBit hk), keeps_applyIter hk])])
theorem keeps_showPtp {k0 : State} {s : State} {n : Ch} (hk : Keeps k0 s) : Keeps k0 (State.showPtp s n) := by
  unfold State.showPtp
  exact keeps_cintIf (keeps_foldl (keeps_setReg hk) (fun x2_0 x2_1 x2_2 => keeps_setReg x2_2))
theorem keeps_ptpPush {k0 : State} {s : State} {n : Ch} {e : PtpEntry} (hk : Keeps k0 s) : Keeps k0 (State.ptpPush s n e) := by
  unfold State.ptpPush
  exact (by split; exacts [keeps_satInt hk, keeps_showPtp (keeps_mapKtl hk)])
theorem keeps_ptpPop {k0 : State} {s : State} {n : Ch} (hk : Keeps k0 s) : Keeps k0 (State.ptpPop s n) := by
  unfold State.ptpPop
  exact keeps_showPtp (keeps_mapKtl hk)
theorem keeps_ptpPass {k0 : State} {s : State} {n : Ch} {m : PtpMsg} {old : List Byte} {new : List Byte} (hk : Keeps k0 s) : Keeps k0 (State.ptpPass s n m old new) := by
  unfold State.ptpPass
  exact keeps_mapKtl (keeps_wrap32 hk)
theorem keeps_ptpRelay {k0 : State} {s : State} {n : Ch} {o : Ch} {f : List Byte} {m : PtpMsg} {e : Nat} {i : Nat} (hk : Keeps k0 s) : Keeps k0 (State.ptpRelay s n o f m e i) := by
  unfold State.ptpRelay
  exact (by split; exacts [keeps_sat32 hk, (by split; exacts [keeps_ptpPass hk, hk])])
theorem keeps_program {k0 : State} {s : State} {a : Nat} {l : List Byte} (hk : Keeps k0 s) : Keeps k0 (s.program a l) := by
  unfold State.program
  dsimp only
  split
  · exact hk
  · refine keeps_foldl (keeps_with_nvm hk (fun h => Store.putAll_wf _ _ _ h) (fun _ h => h)) (fun t x h => keeps_lifeAdd h)
theorem keeps_showArea {k0 : State} {s : State} (hk : Keeps k0 s) : Keeps k0 (State.showArea s) := by
  unfold State.showArea
  exact keeps_when hk (keeps_intr (keeps_setFld hk))
theorem keeps_showSects {k0 : State} {s : State} (hk : Keeps k0 s) : Keeps k0 (State.showSects s) := by
  unfold State.showSects
  exact keeps_foldl hk (fun x1_0 x1_1 x1_2 => keeps_setReg x1_2)
theorem keeps_fenceSector {k0 : State} {s : State} {k : Nat} (hk : Keeps k0 s) : Keeps k0 (s.fenceSector k) := by
  unfold State.fenceSector
  have h : Keeps k0 { s with nvm := { s.nvm with sectFence := s.nvm.sectFence ||| BitVec.ofNat 128 (2 ^ k) } } := keeps_with_nvm hk id (by intro j h; simp [h])
  split
  · exact hk
  · revert h
    generalize ({ s with nvm := { s.nvm with sectFence := s.nvm.sectFence ||| BitVec.ofNat 128 (2 ^ k) } } : State) = u
    intro h
    exact keeps_showArea (keeps_devFld h)
theorem keeps_mapDiag {k0 : State} {s : State} {n : Ch} {f : DiagSt → DiagSt} (hk : Keeps k0 s) : Keeps k0 (State.mapDiag s n f) := by
  unfold State.mapDiag
  exact keeps_mapChan hk
theorem keeps_publish {k0 : State} {s : State} {n : Ch} {v : DiagView} (hk : Keeps k0 s) : Keeps k0 (State.publish s n v) := by
  unfold State.publish
  exact keeps_cintIf (keeps_cint (keeps_wrap (keeps_setBit (keeps_foldl hk (fun x5_0 x5_1 x5_2 => keeps_setReg x5_2)))))
theorem keeps_holdWritten {k0 : State} {s : State} {n : Ch} (hk : Keeps k0 s) : Keeps k0 (State.holdWritten s n) := by
  unfold State.holdWritten
  exact (by split; exacts [hk, (by split; exacts [(by dsimp only; split; exacts [keeps_publish (keeps_mapDiag hk), keeps_setBit (keeps_publish (keeps_mapDiag hk))]), hk])])
theorem keeps_setProfile {k0 : State} {s : State} {n : Ch} {p : Option Profile} {bad : Bool} {learned : Bool} (hk : Keeps k0 s) : Keeps k0 (State.setProfile s n p bad learned) := by
  unfold State.setProfile
  exact keeps_cintIf (keeps_setReg (keeps_mapDiag hk))
theorem keeps_loadProfile {k0 : State} {s : State} {n : Ch} (hk : Keeps k0 s) : Keeps k0 (State.loadProfile s n) := by
  unfold State.loadProfile
  exact (by dsimp only; split; exacts [keeps_setProfile hk, (by split; exacts [keeps_setProfile hk, (by split; exacts [keeps_setProfile hk, keeps_setProfile hk])])])
theorem keeps_settleLoop {k0 : State} {s : State} {n : Ch} (hk : Keeps k0 s) : Keeps k0 (State.settleLoop s n) := by
  unfold State.settleLoop
  exact (by split; exacts [keeps_retarget (keeps_setOrbitLock (keeps_linkIdle (keeps_dropLink hk))), (by split; exacts [(by split; exacts [keeps_startLoop hk, keeps_linkIdle (keeps_dropLink hk)]), keeps_renegotiate hk])])
theorem keeps_lbWritten {k0 : State} {s : State} {n : Ch} {old : Word} (hk : Keeps k0 s) : Keeps k0 (State.lbWritten s n old) := by
  unfold State.lbWritten
  exact (by dsimp only; split; exacts [(by split; exacts [keeps_showPartner hk, keeps_settleLoop (keeps_showPartner hk)]), (by split; exacts [keeps_settlePair (keeps_settleLoop (keeps_showPartner hk)), keeps_settlePair (keeps_when (keeps_showPartner hk) (keeps_cutHost (keeps_showPartner hk)))])])
theorem keeps_tpWritten {k0 : State} {s : State} {n : Ch} {old : Word} (hk : Keeps k0 s) : Keeps k0 (State.tpWritten s n old) := by
  unfold State.tpWritten
  exact (by dsimp only; split; exacts [keeps_when (keeps_when hk (keeps_mapDiag (keeps_setPatSync hk))) (keeps_mapChan (keeps_when hk (keeps_mapDiag (keeps_setPatSync hk)))), keeps_settlePair (keeps_settleLoop (keeps_when (keeps_when hk (keeps_mapDiag (keeps_setPatSync hk))) (keeps_mapChan (keeps_when hk (keeps_mapDiag (keeps_setPatSync hk))))))])
theorem keeps_checkSymbol {k0 : State} {s : State} {n : Ch} {ok : Bool} (hk : Keeps k0 s) : Keeps k0 (State.checkSymbol s n ok) := by
  unfold State.checkSymbol
  exact (by dsimp only; split; exacts [(by split; exacts [(by split; exacts [(by split; exacts [keeps_mapDiag (keeps_setPatSync (keeps_when (keeps_mapDiag hk) (keeps_sat32 (keeps_mapDiag hk)))), keeps_when (keeps_mapDiag hk) (keeps_sat32 (keeps_mapDiag hk))]), (by split; exacts [keeps_mapDiag (keeps_setPatSync (keeps_when (keeps_mapDiag hk) (keeps_sat32 (keeps_mapDiag hk)))), keeps_when (keeps_mapDiag hk) (keeps_sat32 (keeps_mapDiag hk))])]), (by split; exacts [(by split; exacts [keeps_mapDiag (keeps_setPatSync (keeps_when (keeps_mapDiag hk) (keeps_sat32 (keeps_mapDiag hk)))), keeps_when (keeps_mapDiag hk) (keeps_sat32 (keeps_mapDiag hk))]), (by split; exacts [keeps_mapDiag (keeps_setPatSync (keeps_when (keeps_mapDiag hk) (keeps_sat32 (keeps_mapDiag hk)))), keeps_when (keeps_mapDiag hk) (keeps_sat32 (keeps_mapDiag hk))])])]), (by split; exacts [(by split; exacts [(by split; exacts [keeps_mapDiag (keeps_setPatSync (keeps_when (keeps_mapDiag hk) (keeps_sat32 (keeps_mapDiag hk)))), keeps_when (keeps_mapDiag hk) (keeps_sat32 (keeps_mapDiag hk))]), (by split; exacts [keeps_mapDiag (keeps_setPatSync (keeps_when (keeps_mapDiag hk) (keeps_sat32 (keeps_mapDiag hk)))), keeps_when (keeps_mapDiag hk) (keeps_sat32 (keeps_mapDiag hk))])]), (by split; exacts [(by split; exacts [keeps_mapDiag (keeps_setPatSync (keeps_when (keeps_mapDiag hk) (keeps_sat32 (keeps_mapDiag hk)))), keeps_when (keeps_mapDiag hk) (keeps_sat32 (keeps_mapDiag hk))]), (by split; exacts [keeps_mapDiag (keeps_setPatSync (keeps_when (keeps_mapDiag hk) (keeps_sat32 (keeps_mapDiag hk)))), keeps_when (keeps_mapDiag hk) (keeps_sat32 (keeps_mapDiag hk))])])])])
theorem keeps_checkGroup {k0 : State} {s : State} {n : Ch} {l : List Int} {got : Option (List Bool)} (hk : Keeps k0 s) : Keeps k0 (State.checkGroup s n l got) := by
  unfold State.checkGroup
  exact keeps_foldl (keeps_mapDiag hk) (fun x1_0 x1_1 x1_2 => keeps_checkSymbol x1_2)
theorem keeps_patTakes {k0 : State} {s : State} {n : Ch} {v : Int} (hk : Keeps k0 s) : Keeps k0 (State.patTakes s n v) := by
  unfold State.patTakes
  exact (by split; exacts [keeps_checkGroup hk, (by split; exacts [keeps_checkGroup (keeps_mapDiag hk), keeps_mapDiag hk])])
theorem postedPush {s : State} {w : PostedWrite} {a : Nat} (hw : w.addr = a) (hlt : (s.postedIn (pdomAt a)).length < 8) (q : PDom) :
    ((s.posted ++ [w]).filter (fun w => pdomAt w.addr == q)).length ≤ max 8 (s.posted.filter (fun w => pdomAt w.addr == q)).length := by
  rw [List.filter_append, List.length_append]
  by_cases hq : pdomAt a = q
  · subst hq
    unfold State.postedIn at hlt
    simp only [List.filter_cons, List.filter_nil, hw, beq_self_eq_true, if_true, List.length_cons, List.length_nil]
    omega
  · have : (pdomAt w.addr == q) = false := by simp [hw, hq]
    simp only [List.filter_cons, this, List.filter_nil]
    simp
theorem keeps_postOwn {k0 : State} {s : State} {o : Origin} {a : Nat} {d : Word} {keep : Word} (hk : Keeps k0 s) : Keeps k0 (State.postOwn s o a d keep) := by
  unfold State.postOwn
  dsimp only
  split
  · exact keeps_mk hk rfl rfl rfl rfl rfl rfl rfl rfl rfl rfl rfl rfl rfl rfl rfl rfl
  · rename_i hlt
    simp only [Bool.or_eq_true, decide_eq_true_eq, not_or, not_le] at hlt
    exact keeps_posted hk (postedPush rfl hlt.1)
theorem keeps_discardAt {k0 : State} {s : State} {p : Nat → Bool} (hk : Keeps k0 s) : Keeps k0 (s.discardAt p) := by
  unfold State.discardAt
  dsimp only
  refine keeps_foldl (keeps_posted hk ?_) (fun t x h => keeps_jAppend h)
  intro q
  have : ((s.posted.filter (fun w => !p w.addr)).filter (fun w => pdomAt w.addr == q)).length ≤ (s.posted.filter (fun w => pdomAt w.addr == q)).length := by
    exact (List.Sublist.filter _ List.filter_sublist).length_le
  omega
theorem keeps_discardPosted {k0 : State} {s : State} {p : PDom → Bool} (hk : Keeps k0 s) : Keeps k0 (State.discardPosted s p) := by
  unfold State.discardPosted
  exact keeps_discardAt hk
theorem keeps_takeRetained {k0 : State} {s : State} {n : Ch} {k : Fin 3} (hk : Keeps k0 s) : Keeps k0 (s.takeRetained n k) :=
  hk.trans ⟨rfl, rfl, fun _ h => h, fun ⟨a, b, c, d, e, f, g, i⟩ => ⟨a, b, Store.putAll_wf _ _ _ (Store.keep_wf _ _ _ c), d, e, f, g, i⟩,
    fun ⟨a, b, c, d, e⟩ => ⟨a, b, c, d, e⟩⟩
theorem keeps_moonKeep {a s : State} {p : Nat → Bool} (h : Keeps a s) : Keeps a { s with moon := Store.keep p s.moon } :=
  h.trans ⟨rfl, rfl, fun _ h => h, fun ⟨a, b, c, d, e, f, g, i⟩ => ⟨a, Store.keep_wf _ _ _ b, c, d, e, f, g, i⟩,
    fun ⟨a, b, c, d, e⟩ => ⟨a, b, c, d, e⟩⟩
theorem keeps_moonSnap {a s : State} {p q : Nat → Bool} (h : Keeps a s) : Keeps a { s with moon := Store.keep p s.moon, snap := Store.keep q s.snap } :=
  h.trans ⟨rfl, rfl, fun _ h => h, fun ⟨a, b, c, d, e, f, g, i⟩ => ⟨a, Store.keep_wf _ _ _ b, c, Store.keep_wf _ _ _ d, e, f, g, i⟩,
    fun ⟨a, b, c, d, e⟩ => ⟨a, b, c, d, e⟩⟩
theorem keeps_clearDom {k0 : State} {s : State} {n : Ch} {k : Fin 3} {kept : Bool} (hk : Keeps k0 s) : Keeps k0 (s.clearDom n k kept) := by
  unfold State.clearDom
  exact keeps_mirrorRly (keeps_moonKeep (keeps_keepRegs hk))
theorem keeps_bringUp {k0 : State} {s : State} {n : Ch} (hk : Keeps k0 s) : Keeps k0 (State.bringUp s n) := by
  unfold State.bringUp
  exact (by dsimp only; split; exacts [(by split; exacts [keeps_startLoop hk, hk]), (by split; exacts [keeps_startResume (keeps_mapChan hk), keeps_settleLink hk])])
theorem keeps_drainChan {k0 : State} {s : State} {n : Ch} {l : List ChPage} (hk : Keeps k0 s) : Keeps k0 (State.drainChan s n l) := by
  unfold State.drainChan
  exact (by dsimp only; split; exacts [keeps_mapChan (keeps_sat32 (keeps_enterDrain hk)), keeps_enterDrain hk])
theorem keeps_tellPair {k0 : State} {s : State} {n : Ch} (hk : Keeps k0 s) : Keeps k0 (State.tellPair s n) := by
  unfold State.tellPair
  exact keeps_showPartner (keeps_showPartner (keeps_settlePair hk))
theorem keeps_dspLeft {k0 : State} {s : State} {n : Ch} (hk : Keeps k0 s) : Keeps k0 (State.dspLeft s n) := by
  unfold State.dspLeft
  exact keeps_when (keeps_tellPair (keeps_endJobsOf (keeps_showForced (keeps_setBit (keeps_clearDom (keeps_mapChan (keeps_drainChan (by split; exacts [keeps_takeRetained (keeps_discardPosted (keeps_discardFlight (keeps_settleLink hk))), keeps_discardPosted (keeps_discardFlight (keeps_settleLink hk))])))))))) (keeps_settleGroup (keeps_tellPair (keeps_endJobsOf (keeps_showForced (keeps_setBit (keeps_clearDom (keeps_mapChan (keeps_drainChan (by split; exacts [keeps_takeRetained (keeps_discardPosted (keeps_discardFlight (keeps_settleLink hk))), keeps_discardPosted (keeps_discardFlight (keeps_settleLink hk))])))))))))
theorem keeps_afeLeft {k0 : State} {s : State} {n : Ch} (hk : Keeps k0 s) : Keeps k0 (State.afeLeft s n) := by
  unfold State.afeLeft
  exact keeps_foldl (keeps_clearDom (keeps_drainChan (by split; exacts [keeps_takeRetained (keeps_discardPosted (keeps_settleLink hk)), keeps_discardPosted (keeps_settleLink hk)]))) (fun x1_0 x1_1 x1_2 => (by dsimp only; split; exacts [keeps_endJob x1_2, x1_2]))
theorem keeps_hlLeft {k0 : State} {s : State} {n : Ch} (hk : Keeps k0 s) : Keeps k0 (State.hlLeft s n) := by
  unfold State.hlLeft
  exact keeps_settleLink (keeps_cintIf (keeps_setBit (keeps_clearDom (keeps_mapChan (keeps_drainChan (by split; exacts [keeps_takeRetained hk, hk]))))))
theorem keeps_dspOn {k0 : State} {s : State} {n : Ch} (hk : Keeps k0 s) : Keeps k0 (State.dspOn s n) := by
  unfold State.dspOn
  exact keeps_bringUp (keeps_tellPair (keeps_showEngine (keeps_showForced (keeps_foldl (keeps_mapChan hk) (fun x5_0 x5_1 x5_2 => (by split; exacts [keeps_fenceUnit x5_2, x5_2]))))))
theorem keeps_domArrive {k0 : State} {s : State} {n : Ch} {k : Fin 3} {t : PState} (hk : Keeps k0 s) : Keeps k0 (State.domArrive s n k t) := by
  unfold State.domArrive
  exact keeps_showNf (keeps_showPwr (by split; exacts [(by split; exacts [keeps_dspLeft (keeps_intr (keeps_mapDom hk)), keeps_afeLeft (keeps_intr (keeps_mapDom hk)), keeps_hlLeft (keeps_intr (keeps_mapDom hk))]), (by split; exacts [(by split; exacts [keeps_dspOn (keeps_intr (keeps_mapDom hk)), keeps_bringUp (keeps_trimOn (keeps_intr (keeps_mapDom hk))), keeps_bringUp (keeps_intr (keeps_mapDom hk))]), (by split; exacts [keeps_clearDom (keeps_mapChan (keeps_intr (keeps_mapDom hk))), keeps_clearDom (keeps_intr (keeps_mapDom hk))])])]))
theorem keeps_settleDom {k0 : State} {s : State} {n : Ch} {k : Fin 3} (hk : Keeps k0 s) : Keeps k0 (State.settleDom s n k) := by
  unfold State.settleDom
  exact (by dsimp only; split; exacts [hk, (by split; exacts [(by split; exacts [hk, (by split; exacts [keeps_mapDom hk, keeps_settleLink (keeps_mapDom hk)])]), (by split; exacts [(by split; exacts [hk, keeps_mapDom hk]), hk])])])
theorem keeps_settlePower {k0 : State} {s : State} {n : Ch} (hk : Keeps k0 s) : Keeps k0 (State.settlePower s n) := by
  unfold State.settlePower
  exact keeps_showPwr (keeps_settleDom (keeps_settleDom (keeps_settleDom (keeps_settleDom (keeps_settleDom hk)))))
theorem keeps_cancelTest {k0 : State} {s : State} {n : Ch} {k : Fin 3} (hk : Keeps k0 s) : Keeps k0 (State.cancelTest s n k) := by
  unfold State.cancelTest
  exact (by dsimp only; split; exacts [hk, (by split; exacts [keeps_bringUp (keeps_endJob hk), keeps_bringUp (keeps_mapDom (keeps_setBit (keeps_showJobs (keeps_with_jobs hk))))])])
theorem keeps_powerWritten {k0 : State} {s : State} {n : Ch} (hk : Keeps k0 s) : Keeps k0 (State.powerWritten s n) := by
  unfold State.powerWritten
  exact keeps_settlePower (keeps_cancelTest (keeps_cancelTest (keeps_cancelTest (keeps_mapChan hk))))
theorem keeps_showNvm {k0 : State} {s : State} (hk : Keeps k0 s) : Keeps k0 (State.showNvm s) := by
  unfold State.showNvm
  exact keeps_when (keeps_setReg hk) (keeps_setReg (keeps_with_life (keeps_setReg hk)))
theorem keeps_settleNvm {k0 : State} {s : State} (hk : Keeps k0 s) : Keeps k0 (State.settleNvm s) := by
  unfold State.settleNvm
  exact (by dsimp only; split; exacts [(by split; exacts [keeps_showNvm hk, keeps_showNvm (keeps_with_nvmDom hk)]), (by split; exacts [keeps_showNvm hk, keeps_showNvm (keeps_with_nvmDom hk)])])
theorem keeps_nvmReqWritten {k0 : State} {s : State} (hk : Keeps k0 s) : Keeps k0 (State.nvmReqWritten s) := by
  unfold State.nvmReqWritten
  exact keeps_settleNvm (keeps_with_nvmDom hk)
theorem keeps_clkInt {k0 : State} {s : State} {i : Nat} (hk : Keeps k0 s) : Keeps k0 (State.clkInt s i) := by
  unfold State.clkInt
  exact keeps_intr hk
theorem keeps_clkFault {k0 : State} {s : State} {i : Nat} (hk : Keeps k0 s) : Keeps k0 (State.clkFault s i) := by
  unfold State.clkFault
  exact keeps_when (keeps_recordFault hk) (keeps_selectFault (keeps_recordFault hk))
theorem keeps_mapClk {k0 : State} {s : State} {f : Clk → Clk} (hk : Keeps k0 s) : Keeps k0 (State.mapClk s f) := by
  unfold State.mapClk
  exact keeps_with_clk hk
theorem keeps_setJudge {k0 : State} {s : State} {st : Nat} (hk : Keeps k0 s) : Keeps k0 (State.setJudge s st) := by
  unfold State.setJudge
  exact keeps_setFld hk
theorem keeps_setCross {k0 : State} {s : State} {v : Bool} (hk : Keeps k0 s) : Keeps k0 (State.setCross s v) := by
  unfold State.setCross
  exact keeps_when hk (keeps_clkInt (keeps_setBit hk))
theorem keeps_startJudging {k0 : State} {s : State} (hk : Keeps k0 s) : Keeps k0 (State.startJudging s) := by
  unfold State.startJudging
  exact keeps_setJudge (keeps_mapClk hk)
theorem keeps_setXb {k0 : State} {s : State} {v : Bool} (hk : Keeps k0 s) : Keeps k0 (State.setXb s v) := by
  unfold State.setXb
  exact (by dsimp only; split; exacts [keeps_mapClk (keeps_setBit hk), keeps_setCross (keeps_mapClk (keeps_setBit hk))])
theorem keeps_cpllDown {k0 : State} {s : State} {n : Ch} (hk : Keeps k0 s) : Keeps k0 (State.cpllDown s n) := by
  unfold State.cpllDown
  exact keeps_when (keeps_showPartner (keeps_showPartner (keeps_showEngine (keeps_discardPosted (keeps_discardFlight (keeps_settleLink (keeps_showForced (keeps_setBit (keeps_mapChan (keeps_drainChan hk)))))))))) (keeps_settleGroup (keeps_showPartner (keeps_showPartner (keeps_showEngine (keeps_discardPosted (keeps_discardFlight (keeps_settleLink (keeps_showForced (keeps_setBit (keeps_mapChan (keeps_drainChan hk)))))))))))
theorem keeps_cpllLoss {k0 : State} {s : State} {n : Ch} (hk : Keeps k0 s) : Keeps k0 (State.cpllLoss s n) := by
  unfold State.cpllLoss
  exact (by split; exacts [keeps_cpllDown (keeps_detectCh (keeps_fldInt hk)), (by split; exacts [keeps_cpllDown hk, hk])])
theorem keeps_hpllLoss {k0 : State} {s : State} {n : Ch} (hk : Keeps k0 s) : Keeps k0 (State.hpllLoss s n) := by
  unfold State.hpllLoss
  exact (by split; exacts [keeps_showLf (keeps_setBit (keeps_setBit (keeps_mapChan (keeps_drainChan (keeps_detectCh (keeps_fldInt hk)))))), hk])
theorem keeps_setOut {k0 : State} {s : State} {k : Fin 2} {ramp : Bool} {low : Bool} (hk : Keeps k0 s) : Keeps k0 (State.setOut s k ramp low) := by
  unfold State.setOut
  exact keeps_when hk (keeps_clkInt (keeps_setReg hk))
theorem keeps_setOpll {k0 : State} {s : State} {k : Fin 2} {l : Loop} (hk : Keeps k0 s) : Keeps k0 (State.setOpll s k l) := by
  unfold State.setOpll
  exact keeps_setBit (keeps_mapClk hk)
theorem keeps_relockOut {k0 : State} {s : State} {k : Fin 2} {hard : Bool} (hk : Keeps k0 s) : Keeps k0 (State.relockOut s k hard) := by
  unfold State.relockOut
  exact keeps_setOut (keeps_setOpll hk)
theorem keeps_setRel {k0 : State} {s : State} {k : Fin 2} {x : Rat} (hk : Keeps k0 s) : Keeps k0 (State.setRel s k x) := by
  unfold State.setRel
  exact keeps_mapClk hk
theorem keeps_slewOut {k0 : State} {s : State} {k : Fin 2} (hk : Keeps k0 s) : Keeps k0 (State.slewOut s k) := by
  unfold State.slewOut
  exact (by dsimp only; split; exacts [hk, keeps_setRel hk])
theorem keeps_relockOuts {k0 : State} {s : State} {src : Bool} (hk : Keeps k0 s) : Keeps k0 (State.relockOuts s src) := by
  unfold State.relockOuts
  exact keeps_foldl hk (fun x1_0 x1_1 x1_2 => (by split; exacts [keeps_relockOut x1_2, x1_2]))
theorem keeps_spllLoss {k0 : State} {s : State} (hk : Keeps k0 s) : Keeps k0 (State.spllLoss s) := by
  unfold State.spllLoss
  exact (by split; exacts [keeps_relockOuts (keeps_forCh (keeps_clkFault (keeps_when (keeps_sat (keeps_setBit (keeps_setBit (keeps_mapClk hk)))) (keeps_clkInt (keeps_sat (keeps_setBit (keeps_setBit (keeps_mapClk hk))))))) (fun x3_0 x3_1 x3_2 => keeps_hpllLoss (keeps_cpllLoss x3_2))), hk])
theorem keeps_moveRef {k0 : State} {s : State} {r : Nat} (hk : Keeps k0 s) : Keeps k0 (State.moveRef s r) := by
  unfold State.moveRef
  exact keeps_devFld (keeps_fldInt hk)
theorem keeps_refFails {k0 : State} {s : State} {xb : Bool} (hk : Keeps k0 s) : Keeps k0 (State.refFails s xb) := by
  unfold State.refFails
  exact (by dsimp only; split; exacts [(by split; exacts [keeps_when (keeps_mapClk (keeps_moveRef (keeps_spllLoss (keeps_setXb (keeps_clkFault hk))))) (keeps_setJudge (keeps_mapClk (keeps_moveRef (keeps_spllLoss (keeps_setXb (keeps_clkFault hk)))))), keeps_spllLoss (keeps_setXb (keeps_clkFault hk))]), (by split; exacts [keeps_when (keeps_mapClk (keeps_moveRef (keeps_spllLoss (keeps_mapClk (keeps_startJudging (keeps_setBit (keeps_setBit (keeps_clkFault hk)))))))) (keeps_setJudge (keeps_mapClk (keeps_moveRef (keeps_spllLoss (keeps_mapClk (keeps_startJudging (keeps_setBit (keeps_setBit (keeps_clkFault hk))))))))), keeps_spllLoss (keeps_mapClk (keeps_startJudging (keeps_setBit (keeps_setBit (keeps_clkFault hk)))))])])
theorem keeps_attemptFails {k0 : State} {s : State} {cause : Nat} (hk : Keeps k0 s) : Keeps k0 (State.attemptFails s cause) := by
  unfold State.attemptFails
  exact keeps_setJudge (keeps_mapClk (keeps_setFld (keeps_fldInt hk)))
theorem keeps_attemptPasses {k0 : State} {s : State} {crossed : Bool} (hk : Keeps k0 s) : Keeps k0 (State.attemptPasses s crossed) := by
  unfold State.attemptPasses
  exact (by dsimp only; split; exacts [(by split; exacts [keeps_spllLoss (keeps_moveRef (keeps_setJudge (keeps_mapClk (keeps_setBit (keeps_setBit hk))))), keeps_setJudge (keeps_mapClk (keeps_setBit (keeps_setBit hk)))]), keeps_setFld (keeps_setJudge (keeps_mapClk (keeps_setBit (keeps_setBit hk))))])
theorem keeps_setPll {k0 : State} {s : State} {p : Pll} {l : Loop} (hk : Keeps k0 s) : Keeps k0 (State.setPll s p l) := by
  unfold State.setPll
  exact (by split; exacts [keeps_mapClk hk, keeps_with_tk hk, keeps_mapChan hk, keeps_mapChan hk, keeps_setOpll hk])
theorem keeps_gateOpens {k0 : State} {s : State} {p : Pll} (hk : Keeps k0 s) : Keeps k0 (State.gateOpens s p) := by
  unfold State.gateOpens
  exact (by split; exacts [keeps_setJudge (keeps_mapClk (keeps_clkInt (keeps_setBit (keeps_setBit hk)))), keeps_with_tk hk, (by dsimp only; split; exacts [keeps_startFast (keeps_showPartner (keeps_showPartner (keeps_showEngine (keeps_showForced (keeps_setBit (keeps_mapChan hk)))))), keeps_bringUp (keeps_showPartner (keeps_showPartner (keeps_showEngine (keeps_showForced (keeps_setBit (keeps_mapChan hk))))))]), keeps_showLf (keeps_bringUp (keeps_setBit (keeps_setBit hk))), (by dsimp only; split; exacts [keeps_when hk (keeps_setRel hk), keeps_setOut (keeps_when hk (keeps_setRel hk))])])
theorem keeps_outWritten {k0 : State} {s : State} {k : Fin 2} {old : Word} (hk : Keeps k0 s) : Keeps k0 (State.outWritten s k old) := by
  unfold State.outWritten
  exact (by dsimp only; split; exacts [keeps_setOut (keeps_setOpll hk), (by split; exacts [keeps_relockOut hk, (by split; exacts [keeps_relockOut hk, hk])])])
theorem keeps_clearWindow {k0 : State} {s : State} {g : Tg} (hk : Keeps k0 s) : Keeps k0 (State.clearWindow s g) := by
  unfold State.clearWindow
  exact keeps_mapGroup (keeps_forCh hk (fun x2_0 x2_1 x2_2 => (by split; exacts [keeps_mapKtl x2_2, x2_2])))
theorem keeps_judgeLock {k0 : State} {s : State} {g : Tg} {e : Rat} (hk : Keeps k0 s) : Keeps k0 (State.judgeLock s g e) := by
  unfold State.judgeLock
  with_reducible (repeat' first | exact hk | assumption | apply keeps_enterGrp | apply keeps_mapGroup | exact id | exact fun _ h => h | split | dsimp only | intro _)
theorem keeps_steer {k0 : State} {s : State} {g : Tg} {e : Rat} (hk : Keeps k0 s) : Keeps k0 (State.steer s g e) := by
  unfold State.steer
  exact keeps_judgeLock (keeps_showRate (by split; exacts [keeps_stepTime (keeps_mapGroup (keeps_setReg hk)), keeps_mapGroup (keeps_setReg hk)]))
theorem keeps_takeSrc {k0 : State} {s : State} {g : Tg} (hk : Keeps k0 s) : Keeps k0 (State.takeSrc s g) := by
  unfold State.takeSrc
  exact keeps_settleGroup (keeps_mapGroup hk)
theorem keeps_declare {k0 : State} {s : State} {g : Tg} (hk : Keeps k0 s) : Keeps k0 (State.declare s g) := by
  unfold State.declare
  exact keeps_settleGroup (keeps_intr (keeps_mapGroup (keeps_setGrp (keeps_sat hk))))
theorem keeps_showPps {k0 : State} {s : State} (hk : Keeps k0 s) : Keeps k0 (State.showPps s) := by
  unfold State.showPps
  exact keeps_setFld (keeps_setFld (keeps_setReg (keeps_setFld (keeps_setReg hk))))
theorem keeps_ppsMiss {k0 : State} {s : State} {k : Fin 2} (hk : Keeps k0 s) : Keeps k0 (State.ppsMiss s k) := by
  unfold State.ppsMiss
  exact (by split; exacts [keeps_fldInt hk, keeps_fldInt hk])
theorem keeps_showTap {k0 : State} {s : State} {n : Ch} (hk : Keeps k0 s) : Keeps k0 (State.showTap s n) := by
  unfold State.showTap
  exact keeps_setReg hk
theorem keeps_showCorr {k0 : State} {s : State} {n : Ch} (hk : Keeps k0 s) : Keeps k0 (State.showCorr s n) := by
  unfold State.showCorr
  exact keeps_setReg hk
theorem keeps_showCh {k0 : State} {s : State} {n : Ch} (hk : Keeps k0 s) : Keeps k0 (State.showCh s n) := by
  unfold State.showCh
  exact keeps_when (keeps_when hk (keeps_setBit (keeps_setBit (keeps_setFld (keeps_showTap hk))))) (keeps_showCorr (keeps_when hk (keeps_setBit (keeps_setBit (keeps_setFld (keeps_showTap hk))))))
theorem keeps_showLive {k0 : State} {s : State} (hk : Keeps k0 s) : Keeps k0 (State.showLive s) := by
  unfold State.showLive
  exact keeps_forCh hk (fun x1_0 x1_1 x1_2 => keeps_showCh x1_2)
theorem keeps_mapTk {k0 : State} {s : State} {f : Tk → Tk} (hk : Keeps k0 s) : Keeps k0 (State.mapTk s f) := by
  unfold State.mapTk
  exact keeps_with_tk hk
theorem keeps_tkInt {k0 : State} {s : State} {i : Nat} (hk : Keeps k0 s) : Keeps k0 (State.tkInt s i) := by
  unfold State.tkInt
  exact keeps_intr hk
theorem keeps_advance {k0 : State} {s : State} (hk : Keeps k0 s) : Keeps k0 (State.advance s) := by
  unfold State.advance
  exact (by split; exacts [keeps_with_groups hk, hk])
theorem keeps_capAsked {k0 : State} {s : State} {d : Word} (hk : Keeps k0 s) : Keeps k0 (State.capAsked s d) := by
  unfold State.capAsked
  exact keeps_when hk (keeps_mapTk hk)
theorem keeps_timeTurned {k0 : State} {s : State} (hk : Keeps k0 s) : Keeps k0 (State.timeTurned s) := by
  unfold State.timeTurned
  exact keeps_tkInt (keeps_setBit hk)
theorem keeps_showLeap {k0 : State} {s : State} (hk : Keeps k0 s) : Keeps k0 (State.showLeap s) := by
  unfold State.showLeap
  exact keeps_setReg (keeps_setReg (keeps_setReg (keeps_setReg (keeps_setReg (by split; exacts [(by split; exacts [keeps_tkInt (keeps_devFld (keeps_setBit hk)), keeps_setBit hk]), keeps_setBit hk])))))
theorem keeps_timeDone {k0 : State} {s : State} {g : Tg} {op : Nat} (hk : Keeps k0 s) : Keeps k0 (State.timeDone s g op) := by
  unfold State.timeDone
  exact (by split; exacts [hk, keeps_showLeap (keeps_settleGroup (keeps_stepTime (keeps_setBit (keeps_tkInt (keeps_wrap (keeps_setBit (keeps_when hk (keeps_mapGroup hk))))))))])
theorem keeps_leapDone {k0 : State} {s : State} {op : Nat} (hk : Keeps k0 s) : Keeps k0 (State.leapDone s op) := by
  unfold State.leapDone
  exact (by split; exacts [keeps_showLeap (keeps_mapTk hk), keeps_showLeap (keeps_mapTk hk), keeps_showLeap (keeps_mapTk hk), hk])
theorem keeps_alarmTry {k0 : State} {s : State} {a : Nat} (hk : Keeps k0 s) : Keeps k0 (State.alarmTry s a) := by
  unfold State.alarmTry
  exact (by split; exacts [keeps_when (keeps_tkInt (keeps_wrap32 hk)) (keeps_devFld (keeps_tkInt (keeps_wrap32 hk))), hk])
theorem keeps_tkxMissed {k0 : State} {s : State} (hk : Keeps k0 s) : Keeps k0 (State.tkxMissed s) := by
  unfold State.tkxMissed
  exact keeps_mapTk (keeps_sat hk)
theorem keeps_tkxFound {k0 : State} {s : State} {k : Nat} (hk : Keeps k0 s) : Keeps k0 (State.tkxFound s k) := by
  unfold State.tkxFound
  exact (by dsimp only; split; exacts [keeps_relockOuts (keeps_mapTk (keeps_tkInt (keeps_setFld (keeps_setBit hk)))), keeps_setBit (keeps_mapTk (keeps_tkInt (keeps_setFld (keeps_setBit hk))))])
theorem keeps_tkxFault {k0 : State} {s : State} (hk : Keeps k0 s) : Keeps k0 (State.tkxFault s) := by
  unfold State.tkxFault
  exact keeps_when (keeps_recordFault hk) (keeps_selectFault (keeps_recordFault hk))
theorem keeps_mapLife {k0 : State} {s : State} {f : Life → Life} (hk : Keeps k0 s) : Keeps k0 (State.mapLife s f) := by
  unfold State.mapLife
  exact keeps_with_life hk
theorem keeps_heatSeconds {k0 : State} {s : State} (hk : Keeps k0 s) : Keeps k0 (State.heatSeconds s) := by
  unfold State.heatSeconds
  exact (by split; exacts [hk, keeps_forCh (keeps_foldl hk (fun x3_0 x3_1 x3_2 => keeps_lifeAdd x3_2)) (fun x2_0 x2_1 x2_2 => keeps_when x2_2 (keeps_lifeAdd x2_2))])
theorem keeps_showHist {k0 : State} {s : State} (hk : Keeps k0 s) : Keeps k0 (State.showHist s) := by
  unfold State.showHist
  exact keeps_foldl hk (fun x1_0 x1_1 x1_2 => keeps_showLife x1_2)
theorem keeps_showWear {k0 : State} {s : State} (hk : Keeps k0 s) : Keeps k0 (State.showWear s) := by
  unfold State.showWear
  exact keeps_showLife hk
theorem keeps_showTotals {k0 : State} {s : State} (hk : Keeps k0 s) : Keeps k0 (State.showTotals s) := by
  unfold State.showTotals
  exact keeps_foldl (keeps_setReg (keeps_setReg hk)) (fun x1_0 x1_1 x1_2 => keeps_showLife x1_2)
theorem keeps_loadLedger {k0 : State} {s : State} (hk : Keeps k0 s) : Keeps k0 (State.loadLedger s) := by
  unfold State.loadLedger
  exact (by split; exacts [keeps_showTotals (keeps_intr (keeps_setReg (keeps_setReg (keeps_mapLife hk)))), keeps_showTotals (keeps_when (keeps_setReg (keeps_setReg (keeps_setReg (keeps_setReg (keeps_mapLife hk))))) (keeps_intr (keeps_setReg (keeps_setReg (keeps_setReg (keeps_setReg (keeps_mapLife hk)))))))])
theorem keeps_askLedger {k0 : State} {s : State} (hk : Keeps k0 s) : Keeps k0 (State.askLedger s) := by
  unfold State.askLedger
  exact (by split; exacts [hk, keeps_devRequest hk])
theorem keeps_trendSelected {k0 : State} {s : State} (hk : Keeps k0 s) : Keeps k0 (State.trendSelected s) := by
  unfold State.trendSelected
  exact (by split; exacts [keeps_mapLife (keeps_setReg hk), keeps_mapLife (keeps_setReg hk)])
theorem keeps_mapJrnl {a s : State} {f : Jrnl → Jrnl} (h : Keeps a s) (h1 : s.jrnl.ring.length ≤ ringSize → (f s.jrnl).ring.length ≤ ringSize)
    (h2 : s.jrnl.tokens ≤ 8 → (f s.jrnl).tokens ≤ 8) : Keeps a (s.mapJrnl f) := keeps_with_jrnl h h1 h2
theorem keeps_gapEntry {k0 : State} {s : State} {q : Word} {k : Word} (hk : Keeps k0 s) : Keeps k0 (State.gapEntry s q k) := by
  unfold State.gapEntry
  exact keeps_with_host (keeps_intr (keeps_jAppend hk))
theorem keeps_gapRecord {k0 : State} {s : State} {q : Word} {k : Nat} (hk : Keeps k0 s) : Keeps k0 (State.gapRecord s q k) := by
  unfold State.gapRecord
  exact keeps_mapJrnl (keeps_gapEntry hk) id id
theorem keeps_gapsBefore {k0 : State} {s : State} (hk : Keeps k0 s) : Keeps k0 (State.gapsBefore s) := by
  unfold State.gapsBefore
  exact (by dsimp only; split; exacts [(by split; exacts [keeps_gapRecord hk, hk]), (by split; exacts [hk, keeps_gapRecord hk])])
theorem keeps_commitPage {k0 : State} {s : State} (hk : Keeps k0 s) : Keeps k0 (State.commitPage s) := by
  unfold State.commitPage
  with_reducible (repeat' first | exact hk | assumption | apply keeps_when | apply keeps_mapJrnl | apply keeps_program | apply keeps_gapsBefore | apply keeps_setBit | exact id | exact fun _ h => h | split | dsimp only | intro _)
  all_goals first | exact le_trans (Nat.sub_le _ _) ‹_› | exact fun h => le_trans (Nat.sub_le _ _) h
theorem keeps_journalJob {k0 : State} {s : State} {k : Fin 8} (hk : Keeps k0 s) : Keeps k0 (State.journalJob s k) := by
  unfold State.journalJob
  exact keeps_endJob (by split; exacts [keeps_commitPage hk, hk])
theorem keeps_showEntry {k0 : State} {s : State} {e : Option (BitVec 256)} (hk : Keeps k0 s) : Keeps k0 (State.showEntry s e) := by
  unfold State.showEntry
  exact keeps_setReg (keeps_foldl hk (fun x2_0 x2_1 x2_2 => keeps_setReg x2_2))
theorem keeps_loadEntry {k0 : State} {s : State} (hk : Keeps k0 s) : Keeps k0 (State.loadEntry s) := by
  unfold State.loadEntry
  exact (by dsimp only; split; exacts [(by split; exacts [keeps_mapJrnl (keeps_setReg (keeps_showEntry (keeps_mapJrnl hk id id))) id id, keeps_showEntry (keeps_mapJrnl hk id id)]), (by split; exacts [keeps_showEntry (keeps_mapJrnl hk id id), keeps_showEntry (keeps_mapJrnl hk id id)])])
theorem keeps_nextEntry {k0 : State} {s : State} (hk : Keeps k0 s) : Keeps k0 (State.nextEntry s) := by
  unfold State.nextEntry
  exact (by split; exacts [keeps_loadEntry (keeps_setReg hk), hk])
theorem keeps_newRing {k0 : State} {s : State} (hk : Keeps k0 s) : Keeps k0 s.newRing :=
  keeps_gapEntry (keeps_with_jrnl hk (fun _ => Nat.zero_le _) (fun _ => Nat.zero_le _))
theorem keeps_loadLeap {k0 : State} {s : State} (hk : Keeps k0 s) : Keeps k0 (State.loadLeap s) := by
  unfold State.loadLeap
  exact keeps_showLeap (keeps_mapTk hk)
theorem keeps_nvmEffect_some {k0 s t : State} {typ : Byte} {a : Nat} (he : s.nvmEffect typ a = some t) (hk : Keeps k0 s) : Keeps k0 t := by
  have hs : Keeps k0 { s.nvm.staged.foldl (fun (s : State) w => s.program (areaUser + w.1) (beBytes 4 w.2.toNat)) s with
      nvm := { (s.nvm.staged.foldl (fun (s : State) w => s.program (areaUser + w.1) (beBytes 4 w.2.toNat)) s).nvm with staged := [] } } :=
    keeps_with_nvm (keeps_foldl hk (fun t x h => keeps_program h)) id (fun _ h => h)
  unfold State.nvmEffect at he
  generalize Fin.ofNat 16 a = n at he
  split at he
  · split at he <;> (injection he with he; subst he)
    · exact keeps_loadLeap hk
    · exact keeps_loadProfile hk
  split at he
  · split at he
    · injection he with he; subst he; exact hs
    · simp at he
  split at he
  · split at he
    · simp at he
    · injection he with he; subst he; exact keeps_program hk
  split at he
  · split at he
    · simp at he
    · injection he with he; subst he; exact keeps_program hk
  dsimp only at he
  split at he
  · simp at he
  · injection he with he; subst he; exact keeps_program (keeps_setProfile hk)
theorem keeps_nvmWork {k0 : State} {s : State} {k : Fin 8} {fault : Bool} (hk : Keeps k0 s) : Keeps k0 (s.nvmWork k fault) := by
  unfold State.nvmWork
  split
  · exact hk
  dsimp only
  split
  · exact keeps_endJob (keeps_nvmEffect_some ‹_› hk)
  · exact keeps_endJob hk
theorem keeps_showRepairs {k0 : State} {s : State} (hk : Keeps k0 s) : Keeps k0 (State.showRepairs s) := by
  unfold State.showRepairs
  exact keeps_setFld (keeps_setFld hk)
theorem keeps_writeRepairs {k0 : State} {s : State} (hk : Keeps k0 s) : Keeps k0 (State.writeRepairs s) := by
  unfold State.writeRepairs
  exact keeps_showRepairs (keeps_with_bist (keeps_foldl hk (fun x2_0 x2_1 x2_2 => (by split; exacts [keeps_intr (keeps_program x2_2), x2_2]))) id)
theorem keeps_repairJob {k0 : State} {s : State} {k : Fin 8} (hk : Keeps k0 s) : Keeps k0 (State.repairJob s k) := by
  unfold State.repairJob
  exact (by split; exacts [keeps_endJob (keeps_writeRepairs hk), hk])
theorem keeps_showFail {k0 : State} {s : State} (hk : Keeps k0 s) : Keeps k0 (State.showFail s) := by
  unfold State.showFail
  exact (by dsimp only; split; exacts [keeps_setReg (keeps_setReg (keeps_setReg (keeps_setReg hk))), keeps_setReg (keeps_setReg (keeps_setReg (keeps_setReg hk)))])
theorem keeps_failEntry {k0 : State} {s : State} {d inst code row bit : Nat} (hk : Keeps k0 s) : Keeps k0 (s.failEntry d inst code row bit) :=
  keeps_wrap (keeps_with_bist hk (by intro _; simp only [List.length_take]; omega))
theorem keeps_elim {α} {k0 s : State} {x : Option α} {f : α → State} (hk : Keeps k0 s) (hf : ∀ a, Keeps k0 (f a)) : Keeps k0 (x.elim s f) := by
  cases x with
  | none => exact hk
  | some a => exact hf a
theorem keeps_logFails {k0 : State} {s : State} {d : Nat} {insts : List Nat} {x : Found} (hk : Keeps k0 s) : Keeps k0 (s.logFails d insts x) := by
  unfold State.logFails
  exact keeps_foldl (keeps_elim (keeps_foldl hk (fun x3_0 x3_1 x3_2 => keeps_foldl x3_2 (fun x5_0 x5_1 x5_2 => keeps_failEntry x5_2))) (fun x2_0 => keeps_failEntry (keeps_foldl hk (fun x5_0 x5_1 x5_2 => keeps_foldl x5_2 (fun x7_0 x7_1 x7_2 => keeps_failEntry x7_2))))) (fun x1_0 x1_1 x1_2 => keeps_failEntry x1_2)
theorem keeps_logRecords {k0 : State} {s : State} {d : Nat} {recs : List Repair} {repair : Bool} (hk : Keeps k0 s) : Keeps k0 (State.logRecords s d recs repair) := by
  unfold State.logRecords
  exact (by dsimp only; split; exacts [keeps_writeRepairs (keeps_showFail (keeps_with_bist hk id)), keeps_showRepairs (keeps_showFail (keeps_with_bist hk id))])
theorem keeps_showVerdict {k0 : State} {s : State} {d : Nat} {pass : Bool} {fits : Bool} {named : Bool} {total : Nat} {spent : Bool} (hk : Keeps k0 s) : Keeps k0 (State.showVerdict s d pass fits named total spent) := by
  unfold State.showVerdict
  exact keeps_when (keeps_when (keeps_wrap (keeps_setReg hk)) (keeps_intr (keeps_wrap (keeps_setReg hk)))) (keeps_intr (keeps_when (keeps_wrap (keeps_setReg hk)) (keeps_intr (keeps_wrap (keeps_setReg hk)))))
theorem keeps_testLeaves {k0 : State} {s : State} {k : Fin 8} {n : Ch} {j : JobSlot} (hk : Keeps k0 s) : Keeps k0 (State.testLeaves s k n j) := by
  unfold State.testLeaves
  exact (by split; exacts [keeps_mapDom hk, keeps_showPwr hk])
theorem keeps_testDone {k0 : State} {s : State} {k : Fin 8} {x : Found} (hk : Keeps k0 s) : Keeps k0 (State.testDone s k x) := by
  unfold State.testDone
  exact keeps_testLeaves (keeps_endJob (keeps_dropPort (keeps_mapSlot (keeps_showVerdict (keeps_logRecords (keeps_logFails (keeps_elim hk (fun x8_0 => keeps_dropCoefs hk))))))))
theorem keeps_tdrEnd {k0 : State} {s : State} {k : Fin 8} {n : Ch} (hk : Keeps k0 s) : Keeps k0 (State.tdrEnd s k n) := by
  unfold State.tdrEnd
  exact (by dsimp only; split; exacts [keeps_endJob hk, keeps_endJob (keeps_cint (keeps_mapSlot (keeps_foldl (keeps_setReg (keeps_setReg hk)) (fun x5_0 x5_1 x5_2 => (by split; exacts [keeps_setReg (keeps_setReg x5_2), keeps_setReg (keeps_setReg x5_2)])))))])
theorem keeps_tdrStep {k0 : State} {s : State} {k : Fin 8} {vals : List Int} (hk : Keeps k0 s) : Keeps k0 (State.tdrStep s k vals) := by
  unfold State.tdrStep
  exact (by dsimp only; split; exacts [hk, (by split; exacts [keeps_tdrEnd hk, keeps_transmit (keeps_mapSlot hk)])])
theorem keeps_learnForm {k0 : State} {s : State} {k : Fin 8} {n : Ch} (hk : Keeps k0 s) : Keeps k0 (State.learnForm s k n) := by
  unfold State.learnForm
  exact keeps_mapSlot (by split; exacts [(by split; exacts [(by split; exacts [keeps_postOwn hk, hk]), (by split; exacts [keeps_postOwn hk, hk])]), (by split; exacts [keeps_postOwn hk, hk])])
theorem keeps_learnStore {k0 : State} {s : State} {k : Fin 8} {n : Ch} (hk : Keeps k0 s) : Keeps k0 (State.learnStore s k n) := by
  unfold State.learnStore
  exact (by dsimp only; split; exacts [keeps_endJob (keeps_setProfile hk), (by split; exacts [keeps_endJob (keeps_setProfile hk), keeps_endJob (keeps_program (keeps_setProfile hk))])])
theorem keeps_learnStep {k0 : State} {s : State} {k : Fin 8} (hk : Keeps k0 s) : Keeps k0 (State.learnStep s k) := by
  unfold State.learnStep
  with_reducible (repeat' first | exact hk | assumption | apply keeps_endJob | apply keeps_mapDiag | apply keeps_mapSlot | apply keeps_learnForm | apply keeps_learnStore | exact id | exact fun _ h => h | split | dsimp only | intro _)
theorem keeps_writeTrend {k0 : State} {s : State} {due : Option (Nat × Word)} (hk : Keeps k0 s) : Keeps k0 (State.writeTrend s due) := by
  unfold State.writeTrend
  exact (by split; exacts [keeps_foldl hk (fun x2_0 x2_1 x2_2 => (by split; exacts [x2_2, keeps_program x2_2])), hk])
theorem keeps_ledgerDone {k0 : State} {s : State} {k : Fin 8} {slot : Nat} (hk : Keeps k0 s) : Keeps k0 (State.ledgerDone s k slot) := by
  unfold State.ledgerDone
  exact keeps_endJob (keeps_mapSlot (keeps_setFld (keeps_setReg (by split; exacts [keeps_wrap32 (keeps_setReg (keeps_mapLife (keeps_foldl hk (fun x9_0 x9_1 x9_2 => (by split; exacts [x9_2, keeps_mapSlot x9_2]))))), keeps_mapLife (keeps_foldl hk (fun x7_0 x7_1 x7_2 => (by split; exacts [x7_2, keeps_mapSlot x7_2])))]))))
theorem keeps_ledgerStep {k0 : State} {s : State} {k : Fin 8} {fault : Bool} (hk : Keeps k0 s) : Keeps k0 (State.ledgerStep s k fault) := by
  unfold State.ledgerStep
  with_reducible (repeat' first | exact hk | assumption | apply keeps_endJob | apply keeps_mapSlot | apply keeps_writeTrend | apply keeps_program | apply keeps_ledgerDone | exact id | exact fun _ h => h | split | dsimp only | intro _)
theorem keeps_testStep {k0 : State} {s : State} {k : Fin 8} {e : StepEnv} (hk : Keeps k0 s) : Keeps k0 (s.testStep k e) := by
  unfold State.testStep
  extract_lets j saves at_ ph d dsp cells logic s1 src s2 nx bad
  have h1 : Keeps k0 s1 := keeps_mapSlot hk
  have h2 : Keeps k0 s2 := by
    simp only [s2]
    split
    · exact keeps_with_bist h1 id
    · exact h1
  split
  · exact h1
  · split
    · exact keeps_testDone h2
    · exact keeps_mapSlot h2
theorem keeps_runStep {k0 : State} {s : State} {k : Fin 8} {e : StepEnv} (hk : Keeps k0 s) : Keeps k0 (State.runStep s k e) := by
  unfold State.runStep
  exact (by dsimp only; split; exacts [keeps_testStep hk, (by split; exacts [keeps_ledgerStep hk, (by split; exacts [keeps_endJob hk, (by split; exacts [keeps_tdrStep hk, (by split; exacts [keeps_learnStep hk, (by split; exacts [keeps_journalJob hk, (by split; exacts [keeps_repairJob hk, (by split; exacts [keeps_endJob (keeps_mapSlot (keeps_tookFree (keeps_tookFree hk))), keeps_nvmWork hk])])])])])])])])
theorem keeps_testsSkipped {k0 : State} {s : State} (hk : Keeps k0 s) : Keeps k0 (State.testsSkipped s) := by
  unfold State.testsSkipped
  exact keeps_forCh (keeps_showJobs (keeps_with_jobs hk)) (fun x1_0 x1_1 x1_2 => keeps_settlePower (keeps_when (keeps_when x1_2 (keeps_mapDom x1_2)) (keeps_mapDom (keeps_when x1_2 (keeps_mapDom x1_2)))))
theorem keeps_failJobs {k0 : State} {s : State} {err : Nat} {p : JobSlot → Bool} (hk : Keeps k0 s) : Keeps k0 (State.failJobs s err p) := by
  unfold State.failJobs
  exact keeps_foldl hk (fun x1_0 x1_1 x1_2 => (by split; exacts [keeps_endJob x1_2, x1_2]))
theorem keeps_nvmGone {k0 : State} {s : State} (hk : Keeps k0 s) : Keeps k0 (State.nvmGone s) := by
  unfold State.nvmGone
  exact keeps_with_nvm hk id (fun _ h => h)
theorem keeps_showTrig {k0 : State} {s : State} (hk : Keeps k0 s) : Keeps k0 (State.showTrig s) := by
  unfold State.showTrig
  exact keeps_forTg (keeps_foldl (keeps_showPpsOut hk) (fun x2_0 x2_1 x2_2 => keeps_showPin x2_2)) (fun x1_0 x1_1 x1_2 => (by split; exacts [keeps_settleGroup x1_2, x1_2]))
theorem keeps_devFenceActs {k0 : State} {s : State} {p : DevPage} (hk : Keeps k0 s) : Keeps k0 (State.devFenceActs s p) := by
  unfold State.devFenceActs
  exact (by split; exacts [keeps_setReg (keeps_nvmGone hk), keeps_setReg (keeps_nvmGone hk), keeps_testsSkipped (keeps_failJobs hk), keeps_testsSkipped (keeps_failJobs hk), keeps_showTrig hk, keeps_emptyFire (keeps_forCh hk (fun x3_0 x3_1 x3_2 => keeps_emptyQueue x3_2)), keeps_emptyFire (keeps_forCh hk (fun x3_0 x3_1 x3_2 => keeps_emptyQueue x3_2)), hk])
theorem keeps_pageFenced {k0 : State} {s : State} {p : Page} {was : Bool} (hk : Keeps k0 s) : Keeps k0 (State.pageFenced s p was) := by
  unfold State.pageFenced
  exact (by split; exacts [keeps_chFenced hk, keeps_devFenceActs (by split; exacts [(by split; exacts [hk, keeps_devFld hk]), hk])])
theorem keeps_fenceDev {k0 : State} {s : State} {q : DevPage} (hk : Keeps k0 s) : Keeps k0 (State.fenceDev s q) := by
  unfold State.fenceDev
  exact (by split; exacts [hk, keeps_pageFenced (keeps_devFld hk)])
theorem keeps_mapPort {k0 : State} {s : State} {p : SPort} {f : Port → Port} (hk : Keeps k0 s) : Keeps k0 (State.mapPort s p f) := by
  unfold State.mapPort
  exact (by split; exacts [keeps_with_host hk, keeps_with_host hk])
theorem keeps_portStops {k0 : State} {s : State} {p : SPort} (hk : Keeps k0 s) : Keeps k0 (State.portStops s p) := by
  unfold State.portStops
  exact (by split; exacts [keeps_mapPort (keeps_with_heldWrites (keeps_when hk (keeps_setFld hk))), hk])
theorem keeps_fencePort {k0 : State} {s : State} {p : SPort} (hk : Keeps k0 s) : Keeps k0 (State.fencePort s p) := by
  unfold State.fencePort
  exact (by split; exacts [hk, keeps_portStops (keeps_devFld hk)])
theorem keeps_fencePin {k0 : State} {s : State} {k : Fin 16} (hk : Keeps k0 s) : Keeps k0 (State.fencePin s k) := by
  unfold State.fencePin
  exact (by split; exacts [hk, keeps_showPin (keeps_devFld hk)])
theorem keeps_enterSafe {k0 : State} {s : State} {cause : Nat} (hk : Keeps k0 s) : Keeps k0 (State.enterSafe s cause) := by
  unfold State.enterSafe
  exact (by split; exacts [hk, keeps_showTrig (keeps_setOut (keeps_setOut (keeps_forCh (keeps_intr (keeps_setFld (keeps_setAlarm hk))) (fun x5_0 x5_1 x5_2 => keeps_showLf (keeps_settleLink x5_2)))))])
theorem keeps_alarmSelf {k0 : State} {s : State} {parity : Bool} (hk : Keeps k0 s) : Keeps k0 (State.alarmSelf s parity) := by
  unfold State.alarmSelf
  exact keeps_enterSafe (keeps_intr (keeps_setBit hk))
theorem keeps_fenceUnitOf {k0 : State} {s : State} {p : DevPage} {i : Nat} {k : Nat} (hk : Keeps k0 s) : Keeps k0 (State.fenceUnitOf s p i k) := by
  unfold State.fenceUnitOf
  exact (by split; exacts [keeps_fenceSector hk, keeps_fencePin hk, keeps_fencePort hk, keeps_fencePort hk, (by split; exacts [keeps_fenceDev hk, hk])])
theorem keeps_faultShows {k0 : State} {s : State} {p : DevPage} {i k : Nat} (hk : Keeps k0 s) : Keeps k0 (s.faultShows p i k) := by
  unfold State.faultShows
  split
  · exact keeps_setBit hk
  · exact keeps_with_jrnl hk (by simp) id
  · exact hk
theorem keeps_detectDev {k0 : State} {s : State} {p : DevPage} {i : Nat} {k : Nat} (hk : Keeps k0 s) : Keeps k0 (State.detectDev s p i k) := by
  unfold State.detectDev
  exact (by split; exacts [keeps_alarmSelf hk, (by split; exacts [hk, keeps_when (keeps_when (keeps_recordFault (keeps_faultShows hk)) (keeps_fenceUnitOf (keeps_recordFault (keeps_faultShows hk)))) (keeps_selectFault (keeps_when (keeps_recordFault (keeps_faultShows hk)) (keeps_fenceUnitOf (keeps_recordFault (keeps_faultShows hk)))))])])
theorem keeps_corrected {k0 : State} {s : State} {p : Page} {ldpc : Bool} (hk : Keeps k0 s) : Keeps k0 (State.corrected s p ldpc) := by
  unfold State.corrected
  exact (by split; exacts [keeps_sat32 hk, keeps_when (keeps_sat32 hk) (keeps_sat32 (keeps_sat32 hk))])
theorem keeps_sense {k0 : State} {s : State} {i : Nat} {t : BitVec 16} (hk : Keeps k0 s) : Keeps k0 (State.sense s i t) := by
  unfold State.sense
  exact keeps_when (keeps_setBit (keeps_setFld hk)) (keeps_detectDev (keeps_setBit (keeps_setFld hk)))
theorem keeps_drained {k0 : State} {s : State} {p : Page} {items : Nat} (hk : Keeps k0 s) : Keeps k0 (State.drained s p items) := by
  unfold State.drained
  exact (by dsimp only; split; exacts [keeps_discardFlight (keeps_discardAt hk), keeps_flushEbuf (keeps_discardAt hk), keeps_sat32 (keeps_discardAt hk)])
theorem keeps_checkBalance {k0 : State} {s : State} {p : Page} (hk : Keeps k0 s) : Keeps k0 (State.checkBalance s p) := by
  unfold State.checkBalance
  exact (by split; exacts [hk, (by split; exacts [keeps_detectCh hk, keeps_detectDev hk])])
theorem keeps_checkDevices {k0 : State} {s : State} (hk : Keeps k0 s) : Keeps k0 (State.checkDevices s) := by
  unfold State.checkDevices
  exact keeps_checkBalance (keeps_checkBalance hk)
theorem keeps_moon {a s : State} {p : Nat → Bool} (h : Keeps a s)
     : Keeps a { s with moon := Store.keep p s.regs } :=
  h.trans ⟨rfl, rfl, fun _ h => h, fun ⟨a, b, c, d, e, f, g, i⟩ => ⟨a, Store.keep_wf _ _ _ a, c, d, e, f, g, i⟩,
    fun ⟨a, b, c, d, e⟩ => ⟨a, b, c, d, e⟩⟩
theorem keeps_moonRise {k0 : State} {s : State} (hk : Keeps k0 s) : Keeps k0 s.moonRise := by
  have h : ∀ u, Keeps k0 u → Keeps k0 { u with cmt := { u.cmt with partPend := Vector.replicate 4 none } } := fun u hu => keeps_mapCmt (f := fun c => { c with partPend := Vector.replicate 4 none }) hu id id
  exact keeps_moon (s := ((State.when _ _ State.showCmtw).showLive).checkDevices) (keeps_checkDevices (keeps_showLive (keeps_when (h s hk) (keeps_showCmtw (h s hk)))))
theorem keeps_noteViews {k0 : State} {s : State} (hk : Keeps k0 s) : Keeps k0 (State.noteViews s) := by
  unfold State.noteViews
  with_reducible (repeat' first | exact hk | assumption | apply keeps_foldl | apply keeps_mapPort | apply keeps_noteRx | exact id | exact fun _ h => h | split | dsimp only | intro _)

theorem keeps_mapWritten {k0 : State} {s : State} (hk : Keeps k0 s) : Keeps k0 (State.mapWritten s) := by
  unfold State.mapWritten
  exact keeps_forCh hk (fun x1_0 x1_1 x1_2 => keeps_markTg (keeps_showSplit x1_2))
theorem keeps_laneStill {k0 : State} {s : State} {n : Ch} (hk : Keeps k0 s) : Keeps k0 (State.laneStill s n) := by
  unfold State.laneStill
  exact keeps_with_clk hk
theorem keeps_hlModeWritten {k0 : State} {s : State} {n : Ch} {old : Word} (hk : Keeps k0 s) : Keeps k0 (State.hlModeWritten s n old) := by
  unfold State.hlModeWritten
  with_reducible (repeat' first | exact hk | assumption | apply keeps_showLatency | apply keeps_showLf | apply keeps_setBit | apply keeps_when | apply keeps_mapChan | apply keeps_laneStill | apply keeps_renegotiate | apply keeps_settleLink | exact id | exact fun _ h => h | split | dsimp only | intro _)
theorem keeps_clearPage {k0 : State} {s : State} {p : Page} {keep : Nat → Bool} (hk : Keeps k0 s) : Keeps k0 (s.clearPage p keep) := by
  unfold State.clearPage
  exact keeps_moonSnap (keeps_keepRegs hk)
theorem keeps_showAfe {k0 : State} {s : State} {n : Ch} (hk : Keeps k0 s) : Keeps k0 (State.showAfe s n) := by
  unfold State.showAfe
  exact (by split; exacts [keeps_showMaps (keeps_setFld (keeps_setFld hk)), hk])
theorem keeps_chPageReset {k0 : State} {s : State} {n : Ch} {p : ChPage} {unfence : Bool} (hk : Keeps k0 s) : Keeps k0 (State.chPageReset s n p unfence) := by
  unfold State.chPageReset
  with_reducible (repeat' first | exact hk | assumption | apply keeps_unitFenceActs | apply keeps_showEngines | apply keeps_showLatency | apply keeps_iterWritten | apply keeps_mapFec | apply keeps_clearPage | apply keeps_discardFlight | apply keeps_enterDrain | apply keeps_discardAt | apply keeps_renegotiate | apply keeps_showAfe | apply keeps_mapRx | apply keeps_applyGain | apply keeps_setReg | apply keeps_showEcl | apply keeps_listenWritten | apply keeps_mapChan | apply keeps_startNeg | apply keeps_setOrbitLock | apply keeps_linkIdle | apply keeps_dropLink | apply keeps_showLf | apply keeps_hlModeWritten | apply keeps_when | apply keeps_setFld | apply keeps_showEngine | apply keeps_mapKtl | apply keeps_settleGroup | apply keeps_tpWritten | apply keeps_lbWritten | apply keeps_foldl | apply keeps_endJob | apply keeps_showPartner | apply keeps_setPair | apply keeps_keepRegs | exact id | exact fun _ h => h | split | dsimp only | intro _)
theorem keeps_chanResetActs {k0 : State} {s : State} {n : Ch} {unfence : Bool} (hk : Keeps k0 s) : Keeps k0 (State.chanResetActs s n unfence) := by
  unfold State.chanResetActs
  exact keeps_bringUp (keeps_showLf (keeps_when (keeps_showPartner (keeps_settlePair (keeps_showEngine (keeps_showForced (keeps_showPwr (keeps_showLatency (keeps_showAfe (keeps_setBit (keeps_when (keeps_keepRegs (keeps_foldl (keeps_mapChan (keeps_drainChan (keeps_discardAt (keeps_emptyQueue (keeps_endJobsOf (keeps_setOrbitLock (keeps_linkIdle (keeps_dropLink hk)))))))) (fun x14_0 x14_1 x14_2 => keeps_clearPage x14_2))) (keeps_mapChan (keeps_keepRegs (keeps_foldl (keeps_mapChan (keeps_drainChan (keeps_discardAt (keeps_emptyQueue (keeps_endJobsOf (keeps_setOrbitLock (keeps_linkIdle (keeps_dropLink hk)))))))) (fun x15_0 x15_1 x15_2 => keeps_clearPage x15_2))))))))))))) (keeps_settleGroup (keeps_showPartner (keeps_settlePair (keeps_showEngine (keeps_showForced (keeps_showPwr (keeps_showLatency (keeps_showAfe (keeps_setBit (keeps_when (keeps_keepRegs (keeps_foldl (keeps_mapChan (keeps_drainChan (keeps_discardAt (keeps_emptyQueue (keeps_endJobsOf (keeps_setOrbitLock (keeps_linkIdle (keeps_dropLink hk)))))))) (fun x15_0 x15_1 x15_2 => keeps_clearPage x15_2))) (keeps_mapChan (keeps_keepRegs (keeps_foldl (keeps_mapChan (keeps_drainChan (keeps_discardAt (keeps_emptyQueue (keeps_endJobsOf (keeps_setOrbitLock (keeps_linkIdle (keeps_dropLink hk)))))))) (fun x16_0 x16_1 x16_2 => keeps_clearPage x16_2))))))))))))))))
theorem keeps_stampPages {k0 : State} {s : State} {l : List Page} (hk : Keeps k0 s) : Keeps k0 (State.stampPages s l) := by
  unfold State.stampPages
  exact keeps_foldl hk (fun x1_0 x1_1 x1_2 => keeps_setReg x1_2)
theorem keeps_chanReset {k0 : State} {s : State} {n : Ch} {o : Origin} (hk : Keeps k0 s) : Keeps k0 (State.chanReset s n o) := by
  unfold State.chanReset
  exact (by split; exacts [keeps_mapChan hk, keeps_chanResetActs (keeps_stampPages (keeps_jEvent (keeps_mapChan hk)))])
theorem keeps_resetDue {k0 : State} {s : State} {n : Ch} (hk : Keeps k0 s) : Keeps k0 (State.resetDue s n) := by
  unfold State.resetDue
  exact (by split; exacts [(by split; exacts [hk, keeps_chanReset hk]), hk])
theorem keeps_capEmpty {k0 s : State} (hk : Keeps k0 s) : Keeps k0 { s with cap := {} } := keeps_with_cap hk (fun _ => Nat.zero_le _)
theorem keeps_trigEmpty {k0 s : State} (hk : Keeps k0 s) : Keeps k0 { s with trig := {} } := by
  refine keeps_mk hk ?_ ?_ ?_ ?_ ?_ ?_ ?_ ?_ ?_ ?_ ?_ ?_ ?_ ?_ ?_ ?_ <;> rfl
theorem keeps_groups {k0 s : State} {v : Vector Group 4} (hk : Keeps k0 s) : Keeps k0 { s with groups := v } := by
  refine keeps_mk hk ?_ ?_ ?_ ?_ ?_ ?_ ?_ ?_ ?_ ?_ ?_ ?_ ?_ ?_ ?_ ?_ <;> rfl
theorem keeps_slotsEmpty {k0 s : State} {j : Jobs} (hk : Keeps k0 s) : Keeps k0 { s with jobs := j } := by
  refine keeps_mk hk ?_ ?_ ?_ ?_ ?_ ?_ ?_ ?_ ?_ ?_ ?_ ?_ ?_ ?_ ?_ ?_ <;> rfl
theorem keeps_devPageReset {k0 : State} {s : State} {q : DevPage} {unfence : Bool} (hk : Keeps k0 s) : Keeps k0 (State.devPageReset s q unfence) := by
  have hd : Keeps k0 (s.enterDrain [.dev q]) := keeps_enterDrain hk
  unfold State.devPageReset
  generalize s.enterDrain [.dev q] = u at hd ⊢
  have hc : ∀ (v : State) (p : DevPage), Keeps k0 v → Keeps k0 (v.clearPage (.dev p) (fun a => devLive a || faultReg unfence (.dev p) a)) := fun v p h => keeps_clearPage h
  have h1 := keeps_emptyFire (keeps_forCh (f := fun n s => s.emptyQueue n) hd (fun n t h => keeps_emptyQueue h))
  have h2' : ∀ u, Keeps k0 u → Keeps k0 (u.mapCmt (fun m => { routes := m.routes, sched := m.sched, lastSrc := m.lastSrc, repLost := m.repLost })) := fun u h => keeps_mapCmt h id id
  have h2 := h2' _ h1
  have hq := keeps_showCmtw (keeps_showCmt (hc _ .cmtw (hc _ .cmt h2)))
  have h4 := keeps_showCap (hc _ .capw (hc _ .cap (keeps_capEmpty hd)))
  have h5 := keeps_groups (v := (u.clearPage (.dev .trig) (fun a => devLive a || faultReg unfence (.dev .trig) a)).groups.map Group.noPps) (keeps_trigEmpty (hc _ .trig hd))
  have h6 := keeps_slotsEmpty (j := { (u.clearPage (.dev .job) (fun a => devLive a || faultReg unfence (.dev .job) a)).jobs with slots := Vector.replicate 8 {} }) (hc _ .job hd)
  cases q
  case cmt => exact hq
  case cmtw => exact hq
  case cap => exact h4
  case capw => exact h4
  case trig => exact keeps_showPps (keeps_showTrig h5)
  case nvm => exact hc _ .nvmw (hc _ .nvm hd)
  case nvmw => exact hc _ .nvmw (hc _ .nvm hd)
  case job => exact keeps_devDispatch (keeps_showJobs h6)
  case bist => exact keeps_showRepairs (keeps_with_bist (hc _ .bist hd) (fun _ => Nat.zero_le _))
  all_goals exact hc _ _ hd
theorem keeps_devReset {k0 : State} {s : State} {q : DevPage} {o : Origin} (hk : Keeps k0 s) : Keeps k0 (State.devReset s q o) := by
  unfold State.devReset
  exact keeps_devPageReset (keeps_stampPages (keeps_jEvent hk))
theorem keeps_pageReturns {k0 : State} {s : State} {p : Page} {was : Bool} (hk : Keeps k0 s) : Keeps k0 (State.pageReturns s p was) := by
  unfold State.pageReturns
  exact (by split; exacts [(by split; exacts [(by split; exacts [keeps_chanResetActs (keeps_showForced (keeps_showChanFence hk)), hk]), (by split; exacts [hk, keeps_settleLink (keeps_chPageReset hk)])]), keeps_devPageReset (by split; exacts [(by split; exacts [keeps_devFld hk, hk]), hk])])
theorem keeps_owing {k0 : State} {s : State} {f : State → State} (hk : Keeps k0 s) (hf : Keeps k0 (f s)) : Keeps k0 (s.owing f) := by
  have h0 : Keeps k0 { f s with jrnl := s.jrnl } := by
    refine ⟨hf.queue, hf.now, hf.fence, fun h => ?_, fun h => ?_⟩
    · obtain ⟨a, b, c, d, e, f, g, i⟩ := hf.canonical h
      exact ⟨a, b, c, d, e, f, g, i⟩
    · obtain ⟨a, b, c, d, e⟩ := hf.bounded h
      obtain ⟨a', b', _, _, _⟩ := hk.bounded h
      exact ⟨a', b', c, d, e⟩
  refine keeps_mk h0 ?_ ?_ ?_ ?_ ?_ ?_ ?_ ?_ ?_ ?_ ?_ ?_ ?_ ?_ ?_ ?_ <;> rfl
theorem keeps_lifeStops {k0 : State} {s : State} (hk : Keeps k0 s) : Keeps k0 (State.lifeStops s) := by
  unfold State.lifeStops
  exact keeps_setReg (keeps_setBit (keeps_mapLife hk))
theorem keeps_systemReset {k0 : State} {s : State} {k : StartKind} {by_ : Nat} {keepCoef : Bool} (hk : Keeps k0 s) : Keeps k0 (s.systemReset k by_ keepCoef) := by
  unfold State.systemReset
  have h1 := keeps_discardPosted (p := fun q => q != .tpll) hk
  generalize s.discardPosted (fun q => q != .tpll) = u at h1
  dsimp only
  have h3 : ∀ (v : State) (i j : Nat) (f : Ch → Bool), Keeps u v →
      Keeps k0 ((v.forCh (fun n s => if f n then (s.setReg (Reg.pwrChReq n.val) 0x10).showPwr n else s)).lifeStops.lifeAdd i j) := fun v i j f h =>
    keeps_lifeAdd (keeps_lifeStops (keeps_forCh (h1.trans h) (fun n t h => by split <;> [exact keeps_showPwr (keeps_setReg h); exact h])))
  refine keeps_owing (h3 _ _ _ _ ?_) (keeps_forTg (h3 _ _ _ _ ?_) (fun g t h => keeps_settleGroup h)) <;>
  · refine ⟨rfl, rfl, fun _ h => h, ?_, ?_⟩
    · rintro ⟨a, b, c, d, e, f, g, i⟩
      refine ⟨?_, ?_, ?_, ⟨List.Pairwise.nil, by simp⟩, ⟨List.Pairwise.nil, by simp⟩, f, ⟨List.Pairwise.nil, by simp⟩, ⟨List.Pairwise.nil, by simp⟩⟩
      · dsimp only; exact Store.keep_wf _ _ _ a
      · dsimp only; exact Store.keep_wf _ _ _ b
      · dsimp only; exact Store.keep_wf _ _ _ a
    · rintro ⟨a, b, c, d, e⟩
      exact ⟨a, b, c, Nat.zero_le _, Nat.zero_le _⟩
theorem keeps_coreLoss {k0 : State} {s : State} (hk : Keeps k0 s) : Keeps k0 s.coreLoss := by
  unfold State.coreLoss
  dsimp only
  refine keeps_owing (keeps_lifeAdd (keeps_lifeStops ?_)) (keeps_forTg (keeps_lifeAdd (keeps_lifeStops ?_)) (fun g t h => keeps_settleGroup h)) <;>
  · refine hk.trans ⟨rfl, rfl, fun _ h => h, ?_, ?_⟩
    · rintro ⟨a, b, c, d, e, f, g, i⟩
      exact ⟨Store.keep_wf _ _ _ a, Store.keep_wf _ _ _ b, ⟨List.Pairwise.nil, by simp⟩, ⟨List.Pairwise.nil, by simp⟩, ⟨List.Pairwise.nil, by simp⟩, f, ⟨List.Pairwise.nil, by simp⟩, ⟨List.Pairwise.nil, by simp⟩⟩
    · rintro ⟨a, b, c, d, e⟩
      exact ⟨Nat.zero_le _, Nat.zero_le _, fun q => Nat.le_trans (List.Sublist.filter _ List.filter_sublist).length_le (c q), Nat.zero_le _, Nat.zero_le _⟩
theorem keeps_ifBeyond {k0 : State} {s : State} {surely never : Bool} {act : State → State} (hk : Keeps k0 s) (ha : ∀ u, Keeps k0 u → Keeps k0 (act u)) : Keeps k0 (s.ifBeyond surely never act) := by
  unfold State.ifBeyond
  split
  · exact ha _ hk
  split
  · exact hk
  split
  · exact ha _ (keeps_tookFree hk)
  · exact keeps_tookFree hk
theorem keeps_ifRailLow {k0 : State} {s : State} {mv : Nat} {act : State → State} (hk : Keeps k0 s) (ha : ∀ u, Keeps k0 u → Keeps k0 (act u)) : Keeps k0 (s.ifRailLow mv act) :=
  keeps_ifBeyond hk ha
theorem keeps_vaoReset {k0 : State} {s : State} (hk : Keeps k0 s) : Keeps k0 s.vaoReset := by
  refine hk.trans ⟨rfl, rfl, fun _ h => h, ?_, ?_⟩
  · rintro ⟨a, b, c, d, e, f, g, i⟩
    exact ⟨⟨List.Pairwise.nil, by simp [State.vaoReset, State.reset]⟩, ⟨List.Pairwise.nil, by simp [State.vaoReset, State.reset]⟩, ⟨List.Pairwise.nil, by simp [State.vaoReset, State.reset]⟩, ⟨List.Pairwise.nil, by simp [State.vaoReset, State.reset]⟩, ⟨List.Pairwise.nil, by simp [State.vaoReset, State.reset]⟩, f, ⟨List.Pairwise.nil, by simp [State.vaoReset, State.reset]⟩, ⟨List.Pairwise.nil, by simp [State.vaoReset, State.reset]⟩⟩
  · rintro ⟨a, b, c, d, e⟩
    exact ⟨Nat.zero_le _, Nat.zero_le _, fun q => Nat.zero_le _, Nat.zero_le _, Nat.zero_le _⟩
theorem keeps_afterRead {k0 : State} {s : State} {a : Nat} (hk : Keeps k0 s) : Keeps k0 (State.afterRead s a) := by
  unfold State.afterRead
  exact (by split; exacts [keeps_nextEntry hk, (by split; exacts [keeps_capwAdvance hk, hk])])
theorem keeps_storeReg {k0 : State} {s : State} {o : Origin} {p : Page} {off : Nat} {d : Word} {w : Word} (hk : Keeps k0 s) : Keeps k0 (State.storeReg s o p off d w) := by
  unfold State.storeReg
  exact (by split; exacts [keeps_setLease (keeps_setReg hk), (by split; exacts [keeps_with_nvm hk id (fun _ h => h), (by split; exacts [hk, keeps_setReg hk])])])
theorem keeps_intTested {k0 : State} {s : State} {p : Page} {d : Word} (hk : Keeps k0 s) : Keeps k0 (State.intTested s p d) := by
  unfold State.intTested
  exact keeps_setReg hk
theorem keeps_snapAsked {k0 : State} {s : State} {p : Page} (hk : Keeps k0 s) : Keeps k0 (State.snapAsked s p) := by
  unfold State.snapAsked
  exact keeps_with_host hk
theorem keeps_headerWrote {k0 : State} {s : State} {o : Origin} {p : Page} {off : Nat} {old : Word} {d : Word} {fe : Bool} (hk : Keeps k0 s) : Keeps k0 (State.headerWrote s o p off old d fe) := by
  unfold State.headerWrote
  exact (by split; exacts [keeps_intTested hk, (by split; exacts [(by split; exacts [hk, (by split; exacts [keeps_pageFenced hk, keeps_pageReturns hk])]), (by split; exacts [(by split; exacts [keeps_intr hk, hk]), (by split; exacts [(by split; exacts [keeps_snapAsked hk, hk]), hk])])])])
theorem keeps_portFenceWritten {k0 : State} {s : State} {old : Word} (hk : Keeps k0 s) : Keeps k0 (State.portFenceWritten s old) := by
  unfold State.portFenceWritten
  with_reducible (repeat' first | exact hk | assumption | apply keeps_portStops | apply keeps_breakLocksOf | apply keeps_mapPort | exact id | exact fun _ h => h | split | dsimp only | intro _)
theorem keeps_rmtGo {k0 : State} {s : State} (hk : Keeps k0 s) : Keeps k0 (State.rmtGo s) := by
  unfold State.rmtGo
  exact (by dsimp only; split; exacts [keeps_oamPush (keeps_setReg (keeps_with_host hk)), keeps_setReg (keeps_with_host hk)])
theorem keeps_slotWritten {k0 : State} {s : State} {k : Fin 8} {d : Word} (hk : Keeps k0 s) : Keeps k0 (State.slotWritten s k d) := by
  unfold State.slotWritten
  exact (by dsimp only; split; exacts [keeps_startJob (by split; exacts [keeps_endJob hk, hk]), (by split; exacts [keeps_endJob hk, hk])])
theorem keeps_alarmWritten {k0 : State} {s : State} {d : Word} (hk : Keeps k0 s) : Keeps k0 (State.alarmWritten s d) := by
  unfold State.alarmWritten
  exact (by split; exacts [keeps_setAlarm hk, keeps_setAlarm hk])
theorem keeps_applyEnWritten {k0 : State} {s : State} (hk : Keeps k0 s) : Keeps k0 (State.applyEnWritten s) := by
  unfold State.applyEnWritten
  exact (by split; exacts [hk, keeps_forCh hk (fun x2_0 x2_1 x2_2 => (by split; exacts [keeps_showEcl (keeps_setBit (keeps_mapTrim x2_2)), x2_2]))])
theorem keeps_pinWritten {k0 : State} {s : State} {k : Fin 16} {old : Word} (hk : Keeps k0 s) : Keeps k0 (State.pinWritten s k old) := by
  unfold State.pinWritten
  exact keeps_showPin (keeps_when (by split; exacts [hk, keeps_setBit (keeps_mapPin hk)]) (keeps_shiftPin (by split; exacts [hk, keeps_setBit (keeps_mapPin hk)])))
theorem keeps_ppsInWritten {k0 : State} {s : State} {old : Word} (hk : Keeps k0 s) : Keeps k0 (State.ppsInWritten s old) := by
  unfold State.ppsInWritten
  with_reducible (repeat' first | exact hk | assumption | apply keeps_showPps | apply keeps_forTg | apply keeps_mapGroup | apply keeps_settleGroup | exact id | exact fun _ h => h | split | dsimp only | intro _)
theorem keeps_ppsOutWritten {k0 : State} {s : State} (hk : Keeps k0 s) : Keeps k0 (State.ppsOutWritten s) := by
  unfold State.ppsOutWritten
  exact keeps_showPpsOut hk
theorem keeps_freqWritten {k0 : State} {s : State} {g : Tg} (hk : Keeps k0 s) : Keeps k0 (State.freqWritten s g) := by
  unfold State.freqWritten
  exact (by split; exacts [keeps_showRate (keeps_mapGroup hk), hk])
theorem keeps_cmtwWrote {k0 : State} {s : State} {off : Nat} {d : Word} (hk : Keeps k0 s) : Keeps k0 (State.cmtwWrote s off d) := by
  unfold State.cmtwWrote
  exact (by split; exacts [keeps_cmtwCmd hk, (by split; exacts [keeps_showCmtw hk, hk])])
theorem keeps_devWrote {k0 : State} {s : State} {o : Origin} {q : DevPage} {off : Nat} {old : Word} {d : Word} (hk : Keeps k0 s) : Keeps k0 (State.devWrote s o q off old d) := by
  unfold State.devWrote
  exact (by dsimp only; split; exacts [(by split; exacts [(by split; exacts [keeps_with_rst hk, keeps_with_rst hk, hk]), (by split; exacts [keeps_when (keeps_when (keeps_when hk (keeps_devReset hk)) (keeps_devReset (keeps_when hk (keeps_devReset hk)))) (keeps_devReset (keeps_when (keeps_when hk (keeps_devReset hk)) (keeps_devReset (keeps_when hk (keeps_devReset hk))))), hk])]), (by split; exacts [keeps_portFenceWritten hk, (by split; exacts [keeps_rmtGo hk, hk])]), (by split; exacts [keeps_loadEntry hk, hk]), (by split; exacts [keeps_slotWritten hk, hk]), (by split; exacts [keeps_outWritten hk, (by split; exacts [keeps_outWritten hk, hk])]), (by split; exacts [hk, (by split; exacts [keeps_nvmReqWritten hk, (by split; exacts [keeps_resetDue (keeps_powerWritten hk), hk])])]), (by split; exacts [keeps_applyEnWritten hk, hk]), (by split; exacts [keeps_showFail hk, hk]), (by split; exacts [keeps_alarmWritten hk, (by split; exacts [keeps_enterSafe hk, hk])]), (by split; exacts [keeps_mapWritten hk, hk]), (by split; exacts [keeps_capAsked hk, (by split; exacts [keeps_timeDone hk, (by split; exacts [(by split; exacts [keeps_showLeap hk, keeps_tkInt (keeps_showLeap hk)]), (by split; exacts [keeps_leapDone hk, (by split; exacts [keeps_showLeap hk, (by split; exacts [(by split; exacts [keeps_freqWritten hk, keeps_settleGroup hk]), hk])])])])])]), (by split; exacts [keeps_showHist hk, (by split; exacts [keeps_showWear hk, (by split; exacts [keeps_trendSelected hk, hk])])]), (by split; exacts [keeps_routeCmd hk, (by split; exacts [keeps_showCmtw (keeps_with_cmt hk id id), hk])]), keeps_cmtwWrote hk, (by split; exacts [keeps_capAcked hk, (by split; exacts [keeps_capClear hk, hk])]), (by split; exacts [keeps_capwLoad hk, hk]), (by split; exacts [keeps_pinWritten hk, (by split; exacts [keeps_ppsInWritten hk, (by split; exacts [keeps_ppsOutWritten hk, (by split; exacts [keeps_foldl hk (fun x6_0 x6_1 x6_2 => keeps_showPin x6_2), hk])])])]), hk])
theorem keeps_blockResets {k0 : State} {s : State} {n : Ch} {o : Origin} {d : Word} (hk : Keeps k0 s) : Keeps k0 (State.blockResets s n o d) := by
  unfold State.blockResets
  exact keeps_foldl (keeps_foldl hk (fun x2_0 x2_1 x2_2 => keeps_jEvent x2_2)) (fun x1_0 x1_1 x1_2 => keeps_chPageReset x1_2)
theorem keeps_anWritten {k0 : State} {s : State} {n : Ch} {old : Word} {d : Word} (hk : Keeps k0 s) : Keeps k0 (State.anWritten s n old d) := by
  unfold State.anWritten
  exact (by dsimp only; split; exacts [(by split; exacts [keeps_anDisable hk, hk]), (by split; exacts [keeps_anRestart hk, (by split; exacts [keeps_anEnable hk, hk])])])
theorem keeps_rlyWritten {k0 : State} {s : State} {n : Ch} (hk : Keeps k0 s) : Keeps k0 (State.rlyWritten s n) := by
  unfold State.rlyWritten
  exact (by dsimp only; split; exacts [keeps_settlePair (keeps_mirrorRly hk), keeps_setPair (keeps_mirrorRly hk)])
theorem keeps_chWrote {k0 : State} {s : State} {o : Origin} {n : Ch} {q : ChPage} {off : Nat} {old : Word} {d : Word} (hk : Keeps k0 s) : Keeps k0 (State.chWrote s o n q off old d) := by
  unfold State.chWrote
  exact (by dsimp only; split; exacts [(by split; exacts [(by split; exacts [keeps_chanReset hk, keeps_blockResets hk]), hk]), (by split; exacts [keeps_iterWritten hk, (by split; exacts [keeps_unitFenceActs hk, hk])]), (by split; exacts [keeps_gainWritten hk, (by split; exacts [keeps_showCorr hk, hk])]), (by split; exacts [keeps_showAdapt hk, (by split; exacts [keeps_tapsWritten hk, (by split; exacts [keeps_showTap hk, (by split; exacts [keeps_timingWritten hk, (by split; exacts [keeps_listenWritten hk, hk])])])])]), (by split; exacts [keeps_anWritten hk, (by split; exacts [keeps_advWritten hk, hk])]), (by split; exacts [keeps_hlModeWritten hk, hk]), (by split; exacts [keeps_ptpPop hk, hk]), (by split; exacts [keeps_holdWritten hk, (by split; exacts [keeps_lbWritten hk, (by split; exacts [keeps_tpWritten hk, hk])])]), (by split; exacts [keeps_rlyWritten hk, hk]), hk])
theorem keeps_turnedAway {k0 : State} {s : State} {p : Page} {off : Nat} (hk : Keeps k0 s) : Keeps k0 (State.turnedAway s p off) := by
  unfold State.turnedAway
  exact (by split; exacts [keeps_timeTurned hk, (by split; exacts [keeps_setBit hk, (by split; exacts [keeps_with_rst hk, hk])])])
theorem keeps_wrote {k0 : State} {s : State} {o : Origin} {p : Page} {off : Nat} {old : Word} {d : Word} {fe : Bool} (hk : Keeps k0 s) : Keeps k0 (State.wrote s o p off old d fe) := by
  unfold State.wrote
  exact (by split; exacts [keeps_headerWrote hk, (by split; exacts [keeps_devWrote hk, keeps_chWrote hk])])
theorem keeps_applyWrite {k0 : State} {s : State} {w : PostedWrite} {posted : Bool} (hk : Keeps k0 s) : Keeps k0 (State.applyWrite s w posted) := by
  unfold State.applyWrite
  exact (by split; exacts [hk, (by dsimp only; split; exacts [(by split; exacts [keeps_turnedAway (keeps_jAppend hk), keeps_wrote (keeps_jAppend (keeps_storeReg hk))]), (by split; exacts [keeps_turnedAway (keeps_jAppend hk), keeps_wrote (keeps_jAppend (keeps_storeReg hk))])])])
theorem keeps_servedFor {k0 : State} {s : State} {o : Origin} (hk : Keeps k0 s) : Keeps k0 (State.servedFor s o) := by
  unfold State.servedFor
  exact keeps_with_host hk
theorem keeps_busErr {k0 : State} {s : State} {o : Origin} {a : Nat} (hk : Keeps k0 s) : Keeps k0 (State.busErr s o a) := by
  unfold State.busErr
  exact (by split; exacts [keeps_intr (keeps_sat (by split; exacts [hk, keeps_setReg hk])), keeps_intr (keeps_sat (by split; exacts [hk, keeps_setReg hk])), hk])
theorem keeps_contend {k0 : State} {s : State} {p : Page} {foreign : Bool} (hk : Keeps k0 s) : Keeps k0 (State.contend s p foreign) := by
  unfold State.contend
  exact (by split; exacts [keeps_intr (keeps_setBit hk), hk])
theorem keeps_fabricRead {k0 : State} {s : State} {o : Origin} {a : Nat} (hk : Keeps k0 s) : Keeps k0 (State.fabricRead s o a).1 := by
  unfold State.fabricRead
  exact (by split; exacts [keeps_busErr hk, keeps_afterRead hk])
theorem keeps_fabricWrite {k0 : State} {s : State} {o : Origin} {v1 : Bool} {a : Nat} {d : Word} {keep : Word} (hk : Keeps k0 s) : Keeps k0 (s.fabricWrite o v1 a d keep).1 := by
  unfold State.fabricWrite
  split
  · rename_i p _ hp
    dsimp only
    split
    · split
      · dsimp only; exact keeps_mk hk rfl rfl rfl rfl rfl rfl rfl rfl rfl rfl rfl rfl rfl rfl rfl rfl
      · rename_i hlt
        dsimp only
        simp only [Bool.or_eq_true, decide_eq_true_eq, not_or, not_le] at hlt
        have e : pdomAt a = pdomOf p (a % 0x1000) := by simp [pdomAt, hp]
        exact keeps_contend (keeps_posted hk (postedPush rfl (e ▸ hlt.1)))
    · exact keeps_contend (keeps_applyWrite hk)
  · exact keeps_busErr (keeps_jAppend hk)
theorem keeps_landed {k0 : State} {s : State} {w : PostedWrite} (hk : Keeps k0 s) : Keeps k0 (State.landed s w) := by
  unfold State.landed
  exact (by split; exacts [keeps_owing hk (keeps_applyWrite hk), keeps_applyWrite hk])
theorem keeps_popPosted {k0 : State} {s : State} {q : PDom} (hk : Keeps k0 s) : Keeps k0 (s.popPosted q) := by
  unfold State.popPosted
  split
  · exact hk
  · split
    · exact hk
    · refine keeps_landed (keeps_posted hk ?_)
      intro q
      exact le_trans ((List.Sublist.filter _ List.erase_sublist).length_le) (le_max_right _ _)
theorem keeps_crcCount {k0 : State} {s : State} {p : SPort} (hk : Keeps k0 s) : Keeps k0 (State.crcCount s p) := by
  unfold State.crcCount
  exact (by split; exacts [keeps_intr (keeps_wrap32 hk), keeps_intr (keeps_wrap32 hk)])
theorem keeps_refuseCount {k0 : State} {s : State} {p : SPort} (hk : Keeps k0 s) : Keeps k0 (State.refuseCount s p) := by
  unfold State.refuseCount
  exact keeps_wrap32 hk
theorem keeps_finish {k0 : State} {s : State} {p : SPort} {tag : BitVec 5} {r : BitVec 3} {d : Word} (hk : Keeps k0 s) : Keeps k0 (State.finish s p tag r d) := by
  unfold State.finish
  exact keeps_mapPort hk
theorem keeps_failFrame {k0 : State} {s : State} {p : SPort} {tag : BitVec 5} {r : BitVec 3} (hk : Keeps k0 s) : Keeps k0 (State.failFrame s p tag r) := by
  unfold State.failFrame
  exact (by dsimp only; split; exacts [keeps_when hk (keeps_crcCount hk), keeps_finish (keeps_when hk (keeps_crcCount hk))])
theorem keeps_burstCount {k0 : State} {s : State} {p : SPort} {k : Nat} (hk : Keeps k0 s) : Keeps k0 (State.burstCount s p k) := by
  unfold State.burstCount
  exact keeps_mapPort (keeps_setFld hk)
theorem keeps_touched {k0 : State} {s : State} {p : SPort} {a : Nat} (hk : Keeps k0 s) : Keeps k0 (State.touched s p a) := by
  unfold State.touched
  exact keeps_servedFor (keeps_mapPort hk)
theorem keeps_portWrite {k0 : State} {s : State} {p : SPort} {a : Nat} {d : Word} {keep : Word} (hk : Keeps k0 s) : Keeps k0 (State.portWrite s p a d keep).1 := by
  unfold State.portWrite
  exact keeps_fabricWrite (keeps_touched hk)
theorem keeps_frameWrite {k0 : State} {s : State} {p : SPort} {tag : BitVec 5} {a : Nat} {d : Word} {keep : Word} {echo : Word} (hk : Keeps k0 s) : Keeps k0 (State.frameWrite s p tag a d keep echo) := by
  unfold State.frameWrite
  exact (by split; exacts [keeps_finish (keeps_pair ‹_› (keeps_portWrite hk)), keeps_mapPort (keeps_pair ‹_› (keeps_portWrite hk))])
theorem keeps_frameRead {k0 : State} {s : State} {p : SPort} {tag : BitVec 5} {a : Nat} {half : Option Bool} (hk : Keeps k0 s) : Keeps k0 (State.frameRead s p tag a half) := by
  unfold State.frameRead
  exact (by split; exacts [keeps_finish (keeps_pair ‹_› (keeps_fabricRead (keeps_touched hk)))])
theorem keeps_burstWrite {k0 : State} {p : SPort} {tag : BitVec 5} {l : List (Nat × Word × Bool)} : ∀ {s : State} {made : Nat} {posted : Bool}, Keeps k0 s → Keeps k0 (s.burstWrite p tag made posted l) := by
  induction l with
  | nil => intro s made posted hk; exact keeps_finish (keeps_burstCount hk)
  | cons x r ih =>
    intro s made posted hk
    obtain ⟨a, d, ok⟩ := x
    have h1 := keeps_portWrite (p := p) (a := a) (d := d) (keep := 0) hk
    unfold State.burstWrite
    split
    · exact keeps_burstCount hk
    split
    · exact keeps_finish (keeps_burstCount (keeps_crcCount hk))
    split
    · have h2 := keeps_pair ‹_› h1
      split
      · exact ih h2
      · exact keeps_finish (keeps_burstCount h2)
    · exact keeps_mapPort (keeps_pair ‹_› h1)
theorem keeps_burstRead {k0 : State} {p : SPort} {k : Nat} : ∀ {s : State} {a : Nat}, Keeps k0 s → Keeps k0 (s.burstRead p a k).1 := by
  induction k with
  | zero => intro s a hk; exact hk
  | succ k ih =>
    intro s a hk
    have h1 := keeps_fabricRead (o := portOrigin p) (a := a) (keeps_touched (p := p) (a := a) hk)
    unfold State.burstRead
    split
    rename_i s' c w he
    have h2 : Keeps k0 s' := by rw [he] at h1; exact h1
    dsimp only
    split
    · have h3 := ih (a := (a + 4) % 2 ^ 24) h2
      generalize s'.burstRead p ((a + 4) % 2 ^ 24) k = y at h3
      exact h3
    · exact h2
theorem keeps_frameBurstRead {k0 : State} {s : State} {p : SPort} {tag : BitVec 5} {a : Nat} {n : Nat} (hk : Keeps k0 s) : Keeps k0 (State.frameBurstRead s p tag a n) := by
  unfold State.frameBurstRead
  exact (by split; exacts [keeps_mapPort (keeps_burstCount (keeps_pair ‹_› (keeps_burstRead hk)))])
theorem keeps_resumePort {k0 : State} {s : State} {p : SPort} {orphan : Bool} {c : BitVec 3} (hk : Keeps k0 s) : Keeps k0 (State.resumePort s p orphan c) := by
  unfold State.resumePort
  exact (by dsimp only; split; exacts [(by split; exacts [keeps_burstCount hk, hk]), (by split; exacts [(by split; exacts [(by split; exacts [keeps_burstWrite (keeps_mapPort hk), keeps_finish (keeps_burstCount hk)]), keeps_finish hk]), hk])])
theorem keeps_portAbort {k0 : State} {s : State} {p : SPort} {tag : BitVec 5} (hk : Keeps k0 s) : Keeps k0 (State.portAbort s p tag) := by
  unfold State.portAbort
  exact (by split; exacts [keeps_finish (keeps_portStops hk), (by split; exacts [hk, keeps_finish hk])])
theorem keeps_portReset {k0 : State} {s : State} {p : SPort} {tag : BitVec 5} (hk : Keeps k0 s) : Keeps k0 (State.portReset s p tag) := by
  unfold State.portReset
  exact keeps_finish (keeps_breakLocksOf (keeps_jEvent (keeps_mapPort (keeps_portStops hk))))
theorem keeps_exec2 {k0 : State} {s : State} {p : SPort} {k : Nat} {m : List Byte} (hk : Keeps k0 s) : Keeps k0 (State.exec2 s p k m) := by
  unfold State.exec2
  exact (by dsimp only; split; exacts [keeps_finish hk, keeps_frameRead hk, keeps_frameWrite hk, (by split; exacts [keeps_frameBurstRead hk, keeps_failFrame hk]), keeps_burstWrite hk, (by split; exacts [keeps_portAbort hk, (by split; exacts [keeps_portReset hk, keeps_failFrame hk])]), keeps_failFrame hk])
theorem keeps_write1 {k0 : State} {s : State} {p : SPort} {b : Nat} {h : BitVec 16} {latch : Option (BitVec 16 × Nat)} (hk : Keeps k0 s) : Keeps k0 (State.write1 s p b h latch) := by
  unfold State.write1
  exact (by dsimp only; split; exacts [(by split; exacts [keeps_finish (keeps_mapPort hk), keeps_frameWrite hk]), (by split; exacts [keeps_finish (keeps_mapPort hk), keeps_frameWrite hk])])
theorem keeps_exec1 {k0 : State} {s : State} {p : SPort} {m : List Byte} (hk : Keeps k0 s) : Keeps k0 (State.exec1 s p m) := by
  unfold State.exec1
  exact (by dsimp only; split; exacts [keeps_finish (keeps_mapPort hk), keeps_frameRead (keeps_mapPort hk), keeps_write1 (keeps_mapPort hk), keeps_failFrame (keeps_mapPort hk)])
theorem keeps_frameEnds {k0 : State} {s : State} {p : SPort} {ready : Bool} {edges : Nat} {m : List Byte} (hk : Keeps k0 s) : Keeps k0 (State.frameEnds s p ready edges m) := by
  unfold State.frameEnds
  with_reducible (repeat' first | exact hk | assumption | apply keeps_mapPort | apply keeps_refuseCount | apply keeps_failFrame | apply keeps_exec1 | apply keeps_exec2 | exact id | exact fun _ h => h | split | dsimp only | intro _)
theorem keeps_frame {k0 : State} {s : State} {p : SPort} {edges : Nat} {m : List Byte} {low : Nat} (hk : Keeps k0 s) : Keeps k0 (State.frame s p edges m low) := by
  unfold State.frame
  exact (by dsimp only; split; exacts [keeps_mapPort hk, keeps_frameEnds (keeps_mapPort hk)])
theorem keeps_mapWin {k0 : State} {s : State} {n : Ch} {f : MdioWin → MdioWin} (hk : Keeps k0 s) : Keeps k0 (State.mapWin s n f) := by
  unfold State.mapWin
  exact keeps_with_host hk
theorem keeps_mdioReg {k0 : State} {s : State} {a : Nat} (hk : Keeps k0 s) : Keeps k0 (State.mdioReg s a).1 := by
  unfold State.mdioReg
  with_reducible (repeat' first | exact hk | assumption | apply keeps_busErr | exact id | exact fun _ h => h | split | dsimp only | intro _)
theorem keeps_stdRead {k0 : State} {s : State} {n : Ch} {mmd : Nat} {reg : Nat} (hk : Keeps k0 s) : Keeps k0 (State.stdRead s n mmd reg).1 := by
  unfold State.stdRead
  exact (by split; exacts [hk, (by split; exacts [keeps_pair ‹_› (keeps_mdioReg hk)]), (by split; exacts [keeps_pair ‹_› (keeps_mdioReg hk)]), (by split; exacts [(by split; exacts [keeps_pair ‹_› (keeps_mdioReg hk), (by split; exacts [keeps_pair ‹_› (keeps_mdioReg (keeps_pair ‹_› (keeps_mdioReg hk)))])])]), (by split; exacts [keeps_pair ‹_› (keeps_mdioReg hk)]), (by split; exacts [(by split; exacts [keeps_pair ‹_› (keeps_mdioReg (keeps_pair ‹_› (keeps_mdioReg hk)))])]), (by split; exacts [keeps_pair ‹_› (keeps_mdioReg hk)]), hk, hk])
theorem keeps_mdioWrite {k0 : State} {s : State} {a : Nat} {d : Word} {keep : Word} (hk : Keeps k0 s) : Keeps k0 (State.mdioWrite s a d keep) := by
  unfold State.mdioWrite
  exact keeps_fabricWrite hk
theorem keeps_stdWrite {k0 : State} {s : State} {n : Ch} {mmd : Nat} {reg : Nat} {d : BitVec 16} (hk : Keeps k0 s) : Keeps k0 (State.stdWrite s n mmd reg d) := by
  unfold State.stdWrite
  exact (by dsimp only; split; exacts [keeps_mdioWrite hk, keeps_mdioWrite hk, keeps_mdioWrite hk, keeps_mdioWrite hk, keeps_mdioWrite hk, keeps_mdioWrite (keeps_mdioWrite hk), keeps_mdioWrite hk, keeps_jAppend hk, keeps_jAppend hk])
theorem keeps_winWrite {k0 : State} {s : State} {phy : BitVec 5} {reg : Nat} {d : BitVec 16} (hk : Keeps k0 s) : Keeps k0 (State.winWrite s phy reg d) := by
  unfold State.winWrite
  exact (by split; exacts [hk, (by split; exacts [(by split; exacts [keeps_sat hk, hk]), keeps_mapWin hk])])
theorem keeps_winRun {k0 : State} {s : State} {n : Ch} (hk : Keeps k0 s) : Keeps k0 (State.winRun s n) := by
  unfold State.winRun
  with_reducible (repeat' first | exact hk | assumption | apply keeps_mapWin | refine keeps_pair ‹_› ?_ | apply keeps_fabricRead | apply keeps_fabricWrite | exact id | exact fun _ h => h | split | dsimp only | intro _)
theorem keeps_remoteAnswer {k0 : State} {s : State} {n : Ch} {r : Remote} {c : BitVec 3} {d : Word} (hk : Keeps k0 s) : Keeps k0 (State.remoteAnswer s n r c d) := by
  unfold State.remoteAnswer
  exact keeps_oamPush (keeps_mapChan hk)
theorem keeps_remoteDone {k0 : State} {s : State} {n : Ch} {r : Remote} {c : BitVec 3} {d : Word} (hk : Keeps k0 s) : Keeps k0 (State.remoteDone s n r c d) := by
  unfold State.remoteDone
  exact keeps_remoteAnswer (keeps_wrap32 hk)
theorem keeps_mapJtag {k0 : State} {s : State} {f : Jtag → Jtag} (hk : Keeps k0 s) : Keeps k0 (State.mapJtag s f) := by
  unfold State.mapJtag
  exact keeps_with_host hk
theorem keeps_jtagScan {k0 : State} {s : State} {a : Addr} {write : Option Word} (hk : Keeps k0 s) : Keeps k0 (State.jtagScan s a write) := by
  unfold State.jtagScan
  with_reducible (repeat' first | exact hk | assumption | apply keeps_mapJtag | refine keeps_pair ‹_› ?_ | apply keeps_fabricRead | apply keeps_servedFor | apply keeps_fabricWrite | exact id | exact fun _ h => h | split | dsimp only | intro _)
theorem keeps_resumed {k0 : State} {s : State} {w : PostedWrite} {c : BitVec 3} (hk : Keeps k0 s) : Keeps k0 (State.resumed s w c) := by
  unfold State.resumed
  exact (by split; exacts [keeps_resumePort hk, keeps_resumePort hk, (by split; exacts [keeps_mapWin hk, hk]), (by split; exacts [keeps_remoteDone hk, hk]), (by split; exacts [keeps_mapJtag hk, hk]), hk])
theorem keeps_unhold {k0 : State} {s : State} {q : PDom} (hk : Keeps k0 s) : Keeps k0 (State.unhold s q) := by
  unfold State.unhold
  exact (by split; exacts [hk, (by split; exacts [hk, (by dsimp only; split; exacts [keeps_resumed (keeps_with_heldWrites (keeps_pair ‹_› (keeps_fabricWrite (keeps_with_heldWrites hk)))), keeps_with_heldWrites (keeps_pair ‹_› (keeps_fabricWrite (keeps_with_heldWrites hk)))])])])
set_option maxRecDepth 4000 in
theorem keeps_loadTrims {k0 : State} {s : State} {n : Ch} {g : Nat} (hk : Keeps k0 s) : Keeps k0 (s.loadTrims n g) := by
  unfold State.loadTrims
  extract_lets put
  have hp : ∀ l w, Keeps k0 (put s l w) := fun l w => keeps_setReg (keeps_mapTrim hk)
  split
  · exact hp _ _
  · exact keeps_intr (hp _ _)
  · exact keeps_intr (hp _ _)
theorem keeps_showCal {k0 : State} {s : State} (hk : Keeps k0 s) : Keeps k0 (State.showCal s) := by
  unfold State.showCal
  exact keeps_setReg (keeps_setReg (keeps_setReg (keeps_setReg hk)))
theorem keeps_loadGens {k0 : State} {s : State} (hk : Keeps k0 s) : Keeps k0 (State.loadGens s) := by
  unfold State.loadGens
  exact keeps_showCal (keeps_forCh (by split; exacts [keeps_mapLife (keeps_setReg (keeps_setReg hk)), keeps_setReg (keeps_setReg hk)]) (fun x2_0 x2_1 x2_2 => keeps_loadTrims x2_2))
theorem keeps_loadRepairs {k0 : State} {s : State} (hk : Keeps k0 s) : Keeps k0 (State.loadRepairs s) := by
  unfold State.loadRepairs
  exact keeps_foldl (keeps_when (keeps_setFld (keeps_showRepairs (keeps_with_bist hk id))) (keeps_intr (keeps_setFld (keeps_showRepairs (keeps_with_bist hk id))))) (fun x1_0 x1_1 x1_2 => keeps_setBit x1_2)
theorem keeps_startFences {k0 : State} {s : State} (hk : Keeps k0 s) : Keeps k0 (State.startFences s) := by
  unfold State.startFences
  exact keeps_foldl (keeps_foldl (keeps_forCh hk (fun x3_0 x3_1 x3_2 => (by split; exacts [keeps_fenceChannel x3_2, x3_2]))) (fun x2_0 x2_1 x2_2 => keeps_fenceUnit x2_2)) (fun x1_0 x1_1 x1_2 => (by split; exacts [keeps_fenceCh x1_2, x1_2]))
theorem keeps_jLate {k0 : State} {s : State} {e : JEntry} (hk : Keeps k0 s) : Keeps k0 (s.jLate e) := by
  unfold State.jLate
  refine keeps_with_jrnl (keeps_jAppend hk) ?_ id
  intro h
  dsimp only
  split
  · simp_all
  · simp
theorem keeps_startEvents {k0 : State} {s : State} (hk : Keeps k0 s) : Keeps k0 (State.startEvents s) := by
  unfold State.startEvents
  exact keeps_foldl (by split; exacts [keeps_jEvent (keeps_newRing hk), keeps_jEvent (keeps_newRing hk), keeps_jEvent hk, keeps_jEvent hk, hk]) (fun x1_0 x1_1 x1_2 => keeps_jEvent x1_2)
theorem keeps_markReset {k0 : State} {s : State} (hk : Keeps k0 s) : Keeps k0 (State.markReset s) := by
  unfold State.markReset
  exact keeps_foldl hk (fun x1_0 x1_1 x1_2 => keeps_setReg x1_2)
theorem keeps_owedBreaksDone {k0 : State} {s : State} (hk : Keeps k0 s) : Keeps k0 (State.owedBreaksDone s) := by
  unfold State.owedBreaksDone
  exact keeps_foldl hk (fun x1_0 x1_1 x1_2 => (by split; exacts [keeps_lockBroken (keeps_jAppend x1_2), x1_2]))
theorem keeps_owedEntries {k0 : State} {s : State} (hk : Keeps k0 s) : Keeps k0 (State.owedEntries s) := by
  unfold State.owedEntries
  exact keeps_with_rst (keeps_owedBreaksDone (keeps_foldl (keeps_markReset (keeps_startEvents hk)) (fun x2_0 x2_1 x2_2 => keeps_jLate x2_2)))
theorem keeps_drainPosted {k0 : State} {s : State} {q : PDom} (hk : Keeps k0 s) : Keeps k0 (State.drainPosted s q) := by
  unfold State.drainPosted
  exact keeps_foldl hk (fun x1_0 x1_1 x1_2 => keeps_unhold (keeps_popPosted x1_2))
theorem keeps_restoreWrite {k0 : State} {s : State} {a : Nat} {d : Word} (hk : Keeps k0 s) : Keeps k0 (State.restoreWrite s a d).1 := by
  unfold State.restoreWrite
  exact (by split; exacts [keeps_pair ‹_› (keeps_fabricWrite hk), (by split; exacts [keeps_pair ‹_› (keeps_fabricWrite (keeps_drainPosted hk))])])
theorem keeps_restoreCalendar {k0 : State} {s : State} (hk : Keeps k0 s) : Keeps k0 (State.restoreCalendar s) := by
  unfold State.restoreCalendar
  exact (by dsimp only; split; exacts [keeps_foldl (keeps_restoreWrite hk) (fun x2_0 x2_1 x2_2 => keeps_restoreWrite (keeps_restoreWrite (keeps_restoreWrite x2_2))), hk])
theorem keeps_applyEntries {k0 : State} {s : State} {l : List (Nat × Bool × Word)} (hk : Keeps k0 s) : Keeps k0 (State.applyEntries s l) := by
  unfold State.applyEntries
  exact keeps_foldl hk (fun x1_0 x1_1 x1_2 => (by split; exacts [(by split; exacts [keeps_when (keeps_sat (keeps_pair ‹_› (keeps_restoreWrite x1_2))) (keeps_sat (keeps_sat (keeps_pair ‹_› (keeps_restoreWrite x1_2))))]), x1_2]))
theorem keeps_loadNvm {k0 : State} {s : State} (hk : Keeps k0 s) : Keeps k0 (State.loadNvm s) := by
  unfold State.loadNvm
  exact keeps_loadLeap (keeps_forCh (keeps_loadRepairs (keeps_loadGens (keeps_loadLedger (keeps_showArea (keeps_showSects hk))))) (fun x2_0 x2_1 x2_2 => keeps_loadProfile x2_2))
theorem keeps_showStart {k0 : State} {s : State} (hk : Keeps k0 s) : Keeps k0 (State.showStart s) := by
  unfold State.showStart
  exact keeps_when (keeps_setReg (keeps_setReg hk)) (keeps_intr (keeps_setReg (keeps_setReg hk)))
theorem keeps_writeKeep {k0 : State} {s : State} {o : Origin} {a : Nat} {d : Word} {keep : Word} (hk : Keeps k0 s) : Keeps k0 (State.writeKeep s o a d keep) := by
  unfold State.writeKeep
  exact (by split; exacts [hk, keeps_when (keeps_fabricWrite (keeps_when hk (keeps_drainPosted hk))) (keeps_popPosted (keeps_fabricWrite (keeps_when hk (keeps_drainPosted hk))))])
theorem keeps_writeNow {k0 : State} {s : State} {o : Origin} {a : Nat} {d : Word} (hk : Keeps k0 s) : Keeps k0 (State.writeNow s o a d) := by
  unfold State.writeNow
  exact keeps_writeKeep hk
theorem keeps_writeFld {k0 : State} {s : State} {o : Origin} {a : Nat} {hi : Nat} {lo : Nat} {v : Nat} (hk : Keeps k0 s) : Keeps k0 (State.writeFld s o a hi lo v) := by
  unfold State.writeFld
  exact keeps_writeKeep hk
theorem keeps_writeKeyed {k0 : State} {s : State} {o : Origin} {a : Nat} {hi : Nat} {i : Nat} {b : Bool} (hk : Keeps k0 s) : Keeps k0 (State.writeKeyed s o a hi i b) := by
  unfold State.writeKeyed
  exact keeps_writeKeep hk
theorem keeps_snap {a s : State} {m : List (Nat × Word)} (h : Keeps a s) (h1 : Store.Wf resetWord s.snap → Store.Wf resetWord m)
     : Keeps a { s with snap := m } :=
  h.trans ⟨rfl, rfl, fun _ h => h, fun ⟨a, b, c, d, e, f, g, i⟩ => ⟨a, b, c, h1 d, e, f, g, i⟩,
    fun ⟨a, b, c, d, e⟩ => ⟨a, b, c, d, e⟩⟩
theorem keeps_capturePage {k0 : State} {s : State} {p : Page} (hk : Keeps k0 s) : Keeps k0 (s.capturePage p) := by
  unfold State.capturePage
  refine keeps_snap hk ?_
  intro h
  have : ∀ (l : List Nat) (t : List (Nat × Word)), Store.Wf resetWord t → Store.Wf resetWord (l.foldl (fun t a => Store.put resetWord t a (s.contents a)) t) := by
    intro l
    induction l with
    | nil => intro t h; exact h
    | cons x r ih => intro t h; exact ih _ (Store.put_wf _ _ _ _ h)
  exact this _ _ (Store.keep_wf _ _ _ h)
theorem keeps_snapShown {k0 : State} {s : State} {p : Page} (hk : Keeps k0 s) : Keeps k0 (State.snapShown s p) := by
  unfold State.snapShown
  exact keeps_intr (keeps_setReg hk)


end Sys2Proof.Machine
end

