-- ==== Sys2Proof/Laws/Memory.lean ====
section
/-! SUPPORT. What the operations on the NVM array do: they keep its canonical form, the bytes written read as written and every other byte as before. -/

set_option Elab.async false

namespace Sys2Proof.Machine

/-- The array after the reset has the canonical form. -/
theorem reset_mem_wf : Memory.wf State.reset.nvm.mem := by decide

/-- Several writes leave what every other key reads as. -/
theorem Store.get_putAll_ne {α : Type} [DecidableEq α] (dflt : Nat → α) (ws m : List (Nat × α)) (k : Nat)
    (h : ∀ w ∈ ws, k ≠ w.1) : Store.get dflt (Store.putAll dflt m ws) k = Store.get dflt m k := by
  induction ws generalizing m with
  | nil => rfl
  | cons w r ih =>
    rw [show Store.putAll dflt m (w :: r) = Store.putAll dflt (Store.put dflt m w.1 w.2) r from rfl,
      ih _ (fun x hx => h x (by simp [hx])), Store.get_put_ne dflt m w.1 k w.2 (h w (by simp))]

/-- Writing bytes keeps the canonical form. -/
theorem Nvm.put_wf (v : Nvm) (a : Nat) (l : List Byte) (h : Memory.wf v.mem) : Memory.wf (v.put a l).mem :=
  Store.putAll_wf _ _ _ h

/-- A byte outside the bytes written reads as before. -/
theorem Nvm.byte_put_off (v : Nvm) (a k : Nat) (l : List Byte) (h : k < a ∨ a + l.length ≤ k) :
    (v.put a l).byte k = v.byte k := by
  refine Store.get_putAll_ne _ _ _ _ ?_
  intro w hw
  obtain ⟨x, hx, rfl⟩ := List.mem_map.1 hw
  have := List.snd_lt_of_mem_zipIdx hx
  simp only
  omega

/-- The first of the bytes written reads as written. -/
theorem Nvm.byte_put_first (v : Nvm) (a : Nat) (b : Byte) (l : List Byte) (h : Memory.wf v.mem) :
    (v.put a (b :: l)).byte a = b := by
  have e : (v.put a (b :: l)).mem =
      Store.putAll (fun _ => erased) (Store.put (fun _ => erased) v.mem a b) ((l.zipIdx 1).map (fun x => (a + x.2, x.1))) := by
    simp [Nvm.put, Store.putAll, List.zipIdx_cons]
  simp only [Nvm.byte, e]
  rw [Store.get_putAll_ne, Store.get_put_same _ _ _ _ h]
  intro w hw
  obtain ⟨x, hx, rfl⟩ := List.mem_map.1 hw
  have := List.le_snd_of_mem_zipIdx hx
  simp only
  omega

end Sys2Proof.Machine
end

