-- ==== Sys2Proof/Laws/PerInstr.lean ====
section
/-! SUPPORT. Per command: an access that a well-formed command makes comes from an origin outside the device (R38, 02 Table 18). -/

namespace Sys2Proof.Laws.Wf

/-- A well-formed command that is an access of a register names an origin outside the device. -/
def Statement (i : Instr) : Prop := ∀ o, i.origin = some o → i.wf = true → sends o = true

theorem registerWrite : ∀ o a d, Statement (.registerWrite o a d) :=
  fun _ _ _ _ h w => Option.some.inj h ▸ w
theorem vaoPowerOnReset : ∀ mv, Statement (.vaoPowerOnReset mv) :=
  fun _ _ h _ => nomatch h
theorem corePowerLoss : ∀ mv, Statement (.corePowerLoss mv) :=
  fun _ _ h _ => nomatch h
theorem resetN : ∀ low, Statement (.resetN low) :=
  fun _ _ h _ => nomatch h
theorem startUp : ∀ straps, Statement (.startUp straps) :=
  fun _ _ h _ => nomatch h
theorem hostPortReady : Statement .hostPortReady :=
  fun _ h _ => nomatch h
theorem devResetArm : ∀ o, Statement (.devResetArm o) :=
  fun _ _ h w => Option.some.inj h ▸ w
theorem devResetGo : ∀ o keep, Statement (.devResetGo o keep) :=
  fun _ _ _ h w => Option.some.inj h ▸ w
theorem devResetBegin : Statement .devResetBegin :=
  fun _ h _ => nomatch h
theorem devResetLapse : Statement .devResetLapse :=
  fun _ h _ => nomatch h
theorem channelReset : ∀ o n, Statement (.channelReset o n) :=
  fun _ _ _ h w => Option.some.inj h ▸ w
theorem blockReset : ∀ o p, Statement (.blockReset o p) :=
  fun _ _ _ h w => Option.some.inj h ▸ w
theorem pageFenceSet : ∀ o p, Statement (.pageFenceSet o p) :=
  fun _ _ _ h w => Option.some.inj h ▸ w
theorem pageFenceRemove : ∀ o p, Statement (.pageFenceRemove o p) :=
  fun _ _ _ h w => Option.some.inj h ▸ w
theorem pageViewSelWrite : ∀ o p d, Statement (.pageViewSelWrite o p d) :=
  fun _ _ _ _ h w => Option.some.inj h ▸ w
theorem intTestWrite : ∀ o p d, Statement (.intTestWrite o p d) :=
  fun _ _ _ _ h w => Option.some.inj h ▸ w
theorem postedWriteTakesEffect : ∀ q, Statement (.postedWriteTakesEffect q) :=
  fun _ _ h _ => nomatch h
theorem snapRequest : ∀ o p all hold, Statement (.snapRequest o p all hold) :=
  fun _ _ _ _ _ h w => Option.some.inj h ▸ w
theorem snapTaken : ∀ p, Statement (.snapTaken p) :=
  fun _ _ h _ => nomatch h
theorem lockWrite : ∀ o p d, Statement (.lockWrite o p d) :=
  fun _ _ _ _ h w => Option.some.inj h ▸ w
theorem leaseExpiry : ∀ p, Statement (.leaseExpiry p) :=
  fun _ _ h _ => nomatch h
theorem nvmwDataWrite : ∀ o k d, Statement (.nvmwDataWrite o k d) :=
  fun _ _ _ _ h w => Option.some.inj h ▸ w
theorem tokenIssue : Statement .tokenIssue :=
  fun _ h _ => nomatch h
theorem flushAgeExpiry : Statement .flushAgeExpiry :=
  fun _ h _ => nomatch h
theorem journalFlush : ∀ o, Statement (.journalFlush o) :=
  fun _ _ h w => Option.some.inj h ▸ w
theorem journalCommit : Statement .journalCommit :=
  fun _ h _ => nomatch h
theorem journalReadLoad : ∀ o ctrl d, Statement (.journalReadLoad o ctrl d) :=
  fun _ _ _ _ h w => Option.some.inj h ▸ w
theorem archiveFetchDone : Statement .archiveFetchDone :=
  fun _ h _ => nomatch h
theorem entryW7Read : ∀ o, Statement (.entryW7Read o) :=
  fun _ _ h w => Option.some.inj h ▸ w
theorem jobTdrSweep : ∀ o slot target, Statement (.jobTdrSweep o slot target) :=
  fun _ _ _ _ h w => Option.some.inj h ▸ w
theorem jobCableProfileLearning : ∀ o slot target, Statement (.jobCableProfileLearning o slot target) :=
  fun _ _ _ _ h w => Option.some.inj h ▸ w
theorem nvmCommitStaging : ∀ slot, Statement (.nvmCommitStaging slot) :=
  fun _ _ h _ => nomatch h
theorem nvmCommitProfileErase : ∀ slot, Statement (.nvmCommitProfileErase slot) :=
  fun _ _ h _ => nomatch h
theorem nvmCommitLeapTable : ∀ slot, Statement (.nvmCommitLeapTable slot) :=
  fun _ _ h _ => nomatch h
theorem nvmCommitCalendar : ∀ slot, Statement (.nvmCommitCalendar slot) :=
  fun _ _ h _ => nomatch h
theorem nvmReadBackProfile : ∀ slot, Statement (.nvmReadBackProfile slot) :=
  fun _ _ h _ => nomatch h
theorem nvmReadBackLeapTable : ∀ slot, Statement (.nvmReadBackLeapTable slot) :=
  fun _ _ h _ => nomatch h
theorem jobBist : ∀ o slot target, Statement (.jobBist o slot target) :=
  fun _ _ _ _ h w => Option.some.inj h ▸ w
theorem jobLedgerUpdate : ∀ o slot target, Statement (.jobLedgerUpdate o slot target) :=
  fun _ _ _ _ h w => Option.some.inj h ▸ w
theorem jobTrimRecheck : ∀ o slot target, Statement (.jobTrimRecheck o slot target) :=
  fun _ _ _ _ h w => Option.some.inj h ▸ w
theorem jobAbort : ∀ o slot, Statement (.jobAbort o slot) :=
  fun _ _ _ h w => Option.some.inj h ▸ w
theorem jobWaitClears : ∀ slot, Statement (.jobWaitClears slot) :=
  fun _ _ h _ => nomatch h
theorem jobStep : ∀ slot held env, Statement (.jobStep slot held env) :=
  fun _ _ _ _ h _ => nomatch h
theorem deviceJobDispatch : Statement .deviceJobDispatch :=
  fun _ h _ => nomatch h
theorem v2Nop : ∀ p edges m low, Statement (.v2Nop p edges m low) :=
  fun _ _ _ _ _ h _ => nomatch h
theorem v2Read : ∀ p tag a d crc low, Statement (.v2Read p tag a d crc low) :=
  fun _ _ _ _ _ _ _ h _ => nomatch h
theorem v2Write : ∀ p tag a d crc low, Statement (.v2Write p tag a d crc low) :=
  fun _ _ _ _ _ _ _ h _ => nomatch h
theorem v2BurstRead : ∀ p tag a d crc low, Statement (.v2BurstRead p tag a d crc low) :=
  fun _ _ _ _ _ _ _ h _ => nomatch h
theorem v2BurstWrite : ∀ p tag a d crc ext low, Statement (.v2BurstWrite p tag a d crc ext low) :=
  fun _ _ _ _ _ _ _ _ h _ => nomatch h
theorem portCtrlAbort : ∀ p tag crc low, Statement (.portCtrlAbort p tag crc low) :=
  fun _ _ _ _ _ h _ => nomatch h
theorem portReset : ∀ p tag crc low, Statement (.portReset p tag crc low) :=
  fun _ _ _ _ _ h _ => nomatch h
theorem portResetComplete : ∀ p, Statement (.portResetComplete p) :=
  fun _ _ h _ => nomatch h
theorem v1Nop : ∀ p m low, Statement (.v1Nop p m low) :=
  fun _ _ _ _ h _ => nomatch h
theorem v1Read : ∀ p region off d crc low, Statement (.v1Read p region off d crc low) :=
  fun _ _ _ _ _ _ _ h _ => nomatch h
theorem v1Write : ∀ p region off d crc low, Statement (.v1Write p region off d crc low) :=
  fun _ _ _ _ _ _ _ h _ => nomatch h
theorem mdioStdRead : ∀ phy mmd reg, Statement (.mdioStdRead phy mmd reg) :=
  fun _ _ _ _ h _ => nomatch h
theorem mdioStdWrite : ∀ phy mmd reg d, Statement (.mdioStdWrite phy mmd reg d) :=
  fun _ _ _ _ _ h _ => nomatch h
theorem mdioWindowRegWrite : ∀ phy reg d, Statement (.mdioWindowRegWrite phy reg d) :=
  fun _ _ _ _ h _ => nomatch h
theorem mdioWindowRead : ∀ phy inc, Statement (.mdioWindowRead phy inc) :=
  fun _ _ _ h _ => nomatch h
theorem mdioWindowWrite : ∀ phy inc, Statement (.mdioWindowWrite phy inc) :=
  fun _ _ _ h _ => nomatch h
theorem mdioWindowDone : ∀ phy, Statement (.mdioWindowDone phy) :=
  fun _ _ h _ => nomatch h
theorem buserrStickyClear : ∀ o rmt, Statement (.buserrStickyClear o rmt) :=
  fun _ _ _ h w => Option.some.inj h ▸ w
theorem remoteRequest : ∀ n, Statement (.remoteRequest n) :=
  fun _ _ h _ => nomatch h
theorem remoteRequestExecute : ∀ n, Statement (.remoteRequestExecute n) :=
  fun _ _ h _ => nomatch h
theorem remoteGo : ∀ o n op, Statement (.remoteGo o n op) :=
  fun _ _ _ _ h w => Option.some.inj h ▸ w
theorem remoteReplyReceive : ∀ n, Statement (.remoteReplyReceive n) :=
  fun _ _ h _ => nomatch h
theorem remoteTimeout : Statement .remoteTimeout :=
  fun _ h _ => nomatch h
theorem portFenceSet : ∀ o p, Statement (.portFenceSet o p) :=
  fun _ _ _ h w => Option.some.inj h ▸ w
theorem portFenceRemove : ∀ o p, Statement (.portFenceRemove o p) :=
  fun _ _ _ h w => Option.some.inj h ▸ w
theorem orbitTransmit : ∀ n late, Statement (.orbitTransmit n late) :=
  fun _ _ _ h _ => nomatch h
theorem ktlFieldReceive : ∀ n mark field late errs, Statement (.ktlFieldReceive n mark field late errs) :=
  fun _ _ _ _ _ _ h _ => nomatch h
theorem oamMessageSend : ∀ n late, Statement (.oamMessageSend n late) :=
  fun _ _ _ h _ => nomatch h
theorem oamMessageReceive : ∀ n, Statement (.oamMessageReceive n) :=
  fun _ _ h _ => nomatch h
theorem codewordReceive : ∀ n k r, Statement (.codewordReceive n k r) :=
  fun _ _ _ _ h _ => nomatch h
theorem codewordRelease : ∀ n, Statement (.codewordRelease n) :=
  fun _ _ h _ => nomatch h
theorem berWindowEnd : ∀ n, Statement (.berWindowEnd n) :=
  fun _ _ h _ => nomatch h
theorem iterMaxWrite : ∀ o n v, Statement (.iterMaxWrite o n v) :=
  fun _ _ _ _ h w => Option.some.inj h ▸ w
theorem fecUnitFenceSet : ∀ o n u, Statement (.fecUnitFenceSet o n u) :=
  fun _ _ _ _ h w => Option.some.inj h ▸ w
theorem fecUnitFenceRemove : ∀ o n u, Statement (.fecUnitFenceRemove o n u) :=
  fun _ _ _ _ h w => Option.some.inj h ▸ w
theorem singleEngineStart : ∀ n, Statement (.singleEngineStart n) :=
  fun _ _ h _ => nomatch h
theorem singleEngineEnd : ∀ n, Statement (.singleEngineEnd n) :=
  fun _ _ h _ => nomatch h
theorem rxGainWrite : ∀ o n d, Statement (.rxGainWrite o n d) :=
  fun _ _ _ _ h w => Option.some.inj h ▸ w
theorem powerMeasurementUpdate : ∀ n m, Statement (.powerMeasurementUpdate n m) :=
  fun _ _ _ h _ => nomatch h
theorem shadowAdvance : ∀ n pairs, Statement (.shadowAdvance n pairs) :=
  fun _ _ _ h _ => nomatch h
theorem sliceFault : ∀ n e, Statement (.sliceFault n e) :=
  fun _ _ _ h _ => nomatch h
theorem segmentMonitor : ∀ n cur, Statement (.segmentMonitor n cur) :=
  fun _ _ _ h _ => nomatch h
theorem dfeTapsWrite : ∀ o n d, Statement (.dfeTapsWrite o n d) :=
  fun _ _ _ _ h w => Option.some.inj h ▸ w
theorem timingModeWrite : ∀ o n mode, Statement (.timingModeWrite o n mode) :=
  fun _ _ _ _ h w => Option.some.inj h ▸ w
theorem timingBwWrite : ∀ o n bw, Statement (.timingBwWrite o n bw) :=
  fun _ _ _ _ h w => Option.some.inj h ▸ w
theorem timingLockChange : ∀ n, Statement (.timingLockChange n) :=
  fun _ _ h _ => nomatch h
theorem sscModelLock : ∀ n corner obs, Statement (.sscModelLock n corner obs) :=
  fun _ _ _ _ h _ => nomatch h
theorem sscModelFail : ∀ n depth rate, Statement (.sscModelFail n depth rate) :=
  fun _ _ _ _ h _ => nomatch h
theorem adaptFreezeEnd : ∀ n, Statement (.adaptFreezeEnd n) :=
  fun _ _ h _ => nomatch h
theorem nfListenWrite : ∀ o n d, Statement (.nfListenWrite o n d) :=
  fun _ _ _ _ h w => Option.some.inj h ▸ w
theorem noiseFloorComplete : ∀ n blocks, Statement (.noiseFloorComplete n blocks) :=
  fun _ _ _ h _ => nomatch h
theorem anEnable : ∀ o n, Statement (.anEnable o n) :=
  fun _ _ _ h w => Option.some.inj h ▸ w
theorem anDisable : ∀ o n, Statement (.anDisable o n) :=
  fun _ _ _ h w => Option.some.inj h ▸ w
theorem anRestart : ∀ o n, Statement (.anRestart o n) :=
  fun _ _ _ h w => Option.some.inj h ▸ w
theorem advWrite : ∀ o n d, Statement (.advWrite o n d) :=
  fun _ _ _ _ h w => Option.some.inj h ▸ w
theorem negotiationComplete : ∀ n lp np, Statement (.negotiationComplete n lp np) :=
  fun _ _ _ _ h _ => nomatch h
theorem phase1Timer : ∀ n, Statement (.phase1Timer n) :=
  fun _ _ h _ => nomatch h
theorem tswReceive : ∀ n mark signs errs, Statement (.tswReceive n mark signs errs) :=
  fun _ _ _ _ _ h _ => nomatch h
theorem trainingPhaseAdvance : ∀ n, Statement (.trainingPhaseAdvance n) :=
  fun _ _ h _ => nomatch h
theorem trainingTimeout : ∀ n, Statement (.trainingTimeout n) :=
  fun _ _ h _ => nomatch h
theorem abortTswEnd : ∀ n, Statement (.abortTswEnd n) :=
  fun _ _ h _ => nomatch h
theorem fastHoldExpiry : ∀ n, Statement (.fastHoldExpiry n) :=
  fun _ _ h _ => nomatch h
theorem lpiEnter : ∀ n, Statement (.lpiEnter n) :=
  fun _ _ h _ => nomatch h
theorem lpiWake : ∀ n, Statement (.lpiWake n) :=
  fun _ _ h _ => nomatch h
theorem eclipseRequest : ∀ n, Statement (.eclipseRequest n) :=
  fun _ _ h _ => nomatch h
theorem eclipseAnnounce : ∀ n, Statement (.eclipseAnnounce n) :=
  fun _ _ h _ => nomatch h
theorem eclipseStart : ∀ n, Statement (.eclipseStart n) :=
  fun _ _ h _ => nomatch h
theorem eclipseReceive : ∀ n, Statement (.eclipseReceive n) :=
  fun _ _ h _ => nomatch h
theorem eclipseMiss : ∀ n unannounced, Statement (.eclipseMiss n unannounced) :=
  fun _ _ _ h _ => nomatch h
theorem eclipseDefer : ∀ n, Statement (.eclipseDefer n) :=
  fun _ _ h _ => nomatch h
theorem eclipseStale : ∀ n, Statement (.eclipseStale n) :=
  fun _ _ h _ => nomatch h
theorem hlModeWrite : ∀ o n d, Statement (.hlModeWrite o n d) :=
  fun _ _ _ _ h w => Option.some.inj h ▸ w
theorem hostFrameReceive : ∀ n f, Statement (.hostFrameReceive n f) :=
  fun _ _ _ h _ => nomatch h
theorem rmXoff : ∀ n, Statement (.rmXoff n) :=
  fun _ _ h _ => nomatch h
theorem rmPauseRepeat : ∀ n, Statement (.rmPauseRepeat n) :=
  fun _ _ h _ => nomatch h
theorem rmXon : ∀ n, Statement (.rmXon n) :=
  fun _ _ h _ => nomatch h
theorem relayEnable : ∀ o k, Statement (.relayEnable o k) :=
  fun _ _ _ h w => Option.some.inj h ▸ w
theorem relayDisable : ∀ o k, Statement (.relayDisable o k) :=
  fun _ _ _ h w => Option.some.inj h ▸ w
theorem relayTapWrite : ∀ o k tap, Statement (.relayTapWrite o k tap) :=
  fun _ _ _ _ h w => Option.some.inj h ▸ w
theorem relayPairActivate : ∀ k, Statement (.relayPairActivate k) :=
  fun _ _ h _ => nomatch h
theorem relayFrameForward : ∀ n room sec nsec frac, Statement (.relayFrameForward n room sec nsec frac) :=
  fun _ _ _ _ _ _ h _ => nomatch h
theorem relayForwardResume : ∀ n, Statement (.relayForwardResume n) :=
  fun _ _ h _ => nomatch h
theorem mapRefresh : ∀ n held, Statement (.mapRefresh n held) :=
  fun _ _ _ h _ => nomatch h
theorem diagHoldWrite : ∀ o n hold, Statement (.diagHoldWrite o n hold) :=
  fun _ _ _ _ h w => Option.some.inj h ▸ w
theorem loopbackNearDigital : ∀ o n, Statement (.loopbackNearDigital o n) :=
  fun _ _ _ h w => Option.some.inj h ▸ w
theorem loopbackNearAnalog : ∀ o n, Statement (.loopbackNearAnalog o n) :=
  fun _ _ _ h w => Option.some.inj h ▸ w
theorem loopbackFarEnd : ∀ o n, Statement (.loopbackFarEnd o n) :=
  fun _ _ _ h w => Option.some.inj h ▸ w
theorem loopbackOff : ∀ o n, Statement (.loopbackOff o n) :=
  fun _ _ _ h w => Option.some.inj h ▸ w
theorem testPatternSelect : ∀ o n pat, Statement (.testPatternSelect o n pat) :=
  fun _ _ _ _ h w => Option.some.inj h ▸ w
theorem patternSyncChange : ∀ n syms, Statement (.patternSyncChange n syms) :=
  fun _ _ _ h _ => nomatch h
theorem capabilityMessageSend : ∀ n, Statement (.capabilityMessageSend n) :=
  fun _ _ h _ => nomatch h
theorem infoExpiry : ∀ n, Statement (.infoExpiry n) :=
  fun _ _ h _ => nomatch h
theorem srcCtrlWrite : ∀ o g d, Statement (.srcCtrlWrite o g d) :=
  fun _ _ _ _ h w => Option.some.inj h ▸ w
theorem servoUpdate : ∀ g, Statement (.servoUpdate g) :=
  fun _ _ h _ => nomatch h
theorem discrepancyTick : ∀ g, Statement (.discrepancyTick g) :=
  fun _ _ h _ => nomatch h
theorem ppsInPulse : ∀ k falling late, Statement (.ppsInPulse k falling late) :=
  fun _ _ _ _ h _ => nomatch h
theorem ppsInTimeout : ∀ k, Statement (.ppsInTimeout k) :=
  fun _ _ h _ => nomatch h
theorem ppsOutPulse : Statement .ppsOutPulse :=
  fun _ h _ => nomatch h
theorem ppsOutPulseEnd : Statement .ppsOutPulseEnd :=
  fun _ h _ => nomatch h
theorem ptpIngress : ∀ n f late, Statement (.ptpIngress n f late) :=
  fun _ _ _ _ h _ => nomatch h
theorem ptpEgress : ∀ n f late ing, Statement (.ptpEgress n f late ing) :=
  fun _ _ _ _ _ h _ => nomatch h
theorem ptpPop : ∀ o n, Statement (.ptpPop o n) :=
  fun _ _ _ h w => Option.some.inj h ▸ w
theorem cometReceive : ∀ n, Statement (.cometReceive n) :=
  fun _ _ h _ => nomatch h
theorem cometLoading : ∀ n, Statement (.cometLoading n) :=
  fun _ _ h _ => nomatch h
theorem cometQueueExpiry : Statement .cometQueueExpiry :=
  fun _ h _ => nomatch h
theorem cometFire : Statement .cometFire :=
  fun _ h _ => nomatch h
theorem lateReportReceive : ∀ n, Statement (.lateReportReceive n) :=
  fun _ _ h _ => nomatch h
theorem routeLoad : ∀ o inc, Statement (.routeLoad o inc) :=
  fun _ _ _ h w => Option.some.inj h ▸ w
theorem routeCommit : ∀ o inc, Statement (.routeCommit o inc) :=
  fun _ _ _ h w => Option.some.inj h ▸ w
theorem partWrite : ∀ o g d, Statement (.partWrite o g d) :=
  fun _ _ _ _ h w => Option.some.inj h ▸ w
theorem cometInject : ∀ e, Statement (.cometInject e) :=
  fun _ _ h _ => nomatch h
theorem scheduleLoad : ∀ o inc, Statement (.scheduleLoad o inc) :=
  fun _ _ _ h w => Option.some.inj h ▸ w
theorem scheduleCommit : ∀ o inc, Statement (.scheduleCommit o inc) :=
  fun _ _ _ h w => Option.some.inj h ▸ w
theorem scheduleCommitW0 : ∀ o inc, Statement (.scheduleCommitW0 o inc) :=
  fun _ _ _ h w => Option.some.inj h ▸ w
theorem scheduleClear : ∀ o inc, Statement (.scheduleClear o inc) :=
  fun _ _ _ h w => Option.some.inj h ▸ w
theorem pulseEnd : ∀ k, Statement (.pulseEnd k) :=
  fun _ _ h _ => nomatch h
theorem armWindowEnd : ∀ k, Statement (.armWindowEnd k) :=
  fun _ _ h _ => nomatch h
theorem trigEdgeCapture : ∀ k falling late, Statement (.trigEdgeCapture k falling late) :=
  fun _ _ _ _ h _ => nomatch h
theorem captureReportReceive : ∀ n, Statement (.captureReportReceive n) :=
  fun _ _ h _ => nomatch h
theorem captureAck : ∀ o d, Statement (.captureAck o d) :=
  fun _ _ _ h w => Option.some.inj h ▸ w
theorem captureClear : ∀ o, Statement (.captureClear o) :=
  fun _ _ h w => Option.some.inj h ▸ w
theorem captureReadLoad : ∀ o d, Statement (.captureReadLoad o d) :=
  fun _ _ _ h w => Option.some.inj h ▸ w
theorem captureReadAdvance : ∀ o, Statement (.captureReadAdvance o) :=
  fun _ _ h w => Option.some.inj h ▸ w
theorem timeCaptureRequest : ∀ o, Statement (.timeCaptureRequest o) :=
  fun _ _ h w => Option.some.inj h ▸ w
theorem timeCapture : Statement .timeCapture :=
  fun _ h _ => nomatch h
theorem timeSet : ∀ o g, Statement (.timeSet o g) :=
  fun _ _ _ h w => Option.some.inj h ▸ w
theorem timeStep : ∀ o g, Statement (.timeStep o g) :=
  fun _ _ _ h w => Option.some.inj h ▸ w
theorem timeSetSec : ∀ o g, Statement (.timeSetSec o g) :=
  fun _ _ _ h w => Option.some.inj h ▸ w
theorem tkxJudgeAttempt : ∀ counts, Statement (.tkxJudgeAttempt counts) :=
  fun _ _ h _ => nomatch h
theorem tkxJudged : Statement .tkxJudged :=
  fun _ h _ => nomatch h
theorem tkrMeasurement : ∀ ppb, Statement (.tkrMeasurement ppb) :=
  fun _ _ h _ => nomatch h
theorem tkxFail : ∀ e fLow, Statement (.tkxFail e fLow) :=
  fun _ _ _ h _ => nomatch h
theorem coastMeasurement : ∀ fLow, Statement (.coastMeasurement fLow) :=
  fun _ _ h _ => nomatch h
theorem tkxRelock : Statement .tkxRelock :=
  fun _ h _ => nomatch h
theorem taiUtcWrite : ∀ o d, Statement (.taiUtcWrite o d) :=
  fun _ _ _ h w => Option.some.inj h ▸ w
theorem leapAdd : ∀ o, Statement (.leapAdd o) :=
  fun _ _ h w => Option.some.inj h ▸ w
theorem leapClear : ∀ o, Statement (.leapClear o) :=
  fun _ _ h w => Option.some.inj h ▸ w
theorem leapSetExpiry : ∀ o, Statement (.leapSetExpiry o) :=
  fun _ _ h w => Option.some.inj h ▸ w
theorem calendarUpdate : Statement .calendarUpdate :=
  fun _ h _ => nomatch h
theorem ledgerSecond : Statement .ledgerSecond :=
  fun _ h _ => nomatch h
theorem ledgerUpdatePeriod : Statement .ledgerUpdatePeriod :=
  fun _ h _ => nomatch h
theorem trendSample : Statement .trendSample :=
  fun _ h _ => nomatch h
theorem trendSelWrite : ∀ o d, Statement (.trendSelWrite o d) :=
  fun _ _ _ h w => Option.some.inj h ▸ w
theorem xaJudgeAttempt : ∀ xa xb cross, Statement (.xaJudgeAttempt xa xb cross) :=
  fun _ _ _ _ h _ => nomatch h
theorem xbCrossCheck : ∀ cross, Statement (.xbCrossCheck cross) :=
  fun _ _ h _ => nomatch h
theorem xbRejudge : ∀ xb, Statement (.xbRejudge xb) :=
  fun _ _ h _ => nomatch h
theorem fallbackExpiry : Statement .fallbackExpiry :=
  fun _ h _ => nomatch h
theorem fallbackNoLock : Statement .fallbackNoLock :=
  fun _ h _ => nomatch h
theorem referenceFail : ∀ which e, Statement (.referenceFail which e) :=
  fun _ _ _ h _ => nomatch h
theorem spllLossOfLock : ∀ errs, Statement (.spllLossOfLock errs) :=
  fun _ _ h _ => nomatch h
theorem cpllLossOfLock : ∀ n errs, Statement (.cpllLossOfLock n errs) :=
  fun _ _ _ h _ => nomatch h
theorem hpllLossOfLock : ∀ n errs, Statement (.hpllLossOfLock n errs) :=
  fun _ _ _ h _ => nomatch h
theorem pllLockAcquired : ∀ p, Statement (.pllLockAcquired p) :=
  fun _ _ h _ => nomatch h
theorem pllGateOpen : ∀ p, Statement (.pllGateOpen p) :=
  fun _ _ h _ => nomatch h
theorem clkoutCtrlWrite : ∀ o k d, Statement (.clkoutCtrlWrite o k d) :=
  fun _ _ _ _ h w => Option.some.inj h ▸ w
theorem clkoutRampEnd : ∀ k, Statement (.clkoutRampEnd k) :=
  fun _ _ h _ => nomatch h
theorem sscChangeApply : ∀ o, Statement (.sscChangeApply o) :=
  fun _ _ h _ => nomatch h
theorem crossingResync : ∀ p, Statement (.crossingResync p) :=
  fun _ _ h _ => nomatch h
theorem crossingFault : ∀ p e items, Statement (.crossingFault p e items) :=
  fun _ _ _ _ h _ => nomatch h
theorem powerRequest : ∀ o n d, Statement (.powerRequest o n d) :=
  fun _ _ _ _ h w => Option.some.inj h ▸ w
theorem nvmPowerRequest : ∀ o d, Statement (.nvmPowerRequest o d) :=
  fun _ _ _ h w => Option.some.inj h ▸ w
theorem selfTestOfEntry : ∀ d, Statement (.selfTestOfEntry d) :=
  fun _ _ h _ => nomatch h
theorem powerTransitionDone : ∀ d, Statement (.powerTransitionDone d) :=
  fun _ _ h _ => nomatch h
theorem trimEvaluation : ∀ n, Statement (.trimEvaluation n) :=
  fun _ _ h _ => nomatch h
theorem trimIntervalExpiry : ∀ n, Statement (.trimIntervalExpiry n) :=
  fun _ _ h _ => nomatch h
theorem trimApplication : ∀ n tx, Statement (.trimApplication n tx) :=
  fun _ _ _ h _ => nomatch h
theorem trimStale : ∀ n, Statement (.trimStale n) :=
  fun _ _ h _ => nomatch h
theorem trimApplyEnWrite : ∀ o en, Statement (.trimApplyEnWrite o en) :=
  fun _ _ _ h w => Option.some.inj h ▸ w
theorem repairRecordWrite : Statement .repairRecordWrite :=
  fun _ h _ => nomatch h
theorem failLogSelect : ∀ o d, Statement (.failLogSelect o d) :=
  fun _ _ _ h w => Option.some.inj h ▸ w
theorem thermalSensorUpdate : ∀ t, Statement (.thermalSensorUpdate t) :=
  fun _ _ h _ => nomatch h
theorem faultDetected : ∀ p bit k ecc1, Statement (.faultDetected p bit k ecc1) :=
  fun _ _ _ _ _ h _ => nomatch h
theorem alarmPulseEnd : Statement .alarmPulseEnd :=
  fun _ h _ => nomatch h
theorem alarmSwLevelWrite : ∀ o level, Statement (.alarmSwLevelWrite o level) :=
  fun _ _ _ h w => Option.some.inj h ▸ w
theorem alarmRearm : ∀ o, Statement (.alarmRearm o) :=
  fun _ _ h w => Option.some.inj h ▸ w
theorem alarmSelfFault : ∀ parity, Statement (.alarmSelfFault parity) :=
  fun _ _ h _ => nomatch h
theorem safeCmd : ∀ o, Statement (.safeCmd o) :=
  fun _ _ h w => Option.some.inj h ▸ w
theorem trigDriverFenceSet : ∀ o k, Statement (.trigDriverFenceSet o k) :=
  fun _ _ _ h w => Option.some.inj h ▸ w
theorem trigDriverFenceRemove : ∀ o k, Statement (.trigDriverFenceRemove o k) :=
  fun _ _ _ h w => Option.some.inj h ▸ w
theorem tgChMapWrite : ∀ o d, Statement (.tgChMapWrite o d) :=
  fun _ _ _ h w => Option.some.inj h ▸ w
theorem tgChangeTakesEffect : ∀ n, Statement (.tgChangeTakesEffect n) :=
  fun _ _ h _ => nomatch h
theorem jtagTapReset : Statement .jtagTapReset :=
  fun _ h _ => nomatch h
theorem jtagRegRead : ∀ a, Statement (.jtagRegRead a) :=
  fun _ _ h _ => nomatch h
theorem jtagRegWrite : ∀ a d, Statement (.jtagRegWrite a d) :=
  fun _ _ _ h _ => nomatch h
theorem orbitLockAcquired : ∀ n, Statement (.orbitLockAcquired n) :=
  fun _ _ h _ => nomatch h
theorem hostLaneLockChange : ∀ n lock, Statement (.hostLaneLockChange n lock) :=
  fun _ _ _ h _ => nomatch h
theorem opllLossOfLock : ∀ k errs, Statement (.opllLossOfLock k errs) :=
  fun _ _ _ h _ => nomatch h
theorem trendFetchDone : Statement .trendFetchDone :=
  fun _ h _ => nomatch h
theorem partnerNegotiationSignal : ∀ n, Statement (.partnerNegotiationSignal n) :=
  fun _ _ h _ => nomatch h
theorem standardModeLinkUp : ∀ n, Statement (.standardModeLinkUp n) :=
  fun _ _ h _ => nomatch h
theorem standardModeLinkDrop : ∀ n retrain, Statement (.standardModeLinkDrop n retrain) :=
  fun _ _ _ h _ => nomatch h
theorem standardModeLpiQuiet : ∀ n partner, Statement (.standardModeLpiQuiet n partner) :=
  fun _ _ _ h _ => nomatch h

end Sys2Proof.Laws.Wf
end

