-- ==== Sys2Proof/Laws/Write.lean ====
section
/-! SUPPORT. What a write of a register that the fabric serves does: it reaches its register at once, whether it is posted or not. -/

set_option Elab.async false

namespace Sys2Proof.Machine

/-- The offset of an address in its page. -/
theorem hdr_mod (p : Page) (off : Nat) (h : off < 0x1000) : hdr p off % 0x1000 = off := by
  rcases p with p | ⟨n, p⟩ <;> cases p <;> simp only [hdr, pageBase, devBase, chOff] <;> omega

/-- The page of an address. -/
theorem pageOf_hdr (p : Page) (off : Nat) (h : off < 0x1000) : pageOf (hdr p off) = some p := by
  rcases p with p | ⟨n, p⟩
  · have e1 : ¬ (0x100000 ≤ hdr (.dev p) off ∧ hdr (.dev p) off < 0x200000) := by
      cases p <;> simp only [hdr, pageBase, devBase] <;> omega
    have e2 : hdr (.dev p) off / 0x1000 = devBase p / 0x1000 := by
      cases p <;> simp only [hdr, pageBase, devBase] <;> omega
    rw [pageOf, if_neg e1, e2]
    cases p <;> rfl
  · have hn := n.isLt
    have e : Fin.ofNat 16 ((hdr (.chan n p) off - 0x100000) / 0x10000) = n := by
      apply Fin.ext
      cases p <;> simp only [hdr, pageBase, chOff, Fin.ofNat] <;> omega
    have e2 : hdr (.chan n p) off % 0x10000 / 0x1000 = chOff p / 0x1000 := by
      cases p <;> simp only [hdr, pageBase, chOff] <;> omega
    have e3 : 0x100000 ≤ hdr (.chan n p) off ∧ hdr (.chan n p) off < 0x200000 := by
      cases p <;> simp only [hdr, pageBase, chOff] <;> omega
    rw [pageOf, if_pos e3, e, e2]
    cases p <;> rfl

/-- Nothing waits: nothing happens. -/
theorem State.drainPosted_none (s : State) (q : PDom) (h1 : s.postedIn q = []) (h2 : s.heldIn q = []) : s.drainPosted q = s := by
  simp [State.drainPosted, h1, h2]

/-- An origin that may make accesses finds the system domain started. -/
theorem State.mayAccess_started (s : State) (o : Origin) (h : s.mayAccess o = true) : s.rst.phase ≠ .inReset := by
  intro e
  cases o <;> simp [State.mayAccess, e] at h

/-- The write that reaches a register. -/
def wordWrite (s : State) (o : Origin) (p : Page) (off : Nat) (d keep : Word) : PostedWrite :=
  { origin := o
    addr := hdr p off
    data := d
    view1 := s.view1At o (hdr p off)
    foreign := false
    keep := keep }

/-- A write that the fabric serves at once reaches its register, posted or not (R20, R35). -/
theorem State.writeKeep_serves (s : State) (o : Origin) (p : Page) (off : Nat) (d keep : Word) (h : off < 0x1000)
    (hs : s.Serves o p off) :
    s.writeKeep o (hdr p off) d keep = s.applyWrite (wordWrite s o p off d keep) (isMoon p off) := by
  obtain ⟨may, err, own, clear⟩ := hs
  have hq : pdomAt (hdr p off) = pdomOf p off := by simp only [pdomAt, pageOf_hdr p off h, hdr_mod p off h]
  simp only [State.writeKeep, may, pageOf_hdr p off h, hdr_mod p off h, Option.any_some, Bool.not_true, hq,
    Bool.false_eq_true, if_false]
  by_cases hm : isMoon p off = true
  · obtain ⟨c1, c2, c3⟩ := clear hm
    simp only [hm, State.when, if_true]
    rw [s.drainPosted_none _ c1 c2]
    have : (s.fabricWrite o (s.view1At o (hdr p off)) (hdr p off) d keep).1
        = { s with posted := s.posted ++ [wordWrite s o p off d keep] } := by
      simp [State.fabricWrite, err, pageOf_hdr p off h, hdr_mod p off h, hm, c1, c2, own, State.contend, wordWrite]
    rw [this]
    have hw : wordWrite s o p off d keep ∉ s.posted := by
      intro hmem
      have : wordWrite s o p off d keep ∈ s.postedIn (pdomOf p off) := by
        simp only [State.postedIn, List.mem_filter]
        exact ⟨hmem, by simp [wordWrite, hq]⟩
      rw [c1] at this
      cases this
    have hp : State.postedIn { s with posted := s.posted ++ [wordWrite s o p off d keep] } (pdomOf p off)
        = [wordWrite s o p off d keep] := by
      have c1' : List.filter (fun w => pdomAt w.addr == pdomOf p off) s.posted = [] := c1
      simp only [State.postedIn, List.filter_append, c1', List.nil_append]
      have : (pdomAt (wordWrite s o p off d keep).addr == pdomOf p off) = true := by simp [wordWrite, hq]
      simp [this]
    simp only [State.popPosted, hp]
    have hn := s.mayAccess_started o may
    have c3' : ((pageOf (wordWrite s o p off d keep).addr).any (State.drains { s with posted := s.posted ++ [wordWrite s o p off d keep] })) = false := by
      simp only [wordWrite, pageOf_hdr p off h, Option.any_some]; exact c3
    simp only [c3', Bool.false_eq_true, if_false, State.landed]
    have he : List.erase (s.posted ++ [wordWrite s o p off d keep]) (wordWrite s o p off d keep) = s.posted := by
      rw [List.erase_append_right _ hw]; simp
    rw [he]
    have : (s.rst.phase == SysPhase.inReset) = false := by
      cases hx : s.rst.phase <;> simp_all
    simp only [this, Bool.false_eq_true, if_false]
  · simp only [Bool.not_eq_true] at hm
    simp only [hm, State.when, Bool.false_eq_true, if_false]
    simp [State.fabricWrite, err, pageOf_hdr p off h, hdr_mod p off h, hm, own, State.contend, wordWrite]

/-- The newest entry after an entry was written. -/
theorem State.entered_jAppend (s u : State) (o fl a : Nat) (x y : Word) (hg : u.groups = s.groups) (hj : u.jrnl.seqNext = s.jrnl.seqNext) :
    Entered s (u.jAppend o fl a x y) o a x y fl := by
  have ht : u.timeOf 0 = s.timeOf 0 := by simp only [State.timeOf, State.group, hg]
  simp only [Entered, State.newest, State.jAppend, State.when, ht, hj, ringSize]
  repeat' split
  all_goals rfl

/-- What a write that has reached its register does to the state (R20, R41). -/
theorem State.applyWrite_word (s : State) (o : Origin) (p : Page) (off : Nat) (d keep : Word) (posted : Bool) (h : off < 0x1000) :
    s.applyWrite (wordWrite s o p off d keep) posted =
      let old := s.contents (hdr p off)
      let w := s.sent o p off d keep
      let r := s.writeResult o p off old w
      let flags := b2n r.ignored * fIgnored + b2n posted * fPosted + b2n r.data * fData
      if r.ignored then
        (s.jAppend (originCode o) flags (hdr p off) old (if r.data then w else r.new)).turnedAway p off
      else
        ((s.storeReg o p off w r.new).jAppend (originCode o) flags (hdr p off) old (if r.data then w else r.new)).wrote o p off old w
          (match p with | .chan n _ => s.chanFenced n | .dev _ => false) := by
  have hb : b2n false = 0 := rfl
  simp only [State.applyWrite, wordWrite, pageOf_hdr p off h, hdr_mod p off h, State.sent, State.sentIn, hb, Nat.zero_mul, Nat.zero_add]
  rfl

end Sys2Proof.Machine
end

