-- ==== Sys2Proof/Tests/Slice0.lean ====
section
/-! SUPPORT. Tests: states and operands that meet the hypotheses of the statements, ill-formed commands that the check refuses, and the spec's worked examples. -/

set_option Elab.async false

open Sys2Proof Sys2Proof.Machine

set_option maxRecDepth 20000

namespace Sys2Proof.Tests

/-- A state with registers written. -/
def put (l : List (Nat × Word)) (s : State) : State := l.foldl (fun s x => s.setReg x.1 x.2) s

/-- A domain that is ON. -/
def on : Dom := { eff := .on, want := .on }

/-- A loop that holds lock with its gate open. -/
def lock : Loop := { locked := true, gate := true }

/-- The device after its start: the host port is ready, every domain is ON, and every loop holds lock. -/
def live : State :=
  { State.reset with
    now := sec 10
    rst := { phase := .ready, owed := none, afterVao := false }
    nvmDom := on
    clk := { spll := lock }
    tk := { tpll := lock, running := true }
    chans := Vector.replicate 16 { afe := on, dsp := on, hl := on, cpll := lock, hpll := lock } }

/-- Channel 0 of the device in a kind and phase of a Z50 training as leader, or with its link up, sending DATA. -/
def train (trn : Word) : State :=
  (put [(Reg.anTrnStatus 0, trn), (Reg.anResolved 0, 0xC9030000), (Reg.pcsLineStatus 0, 0x109)] live).mapChan 0 fun x =>
    { x with line := { x.line with txTy := some .data } }

/-- Channel 0 with its Z50 link up. -/
def link : State := train 0x95000000

/-- The canonical form of a small state, checked. -/
theorem canon (s : State) (h : Store.Wf resetWord s.regs ∧ Store.Wf resetWord s.moon ∧ Store.Wf resetWord s.retained ∧ Store.Wf resetWord s.snap
    ∧ Store.Wf (fun _ => 0) s.leases ∧ Memory.wf s.nvm.mem ∧ Store.Wf (fun _ => 0) s.cmt.sched ∧ Store.Wf (fun _ => (0, 0)) s.cmt.routes) : s.Canonical := by
  obtain ⟨a, b, c, d, e, f, g, i⟩ := h
  exact ⟨a, b, c, d, e, f, g, i⟩

/-! ### States that meet the statements' hypotheses: general, fabric, locks, resets, journal -/

/-- The comet scheduler's counters do not balance, 1 ps before a moon edge. -/
def unbalanced : State := { put [(Reg.cmtGrpAdmit 0, 1)] live with now := sec 10 - 1 }

theorem meets_IdleStepPassesOneCycle : State.reset.pending = [] ∧ State.reset.balanced (.dev .cmt) = true ∧ State.reset.jrnl.tokens ≤ 8
    ∧ unbalanced.pending = [] ∧ unbalanced.Canonical ∧ unbalanced.balanced (.dev .cmt) = false ∧ unbalanced.fenced (.dev .cmt) = false
    ∧ ({ unbalanced with now := unbalanced.now + unbalanced.cycle } : State).moonEdge ≠ unbalanced.moonEdge :=
  ⟨by decide, by decide, by decide, by decide, canon _ (by decide), by decide, by decide, by decide +kernel⟩
theorem meets_StepKeepsCanonicalForm : State.reset.Canonical ∧ ∃ t, step State.reset = .next t := ⟨canon _ (by decide), _, rfl⟩
theorem meets_StepKeepsMemoryBounds : State.reset.Bounded ∧ ∃ t, step State.reset = .next t :=
  ⟨⟨by decide, by decide, fun _ => Nat.zero_le 8, by decide, by decide⟩, _, rfl⟩
theorem meets_CommandsChangeOnlyTheirParts : ∃ t, exec .jtagTapReset State.reset = .next t := ⟨_, rfl⟩
theorem meets_CommandsLeaveQueueClockAndFences : (live.nvm.sectFence.getLsbD 0 = true ∨ ({ live with nvm := { sectFence := 1 } } : State).nvm.sectFence.getLsbD 0 = true) := by decide

/-- A write that no rule turns away, at a register that is not moon-copied and at one that is. -/
theorem meets_WriteRowsReachTheirRegisters : live.Canonical
    ∧ writeOf (.portFenceSet .hsa .hsb) = some (.hsa, .dev .host, 0x120, 0xFE9C0002, 1) ∧ live.Serves .hsa (.dev .host) 0x120
    ∧ writeOf (.timeCaptureRequest .jtag) = some (.jtag, .dev .tk, 0x120, 1, 0) ∧ live.Serves .jtag (.dev .tk) 0x120 :=
  ⟨canon _ (by decide), by decide, ⟨by decide, by decide, by decide, by decide⟩, by decide, ⟨by decide, by decide, by decide, by decide⟩⟩

/-- The TK page held by origin 0x01. -/
def held : State := put [(0x1002C, 0x80010000)] { live with leases := [(0x10000, sec 11)] }

theorem meets_RegisterWriteTakesEffectAtOnce : held.Canonical ∧ held.mayAccess .hsb = true ∧ isMoon (.dev .host) 0x180 = false
    ∧ held.accessErr (held.view1At .hsb (hdr (.dev .host) 0x180)) (hdr (.dev .host) 0x180) true = none
    ∧ held.foreignWrite .hsb (.dev .host) 0x180 = false
    ∧ isMoon (.dev .tk) 0x014 = false ∧ held.accessErr (held.view1At .hsb (hdr (.dev .tk) 0x014)) (hdr (.dev .tk) 0x014) true = none
    ∧ held.foreignWrite .hsb (.dev .tk) 0x014 = true := ⟨canon _ (by decide), by decide⟩

/-- A posted write of SRC_CTRL. -/
def post : PostedWrite := { origin := .hsa, addr := 0x10400, data := 0x10, view1 := false, foreign := false, keep := 0 }

/-- A domain with room, a full one, one with a held write, and one whose oldest write is due. -/
theorem meets_PostedWritesWaitAndTakeEffectInOrder :
    isMoon (.dev .tk) 0x400 = true ∧ live.mayAccess .hsa = true ∧ live.accessErr (live.view1At .hsa (hdr (.dev .tk) 0x400)) (hdr (.dev .tk) 0x400) true = none
    ∧ (({ live with posted := List.replicate 7 post } : State).postedIn (pdomOf (.dev .tk) 0x400)).length = 7
    ∧ live.heldIn (pdomOf (.dev .tk) 0x400) = []
    ∧ (({ live with posted := List.replicate 8 post } : State).postedIn (pdomOf (.dev .tk) 0x400)).length = 8
    ∧ ({ live with heldWrites := [post] } : State).heldIn (pdomOf (.dev .tk) 0x400) ≠ []
    ∧ ({ live with posted := [post, post] } : State).postedIn .tpll = post :: [post] ∧ post.addr = hdr (.dev .tk) 0x400
    ∧ live.clk.drain.contains (.dev .tk) = false ∧ live.rst.phase ≠ .inReset := by decide

theorem meets_BusErrorDiscardsTheWrite : live.mayAccess .jtag = true ∧ live.accessErr (live.view1At .jtag 0x00B000) 0x00B000 true ≠ none
    ∧ live.accessErr (live.view1At .hsa 0x1FFFFC) 0x1FFFFC true ≠ none ∧ live.accessErr (live.view1At .hsb 0x000001) 0x000001 true ≠ none := by decide
theorem meets_WrongFenceKeyChangesNothing : live.mayAccess .mdio = true ∧ keyOf 0xFE9B0001 ≠ 0xFE9C := by decide

/-- A free page, its holder, another origin, and an origin that cannot hold locks; leases of 0 and 1. -/
theorem meets_LocksAreTakenKeptAndBroken : held.Canonical ∧ held.mayAccess .hsa = true ∧ held.mayAccess .hsb = true ∧ held.mayAccess .job = true
    ∧ originExternal .job = false ∧ originExternal .hsa = true ∧ held.lockHeld (.dev .cmt) = false ∧ bits 1 13 0 = 1 ∧ bits 0x40000000 13 0 = 0
    ∧ held.lockHeld (.dev .tk) = true ∧ held.lockHolder (.dev .tk) = originCode .hsa ∧ held.lockHolder (.dev .tk) ≠ originCode .hsb :=
  ⟨canon _ (by decide), by decide⟩

theorem meets_LocksAreTakenKeptAndBroken_lease : held.Canonical ∧ held.lockHeld (.dev .tk) = true
    ∧ held.now < Store.get (fun _ => 0) held.leases (pageBase (.dev .tk))
    ∧ Store.get (fun _ => 0) ({ held with now := sec 11 } : State).leases (pageBase (.dev .tk)) ≤ ({ held with now := sec 11 } : State).now
    ∧ held.lockHeld (.dev .cmt) = false := ⟨canon _ (by decide), by decide⟩

/-- A request of one page, made now or 1 µs ago. -/
def asked (at' : Nat) (l : List (Nat × Word)) : State := { put l live with host := { live.host with snapAt := [(0x0B000, (sec 10, 0)), (0x10000, (at', 0))] } }

/-- A request of one page before and at its instant, one that covers the device's pages, one on a Z link before and at its orbit boundary, one of an unbalanced page, and none. -/
theorem meets_SnapshotHoldsItsPages : (asked (sec 10 - us 1) [(0x10030, 1)]).Canonical ∧ (asked (sec 10 - us 1) [(0x10030, 1)]).bit (hdr (.dev .tk) hSnap) 0 = true
    ∧ (asked (sec 10) [(0x10030, 1)]).snapDue (.dev .tk) = false ∧ (asked (sec 10 - us 1) [(0x10030, 1)]).snapDue (.dev .tk) = true
    ∧ (asked (sec 10 - us 1) [(0x10030, 1)]).balanced (.dev .tk) = true
    ∧ (put [(0x00030, 9)] live).bit (hdr (.dev .dev) hSnap) 0 = true ∧ Page.dev .dev = coverOf (.dev .dev) ∧ (put [(0x00030, 9)] live).bit (hdr (.dev .dev) hSnap) 3 = true
    ∧ (put [(0x00030, 9)] live).snapDue (.dev .dev) = true ∧ (∀ q ∈ allDevPages.map Page.dev, (put [(0x00030, 9)] live).balanced q = true)
    ∧ link.zUp 0 = true ∧ link.snapDue (.chan 0 .pcs) = false ∧ (link.mapChan 0 fun x => { x with line := { x.line with txNext := 1 } }).snapDue (.chan 0 .pcs) = true
    ∧ (put [(hdr (.dev .cmt) hSnap, 1)] unbalanced).snapDue (.dev .cmt) = true ∧ unbalanced.balanced (.dev .cmt) = false ∧ unbalanced.devMuted .cmt 3 0 = false
    ∧ live.bit (hdr (.dev .tk) hSnap) 0 = false := ⟨canon _ (by decide), by decide⟩

/-- A keyed reset whose second write came 1 µs ago. -/
def keyed (keep : Bool) : State := { live with rst := { live.rst with go := some (.hsb, sec 10 - us 1, keep) } }

theorem meets_SystemResetKeepsOnlyTheIsland : 999 < 1000 ∧ (1000 ≤ 1000 ∧ 1000 < 10000) ∧ (1000 ≤ 9999 ∧ 9999 < 10000) ∧ 10000 ≤ 10000
    ∧ (∃ o at' keep, (keyed false).rst.go = some (o, at', keep) ∧ at' + us 1 ≤ (keyed false).now)
    ∧ (∀ o at' keep, (keyed false).rst.go = some (o, at', keep) → keep = false)
    ∧ (∀ w ∈ ({ live with posted := [post] } : State).posted, pdomAt w.addr = .tpll) := by
  refine ⟨by decide, by decide, by decide, by decide, ⟨_, _, _, rfl, by decide⟩, ?_, by decide⟩
  rintro o a k h
  cases h
  rfl
theorem meets_KeyedResetsLapseOrKeepCoefficients : ∃ at', (keyed true).rst.go = some (.hsb, at', true) ∧ at' + us 1 ≤ (keyed true).now
    ∧ ((keyed true).chan 0).dsp.eff = .on ∧ link.linkUp 0 = true ∧ (keyed true).linkUp 15 = false := ⟨_, rfl, by decide⟩

theorem meets_PowerLossKeepsOnlyWhatIsPowered : 610 < 611 ∧ 549 < 550 := by decide

/-- A sequence that was armed a millisecond ago, and one armed 1 ps later. -/
theorem meets_KeyedResetsLapseOrKeepCoefficients_lapse :
    (∃ at', ({ live with rst := { live.rst with armed := some (.hsa, sec 10 - ms 1) } } : State).rst.armed = some (.hsa, at') ∧ at' + ms 1 ≤ live.now)
    ∧ (∃ at', ({ live with rst := { live.rst with armed := some (.hsa, sec 10 - ms 1 + 1) } } : State).rst.armed = some (.hsa, at') ∧ live.now < at' + ms 1)
    ∧ live.rst.armed = none := ⟨⟨_, rfl, by decide⟩, ⟨_, rfl, by decide⟩, by decide⟩

/-- Just started, at the instants around 40 ms. -/
def started (now : Nat) : State := { State.reset with now := now, rst := { phase := .started, leftAt := 5 } }

theorem meets_StartLeadsToAReadyHostPort : State.reset.rst.phase = .inReset ∧ live.rst.phase ≠ .inReset ∧ (started (ms 40 + 5)).rst.phase = .started
    ∧ (started (ms 40 + 5)).rst.leftAt + ms 40 ≤ (started (ms 40 + 5)).now ∧ (started (ms 40 + 4)).clk.spll.gate = false
    ∧ (started (ms 40 + 4)).now < (started (ms 40 + 4)).rst.leftAt + ms 40 ∧ ({ started 5 with clk := { spll := lock } } : State).clk.spll.gate = true
    ∧ live.rst.phase ≠ .started := by decide

/-- RESET_N leaves ON; the second write, 1 ms after the first, is taken. -/
theorem meets_SystemDomainLeavesOnOnlyByItsResets : live.rst.phase ≠ .inReset ∧ (∃ t, exec (.vaoPowerOnReset 549) live = .next t ∧ t.rst.phase = .inReset)
    ∧ ((keyed true).rst.go = some (.hsb, sec 10 - us 1, true) ∧ sec 10 - us 1 + us 1 ≤ (keyed true).now)
    ∧ ({ live with rst := { live.rst with armed := some (.hsb, sec 10 - ms 1) } } : State).now ≤ sec 10 - ms 1 + ms 1
    ∧ ({ live with rst := { live.rst with armed := some (.hsb, sec 10 - ms 1) } } : State).Serves .hsb (.dev .dev) 0x110 :=
  ⟨by decide, ⟨_, rfl, rfl⟩, ⟨rfl, by decide⟩, by decide, ⟨by decide, by decide, by decide, by decide⟩⟩

/-- A journal entry of sequence 0. -/
def entry : JEntry := { sec := 0, ns := 0, frac := 0, seq := 0, origin := 0x20, flags := 0, addr := 0, old := 0, new := 0 }

/-- The journal with one entry that took effect at an instant and awaits its commit, FLUSH_AGE 1 s, a budget of 1, and one token. -/
def one (took : Nat) : State :=
  put [(Reg.jrnlCommitCtrl, 0x101)] { live with jrnl := { live.jrnl with ring := [{ e := entry, tookAt := took, bad := false }], seqNext := 1, tokens := 1, aged := true, tokenAt := sec 10 } }

/-- No budget, a token due and not yet due; an entry younger than FLUSH_AGE, one older, one that has left the ring, and none. -/
theorem meets_JournalCommitsFollowTokensAndAge :
    min ((one 0).fld Reg.jrnlCommitCtrl 5 0) 48 ≠ 0 ∧ (one 0).jrnl.tokenAt ≤ (one 0).now ∧ ({ one 0 with now := sec 9 } : State).now < (one 0).jrnl.tokenAt
    ∧ min ((put [(Reg.jrnlCommitCtrl, 0)] live).fld Reg.jrnlCommitCtrl 5 0) 48 = 0
    ∧ ((one (sec 9)).jrnl.ringAt 0).isSome = true ∧ (one 0).jrnl.seqCommit ≠ (one 0).jrnl.seqNext
    ∧ sec 9 - 1 + sec (max 1 ((one 0).fld Reg.jrnlCommitCtrl 15 8)) < (one 0).moonEdge ∧ ¬ sec 9 + sec (max 1 ((one 0).fld Reg.jrnlCommitCtrl 15 8)) < (one 0).moonEdge
    ∧ ({ (one 0).jrnl with ring := [] } : Jrnl).ringAt 0 = none ∧ live.jrnl.seqCommit = live.jrnl.seqNext := by decide

/-- The one entry that awaits its commit has left the ring. -/
def gapped : State := { one 0 with jrnl := { (one 0).jrnl with ring := [] } }

theorem meets_JournalCommitsFollowTokensAndAge_commit : (one 0).commitDue = true ∧ (one 0).devHas 3 0 argJournal = false ∧ (one 0).jobs.waiting = [] ∧ (one 0).devSlot ≠ none
    ∧ gapped.commitDue = true ∧ gapped.devHas 3 0 argJournal = false ∧ gapped.jobs.waiting = [] ∧ gapped.devSlot ≠ none ∧ gapped.Canonical
    ∧ (gapped.devRequest 3 0 argJournal).gapsBefore.jrnl.seqCommit ≠ (gapped.devRequest 3 0 argJournal).jrnl.seqCommit
    ∧ live.commitDue = false ∧ ({ one 0 with jobs := { live.jobs with waiting := [⟨3, 0, argJournal⟩] } } : State).devHas 3 0 argJournal = true :=
  ⟨by decide, by decide, by decide, by decide, by decide, by decide, by decide, by decide, canon _ (by decide), by decide⟩

theorem meets_JournalReadingLoadsEntries : (put [(Reg.jrnlRdStatus, 1)] live).Canonical
    ∧ (∃ q due, ({ live with jrnl := { live.jrnl with fetch := some (0, sec 10) } } : State).jrnl.fetch = some (q, due)) ∧ live.jrnl.fetch = none
    ∧ live.mayAccess .hsa = true ∧ live.accessErr (live.view1At .hsa (Reg.jrnlEntryW 7)) (Reg.jrnlEntryW 7) false = none
    ∧ live.bit Reg.jrnlRdStatus 0 = false ∧ (put [(Reg.jrnlRdStatus, 1)] live).bit Reg.jrnlRdStatus 0 = true ∧ live.bit Reg.jrnlRdCtrl 0 = false :=
  ⟨canon _ (by decide), ⟨_, _, rfl⟩, by decide⟩

/-! ### Jobs -/

/-- Slot k holds a job. -/
def job (k : Fin 8) (j : JobSlot) (s : State) : State := { s with jobs := { s.jobs with slots := s.jobs.slots.set k j } }

theorem meets_JobsStartWaitAndGoOn : live.Canonical
    ∧ live.startErr false 0 0 0 ≠ 0 ∧ live.startErr false 8 0 0 ≠ 0 ∧ live.startErr false 7 15 0 = 0 ∧ live.startErr false 7 16 0 ≠ 0
    ∧ ({ live with nvmDom := {} } : State).jobReady 7 0 = false ∧ live.jobReady 7 0 = true
    ∧ ((job 5 { st := .wait, typ := 7 } live).slot 5).st = .wait ∧ (job 5 { st := .wait, typ := 7 } live).jobReady ((job 5 { st := .wait, typ := 7 } live).slot 5).typ 0 = true
    ∧ live.fenced (.dev .job) = false ∧ (live.slot 0).st ≠ .wait ∧ (put [(0x3028, 1)] live).fenced (.dev .job) = true
    ∧ ({ live with jobs := { live.jobs with waiting := [⟨6, 0, 0⟩] } } : State).jobs.waiting = ⟨6, 0, 0⟩ :: [] ∧ live.devSlot = some 6
    ∧ (job 7 { st := .run } (job 6 { st := .run } live)).devSlot = none ∧ live.jobs.waiting = [] := ⟨canon _ (by decide), by decide⟩

/-- What a step brings: nothing but whether a unit has a fault. -/
def env (fault : Bool) : StepEnv := { fault := fault }

theorem meets_JobStepsRunYieldOrFail : live.Canonical ∧ (live.slot 0).st ≠ .run
    ∧ ((job 0 { st := .run, typ := 7, stepYields := 63 } live).slot 0).st = .run ∧ live.fenced (.dev .job) = false
    ∧ (job 0 { st := .run, typ := 7, stepYields := 63 } live).stepMay 0 = true ∧ ((job 0 { st := .run, typ := 7, stepYields := 63 } live).slot 0).tryAt ≤ live.now
    ∧ (job 0 { st := .run, typ := 7, stepYields := 63 } live).itsTurn 0 = true
    ∧ (job 0 { st := .run, typ := 6 } (job 1 { st := .run, typ := 6 } live)).itsTurn 1 = false ∧ ¬ ((job 0 { st := .run, typ := 7, tryAt := sec 10 + 1 } live).slot 0).tryAt ≤ live.now
    ∧ ((job 0 { st := .run, typ := 7, stepYields := 63 } live).slot 0).stepYields < 64
    ∧ 64 ≤ ((job 0 { st := .run, typ := 7, stepYields := 64 } live).slot 0).stepYields ∧ (env true).fault = true ∧ (env false).fault = false
    ∧ ((job 0 { st := .run, typ := 1, target := 15, total := 2 } live).slot 0).target.toNat < 16
    ∧ ((job 0 { st := .run, typ := 1, target := 15, total := 2 } live).slot 0).steps + 1 < ((job 0 { st := .run, typ := 1, target := 15, total := 2 } live).slot 0).total :=
  ⟨canon _ (by decide), by decide⟩

theorem meets_NvmJobsReachTheArrayAndLoadIt : live.Canonical ∧ ((job 0 { st := .run, typ := 3, arg0 := 1 } live).slot 0).st = .run ∧ live.nvmReady = true
    ∧ ({ live with nvmDom := {} } : State).nvmReady = false ∧ ((job 0 { st := .run, typ := 3, arg0 := 1 } live).slot 0).arg0 = 1
    ∧ ((job 0 { st := .run, typ := 3, arg0 := 0x10F } live).slot 0).arg0 = BitVec.ofNat 32 (0x100 + (15 : Ch).val)
    ∧ ((job 0 { st := .run, typ := 3, arg0 := 0x200 } live).slot 0).arg0 = 0x200 ∧ ((job 0 { st := .run, typ := 3, arg0 := 0x201 } live).slot 0).arg0 = 0x201
    ∧ live.sectFenced (sectorOf areaLeap) = false ∧ live.fenced (.dev .job) = false ∧ ({ live with nvm := { sectFence := BitVec.allOnes 128 } } : State).sectFenced (sectorOf areaLeap) = true :=
  ⟨canon _ (by decide), by decide⟩

theorem meets_NvmJobsReachTheArrayAndLoadIt_readBack : live.Canonical ∧ ((job 0 { st := .run, typ := 4, arg0 := 0x100 } live).slot 0).typ = 4 ∧ live.nvmReady = true
    ∧ ((job 0 { st := .run, typ := 4, arg0 := 0x100 } live).slot 0).arg0 = BitVec.ofNat 32 (0x100 + (0 : Ch).val)
    ∧ ({ live with bist := { pend := [5] } } : State).bist.pend ≠ [] ∧ live.fenced (.dev .job) = false ∧ live.devHas 3 0 argRepair = false ∧ live.jobs.waiting = [] ∧ live.devSlot ≠ none
    ∧ live.bist.pend = [] ∧ ({ live with nvmDom := {} } : State).nvmReady = false := ⟨canon _ (by decide), by decide⟩

/-! ### Ports -/

/-- A frame's bytes with the right CRC-8 at their end (R58). -/
def crcOf (l : List Byte) : Byte := BitVec.ofNat 8 (spiCrc l.dropLast)

/-- Frames with right CRCs, and an access that is served and one that is not. -/
theorem meets_ReadFramesReportTheRegister : live.hears .hsa 0 ∧ live.hears .hsb (us 1)
    ∧ spiCrc (frame2 1 31 0x000100 0 (crcOf (frame2 1 31 0x000100 0 0))) = 0 ∧ spiCrc (frame1 1 63 0xFFFE 0 (crcOf (frame1 1 63 0xFFFE 0 0))) = 0
    ∧ live.accessErr (live.view1At .hsa 0x000100) 0x000100 false = none ∧ live.accessErr (live.view1At .hsa 0x000101) 0x000101 false = some rBus := by
  unfold State.hears
  decide

theorem meets_WriteFramesWriteTheRegister : live.Canonical ∧ live.hears .hsb (us 1) ∧ spiCrc (frame2 2 0 0x010400 0x10 (crcOf (frame2 2 0 0x010400 0x10 0))) = 0
    ∧ live.accessErr (live.view1At .hsb 0x00B000) 0x00B000 true = some rBus
    ∧ (0x010400 : Addr).toNat = hdr (.dev .tk) 0x400 ∧ isMoon (.dev .tk) 0x400 = true ∧ live.accessErr (live.view1At .hsb 0x010400) 0x010400 true = none
    ∧ (0x001FFC : Addr).toNat = hdr (.dev .host) 0xFFC ∧ isMoon (.dev .host) 0x120 = false ∧ live.accessErr (live.view1At .hsb 0x001120) 0x001120 true = none
    ∧ ({ live with posted := List.replicate 8 post } : State).postedIn (pdomOf (.dev .tk) 0x400) = List.replicate 8 post
    ∧ ({ live with posted := List.replicate 8 post } : State).hears .hsb (us 1) ∧ ({ live with posted := List.replicate 8 post } : State).Canonical :=
  ⟨canon _ (by decide), ⟨by decide, by decide⟩, by decide, by decide, by decide, by decide, by decide, by decide, by decide, by decide, by decide, ⟨by decide, by decide⟩, canon _ (by decide)⟩

/-- The upper half of a keyed register, its lower half, and halves of others. -/
theorem meets_V1WritesWriteHalves : live.hears .hsa (us 1) ∧ spiCrc (frame1 2 0 0x0112 0x5A17 (crcOf (frame1 2 0 0x0112 0x5A17 0))) = 0
    ∧ hasReg (live.view1At .hsa 0x000110) (.dev .dev) 0x110 = true ∧ rwkReg (.dev .dev) 0x110 = true ∧ pageOf 0x000110 = some (.dev .dev)
    ∧ (0x112 : Nat) % 4 = 2 ∧ (0x110 : Nat) % 4 = 0 ∧ rwkReg (.dev .host) 0x180 = false :=
  ⟨⟨by decide, by decide⟩, by decide⟩

theorem meets_BurstFramesAccessConsecutiveRegisters : live.Canonical ∧ live.hears .hsa (us 1)
    ∧ spiCrc (frame2 3 0 0x021200 63 (crcOf (frame2 3 0 0x021200 63 0))) = 0 ∧ bits 63 31 6 = 0 ∧ bits 64 31 6 ≠ 0
    ∧ (List.replicate 63 ((0 : Word), (0 : Byte))).length ≤ 63 ∧ spiCrc (frame2 4 0 0x022200 0 (crcOf (frame2 4 0 0x022200 0 0))) = 0
    ∧ live.portFenced .hsa = false ∧ (live.portWrite .hsa 0x001180 0 0).2 = some rOk ∧ (live.portWrite .hsa 0x00B000 0 0).2 = some rBus :=
  ⟨canon _ (by decide), ⟨by decide, by decide⟩, by decide⟩

/-- A frame that ended 1 µs ago awaits its report. -/
def ended (p : SPort) : State := live.mapPort p fun x => { x with unreported := some { tag := 9, result := rOk, data := 0, seq := 0, burst := false, doneAt := sec 10 - us 1 } }

/-- A frame executes. -/
def executing (p : SPort) : State := live.mapPort p fun x => { x with executing := some { tag := 9, data := 0, isBurst := false, made := 0, posted := false, rest := [] } }

theorem meets_PortControlAbortsAndResets : live.Canonical ∧ live.rst.phase ≠ .inReset ∧ live.portFenced .hsb = false
    ∧ spiCrc (frame2 5 1 1 0 (crcOf (frame2 5 1 1 0 0))) = 0 ∧ ((executing .hsb).sport .hsb).executing.isSome = true ∧ (live.sport .hsb).executing = none
    ∧ ((ended .hsb).sport .hsb).executing = none ∧ ((ended .hsb).sport .hsb).late ((ended .hsb).now - us 2) = true ∧ ((ended .hsb).sport .hsb).late ((ended .hsb).now - us 1) = false
    ∧ spiCrc (frame2 5 1 2 0xA5A5 (crcOf (frame2 5 1 2 0xA5A5 0))) = 0 := ⟨canon _ (by decide), by decide⟩

/-- A port in reset, one that is not ready, and frames of every class. -/
theorem meets_FramesThatExecuteNothing : live.Canonical ∧ State.reset.rst.phase = .inReset ∧ (put [(Reg.hostPortFence, 1)] live).portFenced .hsa = true
    ∧ (executing .hsa).rst.phase ≠ .inReset ∧ (executing .hsa).portFenced .hsa = false ∧ (executing .hsa).portReady .hsa = false
    ∧ ¬ (executing .hsa).hears .hsa 0 ∧ ¬ (ended .hsa).hears .hsa (us 2) ∧ live.hears .hsa (us 2)
    ∧ mosiByte (List.replicate 9 (0 : Byte)) 0 / 32 ≠ 5 ∧ live.portReady .hsa = true
    ∧ spiCrc (List.replicate 6 (1 : Byte)) ≠ 0 ∧ groupsOf 71 = none ∧ groupsOf 72 = some 0 ∧ groupsOf 112 = some 1 ∧ groupsOf 2592 = some 63 ∧ groupsOf 2632 = none
    ∧ spiCrc (List.replicate 9 (1 : Byte)) ≠ 0 ∧ mosiByte (frame2 0 0 0 0 (crcOf (frame2 0 0 0 0 0))) 0 / 32 = 0 ∧ spiCrc (frame2 0 0 0 0 (crcOf (frame2 0 0 0 0 0))) = 0
    ∧ mosiByte (frame1 0 0 0 0 (crcOf (frame1 0 0 0 0 0))) 0 / 64 = 0 ∧ spiCrc (frame1 0 0 0 0 (crcOf (frame1 0 0 0 0 0))) = 0 := by
  refine ⟨canon _ (by decide), ?_⟩
  unfold State.hears
  decide

/-! ### MDIO, remote access, JTAG -/

theorem meets_MdioAnswersAtItsPhyAddresses : live.phyCh 0 = some 0 ∧ live.phyCh 15 = some 15 ∧ live.phyCh 16 = none ∧ live.phyCh 31 = none := by decide

/-- The window of channel 0 while it accesses a register. -/
def busy (write : Bool) : State := live.mapWin 0 fun x => { x with busy := some write }

theorem meets_MdioWindowAccessesOneRegister : live.Canonical ∧ live.phyCh 0 = some 0 ∧ (live.win 0).busy = none ∧ ((busy false).win 0).busy = some false
    ∧ ((busy false).win 0).stalled = false ∧ ((busy true).win 0).busy = some true
    ∧ (busy true).winBefore 0 = false ∧ (busy true).winBefore 1 = true ∧ live.phyCh 1 = some 1 ∧ (busy true).Canonical
    ∧ ((busy true).fabricWrite .mdio ((busy true).view1At .mdio 0) 0 0 0).2 = some rOk :=
  ⟨canon _ (by decide), by decide, by decide, by decide, by decide, by decide, by decide, by decide, by decide, canon _ (by decide), by decide⟩
/-- A message of a type, and one channel's field changed. -/
def msg (ty : Nat) : BitVec 128 := BitVec.ofNat 128 (ty * 2 ^ 120)
def inbox (ty : Nat) (s : State) : State := s.mapLine 0 fun l => { l with inbox := [msg ty] }

/-- A request that waits. -/
def request (op : BitVec 4) (r : BitVec 3) : Remote := { tag := 7, op := op, result := r, addr := 0x000100, data := 0, seq := 0 }
def requests (op : BitVec 4) (r : BitVec 3) : State := link.mapChan 0 fun x => { x with remQ := [request op r] }

theorem meets_RemoteRequestsAreServedAndAnswered : link.Canonical ∧ ((inbox 1 link).takeMsg 0 1).isSome = true ∧ link.takeMsg 0 1 = none ∧ (link.chan 0).remQ = []
    ∧ ((requests 1 rNot).chan 0).remQ = request 1 rNot :: [] ∧ (requests 1 rNot).heldWrites.any (fun w => w.origin == .remote 0) = false
    ∧ (request 1 rOk).result ≠ rNot ∧ (request 1 rOk).op = 1 ∧ (request 2 rOk).op = 2 ∧ (request 0 rOk).op ≠ 1 ∧ (request 3 rOk).op ≠ 2
    ∧ ((requests 2 rOk).fabricWrite (.remote 0) false 0x001180 0 0).2 = some rOk := ⟨canon _ (by decide), by decide⟩

/-- The mailbox waits on channel 0 until an instant. -/
def mail (due : Nat) : State := { inbox 2 link with host := { link.host with mail := some (0, due) } }

theorem meets_RemoteRequestsAreServedAndAnswered_mailbox : (mail (sec 10)).Canonical ∧ ((mail (sec 10)).takeMsg 0 2).isSome = true ∧ link.takeMsg 0 2 = none
    ∧ (∃ due, (mail (sec 10)).host.mail = some (0, due) ∧ due ≤ (mail (sec 10)).now) ∧ (mail (sec 10)).fld Reg.hostRmtStatus 23 16 = (remoteOf (msg 2)).tag.toNat
    ∧ (∃ due, (mail (sec 10 + 1)).host.mail = some (0, due) ∧ (mail (sec 10 + 1)).now < due) ∧ link.host.mail = none :=
  ⟨canon _ (by decide), by decide, by decide, ⟨_, rfl, by decide⟩, by decide, ⟨_, rfl, by decide⟩, by decide⟩

theorem meets_JtagScansAccessRegisters : live.host.jtag.stalled = false ∧ live.mayAccess .jtag = true ∧ State.reset.mayAccess .jtag = false
    ∧ (live.mapJtag fun j => { j with stalled := true }).host.jtag.stalled = true
    ∧ (live.fabricWrite .jtag false 0x001180 0 0).2 = some rOk
    ∧ (({ live with posted := List.replicate 8 post } : State).fabricWrite .jtag false 0x010400 0 0).2 = none := by decide

/-! ### The line -/

theorem meets_OrbitsCarryTypeIndexTimeAndMessage : link.Canonical ∧ link.nextTy 0 = some .data ∧ isZ (link.lineMode 0) = true ∧ link.lineReady 0 = true ∧ link.pattern 0 = 0 ∧ link.sendsTraining 0 = false
    ∧ (put [(Reg.diagTpCtrl 0, 2)] link).pattern 0 = 2 ∧ (put [(Reg.diagTpCtrl 0, 5)] live).pattern 0 = 5 ∧ live.lineReady 0 = true
    ∧ live.stdUp 0 = false ∧ live.sendsTraining 0 = false ∧ live.pattern 0 = 0
    ∧ (link.mapLine 0 fun l => { l with txTy := some .quiet, txNext := 62 }).nextTy 0 = some .quiet
    ∧ (link.mapLine 0 fun l => { l with txTy := some .quiet, txNext := 63 }).nextTy 0 = some .refresh
    ∧ live.nextTy 0 = none ∧ isZ (live.lineMode 0) = false ∧ State.reset.lineReady 0 = false
    ∧ link.slotStart 0 = true ∧ (link.chan 0).line.txTy ≠ none ∧ link.slotCarries 0 = true ∧ oamFirst [msg 1] = some (msg 1)
    ∧ (link.mapLine 0 fun l => { l with txTy := some .train }).slotCarries 0 = false ∧ (link.chan 0).line.oamQ = []
    ∧ (link.mapLine 0 fun l => { l with txNext := 1 }).slotStart 0 = false
    ∧ link.zUp 0 = true ∧ link.txLpi 0 = false ∧ link.capDue 0 = true ∧ live.zUp 0 = false := ⟨canon _ (by decide), by decide⟩

/-- Pieces of a slot have been received. -/
def pieces (l : List (Option (BitVec 16))) : State := link.mapLine 0 fun x => { x with oamIn := l }

theorem meets_FieldsAndMessagesAreReceived : link.Canonical ∧ 3 ≤ link.phase 0 ∧ isZ (link.lineMode 0) = true ∧ link.orbitLock 0 = true ∧ link.lineReady 0 = true
    ∧ link.linkUp 0 = true ∧ 3 ≤ ((link.mapChan 0 fun x => { x with link := { x.link with markRun := 3 } }).chan 0).link.markRun
    ∧ (put [(Reg.anLpiStatus 0, 1)] link).rxLpi 0 = true ∧ ((put [(Reg.anLpiStatus 0, 1)] link).mapLine 0 fun l => { l with rxArr := sec 10 - us 3 }).nextRx 0 (sec 10) = 3 ∧ (3 : Word).toNat % 64 ≠ 63
    ∧ ((put [(Reg.anLpiStatus 0, 1)] link).mapLine 0 fun l => { l with rxArr := sec 10 - us 63 }).nextRx 0 (sec 10) = 63 ∧ (63 : Word).toNat % 64 = 63 ∧ link.rxLpi 0 = false
    ∧ (train 0x14000000).phase 0 = 4 ∧ (train 0x14000000).linkUp 0 = false ∧ (train 0x14000000).orbitLock 0 = true ∧ (train 0x14000000).lineReady 0 = true
    ∧ markFound 0xF9A8 = true ∧ markFound 0xF9AB = true ∧ markFound 0xF9AF = false ∧ (live.phase 0 < 3) ∧ live.orbitLock 0 = false
    ∧ link.zUp 0 = true ∧ ((pieces (List.replicate 8 none)).chan 0).line.oamIn.length = slotLen (link.rxDir 0)
    ∧ oamAssemble 8 (List.replicate 8 none) = none ∧ (oamAssemble 8 (List.replicate 8 (some 0))).isSome = true ∧ oamType (msg 0) = 0 ∧ 6 < oamType (msg 7)
    ∧ 1 ≤ oamType (msg 1) ∧ oamType (msg 6) ≤ 6 ∧ ((pieces (List.replicate 7 none)).chan 0).line.oamIn.length ≠ slotLen (link.rxDir 0)
    ∧ (put [(Reg.ktlStatus 0, 0x10000000)] link).infoValid 0 = true ∧ (put [(Reg.ktlStatus 0, 0x10000000)] link).rxLpi 0 = false
    ∧ (link.chan 0).ktl.capBy ≤ link.now ∧ link.infoValid 0 = false
    ∧ link.now < ((link.mapChan 0 fun x => { x with ktl := { x.ktl with capBy := sec 11 } }).chan 0).ktl.capBy := ⟨canon _ (by decide), by decide +kernel⟩

/-- A field that decodes on a link of KTL version 3, and not on one of version 2. -/
theorem meets_FieldsAndMessagesAreReceived_field :
    (link.gotField 0 0x46ebc64895b37dab0dfa2c1ce84a71bd258edd26ced6a6f7d630f4a23bcc98ab53fbe818705121e6c45699f75433f8a82075a6e615f4ee7c).isSome = true
    ∧ (put [(Reg.anResolved 0, 0xC9020000)] link).gotField 0 0x46ebc64895b37dab0dfa2c1ce84a71bd258edd26ced6a6f7d630f4a23bcc98ab53fbe818705121e6c45699f75433f8a82075a6e615f4ee7c = none := by
  decide +kernel

/-- A codeword on its way. -/
def word (e : Option Bool) (it : Option Nat) (rel : Nat) : Flight := { eng := e, rel := rel, iters := it, check := true, corr := 3, blks := [] }
def flights (l : List Flight) (run : Nat) : State := link.mapChan 0 fun x => { x with fec := { x.fec with flight := l, uncRun := run } }

/-- Channel 0's link up in a mode of a clause. -/
def clause : State := put [(Reg.anResolved 0, 0x83000000)] link

/-- Channel 0 receives an orbit of a type, its engine out of service or not. -/
def orbit (ty : OrbitTy) (out : Bool) : State := link.mapChan 0 fun x => { x with line := { x.line with rxTy := some ty }, fec := { x.fec with outA := out } }

theorem meets_CodewordsAreDecodedInOrder : link.Canonical ∧ isZ (link.lineMode 0) = true ∧ 3 ≤ link.phase 0 ∧ link.orbitLock 0 = true ∧ link.lineReady 0 = true
    ∧ ((orbit .data false).chan 0).line.rxTy.any carries = true ∧ ((orbit .eclipse false).chan 0).line.rxTy.any carries = false ∧ (link.chan 0).line.rxTy.any carries = false
    ∧ (orbit .data false).engineOf 0 0 = false ∧ (orbit .data false).engineOut 0 false = false ∧ (orbit .data true).engineOut 0 false = true
    ∧ 8 ≤ (((flights (List.replicate 8 (word (some false) none 0)) 0).chan 0).fec.flight.filter (fun x => x.eng == some false)).length
    ∧ ((link.chan 0).fec.flight.filter (fun x => x.eng == some false)).length < 8 ∧ isZ (live.lineMode 0) = false ∧ live.phase 0 < 3 ∧ live.orbitLock 0 = false
    ∧ clause.stdUp 0 = true ∧ clause.lineReady 0 = true ∧ link.stdUp 0 = false ∧ State.reset.lineReady 0 = false ∧ clause.rlyActive 0 = false
    ∧ rsBits (clause.lineMode 0) ≠ none ∧ clause.ownFence (.chan 0 .fec) = false
    ∧ (word (some false) (some 16) (sec 10)).rel ≤ (flights [word (some false) (some 16) (sec 10)] 0).now ∧ link.now < (word none none (sec 10 + 1)).rel
    ∧ (word (some true) none 0).iters = none ∧ 7 ≤ ((flights [word none none 0] 7).chan 0).fec.uncRun ∧ ((flights [word none none 0] 6).chan 0).fec.uncRun < 7
    ∧ link.linkUp 0 = true ∧ 2 ^ 20 ≤ ((link.mapChan 0 fun x => { x with fec := { x.fec with winCw := 2 ^ 20 } }).chan 0).fec.winCw ∧ (link.chan 0).fec.winCw < berWindow
    ∧ ((link.mapChan 0 fun x => { x with fec := { x.fec with startAt := true } }).chan 0).fec.startAt = true
    ∧ (put [(Reg.anResolved 0, 0x88030000), (Reg.fecUnitFence 0, 1)] link).singleDue 0 = true ∧ link.singleDue 0 = false ∧ (link.chan 0).fec.startAt = false
    ∧ ((link.mapChan 0 fun x => { x with fec := { x.fec with endAt := true } }).chan 0).fec.endAt = true ∧ (link.chan 0).fec.endAt = false :=
  ⟨canon _ (by decide), by decide +kernel⟩

/-! ### The receiver -/

/-- Channel 0 with its factory elements in place and the spare slices 32 to 35 by age. -/
def elements (s : State) : State := s.mapChan 0 fun x =>
  { x with trim := { x.trim with slices := List.range 32, segs := List.range 64 }, rx := { x.rx with fresh := [32, 33, 34, 35] } }

/-- Slice corrections. -/
def corrs (l : List (Nat × Rat × Rat)) : State := (elements link).mapRx 0 fun r => { r with corr := l }

/-- One sample and where in the partner's orbit it lies. -/
def sample (code : Byte) (place : Nat) : RxMeas := { codes := [code], place := some place, ok := true, tx := [], past := [] }

/-- Channel 0 with its main tap first, and with symbols of its own sent. -/
def first (trn : Word) : State := ((train trn).mapRx 0 fun r => { r with main := 0 }).mapLine 0 fun l => { l with sent := [(0, [1])] }

theorem meets_LevelsAndSpareElementsAreKept : (elements link).Canonical ∧ ((elements link).chan 0).afe.eff = .on ∧ ((elements link).chan 0).dsp.eff = .on
    ∧ (elements link).linkUp 0 = true ∧ (State.reset.chan 0).afe.eff ≠ .on ∧ ((link.mapChan 0 fun x => { x with dsp := {} }).chan 0).dsp.eff ≠ .on
    ∧ 0 < (sample 0x7F 264).codes.countP clipped ∧ link.reg (Reg.afeAdcClip 0) ≠ 0xFFFFFFFF
    ∧ (train 0x11000000).linkUp 0 = false ∧ (train 0x11000000).phase 0 ≠ 0
    ∧ (put [(Reg.eqAdaptCtrl 0, 0x1F)] link).frozen 0 = 0x1F ∧ link.frozen 0 = 0 ∧ (put [(Reg.eqAdaptCtrl 0, 0xC)] link).frozen 0 = 0xC
    ∧ (elements link).shadowing 0 ≠ [] ∧ link.shadowing 0 = [] ∧ (link.fld (Reg.afeAdcStatus 0) 21 16 + 1) % 32 ≠ 0
    ∧ ((put [(Reg.afeAdcStatus 0, 0x1F0000)] link).fld (Reg.afeAdcStatus 0) 21 16 + 1) % 32 = 0 ∧ (elements link).chanFenced 0 = false
    ∧ corrOut ((corrs [(35, 0, 2049)]).sliceCorr 0 35) = true ∧ corrOut ((corrs [(35, -3933, 0)]).sliceCorr 0 35) = true ∧ corrOut ((corrs [(35, -3932, 2048)]).sliceCorr 0 35) = false
    ∧ ((elements link).chan 0).rx.badSlices.contains 35 = false
    ∧ ((elements link).chan 0).trim.slices.findIdx? (· == 31) = some 31 ∧ ((elements link).chan 0).trim.slices.findIdx? (· == 32) = none
    ∧ saturated (List.replicate 31 100 ++ [112]) = [31] ∧ saturated (List.replicate 31 100 ++ [110]) = []
    ∧ ((elements link).chan 0).trim.segs[31]? = some 31 ∧ ((elements link).chan 0).rx.badSegs.contains 31 = false
    ∧ ((elements link).chan 0).trim.segs.findIdx? (· == 31) = some 31 := ⟨canon _ (by decide), by decide +kernel⟩

/-- Windows with samples at the positions that each level is measured at, and exact coefficients within the unit of their registers. -/
theorem meets_LevelsAndSpareElementsAreKept_window :
    (first 0x12000000).linkUp 0 = false ∧ (first 0x12000000).phase 0 ≠ 0 ∧ ((first 0x12000000).chan 0).line.sent ≠ [] ∧ ((first 0x12000000).rxPar 0 (sample 5 2496)).samplesAt [5] (· == .silent) ≠ []
    ∧ ((((first 0x12000000).rxRun 0).run ((first 0x12000000).rxPar 0 (sample 5 2496)) [5]).res.filter (fun x => x.1 == .silent)).map (·.2) ≠ []
    ∧ ((first 0x95000000).rxPar 0 (sample 5 264)).samplesAt [5] (fun k => if isZ ((first 0x95000000).lineMode 0) then k == .data else k != .rest) ≠ []
    ∧ (((first 0x95000000).rxRun 0).run ((first 0x95000000).rxPar 0 (sample 5 264)) [5]).errs ≠ []
    ∧ ∀ k, 0 ≤ Store.get (fun _ => (0 : Rat)) (link.chan 0).rx.frac k ∧ Store.get (fun _ => (0 : Rat)) (link.chan 0).rx.frac k < 1 :=
  ⟨by decide, by decide, by decide, by decide +kernel, by decide +kernel, by decide +kernel, by decide +kernel, fun _ => by
    show (0 : Rat) ≤ 0 ∧ (0 : Rat) < 1
    decide +kernel⟩

/-- Taps at their bounds and decisions that differ at every tap, and at one. -/
theorem meets_LevelsAndSpareElementsAreKept_feedback : ([512, 409, 0, 0] : List Rat).length = 4 ∧ (∀ x ∈ ([512, 409, 0, 0] : List Rat), absR x ≤ 512)
    ∧ absSum [512, 409, 0, 0] ≤ 2048 * 45 / 100 ∧ (∀ k, absR (([1, 1, 1, 1] : List Rat).getD k 0 - ([-1, 1, 1, 1] : List Rat).getD k 0) ≤ 2)
    ∧ (∀ k, k ≠ 0 → ([1, 1, 1, 1] : List Rat).getD k 0 = ([-1, 1, 1, 1] : List Rat).getD k 0) := by
  refine ⟨by decide, by decide +kernel, by decide +kernel, fun k => ?_, fun k h => ?_⟩
  · match k with
    | 0 | 1 | 2 | 3 => decide +kernel
    | _ + 4 => show absR (0 - 0) ≤ 2; decide +kernel
  · match k with
    | 0 => exact absurd rfl h
    | 1 | 2 | 3 | _ + 4 => rfl

/-- A model of the announced spread, 0.1 % at 31 kHz, and observations of it over more than 16 of its periods. -/
def spread : State := (put [(Reg.eqSscStatus 0, 0x80001F0A), (Reg.eqTrStatus 0, 0x40000000)] link).mapRx 0 fun r => { r with sscHalf := 62 }
def observed : List (Nat × Rat) := [0, us 600].map fun t => (t, spreadModel 10 62 7 t + 3 / 1000000)

theorem meets_TimingNoiseAndPatternAreShown : link.Canonical ∧ (link.chan 0).dsp.eff = .on ∧ link.lineReady 0 = true ∧ State.reset.lineReady 0 = false
    ∧ ((link.mapChan 0 fun x => { x with dsp := {} }).chan 0).dsp.eff ≠ .on ∧ (train 0x11000000).coasts 0 = true ∧ link.coasts 0 = false
    ∧ ((link.mapRx 0 fun r => { r with est := [some 0], trGood := 63 }).chan 0).rx.est = [some 0] ∧ 63 ≤ ((link.mapRx 0 fun r => { r with est := [some 0], trGood := 63 }).chan 0).rx.trGood
    ∧ (link.chan 0).rx.est = List.replicate 0 none ∧ (link.trRange 0).1 ≤ 0 ∧ 0 ≤ (link.trRange 0).2 ∧ meanR [absR 0] ≤ 1 / 8
    ∧ spread.sscModels 0 = true ∧ spread.bit (Reg.eqSscStatus 0) 30 = false ∧ (spread.sscFits 0 7 observed).2 = true ∧ (spread.sscFits 0 7 []).2 = false
    ∧ link.sscModels 0 = false ∧ spread.fld (Reg.eqSscStatus 0) 5 0 = 10 ∧ (spread.chan 0).rx.sscHalf = 62
    ∧ (10 : Rat) < 20 * absR (11 - 10) ∧ ¬ (10 : Rat) < 20 * absR (21 / 2 - 10) ∧ ¬ (62 : Rat) < 100 * absR (2 * 31 - 62) ∧ (62 : Rat) < 100 * absR (2 * 32 - 62)
    ∧ ((link.mapChan 0 fun x => { x with rx := { x.rx with freeze := 1 } }).chan 0).rx.freeze = 1 ∧ (link.chan 0).rx.freeze ≠ 1
    ∧ (put [(Reg.eqNfCtrl 0, 1)] live).nfMay 0 = true ∧ link.nfMay 0 = false ∧ (put [(Reg.eqNfCtrl 0, 1)] live).nfBlocks 0 (List.replicate 16 (List.replicate 4096 0)) = true
    ∧ live.nfBlocks 0 [] = false
    ∧ (put [(Reg.diagTpCtrl 0, 0x100)] live).bit (Reg.diagTpCtrl 0) 8 = true ∧ live.fenced (.chan 0 .diag) = false ∧ live.bit (Reg.diagTpCtrl 0) 8 = false
    ∧ (live.chan 0).dsp.eff = .on ∧ (live.chan 0).afe.eff = .on := ⟨canon _ (by decide), by decide +kernel⟩

/-! ### Bring-up -/

/-- Channel 0 with bring-up state changed. -/
def bring (trn : Word) (f : LinkSt → LinkSt) : State := (train trn).mapChan 0 fun x => { x with link := f x.link }

/-- Phases 1 to 4 of a cold train, at the instants and counts where its rules begin to hold; words with and without ABORT. -/
theorem meets_NegotiationLeadsThroughThePhases : (train 0x11000000).Canonical ∧ ((bring 0 fun l => { l with neg := true }).chan 0).link.neg = true
    ∧ ((train 0).chan 0).link.neg = false ∧ resolve 0 0 0 0 none true = none ∧ (resolve 0 0 1 1 none true).isSome = true
    ∧ msResolve {} {} = none ∧ msResolve { nonce := 1 } {} = some true
    ∧ (train 0x11000000).kind 0 = 1 ∧ (train 0x11000000).phase 0 = 1 ∧ isZ ((train 0x11000000).lineMode 0) = true
    ∧ ((bring 0x11000000 fun l => { l with phaseFrom := sec 10 - ms 34 }).chan 0).link.phaseFrom + ms 34 ≤ (train 0x11000000).now
    ∧ (train 0x11000000).now < ((bring 0x11000000 fun l => { l with phaseFrom := sec 10 - ms 34 + 1 }).chan 0).link.phaseFrom + ms 34
    ∧ (train 0x12000000).phase 0 = 2 ∧ (train 0x13000000).phase 0 = 3 ∧ (train 0x12000000).orbitLock 0 = true ∧ ((train 0x12000000).chan 0).link.abort = none
    ∧ (bring 0x12000000 fun l => { l with readyRun := 64, tswRun := 8 }).rxReady 0 = true ∧ (bring 0x12000000 fun l => { l with readyRun := 63 }).rxReady 0 = false
    ∧ (train 0x14000000).phase 0 = 4 ∧ (train 0x14000000).linkUp 0 = false ∧ ((bring 0x14000000 fun l => { l with sends := true, got := true }).chan 0).link.got = true
    ∧ ((train 0x14000000).chan 0).link.sends = false ∧ ((bring 0x14000000 fun l => { l with readyRun := 64 }).chan 0).link.readyRun = 64
    ∧ (train 0x12000000).orbits 0 = true ∧ (train 0x12000000).lineReady 0 = true ∧ (train 0x11000000).orbits 0 = false
    ∧ (train 0x13000000).sendsTraining 0 = true ∧ (train 0x13000000).lineReady 0 = true ∧ (train 0x13000000).pattern 0 = 0
    ∧ State.reset.lineReady 0 = false ∧ ((bring 0x12000000 fun l => { l with abort := some 1 }).chan 0).link.abort ≠ none := ⟨canon _ (by decide), by decide⟩

/-- Status words as the slicer gives their repetitions: one without ABORT and one with it, and one that is no status word. -/
theorem meets_NegotiationLeadsThroughThePhases_words :
    (tswDecide .z50 (List.replicate 224 true)).toNat / 2 ^ 12 ≠ 0xA ∧ (∃ l : List Bool, tswDecide .z50 l >>> 12 = 0xA) := by
  refine ⟨by decide, ⟨(List.range 14).flatMap fun _ => msbBits (0xA440 : BitVec 16), by decide⟩⟩

theorem meets_TrainingsFailAndClausesLinkUp : (train 0x12000000).Canonical
    ∧ ((bring 0x12000000 fun l => { l with limitAt := some (sec 10) }).chan 0).link.limitAt = some (sec 10) ∧ sec 10 ≤ (train 0x12000000).now
    ∧ (train 0x12000000).linkUp 0 = false ∧ (train 0x12000000).kind 0 = 1 ∧ (train 0x22000000).kind 0 = 2 ∧ ((train 0x12000000).chan 0).link.limitAt = none
    ∧ (put [(Reg.anPolicy 0, 1)] (train 0x12000000)).fld (Reg.anPolicy 0) 3 0 = 1 ∧ (train 0x12000000).lineMode 0 ≤ 0xB
    ∧ ((bring 0x12000000 fun l => { l with abort := some 0 }).chan 0).link.abort = some 0 ∧ ((train 0x12000000).chan 0).link.abort = none
    ∧ ((bring 0x12000000 fun l => { l with abort := some 1 }).chan 0).link.abort ≠ some 0 ∧ sec 10 < sec 10 + 1
    ∧ ((bring 0x32000000 fun l => { l with holdBy := some (sec 10) }).chan 0).link.holdBy = some (sec 10) ∧ (train 0x32000000).phase 0 = 2
    ∧ ((train 0x12000000).chan 0).link.holdBy = none ∧ 1 ≤ (train 0x11000000).phase 0 ∧ (train 0x14000000).phase 0 ≤ 4 ∧ link.linkUp 0 = true ∧ (train 0).phase 0 = 0
    ∧ (put [(Reg.anResolved 0, 0x81000000)] (train 0x11000000)).lineMode 0 ≠ 0 ∧ isZ ((put [(Reg.anResolved 0, 0x81000000)] (train 0x11000000)).lineMode 0) = false
    ∧ (train 0x11000000).lineReady 0 = true ∧ (put [(Reg.anResolved 0, 0x81000000)] link).stdUp 0 = true ∧ link.stdUp 0 = false
    ∧ (put [(Reg.afeGainStatus 0, 0x20000000)] link).bit (Reg.afeGainStatus 0) 29 = true := ⟨canon _ (by decide), by decide⟩

/-- Channel 0's eclipse state changed. -/
def ecl (f : EclSt → EclSt) (s : State) : State := s.mapChan 0 fun x => { x with ecl := f x.ecl }

/-- A follower and a leader with a gain that waits; announced and expected eclipses, in and out of step; a request 1 s old and older. -/
theorem meets_LpiAndEclipsesRunAsTheirRulesSay : link.Canonical
    ∧ (put [(Reg.afeGainStatus 0, 0x20000000)] link).eclReasons 0 ≠ 0 ∧ link.leader 0 = true ∧ (put [(Reg.anResolved 0, 0x89030000)] link).leader 0 = false
    ∧ link.eclReasons 0 = 0 ∧ (link.chan 0).ecl.asked = false ∧ (link.chan 0).ecl.drained = true ∧ link.slotStart 0 = true
    ∧ (put [(Reg.afeGainStatus 0, 0x20000000)] link).eclPending 0 = true ∧ link.eclPending 0 = false ∧ link.eclSpaced 0 0 = true
    ∧ (ecl (fun e => { e with last := some 0 }) link).eclSpaced 0 127 = false ∧ (ecl (fun e => { e with last := some 0 }) link).eclSpaced 0 128 = true
    ∧ ((ecl (fun e => { e with ann := some (0, 5) }) link).chan 0).ecl.ann = some (0, 5) ∧ (link.chan 0).line.txNext = 0 ∧ (link.chan 0).line.txNext ≠ 1
    ∧ (link.chan 0).ecl.ann = none ∧ ((ecl (fun e => { e with expect := some 0 }) link).chan 0).ecl.expect ≠ none ∧ (link.chan 0).ecl.expect = none
    ∧ live.zUp 0 = false ∧ ((ecl (fun e => { e with drained := false }) link).chan 0).ecl.drained = false
    ∧ ((ecl (fun e => { e with since := some (sec 9 - 1) }) link).chan 0).ecl.since = some (sec 9 - 1) ∧ sec 9 - 1 + sec 1 < link.now ∧ link.now ≤ sec 9 + sec 1
    ∧ (link.chan 0).ecl.since = none ∧ (put [(Reg.anLpiStatus 0, 2)] link).txLpi 0 = true ∧ link.mayLpi 0 = false := ⟨canon _ (by decide), by decide⟩

/-- The conditions of LPI hold. -/
theorem meets_LpiAndEclipsesRunAsTheirRulesSay_lpi : ∃ s : State, s.mayLpi 0 = true ∧ s.linkUp 0 = true :=
  ⟨link.mapChan 0 fun x => { x with line := { x.line with txNext := 63 }, link := { x.link with zlpi := true }, buf := { x.buf with lpiFrom := some 0 } }, by decide⟩

/-- A link of a clause whose host sends LPI, and one in LPI; eclipses that are late and not late, that no announcement led to, and deferred for 128 orbits. -/
theorem meets_LpiAndEclipsesRunAsTheirRulesSay_late :
    clause.stdUp 0 = true ∧ ((clause.mapChan 0 fun x => { x with buf := { x.buf with lpiFrom := some 0 } }).chan 0).buf.lpiFrom.isSome = true
    ∧ link.stdUp 0 = false ∧ (link.chan 0).buf.lpiFrom = none ∧ (put [(Reg.anLpiStatus 0, 2)] clause).txLpi 0 = true ∧ link.zUp 0 = true
    ∧ (link.chan 0).ecl.txLeft = 0 ∧ link.rxLpi 0 = false ∧ link.txLpi 0 = false ∧ link.eclDue 0 0 = true ∧ link.eclDue 0 1 = false
    ∧ ((ecl (fun e => { e with stray := true }) link).chan 0).ecl.stray = true ∧ (link.chan 0).ecl.stray = false
    ∧ link.eclLate 0 (-5) = true ∧ link.eclLate 0 (-4) = false
    ∧ (let t := ecl (fun e => { e with waitFrom := some (-128) }) (put [(Reg.afeGainStatus 0, 0x20000000), (Reg.anResolved 0, 0x89030000)] link)
       (t.zUp 0 && t.eclPending 0 && (t.chan 0).ecl.ann.isNone && decide (128 ≤ orbitsAfter (t.leadIdx 0) (t.deferBase 0))
         && (!t.leader 0 || !(t.chan 0).ecl.drained || t.rxLpi 0 || t.txLpi 0)) = true) := by decide
/-! ### Frames -/

/-- Channel 0's buffers changed. -/
def buf (f : BufSt → BufSt) (s : State) : State := s.mapChan 0 fun x => { x with buf := f x.buf }
/-- Channels 0 and 1 as an active relay pair. -/
def pair : State := put [(Reg.rlyStatus 0, 1), (Reg.rlyStatus 1, 1), (Reg.anTrnStatus 1, 0x95000000), (Reg.anResolved 1, 0x89030000)] link

/-- Channel 0's host lane in a mode of 64b/66b, or of 8b/10b, its link up or not. -/
def lane (mode : Word) : State := put [(Reg.hlMode 0, mode)] link

/-- A frame's start, data, its end, and what belongs to none. -/
def starts : Blk := ⟨true, 0x78⟩
def ends : Blk := ⟨true, 0x87⟩

/-- FIFOs at and around their limits, PAUSE enabled with HWM and LWM, host lanes of each kind, and a pair with and without its partner. -/
theorem meets_FramesPassOrAreCounted : link.Canonical ∧ (link.chan 0).hl.eff = .on ∧ (lane 4).hlMode 0 = 4 ∧ (lane 0).hlMode 0 = 0 ∧ (lane 4).rlyActive 0 = false
    ∧ pair.rlyActive 0 = true ∧ (State.reset.chan 0).hl.eff ≠ .on ∧ (lane 4).host8b 0 = false ∧ (lane 3).host8b 0 = true
    ∧ ((lane 4).hostBlocks 0 (.blocks [])).1 = [] ∧ ((lane 4).hostBlocks 0 (.blocks [(2, 0x78)])).1 = [starts]
    ∧ ((lane 4).hostBlocks 0 (.blocks [(0, 0x78)])).1 = [errorBlk]
    ∧ isStart starts = true ∧ isStart ends = false ∧ (termBytes ends).isSome = true ∧ (termBytes starts).isSome = false ∧ isStart idleBlk = false ∧ isStart lpiBlk = false ∧ idleBlk ≠ lpiBlk
    ∧ (lane 4).hostOk 0 = true ∧ live.hostOk 0 = false ∧ (link.chan 0).buf.hostIn = none ∧ (link.chan 0).buf.rm = []
    ∧ ((buf (fun b => { b with rm := List.replicate 3 starts, hostIn := some true }) link).chan 0).buf.hostIn = some true
    ∧ ((buf (fun b => { b with hostIn := some false }) link).chan 0).buf.hostIn = some false
    ∧ ((buf (fun b => { b with rm := List.replicate 3 starts }) link).chan 0).buf.rm.length = 3 ∧ ¬ (List.replicate 4096 starts).length < 4096
    ∧ (buf (fun b => { b with rm := List.replicate 3 starts }) (put [(Reg.hlRmCtrl 0, 0x80020001)] link)).pauseEn 0 = true
    ∧ (put [(Reg.hlRmCtrl 0, 0x80020001)] link).hwm 0 = 2 ∧ (put [(Reg.hlRmCtrl 0, 0x80020001)] link).lwm 0 = 1
    ∧ ((buf (fun b => { b with xoff := some (sec 10) }) link).chan 0).buf.xoff.any (· ≤ link.now) = true ∧ (link.chan 0).buf.xoff.isNone = true
    ∧ (0 : Ch) = evenCh 0 ∧ (14 : Ch) = evenCh 7 ∧ link.pairReady 0 = true
    ∧ ((buf (fun b => { b with rlyIn := [[starts, ends]] }) pair).chan 0).buf.rlyIn = [starts, ends] :: [] ∧ (pair.chan 0).buf.rlyIn = []
    ∧ [starts, ends].head?.any isStart = true ∧ [idleBlk].head?.any isStart = false ∧ (List.replicate 2047 starts).length + [starts, ends].length > 2048
    ∧ pair.linkUp (partnerCh 0) = true ∧ link.linkUp (partnerCh 0) = false ∧ pair.tapOn 0 = false ∧ (put [(Reg.rlyCtrl 0, 3)] pair).tapOn 1 = true
    ∧ ((buf (fun b => { b with lost := true }) pair).chan 0).buf.lost = true ∧ pair.chanGone (partnerCh 0) = false
    ∧ (pair.chan 1).hl.eff = .on ∧ (pair.chan 1).hpll.locked = true ∧ pair.fenced (.chan 1 .hl) = false
    ∧ (put [(Reg.diagDiagCtrl 0, 1)] link).mapMay 0 = true ∧ (put [(Reg.diagDiagCtrl 0, 0)] link).mapMay 0 = false
    ∧ (put [(Reg.diagDiagCtrl 0, 3)] link).bit (Reg.diagDiagCtrl 0) 1 = true ∧ link.bit (Reg.hlStatus 0) 0 = false ∧ (link.chan 0).hpll.gate = true :=
  ⟨canon _ (by decide), by decide⟩

/-! ### Time -/

/-- Group 0 changed, in a state, with a source configuration. -/
def grp (st : Word) (src : Word) (f : Group → Group) : State := (put [(Reg.tkGrpState 0, st), (Reg.tkGrpSrcCtrl 0, src)] live).mapGroup 0 f

/-- A PPS input that is usable: valid, with a pulse that no update has taken. -/
def pulse (th : Rat) : Group → Group := fun x => { x with src := 2, pps := #v[{ last := some 0, theta := th, valid := true, seen := true }, {}] }

theorem meets_ServoUpdatesItsGroup : (grp 2 2 (pulse 5)).Canonical ∧ (grp 2 2 (pulse 5)).updateDue 0 = true ∧ (grp 2 2 id).updateDue 0 = false
    ∧ (grp 0 0 fun x => { x with ts := 64000 }).updateDue 0 = true ∧ (grp 0 0 fun x => { x with ts := 63999 }).updateDue 0 = false ∧ (grp 2 2 (pulse 5)).bit (Reg.tkGrpState 0) 8 = false
    ∧ (let u := ((grp 2 2 (pulse 5)).mapGroup 0 (fun x => { x with src := 2 })).settleGroup 0; u.servoInput 0 = some 5 ∧ u.grpState 0 = 2 ∧ u.mayStep 0 5 = false)
    ∧ (let u := ((grp 3 2 (pulse 5)).mapGroup 0 (fun x => { x with src := 2 })).settleGroup 0; u.grpState 0 = 3)
    ∧ (grp 2 2 fun x => { pulse 5 x with fresh := true, fromUnset := true }).mayStep 0 5 = true
    ∧ (let u := ((grp 0 0 id).mapGroup 0 (fun x => { x with src := 0 })).settleGroup 0; u.servoInput 0 = none ∧ u.grpState 0 = 0)
    ∧ live.tgOf 0 = 0 := ⟨canon _ (by decide), by decide +kernel⟩

/-- Both PPS inputs usable, θ apart by so much. -/
def two (d : Rat) (st : Word) : State := grp st 0x1102 fun x =>
  { x with src := 0x1102, pps := #v[{ last := some 0, theta := 0, valid := true, cmp := true }, { last := some 0, theta := d, valid := true, cmp := true }] }

theorem meets_RedundantSourcesAndPpsAreJudged : (two 0 3).Canonical ∧ (two 0 3).tickDue 0 = true ∧ (grp 3 2 (pulse 5)).tickDue 0 = false
    ∧ (grp 3 1 fun x => { x with ts := 1000 }).tickDue 0 = true ∧ (grp 3 1 fun x => { x with ts := 999 }).tickDue 0 = false ∧ (two 0 3).srcKind 0 = 2 ∧ ((two 0 3).usable 0).1 = true ∧ ((two 0 3).usable 0).2 = true
    ∧ ((two 0 3).discTh 0 : Rat) < absR ((two 1000000 3).thetas 0).2 * 1000 ∧ ¬ ((two 0 3).discTh 0 : Rat) < absR ((two 0 3).thetas 0).2 * 1000
    ∧ (two 0 0x103).bit (Reg.tkGrpState 0) 8 = true ∧ (two 0 3).bit (Reg.tkGrpState 0) 8 = false ∧ 1 ≤ (two 0 3).discN 0
    ∧ (put [(Reg.tkGrpDiscTime 0, 1)] (two 0 3)).discN 0 = 1
    ∧ (put [(Reg.trigPpsInCtrl, 3)] live).bit Reg.trigPpsInCtrl 1 = true ∧ live.fenced (.dev .trig) = false ∧ live.bit Reg.trigPpsInCtrl 0 = false
    ∧ (live.mapGroup 0 fun x => { x with ts := 1100000001, pps := #v[{ last := some 0 }, {}] }).ppsLate 0 0 = true
    ∧ (live.mapGroup 0 fun x => { x with ts := 1100000000, pps := #v[{ last := some 0 }, {}] }).ppsLate 0 0 = false ∧ (∀ g : Tg, live.ppsLate 0 g = false)
    ∧ (put [(Reg.trigPpsOutCtrl, 1)] (grp 3 0 fun x => { x with ts := 1000000001 })).ppsDue = true ∧ (grp 3 0 fun x => { x with ts := 1000000002 }).ppsDue = false
    ∧ (put [(Reg.trigPpsOutCtrl, 1)] (grp 3 0 fun x => { x with ts := 1000000001 })).ppsMay = true ∧ (put [(Reg.trigPpsOutCtrl, 1)] (grp 0 0 id)).ppsMay = false
    ∧ ({ live with trig := { ppsHigh := true, ppsEnd := sec 10 } } : State).trig.ppsEnd ≤ live.now ∧ live.trig.ppsHigh = false
    ∧ live.now < ({ live with trig := { ppsHigh := true, ppsEnd := sec 10 + 1 } } : State).trig.ppsEnd := ⟨canon _ (by decide), by decide +kernel⟩

/-- A Sync, Follow-up-less, and a Pdelay_Resp in Ethernet frames. -/
def ptp (ty flags : Byte) : List Byte :=
  List.replicate 12 0 ++ [0x88, 0xF7, ty, 2] ++ List.replicate 4 0 ++ [flags] ++ List.replicate 60 0

/-- Channel 0 with its engine valid and PTP_CTRL as given. -/
def stamps (c : Word) : State := put [(Reg.tkGrpState 0, 3), (Reg.ktlPtpCtrl 0, c)] link

theorem meets_PtpMessagesAreStampedAndChanged : (stamps 3).Canonical ∧ (stamps 3).engineOk 0 = true ∧ (stamps 3).linkUp 0 = true
    ∧ (ptpFind 0x103 (ptp 0 0)).isSome = true ∧ ptpFind 0x100 (ptp 0 0) = none ∧ ptpFind 0x103 (ptp 4 0) = none ∧ (ptpFind 0xF03 (ptp 3 0)).isSome = true
    ∧ (0x103 : Word).getLsbD (8 + ptpType (ptp 0 0) ⟨.l2, 14, 14⟩) = true ∧ (0x103 : Word).getLsbD (8 + ptpType (ptp 3 0) ⟨.l2, 14, 14⟩) = false
    ∧ (0x113 : Word).getLsbD 4 = true ∧ live.engineOk 0 = false ∧ (List.replicate 64 #v[(0 : Word), 0, 0, 0] : List PtpEntry).length = 64
    ∧ (ptpOneStep 0x23 (ptp 0 0) ⟨.l2, 14, 14⟩ (1, 2, 3)).isSome = true ∧ ptpOneStep 0x23 (ptp 0 2) ⟨.l2, 14, 14⟩ (1, 2, 3) = none
    ∧ pair.rlyActive 0 = true ∧ (put [(Reg.ktlPtpCtrl 1, 0x43)] pair).bit (Reg.ktlPtpCtrl (partnerCh 0)) 6 = true := ⟨canon _ (by decide), by decide⟩

/-! ### Comets -/

/-- A comet of a target, output, kind and HOPS, and its place in a queue. -/
def comet (target out kind hops : Nat) : BitVec 96 := BitVec.ofNat 96 (target * 2 ^ 82 + out * 2 ^ 76 + kind * 2 ^ 25 + hops)
def queued (c : BitVec 96) (f : Nat) : QComet := { bits := c, f := f, g := 0, arr := none, entry := none }
/-- Channel 0's link with a comet that its fields brought. -/
def brought (c : BitVec 96) : State := (put [(Reg.cmtGrpCtrl 0, 2)] link).mapLine 0 fun l => { l with cometIn := [c] }
/-- The fire queue and channel 0's queue hold comets. -/
def fires (c : BitVec 96) (f : Nat) : State := link.mapCmt fun x => { x with fire := [queued c f], chQ := x.chQ.set 0 [queued c f] }
/-- Entry 0 of the schedule, in the partition of group 0, which sends time. -/
def sched (w0 w1 : Word) (ts : Rat) : State :=
  (put [(Reg.cmtGrpPart 0, 0x100), (Reg.cmtGrpCtrl 0, 1), (Reg.tkGrpState 0, 3)] (live.mapGroup 0 fun x => { x with ts := ts })).mapCmt fun x =>
    { x with sched := [(0, w0), (1, w1), (4, 1000), (6, 1000)] }

/-- Eight comets have been injected, the first of them at an instant. -/
def injected (at' : Nat) : State := live.mapCmt fun x => { x with injAt := List.replicate 8 at' }

theorem meets_CometsAreRoutedLoadedAndFired : (brought (comet 5 0 3 1)).Canonical ∧ ((brought (comet 5 0 3 1)).chan 0).line.cometIn = comet 5 0 3 1 :: []
    ∧ (brought (comet 5 0 3 1)).cmtRuns = true ∧ (brought (comet 5 0 3 1)).permits 0 = true ∧ (link.chan 0).line.cometIn = []
    ∧ cTarget (comet bcast 0 3 15) = bcast ∧ cHops (comet 5 0 3 0) = 0 ∧ cHops (comet 5 0 3 15) = 15 ∧ cTarget (comet 5 0 3 1) ≠ bcast
    ∧ link.carries 0 = true ∧ link.slotsNext 0 = true ∧ link.cmtRuns = true ∧ (link.chan 0).line.cometOut.isEmpty = true ∧ live.carries 0 = false
    ∧ live.capTakes = false ∧ (put [(Reg.capCtrl, 1)] live).capTakes = true ∧ (live.cap.inBuf).length < 64
    ∧ (sched 0x80000000 0 1000).entryLive 0 0 = true ∧ (sched 0x80000000 0 999).entryLive 0 0 = false ∧ (sched 0x80000000 0 1000).entryFirst 0 0 = true
    ∧ (sched 0x80000000 0 1000).injRoom = true ∧ (injected (sec 10 - us 1)).injRoom = true ∧ (injected (sec 10 - us 1 + 1)).injRoom = false
    ∧ ((fires (comet 5 0 3 1) 9).earliest 0 [queued (comet 5 0 3 1) 9]).isSome = true ∧ link.earliest 0 [] = none
    ∧ (fireFirst ((fires (comet 5 0 3 1) 0).cmt.fire.filter (fun q => q.f ≤ (fires (comet 5 0 3 1) 0).time16 q.g))).isSome = true
    ∧ fireFirst ((fires (comet 5 0 3 1) 1).cmt.fire.filter (fun q => q.f ≤ (fires (comet 5 0 3 1) 1).time16 q.g)) = none
    ∧ link.grpState 0 = 0 ∧ (put [(Reg.tkGrpState 0, 3), (Reg.clkClkStatus, 0x80000000)] link).grpState 0 = 3
    ∧ (put [(Reg.tkGrpState 0, 3), (Reg.clkClkStatus, 0x80000000)] link).spllLocked = true ∧ link.safeState = false
    ∧ cKind (comet 5 0 1 1) = 1 ∧ cKind (comet 5 0 2 1) = 2 ∧ cKind (comet 5 15 4 1) = 4 ∧ cOutput (comet 5 15 4 1) = 15
    ∧ ((inbox 6 link).takeMsg 0 6).isSome = true ∧ link.takeMsg 0 6 = none ∧ link.fenced (.dev .cmt) = false ∧ (put [(0x12028, 1)] link).fenced (.dev .cmt) = true
    ∧ (sched 0x80000000 0 0).partOwner 0 = some 0 ∧ (sched 0x80000000 0 0).partOwner 1023 = some 0 ∧ (sched 0x80000000 0 0).partOwner 1024 = none
    ∧ sendsTime ((sched 0x80000000 0 0).grpState 0) = true ∧ (sched 0x80000000 0 0).bit (Reg.cmtGrpCtrl 0) 0 = true
    ∧ ((sched 0x80000000 0 0).schedWord 0 0).getLsbD 31 = true ∧ (sched 0x80000000 0 1000).entryF 0 ≤ (sched 0x80000000 0 1000).time16 0 + (sched 0x80000000 0 1000).entryLead 0
    ∧ ¬ (sched 0x80000000 0 999).entryF 0 ≤ (sched 0x80000000 0 999).time16 0 + (sched 0x80000000 0 999).entryLead 0
    ∧ (sched 0xC0000000 1 0).entryPeriod 0 = 65536000 ∧ bits ((sched 0xC0000000 1 0).schedWord 0 1) 23 0 = 1
    ∧ (sched 0xC0000000 9 2001).entryF 0 + 1000 * 65536 < (sched 0xC0000000 9 2001).time16 0 + (sched 0xC0000000 9 2001).entryLead 0
    ∧ ¬ (sched 0xC0000000 9 2000).entryF 0 + 1000 * 65536 < (sched 0xC0000000 9 2000).time16 0 + (sched 0xC0000000 9 2000).entryLead 0 :=
  ⟨canon _ (by decide), by decide +kernel⟩

/-- Pin 0 changed, with its control. -/
def pin (c : Word) (f : TrigPin → TrigPin) : State :=
  let s := put [(Reg.trigPinCtrl 0, c), (Reg.capCtrl, 1)] live
  { s with trig := { s.trig with pins := s.trig.pins.set 0 (f (s.pin 0)) } }

/-- Captures that wait in the log's input buffer. -/
def capture : Capture := { t := 0, g := 0, kind := 0, edge := false, armed := false, lost := false, chan := 0, dev := 0, out := 0, ref := 0 }
def waiting (k : Nat) : State := { pin 0x4402 id with cap := { inBuf := List.replicate k capture } }

theorem meets_PinsCapturesAndReportsAreKept : (pin 0x4402 id).Canonical ∧ ((pin 1 fun x => { x with pulse := some 0 }).pin 0).pulse = some 0 ∧ 0 ≤ (pin 1 id).time16 0
    ∧ ((pin 1 fun x => { x with pulse := some 1 }).pin 0).pulse = some 1 ∧ (pin 1 id).time16 ((pin 1 id).pinGroup 0) < 1 ∧ ((pin 1 id).pin 0).pulse = none
    ∧ ((pin 2 fun x => { x with armed := some (0, 7, 1) }).pin 0).armed = some (0, 7, 1) ∧ ((pin 2 id).pin 0).armed = none
    ∧ (pin 0x4402 id).pinMode 0 = 2 ∧ (pin 0x4402 id).bit (Reg.trigPinCtrl 0) 10 = true ∧ (pin 0x4402 id).bit (Reg.trigPinCtrl 0) 11 = false
    ∧ (pin 0x5402 id).bit (Reg.trigPinCtrl 0) 12 = true ∧ (pin 0x4402 id).bit (Reg.trigPinCtrl 0) 14 = true ∧ (pin 0x4402 id).bit Reg.capCtrl 0 = true
    ∧ (pin 0x4402 id).fenced (.dev .cap) = false ∧ (pin 0x4402 id).capFull = false ∧ (pin 0x4402 id).capTakes = true ∧ live.capTakes = false
    ∧ (waiting 63).cap.inBuf.length < 64 ∧ 64 ≤ (waiting 64).cap.inBuf.length ∧ (waiting 1).pending = [] ∧ (waiting 1).cap.inBuf = capture :: [] ∧ (waiting 1).capTakes = true
    ∧ (put [(Reg.capCtrl, 3), (Reg.capWrSeq, 131072)] live).capFull = true
    ∧ ((pin 0x4402 fun x => { x with lastCap := some (-655359) }).pin 0).lastCap = some (-655359) ∧ (0 : Int) - -655359 < 655360 ∧ ¬ (0 : Int) - -655360 < 655360
    ∧ ((inbox 3 link).takeMsg 0 3).isSome = true ∧ link.takeMsg 0 3 = none ∧ link.fenced (.dev .cap) = false ∧ (put [(0x13028, 1)] link).fenced (.dev .cap) = true
    ∧ live.mayAccess .hsa = true ∧ (put [(0x21028, 1)] live).accessErr ((put [(0x21028, 1)] live).view1At .hsa 0x212FC) 0x212FC false = some rFenced
    ∧ State.reset.mayAccess .hsa = false := ⟨canon _ (by decide), by decide +kernel⟩

/-- A log of two entries, the sequences 0 and 1. -/
theorem meets_CaptureWindowShowsSixteenEntries :
    (put [(Reg.capWrSeq, 2)] { live with cap := { log := [0xB, 0xA] } }).Canonical
    ∧ live.mayAccess .hsa = true ∧ live.accessErr (live.view1At .hsa 0x21100) 0x21100 true = none ∧ live.accessErr (live.view1At .hsa 0x212FC) 0x212FC false = none
    ∧ (put [(Reg.capWrSeq, 2)] { live with cap := { log := [0xB, 0xA] } }).capAt 0 = some 0xA ∧ (put [(Reg.capWrSeq, 2)] { live with cap := { log := [0xB, 0xA] } }).capAt 2 = none
    ∧ live.hears .hsb (us 1) ∧ spiCrc (frame2 3 0 0x021200 63 (crcOf (frame2 3 0 0x021200 63 0))) = 0 ∧ live.fenced (.dev .capw) = false := by
  refine ⟨canon _ (by decide), ?_⟩
  unfold State.hears
  decide

/-! ### Timekeeper and ledger -/

/-- The timekeeper's state changed, with TK_STATUS. -/
def tk (st : Word) (f : Tk → Tk) : State := (put [(Reg.tkTkStatus, st)] live).mapTk f

/-- TKX of 10 MHz counted in 16 windows of 160 µs; one window 0.8 % off and one beyond. -/
theorem meets_TimekeeperFollowsItsReference : (tk 0 id).Canonical ∧ (∃ q, (tk 0 fun t => { t with capReq := some (sec 10 - 1) }).tk.capReq = some q ∧ q < (tk 0 id).now)
    ∧ (∀ q, live.tk.capReq = some q → live.now ≤ q)
    ∧ 1000 ≤ 1000 ∧ ¬ 1000 ≤ 999 ∧ (1583 * 625000 < tkxHz.getD ((tk 0x80000000 id).fld Reg.tkTkStatus 11 8) 0 * 99 ∨ tkxHz.getD 0 0 * 101 < 1583 * 625000)
    ∧ ¬ (1584 * 625000 < tkxHz.getD 0 0 * 99 ∨ tkxHz.getD 0 0 * 101 < 1584 * 625000) ∧ live.tk.calAt ≠ some live.now ∧ (tk 0 fun t => { t with calAt := some (sec 10) }).tk.calAt = some (sec 10)
    ∧ (tk 0 id).tkxOk = false ∧ (tk 0 id).tk.passed.isNone = true ∧ (tk 0 id).tk.relock = false ∧ (tk 0 id).tk.judgeAt ≤ (tk 0 id).now
    ∧ tkxStable (List.replicate 16 1600) = true ∧ tkxStable (List.replicate 15 1600) = false ∧ tkxStable (1500 :: List.replicate 15 1512) = true
    ∧ tkxStable (1500 :: List.replicate 15 1513) = false ∧ (tk 0x80000000 id).tkxOk = true
    ∧ (tk 0 fun t => { t with passed := some 25600 }).tk.passed = some 25600 ∧ tkxPick 25600 = some 0 ∧ tkxPick 128000 = some 9 ∧ tkxPick 30000 = none
    ∧ (tk 0x20000000 id).coasting = true ∧ (tk 0 id).coasting = false ∧ (tk 0xC0000000 id).bit Reg.tkTkStatus 30 = true ∧ (tk 0xC0000000 id).tk.tkrAt ≤ live.now
    ∧ (tk 0x20000000 id).tk.coastAt ≤ live.now ∧ live.now < (tk 0x20000000 fun t => { t with coastAt := sec 10 + 1 }).tk.coastAt
    ∧ (tk 0x20000000 fun t => { t with relock := true }).tk.relock = true ∧ (tk 0x20000000 id).tk.tpll.gate = true
    ∧ (grp 3 0 fun x => { x with ts := 1000000001 }).onSecond (live.calGrp) = true ∧ (grp 3 0 fun x => { x with ts := 999999999 }).onSecond (live.calGrp) = false
    ∧ leapAt [(0, 37)] 0 = some 37 := by
  refine ⟨canon _ (by decide), ⟨_, rfl, by decide⟩, ?_, by decide +kernel⟩
  intro q h
  cases h

theorem meets_LedgerCountsSecondsAndDays : live.Canonical ∧ live.life.tickAt + ms 990 ≤ live.now ∧ live.now < ({ live with life := { tickAt := sec 10 - ms 990 + 1 } } : State).life.tickAt + ms 990
    ∧ max 1 ((put [(Reg.lifeCtrl, 0)] live).fld Reg.lifeCtrl 15 0) ≤ ({ live with life := { periodSec := 1 } } : State).life.periodSec
    ∧ live.life.periodSec < max 1 (live.fld Reg.lifeCtrl 15 0)
    ∧ (grp 3 0 fun x => { x with ts := 86400000000000 }).onSecond 0 = true ∧ ((86400000000000 : Rat) / 1000000000).floor.toNat % 86400 = 0
    ∧ (grp 3 0 fun x => { x with ts := 86400000000000 }).grpState 0 ≠ 0 ∧ live.grpState 0 = 0
    ∧ ({ live with life := { fetchBy := some 0 } } : State).life.fetchBy ≠ none ∧ live.life.fetchBy = none ∧ live.nvmReady = true := ⟨canon _ (by decide), by decide +kernel⟩

/-! ### Clocks -/

/-- CLK_STATUS, JUDGE_STATUS and SWITCH_CTRL, with the clock state changed. -/
def clk (st j sw : Word) (f : Clk → Clk) : State := (put [(Reg.clkClkStatus, st), (Reg.clkJudgeStatus, j), (Reg.clkSwitchCtrl, sw)] live).mapClk f

/-- Counts at and beyond their limits; XA judged alone, with XB, and while XB is in use; waits at their ends and just before. -/
theorem meets_ReferencesAreJudgedBeforeUse : (clk 0 0 0 fun c => { c with judging := true }).Canonical
    ∧ judgeOk false (List.replicate 16 3152) = true ∧ judgeOk false (List.replicate 16 3151) = false ∧ judgeOk true (List.replicate 16 20300) = true
    ∧ crossOk false 204861 = true ∧ crossOk false 204862 = false ∧ crossOk true 1279616 = true ∧ crossOk true 1279615 = false
    ∧ (clk 0 0 0 fun c => { c with judging := true, attemptAt := sec 10 - winTime 16 }).mayJudge 16 = true
    ∧ (clk 0 0 0 fun c => { c with judging := true, attemptAt := sec 10 - winTime 16 + 1 }).mayJudge 16 = false ∧ (clk 0 0 0 id).mayJudge 16 = false ∧ (clk 0x24000000 0 2 id).clkRef = 2
    ∧ (clk 0x24000000 0 2 id).bit Reg.clkSwitchCtrl 1 = true ∧ (clk 0x2C000000 0 2 id).clkBit stXa = true ∧ (clk 0x2C000000 0 2 id).clkBit stXb = true
    ∧ (clk 0 0 0 fun c => { c with judging := true, fails := 2, spll := {} }).clk.fails = 2 ∧ (clk 0 0 0 fun c => { c with spll := {} }).clk.spll.locked = false
    ∧ (clk 0x0C000000 0 0 id).clk.crossAt ≤ live.now ∧ (clk 0x08000000 0 0 id).clkBit stXb = false ∧ (clk 0x08000000 0 0 id).clk.rejudgeAt ≤ live.now
    ∧ (clk 0 0 0 fun c => { c with fallbackFrom := some (sec 10 - ms 255) }).clk.fallbackFrom = some (sec 10 - ms 255) ∧ sec 10 - ms 255 + ms live.clk.fbMs ≤ live.now
    ∧ live.now < sec 10 - ms 255 + 1 + ms live.clk.fbMs ∧ live.clk.fallbackFrom = none
    ∧ (clk 0 0 0 fun c => { c with fallbackLock := some (sec 10 - ms 1), spll := {} }).clk.fallbackLock = some (sec 10 - ms 1) ∧ sec 10 - ms 1 + ms 1 ≤ live.now
    ∧ live.clk.spll.locked = true ∧ live.clk.fallbackLock = none := ⟨canon _ (by decide), by decide⟩

/-- Phase errors that are a loss of lock, and ones that are not. -/
def apart : List Rat := [1, -1, 1, -1]

/-- SPLL on XA and on XB with the other judged; loops locked and not, gates due and not yet due; outputs enabled. -/
theorem meets_LossesOfLockForceSafeStatesUntilRelock : (clk 0x9E000000 0 1 id).Canonical ∧ (4 ≤ apart.length ∧ ∀ x ∈ apart.take 4, x < -(1 / 4) ∨ 1 / 4 < x)
    ∧ ¬ (∀ x ∈ ([1 / 4, 1, 1, 1] : List Rat).take 4, x < -(1 / 4) ∨ 1 / 4 < x) ∧ 200 ≤ 200 ∧ (3151 < 3152 ∨ 3248 < 3151) ∧ ¬ (3152 < 3152 ∨ 3248 < 3152) ∧ (19699 < 19700 ∨ 20300 < 19699)
    ∧ (5749999 < 5750000 ∨ 6750000 < 5749999) ∧ live.fastRef = false ∧ (put [(Reg.clkClkStatus, 0x98000000)] live).clkBit stXa = true
    ∧ live.triZero (10, 60) live.now = true ∧ (put [(Reg.clkClkStatus, 0x98000000)] live).triZero (10, 60) (sec 10 - us 1) = false ∧ live.triZero (0, 63) 0 = true
    ∧ (clk 0x9E000000 0 1 id).clk.spll.locked = true
    ∧ (clk 0x9E000000 0 1 fun c => { c with spll := {} }).clk.spll.locked = false ∧ (clk 0x9E000000 0 1 id).clkRef = 1 ∧ (clk 0xAE000000 0 1 id).clkRef = 2
    ∧ (clk 0x9E000000 0 1 id).bit Reg.clkSwitchCtrl 0 = true ∧ (clk 0x9E000000 0 1 id).clkBit stXb = true ∧ (clk 0x9E000000 0 1 id).clkBit stCross = true
    ∧ (clk 0x9F000000 0 1 id).clkBit 24 = true ∧ (clk 0x9E000000 0 1 id).clkBit 24 = false
    ∧ (live.chan 15).cpll.locked = true ∧ (State.reset.chan 0).cpll.locked = false ∧ (live.chan 15).hpll.locked = true ∧ (State.reset.chan 0).hpll.locked = false
    ∧ (clk 0 0 0 fun c => { c with opll := #v[lock, {}] }).clk.opll[0].locked = true ∧ live.clk.opll[1].locked = false
    ∧ (put [(Reg.clkClkoutStatus 0, 5)] live).bit (Reg.clkClkoutStatus 0) 2 = true ∧ live.bit (Reg.clkClkoutStatus 1) 2 = false
    ∧ (clk 0x98000000 0 0 fun c => { c with spll := {} }).pllMay .spll = true ∧ ((clk 0x98000000 0 0 fun c => { c with spll := {} }).pll .spll).locked = false
    ∧ (live.pll .spll).locked = true ∧ ((clk 0 0 0 fun c => { c with spll := { locked := true, since := sec 10 - us 16 } }).pll .spll).gate = false
    ∧ ((clk 0 0 0 fun c => { c with spll := { locked := true, since := sec 10 - us 16 } }).pll .spll).since + us 16 ≤ live.now
    ∧ (put [(Reg.clkClkoutCtrl 0, 0x80000000)] live).outEn 0 = true ∧ (put [(Reg.clkClkoutCtrl 0, 0x80000000)] live).outSrc 0 = false ∧ live.outEn 1 = false
    ∧ live.crossReady (.chan 0 .fec) = true ∧ State.reset.crossReady (.chan 0 .fec) = false :=
  ⟨canon _ (by decide), by decide +kernel⟩

/-! ### Power, trims, faults -/

/-- A domain on its way to RETAIN. -/
def moving : Dom := { eff := .on, want := .retain, moving := some (.retain, 0) }
/-- Channel 0's trims and receiver changed, with trim applications enabled. -/
def trim (f : TrimSt → TrimSt) (g : RxSt → RxSt) : State := (put [(Reg.trimCtrl, 1)] live).mapChan 0 fun x => { x with trim := f x.trim, rx := g x.rx }

theorem meets_DomainsChangeAndTrimsFollowTheSensor : live.Canonical
    ∧ ({ live with nvmDom := moving } : State).nvmDom.moving = some (.retain, 0) ∧ live.nvmDom.moving = none
    ∧ (((live.mapChan 15 fun x => { x with hl := moving }).chan 15).dom 2).moving = some (.retain, 0) ∧ ((live.chan 0).dom 0).moving = none
    ∧ (((live.mapChan 0 fun x => { x with dsp := moving }).chan 0).dom 0).eff = .on ∧ (live.chan 0).resetOwed = none
    ∧ (((live.mapChan 0 fun x => { x with dsp := { moving with test := .waiting } }).chan 0).dom 0).test = .waiting ∧ live.devHas 5 0 1 = false
    ∧ (trim (fun t => { t with sect := some [] }) id).trimRuns 0 = true ∧ ((trim (fun t => { t with sect := some [] }) id).chan 0).trim.sect = some []
    ∧ (live.chan 0).trim.sect = none ∧ State.reset.trimRuns 0 = false
    ∧ ((trim (fun t => { t with newest := some ([], [], 0), lastAt := some (sec 10 - ms 100) }) id).chan 0).trim.newest.isSome = true ∧ sec 10 - ms 100 + ms 100 ≤ live.now
    ∧ ((trim (fun t => { t with rxDue := true, txDue := true }) id).chan 0).trim.rxDue = true ∧ (live.chan 0).afe.eff = .on ∧ live.linkUp 0 = false
    ∧ ((trim id fun r => { r with sliceSwap := [(31, 32)] }).chan 0).rx.sliceSwap.isEmpty = false ∧ (live.chan 0).trim.rxDue = false
    ∧ (put [(Reg.anLpiStatus 0, 3)] link).rxLpi 0 = true ∧ ((link.mapLine 0 fun l => { l with rxTy := some .quiet }).chan 0).line.rxTy = some .quiet ∧ clause.stdUp 0 = true
    ∧ link.nearLb 0 = false ∧ link.linkUp 0 = true ∧ (put [(Reg.anLpiStatus 0, 3)] link).txLpi 0 = true
    ∧ ((trim (fun t => { t with since := some (sec 9 - 1) }) id).chan 0).trim.since = some (sec 9 - 1) ∧ sec 9 - 1 + sec 1 < live.now ∧ live.now ≤ sec 9 + sec 1
    ∧ (live.chan 0).trim.since = none := ⟨canon _ (by decide), by decide⟩

theorem meets_FaultsAreShownFencedAndAlarmed : live.Canonical ∧ hasFault (.chan 0 .fec) 4 = true ∧ live.faultMuted 0 .fec 4 = false
    ∧ (put [(0x102028, 1)] live).faultMuted 0 .fec 4 = true ∧ hasFault (.dev .dev) 15 = false ∧ hasFault (.dev .trig) 4 = true ∧ live.devMuted .trig 4 15 = false
    ∧ (put [(0x102024, 0xFFFFFFFF)] live).faultAct (.chan 0 .fec) 4 = 3 ∧ (put [(0x102024, 0)] live).faultAct (.chan 0 .fec) 4 = 0
    ∧ (put [(0x102024, 0xAAAAAAAA)] live).faultAct (.chan 0 .fec) 4 = 2 ∧ faultUnit 4 = some 0 ∧ fenceable (.chan 0 .fec) = true ∧ live.alarm = 0
    ∧ live.fenced (.dev .thrm) = false ∧ (put [(0x0A028, 1)] live).fenced (.dev .thrm) = true
    ∧ (put [(Reg.alrmStatus, 0x40000000)] live).alarm = 1 ∧ (put [(Reg.alrmStatus, 0x40000000)] live).alrm.pulseEnd ≤ live.now
    ∧ live.now < ({ live with alrm := { pulseEnd := sec 10 + 1 } } : State).alrm.pulseEnd
    ∧ live.safeState = false ∧ (put [(Reg.alrmStatus, 0xC0000000)] live).safeState = true
    ∧ ((true, false) ≠ (false, false) ∧ (true, false) ≠ nextPhases (false, true)) ∧ ¬ ((true, false) ≠ (false, false) ∧ (true, false) ≠ nextPhases (false, false))
    ∧ 1 < ((List.range 16).filter (fun i => (0 : BitVec 16).getLsbD i != (3 : BitVec 16).getLsbD i)).length ∧ (1 < 2 ∨ 2 + 8 < 1) ∧ ¬ (9 < 1 ∨ 1 + 8 < 9)
    ∧ ((live.mapChan 0 fun x => { x with tgPend := some 0 }).chan 0).tgPend ≠ none ∧ (live.chan 0).tgPend = none := ⟨canon _ (by decide), by decide⟩
/-! ### Commands that are one register write -/

/-- The fabric serves at once, in s, the register write that a command is, and its data meet a condition. -/
def takes (s : State) (c : Instr) (cond : Word → Bool) : Bool :=
  match writeOf c with
  | none => false
  | some (o, p, off, d, keep) =>
    s.mayAccess o && (s.accessErr (s.view1At o (hdr p off)) (hdr p off) true).isNone && !s.foreignWrite o p off
      && (!isMoon p off || ((s.postedIn (pdomOf p off)).isEmpty && (s.heldIn (pdomOf p off)).isEmpty && !s.drains p)) && cond (s.sent o p off d keep)

/-- What takes checks is what a statement of completion asks. -/
theorem takes_serves {s : State} {c : Instr} {cond : Word → Bool} (h : takes s c cond = true) :
    ∃ o p off d keep, writeOf c = some (o, p, off, d, keep) ∧ s.Serves o p off ∧ cond (s.sent o p off d keep) = true := by
  unfold takes at h
  split at h
  · cases h
  · rename_i o p off d keep hw
    simp only [Bool.and_eq_true, Bool.or_eq_true, Option.isNone_iff_eq_none, Bool.not_eq_true', List.isEmpty_iff] at h
    obtain ⟨⟨⟨⟨a, b⟩, e⟩, f⟩, g⟩ := h
    refine ⟨o, p, off, d, keep, hw, ⟨a, b, e, fun m => ?_⟩, g⟩
    rcases f with f | ⟨⟨x, y⟩, z⟩
    · rw [m] at f; cases f
    · exact ⟨x, y, z⟩

/-- Every command of a list is taken in s, with no condition on its data. -/
def takesAll (s : State) (l : List Instr) : Bool := l.all fun c => takes s c fun _ => true

/-- A posted write's page whose crossing is being re-initialised, where no command is taken. -/
theorem test_draining_crossing_takes_nothing :
    takes { live with clk := { live.clk with drain := [.dev .tk] } } (.timeCaptureRequest .jtag) (fun _ => true) = false := by decide +kernel

theorem meets_FabricCommandsTakeEffect : live.Canonical
    ∧ takesAll live ([.channelReset .hsa 15, .blockReset .hsb (.chan 3 .an), .blockReset .mdio (.dev .capw), .pageFenceSet .jtag (.chan 0 .fec), .pageFenceRemove .hsa (.chan 0 .ch),
        .intTestWrite .hsa (.dev .clk) 5, .snapRequest .hsb (.dev .tk) true true, .journalFlush .hsa, .journalReadLoad .hsa true 1, .journalReadLoad .hsa false 7,
        .buserrStickyClear .hsa true, .buserrStickyClear .hsb false, .portFenceSet .hsa .hsb, .portFenceRemove .hsb .hsa]) = true
    ∧ takes live (.devResetArm .hsa) (fun _ => live.rst.armed.isNone) = true ∧ (live.chan 15).moving = false
    ∧ (let s := live.mapChan 15 fun x => { x with dsp := { eff := .on, want := .off, moving := some (.off, 0) } }
       (s.chan 15).moving = true ∧ takesAll s [.channelReset .jtag 15] = true)
    ∧ blockBit .an ≠ 0 ∧ fenceable (.chan 0 .fec) = true ∧ live.mustFence 0 = false
    ∧ (put [(Reg.trimChStatus 0, 0x20000000)] live).mustFence 0 = true
    ∧ takes live (.pageViewSelWrite .hsa (.dev .tk) 0x2211) (fun w => !viewTurned (.dev .tk) w) = true
    ∧ live.fenced (.dev .tk) = false ∧ live.pagePower (.dev .tk) = .on
    ∧ takes live (.nvmwDataWrite .hsa 63 0x12345678) (fun _ => !live.stageTurned) = true
    ∧ (put [(Reg.jrnlRdCtrl, 1)] live).bit Reg.jrnlRdCtrl 0 = true ∧ live.nvmReady = true ∧ live.bit Reg.jrnlRdCtrl 0 = false
    ∧ takes link (.remoteGo .hsb 0 1) (fun _ => !link.rmtWaiting) = true ∧ link.zUp 0 = true ∧ takes live (.remoteGo .hsb 0 1) (fun _ => !live.rmtWaiting) = true
    ∧ live.zUp 0 = false := ⟨canon _ (by decide), by decide +kernel⟩

theorem meets_JobCommandsStartAndAbort : live.Canonical
    ∧ takesAll live [.jobTdrSweep .hsa 5 0, .jobCableProfileLearning .hsb 0 0, .jobBist .jtag 0 2, .jobLedgerUpdate .device 7 0, .jobTrimRecheck .hsa 0 15] = true
    ∧ (∀ k : Fin 8, (live.slot k).busy = false) ∧ live.startErr false 1 0 0 = 0 ∧ link.startErr false 2 0 0 = 0 ∧ link.slot 0 = live.slot 0
    ∧ (live.mapChan 0 fun x => { x with hl := {}, dsp := {}, afe := {} }).startErr false 5 2 0 = 0
    ∧ live.startErr false 6 0 0 = 0 ∧ live.startErr false 7 15 0 = 0 ∧ live.jobReady 6 0 = true ∧ State.reset.jobReady 6 0 = false ∧ live.jobReady 1 0 = true
    ∧ (let s := job 3 { st := .run, typ := 1 } live
       takes s (.jobAbort .hsa 3) (fun w => (s.slot 3).busy && !w.getLsbD 16) = true) := ⟨canon _ (by decide), by decide +kernel⟩

theorem meets_ChannelCommandsTakeEffect : live.Canonical ∧ link.Canonical
    ∧ [live, link].all (fun s => takesAll s ([.iterMaxWrite .hsa 0 20, .fecUnitFenceSet .hsa 0 2, .fecUnitFenceRemove .hsa 0 0, .rxGainWrite .hsb 0 0x13F,
        .advWrite .hsa 0 0x3FF, .hlModeWrite .mdio 0 4, .relayEnable .hsa 0, .relayDisable .jtag 7, .relayTapWrite .hsa 0 true, .diagHoldWrite .hsa 0 true, .diagHoldWrite .hsa 0 false])) = true
    ∧ link.zUp 0 = true ∧ live.zUp 0 = false ∧ link.linkUp 0 = true ∧ live.linkUp 0 = false ∧ iterActs 20 ≠ live.iterEff 0
    ∧ [live, link].all (fun s => takes s (.dfeTapsWrite .hsa 0 3) (fun w => min (bits w 2 0) 4 != s.dfeTaps 0)) = true
    ∧ [true, false].all (fun m => takes live (.timingModeWrite .hsa 0 m) (fun w => !live.timingRefused 0 w)) = true
    ∧ takes live (.timingBwWrite .hsa 0 3) (fun w => !live.timingRefused 0 w) = true
    ∧ takes live (.nfListenWrite .hsa 0 1) (fun w => w.getLsbD 0 && !live.linkUp 0 && !live.bit (Reg.eqNfCtrl 0) 0) = true
    ∧ takes link (.nfListenWrite .hsa 0 0x100) (fun w => !w.getLsbD 0) = true
    ∧ [live, link].all (fun s => let s := put [(Reg.anAnCtrl 0, 0)] s
        takes s (.anEnable .hsa 0) (fun w => !s.bit (Reg.anAnCtrl 0) 0 && !w.getLsbD 1)) = true
    ∧ (let s := put [(Reg.anAnCtrl 0, 1)] link
       takesAll s [.anDisable .hsb 0, .anRestart .hsb 0] = true ∧ s.bit (Reg.anAnCtrl 0) 0 = true ∧ s.tdrRuns 0 = false)
    ∧ (let s := job 0 { st := .run, typ := 1 } (put [(Reg.anAnCtrl 0, 1)] live)
       takesAll s [.anRestart .hsa 0, .advWrite .hsa 0 1] = true ∧ s.bit (Reg.anAnCtrl 0) 0 = true ∧ s.tdrRuns 0 = true)
    ∧ live.pairReady 0 = true ∧ live.pairReady 1 = true ∧ live.ownFence (.chan 0 .rly) = false ∧ live.ownFence (.chan 1 .rly) = false
    ∧ State.reset.pairReady 0 = false ∧ live.lineReady 0 = true ∧ live.pattern 0 = 0
    ∧ [Instr.loopbackNearDigital .hsa 0, .loopbackNearAnalog .hsa 0].all (fun c => takes live c (fun w => !live.lbRefused 0 w)) = true
    ∧ takes link (.loopbackFarEnd .hsa 0) (fun w => !link.lbRefused 0 w) = true
    ∧ (let s := put [(Reg.diagLbCtrl 0, 1)] live
       takes s (.loopbackOff .hsb 0) (fun _ => s.nearLb 0) = true) ∧ takes live (.loopbackOff .hsb 0) (fun _ => !live.nearLb 0) = true
    ∧ [1, 0].all (fun p => takes live (.testPatternSelect .hsa 0 p) (fun w => !live.tpRefused 0 w)) = true := ⟨canon _ (by decide), canon _ (by decide), by decide +kernel⟩

theorem meets_TimeAndCometCommandsTakeEffect : live.Canonical
    ∧ takesAll live ([.srcCtrlWrite .hsa 3 0x1102, .ptpPop .hsa 0, .routeLoad .hsa true, .routeLoad .hsa false, .routeCommit .hsa true, .routeCommit .hsa false,
        .scheduleLoad .hsb true, .scheduleLoad .hsb false, .captureAck .hsa 0, .captureClear .hsa, .captureReadLoad .hsa 0xFFFFFFFF, .timeCaptureRequest .jtag,
        .leapClear .hsa, .leapSetExpiry .hsa, .trendSelWrite .hsa 0xFFF]) = true
    ∧ (let s := put [(Reg.cmtGrpPart 0, 0x4000)] live
       takes s (.partWrite .hsa 1 0x4040) (fun w => !s.partRefused 1 w) = true) ∧ live.partRefused 1 0x4040 = true
    ∧ ([(2, Instr.scheduleCommit .hsa true), (2, .scheduleCommit .hsa false), (4, .scheduleCommitW0 .hsa true), (3, .scheduleClear .hsa true)].all
         (fun x => takes live x.2 fun _ => !live.cmtwRefused x.1) = true)
    ∧ (put [(Reg.cmtGrpPart 0, 0)] live).cmtwRefused 2 = true
    ∧ [(1, Instr.timeSet .hsa 0), (2, .timeStep .hsa 0), (3, .timeSetSec .hsa 0)].all (fun x => takes live x.2 fun _ => !live.timeRefused 0 x.1) = true
    ∧ (put [(Reg.tkSetNs, 1000000000)] live).timeRefused 0 1 = true
    ∧ takes live (.taiUtcWrite .hsa 37) (fun _ => !live.leapValid) = true
    ∧ takes live (.leapAdd .hsa) (fun _ => decide (live.tk.leap.length < 200)) = true ∧ live.nvmReady = true ∧ State.reset.nvmReady = false := ⟨canon _ (by decide), by decide +kernel⟩

theorem meets_PowerAndAlarmCommandsTakeEffect : live.Canonical
    ∧ takesAll live ([.clkoutCtrlWrite .hsa 0 0x80000000, .clkoutCtrlWrite .hsa 1 0, .trimApplyEnWrite .hsa true, .trimApplyEnWrite .hsb false, .failLogSelect .hsa 0xFFFF,
        .trigDriverFenceSet .hsa 15, .trigDriverFenceRemove .hsa 15, .tgChMapWrite .hsa 0xFFFFFFFF]) = true
    ∧ takes live (.powerRequest .hsa 0 0x3F) (fun _ => live.rst.phase == .ready) = true ∧ takes live (.nvmPowerRequest .jtag 2) (fun _ => live.rst.phase == .ready) = true
    ∧ [true, false].all (fun l => takes live (.alarmSwLevelWrite .hsa l) fun w => !w.getLsbD 30) = true
    ∧ (let s := put [(Reg.alrmStatus, 0x80000000)] live
       takes s (.alarmRearm .hsa) (fun _ => s.alarm == 2) = true)
    ∧ takes live (.safeCmd .hsa) (fun _ => !live.safeState) = true
    ∧ (live.tgWant 0 = live.tgOf 0 ∧ (put [(Reg.tgChMap, 1)] live).tgWant 0 ≠ live.tgOf 0) := ⟨canon _ (by decide), by decide +kernel⟩

/-! ### Further clauses of the statements above -/

/-- A crossing in DRAIN. -/
def draining (p : Page) (s : State) : State := s.mapClk fun c => { c with drain := [p] }

/-- Clock outputs with lock and without, at their target, near it and far from it; the timekeeper running and not; the capture crossing in DRAIN. -/
theorem meets_IdleStepPassesOneCycle_outputs : live.pending = [] ∧ live.tk.running = true ∧ State.reset.tk.running = false
    ∧ (live.mapClk fun c => { c with opll := #v[lock, {}] }).clk.opll[0].locked = true ∧ live.clk.opll[1].locked = false
    ∧ absR (live.outTarget 0 - live.clk.outRel[0]) ≤ (2 : Rat) * live.cycle / 10 ^ 12
    ∧ ¬ absR (live.outTarget 0 - (live.mapClk fun c => { c with outRel := #v[1 / 1000000, 0] }).clk.outRel[0]) ≤ (2 : Rat) * live.cycle / 10 ^ 12
    ∧ (draining (.dev .cap) live).drains (.dev .cap) = true ∧ live.drains (.dev .cap) = false := by decide +kernel

theorem meets_PostedWritesWaitAndTakeEffectInOrder_crossing : live.drains (.dev .tk) = false ∧ live.rst.phase ≠ .inReset := by decide

/-- Two jobs on one unit, each in turn, and a step whose next attempt is due and not yet due. -/
theorem meets_NvmJobsReachTheArrayAndLoadIt_turns :
    (job 0 { st := .run, typ := 3, arg0 := 1 } live).itsTurn 0 = true
    ∧ (job 1 { st := .run, typ := 3, arg0 := 1 } (job 0 { st := .run, typ := 3, arg0 := 1 } live)).itsTurn 1 = false
    ∧ (live.slot 0).tryAt ≤ live.now ∧ live.now < ((job 0 { st := .run, typ := 3, tryAt := sec 10 + 1 } live).slot 0).tryAt := by decide +kernel

/-- The window waits and no other; the fabric's turn is the window's, and a remote request's. -/
theorem meets_MdioWindowAccessesOneRegister_turns : (busy false).fabricTurn .mdio = true ∧ (busy true).winBefore 0 = false ∧ (busy true).winBefore 1 = true
    ∧ (requests 1 0).fabricTurn (.remote 0) = true ∧ ({ requests 1 0 with host := { (requests 1 0).host with win := (busy true).host.win } } : State).fabricTurn (.remote 0) = false
    ∧ (live.mapWin 0 fun x => { x with busy := some true, stalled := true }).fabricTurn .mdio = true
    ∧ ((live.mapWin 0 fun x => { x with busy := some true, stalled := true }).win 0).stalled = true := by decide +kernel

/-- Phase 1 with this end's turn and without; every pattern; a clause that is up; training words that go out. -/
theorem meets_OrbitsCarryTypeIndexTimeAndMessage_other :
    (train 0x11000000).phase 0 = 1 ∧ ((train 0x11000000).mapLine 0 fun l => { l with p1 := true }).phase 0 = 1 ∧ ((train 0x11000000).chan 0).line.p1 = false
    ∧ (train 0x11000000).sendsTraining 0 = false ∧ (train 0x11000000).stdUp 0 = false
    ∧ (put [(Reg.diagTpCtrl 0, 5)] live).pattern 0 = 5 ∧ isZ (live.lineMode 0) = false ∧ isZ (link.lineMode 0) = true ∧ (put [(Reg.diagTpCtrl 0, 5)] link).pattern 0 = 5
    ∧ (put [(Reg.diagTpCtrl 0, 1)] live).pattern 0 = 1 ∧ (put [(Reg.diagTpCtrl 0, 6)] live).pattern 0 = 6 ∧ (put [(Reg.diagTpCtrl 0, 7)] live).pattern 0 = 0
    ∧ clause.stdUp 0 = true ∧ clause.lineReady 0 = true ∧ clause.pattern 0 = 0 := by decide +kernel

/-- Codewords where the decoder's crossing is in DRAIN, and where the host lane takes blocks and does not. -/
theorem meets_CodewordsAreDecodedInOrder_lanes : (draining (.chan 0 .fec) link).drains (.chan 0 .fec) = true ∧ link.drains (.chan 0 .fec) = false
    ∧ link.laneOpen 0 = true ∧ (draining (.chan 0 .hl) link).laneOpen 0 = false ∧ (link.chan 0).buf.toSkip = false := by decide

theorem meets_LevelsAndSpareElementsAreKept_crossing : (draining (.chan 0 .eq) link).drains (.chan 0 .eq) = true ∧ link.drains (.chan 0 .eq) = false := by decide

/-- A training that no fence forbids, and one that the encoder's fence forbids; a near-end loopback. -/
theorem meets_NegotiationLeadsThroughThePhases_fences : (train 0x11000000).fencesForbid 0 = false
    ∧ (put [(Reg.fecUnitFence 0, 1)] (train 0x11000000)).fencesForbid 0 = true
    ∧ (train 0x12000000).nearLb 0 = false ∧ (put [(Reg.diagLbCtrl 0, 1)] (train 0x12000000)).nearLb 0 = true := by decide

/-- Spares left, and none. -/
theorem meets_LevelsAndSpareElementsAreKept_spares : sparesLeft (List.range 64) 72 [] = [64, 65, 66, 67, 68, 69, 70, 71]
    ∧ sparesLeft (List.range 64) 72 (List.range 72) = [] := by decide

/-- A partner that a pair has lost, a relay FIFO whose crossing is in DRAIN, and a host lane that takes no copies. -/
theorem meets_FramesPassOrAreCounted_pair : (buf (fun b => { b with lost := true }) pair).chanGone (partnerCh 0) = false
    ∧ (pair.mapChan 1 fun x => { x with dsp := {} }).chanGone 1 = true ∧ (draining (.chan 0 .rly) pair).drains (.chan 0 .rly) = true ∧ pair.drains (.chan 0 .rly) = false
    ∧ pair.laneOpen 0 = true ∧ ((pair.mapChan 0 fun x => { x with hl := {} }).chan 0).hl.eff ≠ .on := by decide

/-- A declared discrepancy of a configuration with two sources, and of one without; an update that was put off, with an input and without. -/
theorem meets_ServoUpdatesItsGroup_discrepancy : (two 0 0x103).bit (Reg.tkGrpState 0) 8 = true ∧ ((two 0 0x103).srcPps 0).any (fun c => c.2.isSome) = true
    ∧ (grp 0x103 2 (pulse 5)).bit (Reg.tkGrpState 0) 8 = true ∧ ((grp 0x103 2 (pulse 5)).srcPps 0).any (fun c => c.2.isSome) = false
    ∧ (grp 2 2 fun x => { pulse 5 x with owed := some (0, some 7) }).updateInput 0 = some 7
    ∧ (grp 2 2 fun x => { pulse 5 x with owed := some (0, none) }).updateInput 0 = none := by decide +kernel

/-- A PPS edge with its group's source PPS, of each polarity, and none whose group has another source. -/
theorem meets_RedundantSourcesAndPpsAreJudged_edges : (put [(Reg.trigPpsInCtrl, 1)] (two 0 3)).srcKind 0 = 2 ∧ (put [(Reg.trigPpsInCtrl, 1)] (two 0 3)).bit Reg.trigPpsInCtrl 8 = false
    ∧ (put [(Reg.trigPpsInCtrl, 0x101)] (two 0 3)).bit Reg.trigPpsInCtrl 8 = true ∧ (∀ g : Tg, live.srcKind g ≠ 2) := by decide +kernel

/-- A comet fabric whose crossing is in DRAIN, and captures that wait there. -/
theorem meets_PinsCapturesAndReportsAreKept_crossing : (waiting 1).drains (.dev .cap) = false ∧ (draining (.dev .cmt) (brought (comet 5 0 3 1))).drains (.dev .cmt) = true
    ∧ (brought (comet 5 0 3 1)).drains (.dev .cmt) = false := by decide +kernel

/-- A CPLL that retunes with its lock lost; an output at its target with RAMP and away from it. -/
theorem meets_LossesOfLockForceSafeStatesUntilRelock_other : ((live.mapChan 0 fun x => { x with cpll := {}, retune := true }).chan 0).retune = true
    ∧ ((live.mapChan 0 fun x => { x with cpll := {} }).chan 0).retune = false ∧ (put [(Reg.clkClkoutStatus 0, 5)] live).bit (Reg.clkClkoutStatus 0) 2 = true
    ∧ live.clk.outRel[0] = live.outTarget 0 ∧ (live.mapClk fun c => { c with outRel := #v[0, 0] }).clk.outRel[1] ≠ live.outTarget 1 := by decide +kernel

/-- Trims held for their second side, on each side; a QUIET orbit sent last. -/
theorem meets_DomainsChangeAndTrimsFollowTheSensor_held : ((trim (fun t => { t with held := some (true, ([], [], 0)) }) id).chan 0).trim.held = some (true, ([], [], 0))
    ∧ (live.chan 0).trim.held = none ∧ nextSet 1 696 ≠ nextSet 4 694 := by decide +kernel


/-! ### Well-formed commands: one ill-formed term for each check -/

theorem test_wf_origin : (Instr.registerWrite .device 0 0).wf = false ∧ (Instr.lockWrite .job (.dev .dev) 0).wf = false
    ∧ (Instr.captureClear .restore).wf = false ∧ (Instr.captureClear .jtag).wf = true := by decide

theorem test_wf_frame_edges : (Instr.v2Nop .hsa 15 [0, 0] 0).wf = false ∧ (Instr.v2Nop .hsa 24 [0, 0] 0).wf = false
    ∧ (Instr.v2Nop .hsa 16 [0, 0] 0).wf = true ∧ (Instr.v2Nop .hsa 23 [0, 0] 0).wf = true := by decide

theorem test_wf_v1_length : (Instr.v1Nop .hsb [0, 0, 0, 0, 0] 0).wf = false ∧ (Instr.v1Nop .hsb [0, 0, 0, 0, 0, 0, 0] 0).wf = false
    ∧ (Instr.v1Nop .hsb [0, 0, 0, 0, 0, 0] 0).wf = true := by decide

theorem test_wf_burst_length : (Instr.v2BurstWrite .hsa 0 0 0 0 (List.replicate 64 (0, 0)) 0).wf = false
    ∧ (Instr.v2BurstWrite .hsa 0 0 0 0 (List.replicate 63 (0, 0)) 0).wf = true := by decide

theorem test_wf_codeword : (Instr.codewordReceive 0 20 (.soft [] [])).wf = false ∧ (Instr.codewordReceive 0 19 (.soft [] [])).wf = true
    ∧ (Instr.codewordReceive 0 19 (.clause none (List.replicate 81 idleBlk))).wf = false
    ∧ (Instr.codewordReceive 0 19 (.clause none (List.replicate 80 idleBlk))).wf = true := by decide

theorem test_wf_window : (Instr.powerMeasurementUpdate 0 { codes := [], place := none, ok := true, tx := [], past := [] }).wf = false
    ∧ (Instr.powerMeasurementUpdate 0 (sample 0 0)).wf = true := by decide

theorem test_wf_frame_not_empty : (Instr.hostFrameReceive 0 (.blocks [])).wf = false ∧ (Instr.hostFrameReceive 0 (.codes [])).wf = false
    ∧ (Instr.hostFrameReceive 0 (.codes [(true, 0xBC)])).wf = true := by decide

theorem test_wf_nanoseconds : (Instr.relayFrameForward 0 true 0 1000000000 0).wf = false
    ∧ (Instr.relayFrameForward 0 true 0 999999999 0).wf = true := by decide

theorem test_wf_attempts : (Instr.tkxJudgeAttempt (List.replicate 15 1)).wf = false ∧ (Instr.tkxJudgeAttempt (List.replicate 16 1)).wf = true
    ∧ (Instr.xaJudgeAttempt (List.replicate 17 1) [] 0).wf = false ∧ (Instr.xaJudgeAttempt (List.replicate 16 1) [1] 0).wf = false
    ∧ (Instr.xaJudgeAttempt (List.replicate 16 1) [] 0).wf = true
    ∧ (Instr.xbRejudge []).wf = false ∧ (Instr.xbRejudge (List.replicate 16 1)).wf = true := by decide

/-- The table gives no bits, so no word spells a command. -/
theorem test_no_word_spells_a_command : decodeTableWord 32 0x25 = none ∧ (live.withFetchWord 32 0x25) = live := by decide +kernel

/-! ### The host port (03): the frame of its CRC example, and the replies of its frame example -/

theorem test_frame_crc : frame2 1 5 0x000100 0 0x3A = [0x25, 0, 1, 0, 0, 0, 0, 0, 0x3A]
    ∧ spiCrc [0x25] = 0xA2 ∧ spiCrc [0x25, 0, 1, 0, 0, 0, 0, 0] = 0x3A := by decide

theorem test_first_reply_is_empty : (live.misoBytes .hsa 72 live.now).take 8 = [0x80, 0, 0, 0, 0, 0, 0, 0] := by decide +kernel

theorem test_read_reply : ((runs [.v2Read .hsa 5 0x100 0 0x3A 0] live).misoBytes .hsa 72 live.now).take 2 = [0xC1, 0x05] := by
  decide +kernel

/-- A read is no write: it enters nothing, and a wrong CRC byte is counted. -/
theorem test_wrong_crc_is_counted : (runs [.v2Read .hsa 5 0x100 0 0x3B 0] live).fld Reg.hostHsaCrcErr 31 0 = 1 := by decide +kernel

/-! ### JTAG (17): its data registers -/

theorem test_jtag_registers : (runs [.jtagTapReset] live).host.jtag.dataReg = some (32, 0xB165074B)
    ∧ ((runs [.jtagRegRead 0x000100] live).host.jtag.dataReg.map (·.1)) = some 58 ∧ (runs [.jtagRegRead 0x000100] live).host.jtag.done = true := by decide +kernel

/-! ### The signal on the pair (04) -/

theorem test_data_positions : dataPosition .z25 4416 = 4704 ∧ dataPosition .z25 6623 = 6935 ∧ pilotPosition .z25 2 = 5808 := by decide

theorem test_pam6 : pam6 false true true false true = (1, -1) ∧ pam6 true true true false false = (-3, 5) := by decide

theorem test_scrambler : scrSeed 0 = 0x2B3C4D5E ∧ scrSeed 0xAB3C4D5E = 1
    ∧ scramble (scrSeed 0) [false, false, false, false] = [true, true, true, false]
    ∧ (scramble 1 (List.replicate 28 false)) = List.replicate 27 false ++ [true] := by decide

theorem test_transcode_invalid : transcode 0 5 = errorBlk ∧ transcode 1 5 = ⟨false, 5⟩ ∧ transcode 2 5 = ⟨true, 5⟩ := by decide

/-! ### LDPC (05): its table of entries, its encoding example, its estimate and its latencies -/

theorem test_base_entries :
    baseEntry .long 2 5 = some 23 ∧ baseEntry .long 1 0 = none ∧ baseEntry .long 5 100 = some 25 ∧ baseEntry .long 7 127 = some 33
    ∧ baseEntry .long 3 17 = some 31 ∧ baseEntry .long 4 130 = some 0 ∧ baseEntry .long 0 137 = none := by decide

theorem test_base_entries_short_reverse :
    baseEntry .short 2 10 = some 8 ∧ baseEntry .short 3 64 = some 35 ∧ baseEntry .reverse 2 10 = some 0 ∧ baseEntry .reverse 0 20 = none
    ∧ baseEntry .reverse 1 20 = some 5 ∧ baseEntry .reverse 0 64 = some 9 := by decide

/-- The places of the ones of a bit sequence. -/
def ones (l : List Bool) : List Nat := (l.zipIdx.filter (·.1)).map (·.2)

theorem test_encoding : ones (ldpcEncode .reverse (List.replicate 320 false ++ true :: List.replicate 719 false)) =
    [320, 1042, 1049, 1051, 1057, 1064, 1066, 1073, 1080, 1082, 1083, 1089, 1096, 1097, 1098] := by decide +kernel

theorem test_ber_estimate : berEM 578814 (2 ^ 20 * 2760) = (13, 653) := by decide +kernel

theorem test_latency : latRx .z50 .long 6 33812 9 = 299280 ∧ latRx .z50 .long 10 33812 9 = 344670 ∧ latRx .z50 .short 10 33640 10 = 216824 := by
  decide +kernel

/-- The signs of the ratios of each of the 32 points give its five bits back. -/
theorem test_points_decide_their_bits : (List.range 32).all (fun v =>
    let p := groupPoint v
    (pairRatios [(p.1 : Rat), (p.2 : Rat)]).map (fun r => decide (r < 0)) == groupBits v) = true := by decide +kernel

/-! ### The receiver (06), the tap (07) and PTP (09) -/

theorem test_recommended_gain : recGain (-127) false = 17 ∧ gainCode (recGain (-127) false) = (17, 0) ∧ recGain (-136) false = 19 := by decide

theorem test_tap_preamble : tapPreamble true false false 37 (57, 812500000, 32768) = 0xFB8539306DC42080 := by decide

theorem test_ptp_pack : ptpPack (0, 812500000, 32768) = 0x6DC42080 ∧ ptpPack (0, 815750000, 16384) = 0x9F5B7040 := by decide

/-! ### Comets (10) and the calendar (11) -/

theorem test_comet : 1000250000000 % 2 ^ 32 = 0xE38BC280 ∧ mkComet 0x0123 2 1000250000000 0 0x27 0x0A41 2 = 0x048C2E38BC2800000270A412 := by decide

theorem test_fire_time : fireTime (1000249990820 * 65536) 0x048C2E38BC2800000270A412 = 1000250000000 * 65536 := by decide +kernel

theorem test_calendar : calWords true (1800000000 + 3600) false = (0x07EB010F, 0x04090000, 0x8000000F) := by decide +kernel

/-! ### References (12): the counts of its examples -/

theorem test_windows : windowOk false 3184 = true ∧ windowOk false 3154 = true ∧ windowOk false 3246 = true ∧ windowOk false 3249 = false := by decide
end Sys2Proof.Tests
end

section
/-! PROOFS. Where the system domain stands, R15: what each shared operation leaves of it, what each command leaves of it, and the resets that move it out of ON. -/

set_option Elab.async false

namespace Sys2Proof.Machine

/-! ### What leaves the system domain's phase alone -/

/-- An operation that leaves the part of the resets alone leaves the phase of the system domain alone. -/
theorem Unchanged.phase {L : List Part} {s t : State} (h : Unchanged L s t) (hL : L.contains .rst = false := by decide) :
    t.rst.phase = s.rst.phase :=
  congrArg Rst.phase (h .rst hL)

/-- The state of a pair that an operation answers. -/
theorem phase_of_pair {α : Type} {s t : State} {x : State × α} {y : α} (e : x = (t, y)) (h : x.1.rst.phase = s.rst.phase) :
    t.rst.phase = s.rst.phase := by
  rw [e] at h
  exact h

/-- Two ways that both leave the phase alone. -/
theorem State.ite_phase {s x y : State} {c : Prop} [Decidable c] (hx : x.rst.phase = s.rst.phase) (hy : y.rst.phase = s.rst.phase) :
    (if c then x else y).rst.phase = s.rst.phase := by
  split
  · exact hx
  · exact hy

theorem State.when_phase {s : State} {b : Bool} {f : State → State} (h : ∀ u, (f u).rst.phase = u.rst.phase) :
    (s.when b f).rst.phase = s.rst.phase :=
  ite_phase (h s) rfl

theorem State.foldl_phase {α : Type} {s : State} {f : State → α → State} {l : List α}
    (h : ∀ t x, (f t x).rst.phase = t.rst.phase) : (l.foldl f s).rst.phase = s.rst.phase := by
  induction l generalizing s with
  | nil => rfl
  | cons x r ih => exact ih.trans (h s x)

theorem State.forCh_phase {s : State} {f : Ch → State → State} (h : ∀ n t, (f n t).rst.phase = t.rst.phase) :
    (s.forCh f).rst.phase = s.rst.phase :=
  foldl_phase fun t n => h n t

theorem State.forTg_phase {s : State} {f : Tg → State → State} (h : ∀ g t, (f g t).rst.phase = t.rst.phase) :
    (s.forTg f).rst.phase = s.rst.phase :=
  foldl_phase fun t g => h g t

theorem State.takeStep_phase {s : State} {k : Fin 8} {f : State → State} (h : ∀ u, (f u).rst.phase = u.rst.phase) :
    (s.takeStep k f).rst.phase = s.rst.phase :=
  ite_phase ((h _).trans un_stepTaken.phase) rfl

theorem State.drivePin_phase {s : State} {k : Fin 16} {f : Int} {act : State → State} (h : (act s).rst.phase = s.rst.phase) :
    (s.drivePin k f act).rst.phase = s.rst.phase :=
  un_showPin.phase.trans (ite_phase h (un_pinEdge.phase.trans h))

theorem State.owing_phase {s : State} {f : State → State} : (s.owing f).rst.phase = (f s).rst.phase := rfl

theorem State.takeMsg_phase {s t : State} {n : Ch} {ty : Nat} {m : BitVec 128} (h : s.takeMsg n ty = some (m, t)) :
    t.rst.phase = s.rst.phase := by
  unfold State.takeMsg at h
  split at h
  · cases h
    exact un_mapLine.phase
  · cases h

/-! ### What a register write leaves of the phase -/

/-- Only DEV.RESET reaches the record of the resets, and it changes what the keyed sequence has reached (R371). -/
theorem State.devWrote_phase {s : State} {o : Origin} {q : DevPage} {off : Nat} {old d : Word} :
    (s.devWrote o q off old d).rst.phase = s.rst.phase := by
  cases q with
  | dev =>
    refine ite_phase ?_ (ite_phase ?_ rfl)
    · dsimp only
      split <;> rfl
    · refine (when_phase fun _ => un_devReset.phase).trans ?_
      exact (when_phase fun _ => un_devReset.phase).trans (when_phase fun _ => un_devReset.phase)
  | host => exact ite_phase un_portFenceWritten.phase (ite_phase un_rmtGo.phase rfl)
  | jrnl => exact ite_phase un_loadEntry.phase rfl
  | job => exact ite_phase un_slotWritten.phase rfl
  | clk => exact ite_phase un_outWritten.phase (ite_phase un_outWritten.phase rfl)
  | pwr =>
    dsimp only [State.devWrote]
    exact ite_phase rfl (ite_phase un_nvmReqWritten.phase (ite_phase (un_resetDue.phase.trans un_powerWritten.phase) rfl))
  | trim => exact ite_phase un_applyEnWritten.phase rfl
  | bist => exact ite_phase un_showFail.phase rfl
  | alrm => exact ite_phase un_alarmWritten.phase (ite_phase un_enterSafe.phase rfl)
  | tg => exact ite_phase un_mapWritten.phase rfl
  | tk =>
    refine ite_phase un_capAsked.phase (ite_phase un_timeDone.phase (ite_phase
      (ite_phase un_showLeap.phase (un_tkInt.phase.trans un_showLeap.phase))
      (ite_phase un_leapDone.phase (ite_phase un_showLeap.phase ?_))))
    dsimp only
    split
    · exact ite_phase un_freqWritten.phase un_settleGroup.phase
    · rfl
  | life => exact ite_phase un_showHist.phase (ite_phase un_showWear.phase (ite_phase un_trendSelected.phase rfl))
  | cmt =>
    refine ite_phase un_routeCmd.phase ?_
    dsimp only
    split
    · exact un_showCmtw.phase
    · rfl
  | cmtw => exact un_cmtwWrote.phase
  | cap => exact ite_phase un_capAcked.phase (ite_phase un_capClear.phase rfl)
  | capw => exact ite_phase un_capwLoad.phase rfl
  | trig =>
    exact ite_phase un_pinWritten.phase (ite_phase un_ppsInWritten.phase (ite_phase un_ppsOutWritten.phase
      (ite_phase (foldl_phase fun _ _ => un_showPin.phase) rfl)))
  | _ => rfl

theorem State.turnedAway_phase {s : State} {p : Page} {off : Nat} : (s.turnedAway p off).rst.phase = s.rst.phase :=
  ite_phase un_timeTurned.phase (ite_phase un_setBit.phase (ite_phase rfl rfl))

theorem State.wrote_phase {s : State} {o : Origin} {p : Page} {off : Nat} {old d : Word} {fe : Bool} :
    (s.wrote o p off old d fe).rst.phase = s.rst.phase :=
  ite_phase un_headerWrote.phase (match p with
    | .dev _ => devWrote_phase
    | .chan _ _ => un_chWrote.phase)

theorem State.applyWrite_phase {s : State} {w : PostedWrite} {posted : Bool} : (s.applyWrite w posted).rst.phase = s.rst.phase := by
  unfold State.applyWrite
  split
  · rfl
  · exact ite_phase (turnedAway_phase.trans un_jAppend.phase) (wrote_phase.trans (un_jAppend.phase.trans un_storeReg.phase))

theorem State.fabricWrite_phase {s : State} {o : Origin} {v1 : Bool} {a : Nat} {d keep : Word} :
    (s.fabricWrite o v1 a d keep).1.rst.phase = s.rst.phase := by
  unfold State.fabricWrite
  split
  · dsimp only
    split
    · split
      · rfl
      · exact un_contend.phase
    · exact un_contend.phase.trans applyWrite_phase
  · exact un_busErr.phase.trans un_jAppend.phase

theorem State.landed_phase {s : State} {w : PostedWrite} : (s.landed w).rst.phase = s.rst.phase :=
  ite_phase (owing_phase.trans applyWrite_phase) applyWrite_phase

theorem State.popPosted_phase {s : State} {q : PDom} : (s.popPosted q).rst.phase = s.rst.phase := by
  unfold State.popPosted
  split
  · rfl
  · exact ite_phase rfl landed_phase

/-! ### What the accesses of the ports, MDIO, JTAG and the restore leave of the phase -/

theorem State.portWrite_phase {s : State} {p : SPort} {a : Nat} {d keep : Word} : (s.portWrite p a d keep).1.rst.phase = s.rst.phase :=
  fabricWrite_phase.trans un_touched.phase

theorem State.frameWrite_phase {s : State} {p : SPort} {tag : BitVec 5} {a : Nat} {d keep echo : Word} :
    (s.frameWrite p tag a d keep echo).rst.phase = s.rst.phase := by
  unfold State.frameWrite
  split <;> rename_i e
  · exact un_finish.phase.trans (phase_of_pair e portWrite_phase)
  · exact un_mapPort.phase.trans (phase_of_pair e portWrite_phase)

theorem State.burstWrite_phase {p : SPort} {tag : BitVec 5} {l : List (Nat × Word × Bool)} {s : State} {made : Nat} {posted : Bool} :
    (s.burstWrite p tag made posted l).rst.phase = s.rst.phase := by
  induction l generalizing s made posted with
  | nil => exact un_finish.phase.trans un_burstCount.phase
  | cons x r ih =>
    unfold State.burstWrite
    refine ite_phase un_burstCount.phase (ite_phase (un_finish.phase.trans (un_burstCount.phase.trans un_crcCount.phase)) ?_)
    split <;> rename_i e
    · have h := phase_of_pair e portWrite_phase
      exact ite_phase (ih.trans h) (un_finish.phase.trans (un_burstCount.phase.trans h))
    · exact un_mapPort.phase.trans (phase_of_pair e portWrite_phase)

theorem State.resumePort_phase {s : State} {p : SPort} {orphan : Bool} {c : BitVec 3} :
    (s.resumePort p orphan c).rst.phase = s.rst.phase := by
  unfold State.resumePort
  refine ite_phase (ite_phase un_burstCount.phase rfl) ?_
  split
  · exact ite_phase (ite_phase (burstWrite_phase.trans un_mapPort.phase) (un_finish.phase.trans un_burstCount.phase)) un_finish.phase
  · rfl

theorem State.exec2_phase {s : State} {p : SPort} {k : Nat} {m : List Byte} : (s.exec2 p k m).rst.phase = s.rst.phase := by
  unfold State.exec2
  dsimp only
  split
  · exact un_finish.phase
  · exact un_frameRead.phase
  · exact frameWrite_phase
  · exact ite_phase un_frameBurstRead.phase un_failFrame.phase
  · exact burstWrite_phase
  · exact ite_phase un_portAbort.phase (ite_phase un_portReset.phase un_failFrame.phase)
  · exact un_failFrame.phase

theorem State.write1_phase {s : State} {p : SPort} {b : Nat} {h : BitVec 16} {latch : Option (BitVec 16 × Nat)} :
    (s.write1 p b h latch).rst.phase = s.rst.phase :=
  ite_phase (un_finish.phase.trans un_mapPort.phase) frameWrite_phase

theorem State.exec1_phase {s : State} {p : SPort} {m : List Byte} : (s.exec1 p m).rst.phase = s.rst.phase := by
  unfold State.exec1
  dsimp only
  split
  · exact un_finish.phase.trans un_mapPort.phase
  · exact un_frameRead.phase.trans un_mapPort.phase
  · exact write1_phase.trans un_mapPort.phase
  · exact un_failFrame.phase.trans un_mapPort.phase

theorem State.frameEnds_phase {s : State} {p : SPort} {ready : Bool} {edges : Nat} {m : List Byte} :
    (s.frameEnds p ready edges m).rst.phase = s.rst.phase := by
  unfold State.frameEnds
  extract_lets op tag k v2 v1 good u
  have h : u.rst.phase = s.rst.phase := ite_phase un_mapPort.phase rfl
  refine ite_phase (un_mapPort.phase.trans (un_refuseCount.phase.trans h)) ?_
  refine ite_phase (un_failFrame.phase.trans (un_mapPort.phase.trans h)) ?_
  refine ite_phase (un_failFrame.phase.trans (un_mapPort.phase.trans h)) ?_
  exact ite_phase (exec1_phase.trans h) (exec2_phase.trans (un_mapPort.phase.trans h))

theorem State.frame_phase {s : State} {p : SPort} {edges : Nat} {m : List Byte} {low : Nat} :
    (s.frame p edges m low).rst.phase = s.rst.phase :=
  ite_phase un_mapPort.phase (frameEnds_phase.trans un_mapPort.phase)

theorem State.mdioWrite_phase {s : State} {a : Nat} {d keep : Word} : (s.mdioWrite a d keep).rst.phase = s.rst.phase :=
  fabricWrite_phase

theorem State.stdWrite_phase {s : State} {n : Ch} {mmd reg : Nat} {d : BitVec 16} : (s.stdWrite n mmd reg d).rst.phase = s.rst.phase := by
  unfold State.stdWrite
  dsimp only
  split
  · exact mdioWrite_phase
  · exact mdioWrite_phase
  · exact mdioWrite_phase
  · exact mdioWrite_phase
  · exact mdioWrite_phase
  · exact mdioWrite_phase.trans mdioWrite_phase
  · exact mdioWrite_phase
  · exact un_jAppend.phase
  · exact un_jAppend.phase

theorem State.winRun_phase {s : State} {n : Ch} : (s.winRun n).rst.phase = s.rst.phase := by
  unfold State.winRun
  refine ite_phase rfl ?_
  split
  · rfl
  · exact un_mapWin.phase.trans un_fabricRead.phase
  · split <;> rename_i e
    · exact un_mapWin.phase.trans (phase_of_pair e fabricWrite_phase)
    · exact un_mapWin.phase.trans (phase_of_pair e fabricWrite_phase)

theorem State.jtagScan_phase {s : State} {a : Addr} {write : Option Word} : (s.jtagScan a write).rst.phase = s.rst.phase := by
  unfold State.jtagScan
  extract_lets u v
  have hu : u.rst.phase = s.rst.phase := un_mapJtag.phase
  have hv : v.rst.phase = s.rst.phase := un_servedFor.phase.trans (un_mapJtag.phase.trans hu)
  refine ite_phase hu ?_
  split
  · exact un_mapJtag.phase.trans (un_fabricRead.phase.trans hv)
  · split <;> rename_i e
    · exact un_mapJtag.phase.trans ((phase_of_pair e fabricWrite_phase).trans hv)
    · exact un_mapJtag.phase.trans ((phase_of_pair e fabricWrite_phase).trans hv)

theorem State.resumed_phase {s : State} {w : PostedWrite} {c : BitVec 3} : (s.resumed w c).rst.phase = s.rst.phase := by
  unfold State.resumed
  split
  · exact resumePort_phase
  · exact resumePort_phase
  · split
    · exact un_mapWin.phase
    · rfl
  · split
    · exact un_remoteDone.phase
    · rfl
  · exact ite_phase un_mapJtag.phase rfl
  · rfl

theorem State.unhold_phase {s : State} {q : PDom} : (s.unhold q).rst.phase = s.rst.phase := by
  unfold State.unhold
  split
  · rfl
  · refine ite_phase rfl ?_
    dsimp only
    split <;> rename_i e
    · have h := phase_of_pair e fabricWrite_phase
      exact resumed_phase.trans h
    · have h := phase_of_pair e fabricWrite_phase
      exact h

theorem State.drainPosted_phase {s : State} {q : PDom} : (s.drainPosted q).rst.phase = s.rst.phase :=
  foldl_phase fun _ _ => unhold_phase.trans popPosted_phase

theorem State.writeKeep_phase {s : State} {o : Origin} {a : Nat} {d keep : Word} : (s.writeKeep o a d keep).rst.phase = s.rst.phase :=
  ite_phase rfl ((when_phase fun _ => popPosted_phase).trans (fabricWrite_phase.trans (when_phase fun _ => drainPosted_phase)))

end Sys2Proof.Machine
end

section
/-! PROOFS. Which commands move the phase of the system domain: every one but the resets, START_UP and HOST_PORT_READY leaves it where it stands (R15). -/

set_option Elab.async false

namespace Sys2Proof.Machine

open State

/-- Whatever a command answers, the system domain stands where it stood. -/
def KeepsPhase (s : State) (r : Host.Outcome State Fault Refusal) : Prop :=
  ∀ t, r = .next t → t.rst.phase = s.rst.phase

namespace KeepsPhase

variable {s t : State} {c : Prop} [Decidable c] {x y : Host.Outcome State Fault Refusal}

theorem next (h : t.rst.phase = s.rst.phase) : KeepsPhase s (.next t) := by
  rintro _ ⟨⟩
  exact h

theorem stay : KeepsPhase s (.next s) := next rfl

theorem ite (hx : KeepsPhase s x) (hy : KeepsPhase s y) : KeepsPhase s (if c then x else y) := by
  split
  · exact hx
  · exact hy

/-- A command that changes nothing while its condition does not hold. -/
theorem guarded (h : t.rst.phase = s.rst.phase) : KeepsPhase s (if c then .next t else .next s) := ite (next h) stay

end KeepsPhase

/-! ### Commands that look into a record before they act -/

theorem execRmPauseRepeat_keepsPhase {n : Ch} {s : State} : KeepsPhase s (execRmPauseRepeat n s) := by
  unfold execRmPauseRepeat
  dsimp only
  split
  · exact .guarded un_xoff.phase
  · exact .stay

theorem execRelayFrameForward_keepsPhase {n : Ch} {room : Bool} {sec : BitVec 48} {nsec : BitVec 32} {frac : BitVec 16} {s : State} :
    KeepsPhase s (execRelayFrameForward n room sec nsec frac s) := by
  unfold execRelayFrameForward
  split
  · exact .next (un_relayFrame.phase.trans (un_tapFrame.phase.trans un_mapBuf.phase))
  · exact .stay

theorem execTrainingTimeout_keepsPhase {n : Ch} {s : State} : KeepsPhase s (execTrainingTimeout n s) := by
  unfold execTrainingTimeout
  split
  · exact .guarded un_failTrain.phase
  · exact .stay

theorem execFastHoldExpiry_keepsPhase {n : Ch} {s : State} : KeepsPhase s (execFastHoldExpiry n s) := by
  unfold execFastHoldExpiry
  split
  · exact .guarded un_failTrain.phase
  · exact .stay

theorem execTrimStale_keepsPhase {n : Ch} {s : State} : KeepsPhase s (execTrimStale n s) := by
  unfold execTrimStale
  split
  · exact .guarded (un_intr.phase.trans un_setBit.phase)
  · exact .stay

theorem execEclipseStart_keepsPhase {n : Ch} {s : State} : KeepsPhase s (execEclipseStart n s) := by
  unfold execEclipseStart
  split
  · exact .guarded un_eclStart.phase
  · exact .stay

theorem execEclipseStale_keepsPhase {n : Ch} {s : State} : KeepsPhase s (execEclipseStale n s) := by
  unfold execEclipseStale
  split
  · exact .guarded (un_cint.phase.trans un_setBit.phase)
  · exact .stay

theorem execOrbitTransmit_keepsPhase {n : Ch} {late : Nat} {s : State} : KeepsPhase s (execOrbitTransmit n late s) := by
  refine .ite .stay (.ite (.next un_sendOrbit.phase) (.ite (.next un_sendPattern.phase) (.ite (.next un_sendStd.phase)
    (.ite (.next un_sendQuietEcho.phase) (.ite (.next un_sendTraining.phase) ?_)))))
  split
  · exact .guarded un_sendOrbit.phase
  · exact .stay

theorem execKtlFieldReceive_keepsPhase {n : Ch} {mark : BitVec 16} {field : BitVec 448} {late : Nat} {errs : List Rat} {s : State} :
    KeepsPhase s (execKtlFieldReceive n mark field late errs s) := by
  refine .ite (.ite (.next un_quietOrbit.phase) ?_) .stay
  extract_lets was u v w
  have hw : w.rst.phase = s.rst.phase :=
    un_takeMark.phase.trans (un_takeMse.phase.trans (un_engineBoundary.phase.trans (ite_phase (un_showAdapt.phase.trans un_mapChan.phase) un_mapChan.phase)))
  split
  · exact .next (un_takeField.phase.trans hw)
  · exact .next (un_fieldFails.phase.trans hw)

theorem execOamMessageReceive_keepsPhase {n : Ch} {s : State} : KeepsPhase s (execOamMessageReceive n s) := by
  refine .ite ?_ .stay
  split
  · exact .next (un_satInt.phase.trans un_mapLine.phase)
  · exact .ite (.next un_mapLine.phase) (.ite (.next (un_satInt.phase.trans un_mapLine.phase))
      (.next (un_oamDeliver.phase.trans (un_wrap32.phase.trans un_mapLine.phase))))

theorem execCaptureReportReceive_keepsPhase {n : Ch} {s : State} : KeepsPhase s (execCaptureReportReceive n s) := by
  unfold execCaptureReportReceive
  split
  · exact .stay
  · rename_i e
    have h := takeMsg_phase e
    exact .ite (.next h) (.next ((when_phase fun _ => un_repPush.phase).trans ((when_phase fun _ => un_capLog.phase).trans (un_wrap32.phase.trans h))))

theorem execLateReportReceive_keepsPhase {n : Ch} {s : State} : KeepsPhase s (execLateReportReceive n s) := by
  unfold execLateReportReceive
  split
  · exact .stay
  · rename_i m v e
    refine .ite (.next (takeMsg_phase e)) ?_
    extract_lets u f w
    have hw : w.rst.phase = s.rst.phase := un_setReg.phase.trans (un_fldInt.phase.trans (takeMsg_phase e))
    split
    · exact .next (un_entryLate.phase.trans (un_sat.phase.trans hw))
    · split
      · exact .next (un_latePush.phase.trans hw)
      · exact .next hw

theorem execRemoteRequest_keepsPhase {n : Ch} {s : State} : KeepsPhase s (execRemoteRequest n s) := by
  unfold execRemoteRequest
  split
  · exact .stay
  · rename_i e
    exact .next (un_mapChan.phase.trans (takeMsg_phase e))

theorem execRemoteReplyReceive_keepsPhase {n : Ch} {s : State} : KeepsPhase s (execRemoteReplyReceive n s) := by
  unfold execRemoteReplyReceive
  split
  · exact .stay
  · rename_i e
    have h := takeMsg_phase e
    exact .ite (.next (un_intr.phase.trans (un_setReg.phase.trans (un_setReg.phase.trans h)))) (.next h)

theorem execPulseEnd_keepsPhase {k : Fin 16} {s : State} : KeepsPhase s (execPulseEnd k s) := by
  unfold execPulseEnd
  split
  · exact .guarded (drivePin_phase un_mapPin.phase)
  · exact .stay

theorem execArmWindowEnd_keepsPhase {k : Fin 16} {s : State} : KeepsPhase s (execArmWindowEnd k s) := by
  unfold execArmWindowEnd
  split
  · exact .guarded (un_showPin.phase.trans (un_fldInt.phase.trans un_mapPin.phase))
  · exact .stay

theorem execTrigEdgeCapture_keepsPhase {k : Fin 16} {falling : Bool} {late : Nat} {s : State} :
    KeepsPhase s (execTrigEdgeCapture k falling late s) :=
  .ite .stay (.ite (.next un_sat.phase) (.ite .stay
    (.next (un_capture.phase.trans (un_showPin.phase.trans (un_intr.phase.trans (un_wrap.phase.trans un_mapPin.phase)))))))

theorem execCometReceive_keepsPhase {n : Ch} {s : State} : KeepsPhase s (execCometReceive n s) := by
  unfold execCometReceive
  split
  · exact .ite .stay (.next (un_takeComet.phase.trans un_mapLine.phase))
  · exact .stay

theorem execCometFire_keepsPhase {s : State} : KeepsPhase s (execCometFire s) := by
  unfold execCometFire
  split
  · exact .stay
  · exact .ite (.next (un_showCmt.phase.trans (un_cmtCount.phase.trans un_mapCmt.phase)))
      (.next (un_showCmt.phase.trans (un_fire.phase.trans un_mapCmt.phase)))

theorem execCometInject_keepsPhase {e : Fin 131072} {s : State} : KeepsPhase s (execCometInject e s) := by
  unfold execCometInject
  split
  · exact .stay
  · exact .ite (.ite (.next un_skipPeriods.phase) (.next un_inject.phase)) .stay

theorem execCodewordReceive_keepsPhase {n : Ch} {k : Nat} {r : CwIn} {s : State} : KeepsPhase s (execCodewordReceive n k r s) := by
  cases r with
  | soft syms upset => exact .guarded un_takeCodeword.phase
  | clause corr blks => exact .guarded un_takeClause.phase

theorem execCodewordRelease_keepsPhase {n : Ch} {s : State} : KeepsPhase s (execCodewordRelease n s) := by
  unfold execCodewordRelease
  split
  · exact .guarded un_releaseCodeword.phase
  · exact .stay

theorem execPtpIngress_keepsPhase {n : Ch} {f : List Byte} {late : Nat} {s : State} : KeepsPhase s (execPtpIngress n f late s) := by
  unfold execPtpIngress
  dsimp only
  split
  · exact .ite (.ite (.next (un_ptpPass.phase.trans un_ptpPush.phase)) (.next un_ptpPush.phase)) .stay
  · exact .stay

theorem execPtpEgress_keepsPhase {n : Ch} {f : List Byte} {late : Nat} {ing : Option Nat} {s : State} :
    KeepsPhase s (execPtpEgress n f late ing s) := by
  refine .ite .stay ?_
  extract_lets ctrl e p u o
  have hu : u.rst.phase = s.rst.phase := by
    dsimp only [u]
    split
    · exact when_phase fun _ => un_ptpPush.phase
    · rfl
  split
  · exact .next (un_ptpRelay.phase.trans hu)
  · split
    · split
      · exact .next (un_ptpPass.phase.trans hu)
      · exact .next hu
    · exact .next hu

/-! ### Commands whose state is built in several operations -/

theorem execShadowAdvance_keepsPhase {n : Ch} {pairs : List (Byte × Byte)} {s : State} : KeepsPhase s (execShadowAdvance n pairs s) := by
  refine .ite (.ite (.next (un_setFld.phase.trans (un_mapRx.phase.trans ?_))) (.next ?_)) .stay
  all_goals exact un_setFld.phase.trans (ite_phase rfl un_setCorr.phase)

theorem execNoiseFloorComplete_keepsPhase {n : Ch} {blocks : List (List Byte)} {s : State} :
    KeepsPhase s (execNoiseFloorComplete n blocks s) := by
  refine .guarded (un_nfRise.phase.trans (un_cint.phase.trans ?_))
  exact un_setFld.phase.trans (un_setBit.phase.trans (un_wrap.phase.trans un_putBands.phase))

theorem execStandardModeLinkDrop_keepsPhase {n : Ch} {retrain : Bool} {s : State} : KeepsPhase s (execStandardModeLinkDrop n retrain s) :=
  .ite (.ite (.next (un_mapLink.phase.trans (un_setTrain.phase.trans un_dropLink.phase)))
    (.next (un_startNeg.phase.trans un_dropLink.phase))) .stay

theorem execStandardModeLpiQuiet_keepsPhase {n : Ch} {partner : Bool} {s : State} : KeepsPhase s (execStandardModeLpiQuiet n partner s) := by
  refine .guarded (ite_phase ?_ ?_)
  · exact (when_phase fun _ => un_applyGain.phase).trans (un_trimApplyRx.phase.trans un_setLpi.phase)
  · exact un_trimApplyTx.phase.trans un_setLpi.phase

theorem execMapRefresh_keepsPhase {n : Ch} {held : Bool} {s : State} : KeepsPhase s (execMapRefresh n held s) :=
  .ite .stay (.ite (.next (un_mapDiag.phase.trans un_sat32.phase))
    (.ite (.next (un_mapDiag.phase.trans un_mapDiag.phase)) (.next (un_publish.phase.trans un_mapDiag.phase))))

theorem execTimeCapture_keepsPhase {s : State} : KeepsPhase s (execTimeCapture s) :=
  .guarded (un_mapTk.phase.trans (un_tkInt.phase.trans (un_wrap.phase.trans
    (forTg_phase fun _ _ => un_setReg.phase.trans (un_setReg.phase.trans un_setReg.phase)))))

/-! ### Clocks, power and jobs -/

theorem execReferenceFail_keepsPhase {which : Fin 3} {e : RefSeen} {s : State} : KeepsPhase s (execReferenceFail which e s) := by
  unfold execReferenceFail
  split
  · exact .guarded un_refFails.phase
  · exact .guarded un_refFails.phase
  · exact .guarded (un_clkFault.phase.trans un_setBit.phase)

theorem execXaJudgeAttempt_keepsPhase {xa xb : List Nat} {cross : Nat} {s : State} : KeepsPhase s (execXaJudgeAttempt xa xb cross s) := by
  refine .ite ?_ .stay
  have hu : (if s.clkBit stXb || xb.isEmpty then s else s.setXb (judgeOk s.fastRef xb)).rst.phase = s.rst.phase :=
    ite_phase rfl un_setXb.phase
  refine .ite (.next (un_attemptFails.phase.trans hu)) (.ite (.ite ?_ ?_) (.next (un_attemptPasses.phase.trans hu)))
  · exact .next (un_attemptPasses.phase.trans (un_setCross.phase.trans hu))
  · exact .next (un_attemptFails.phase.trans (un_setCross.phase.trans hu))

theorem execFallbackExpiry_keepsPhase {s : State} : KeepsPhase s (execFallbackExpiry s) := by
  unfold execFallbackExpiry
  split
  · exact .guarded (un_mapClk.phase.trans ((when_phase fun _ => un_clkInt.phase).trans (un_setFld.phase.trans un_setFld.phase)))
  · exact .stay

theorem execFallbackNoLock_keepsPhase {s : State} : KeepsPhase s (execFallbackNoLock s) := by
  unfold execFallbackNoLock
  split
  · exact .guarded (un_mapClk.phase.trans (un_setFld.phase.trans (un_setJudge.phase.trans un_setFld.phase)))
  · exact .stay

theorem execPllLockAcquired_keepsPhase {p : Pll} {s : State} : KeepsPhase s (execPllLockAcquired p s) := by
  refine .ite ?_ .stay
  dsimp only
  split
  · exact .next (un_setOut.phase.trans un_setPll.phase)
  · exact .next un_setPll.phase

theorem execSscChangeApply_keepsPhase {o : SscOut} {s : State} : KeepsPhase s (execSscChangeApply o s) := by
  cases o with
  | line _ => exact .stay
  | hl n => exact .guarded un_mapClk.phase
  | clkout k => exact .guarded un_mapClk.phase

theorem execPowerTransitionDone_keepsPhase {d : Fin 49} {s : State} : KeepsPhase s (execPowerTransitionDone d s) := by
  unfold execPowerTransitionDone
  refine .ite ?_ ?_
  · split
    · exact .stay
    · refine .next (un_settleNvm.phase.trans ?_)
      exact un_intr.phase
  · dsimp only
    split
    · exact .stay
    · exact .next (un_settlePower.phase.trans (un_resetDue.phase.trans un_domArrive.phase))

theorem execJournalCommit_keepsPhase {s : State} : KeepsPhase s (execJournalCommit s) := by
  refine .ite ?_ .stay
  dsimp only
  split
  · exact .next ((takeStep_phase fun _ => un_journalJob.phase).trans un_devRequest.phase)
  · exact .next un_devRequest.phase

theorem execRepairRecordWrite_keepsPhase {s : State} : KeepsPhase s (execRepairRecordWrite s) := by
  refine .ite ?_ .stay
  dsimp only
  split
  · exact .next ((takeStep_phase fun _ => un_repairJob.phase).trans un_devRequest.phase)
  · exact .next un_devRequest.phase

theorem execArchiveFetchDone_keepsPhase {s : State} : KeepsPhase s (execArchiveFetchDone s) := by
  unfold execArchiveFetchDone
  split
  · exact .next (un_showEntry.phase.trans un_mapJrnl.phase)
  · exact .stay

theorem execTrendFetchDone_keepsPhase {s : State} : KeepsPhase s (execTrendFetchDone s) := by
  unfold execTrendFetchDone
  split
  · exact .stay
  · exact .ite (.next (un_setReg.phase.trans (un_setReg.phase.trans un_mapLife.phase))) (.next (un_setReg.phase.trans un_mapLife.phase))

/-! ### Time -/

theorem execServoUpdate_keepsPhase {g : Tg} {s : State} : KeepsPhase s (execServoUpdate g s) := by
  refine .ite .stay ?_
  extract_lets e u v w
  have hu : u.rst.phase = s.rst.phase := un_takeSrc.phase.trans un_mapGroup.phase
  have hv : v.rst.phase = s.rst.phase := (forCh_phase fun _ _ => ite_phase (un_showLoop.phase.trans un_showNu.phase) rfl).trans hu
  have hw : w.rst.phase = s.rst.phase := un_clearWindow.phase.trans hv
  split
  · exact .next (un_steer.phase.trans hw)
  · exact .next hw

theorem execDiscrepancyTick_keepsPhase {g : Tg} {s : State} : KeepsPhase s (execDiscrepancyTick g s) := by
  refine .ite .stay ?_
  extract_lets s1 u t dis both a c n c' s2 s3 k s4
  have h2 : s2.rst.phase = s.rst.phase := un_setFld.phase.trans (un_setFld.phase.trans un_mapGroup.phase)
  have h4 : s4.rst.phase = s.rst.phase := un_mapGroup.phase.trans ((when_phase fun _ => un_satInt.phase).trans h2)
  exact .ite (.next (un_declare.phase.trans h4)) (.ite (.next (un_settleGroup.phase.trans (un_clearDisc.phase.trans h4)))
    (.next (un_settleGroup.phase.trans h4)))

theorem execPpsInPulse_keepsPhase {k : Fin 2} {falling : Bool} {late : Nat} {s : State} : KeepsPhase s (execPpsInPulse k falling late s) := by
  have hu {f : Tg → State → Bool} {h : Tg → State → Group → Group} :
      (s.forTg fun g s => s.when (f g s) fun s => s.mapGroup g (h g s)).rst.phase = s.rst.phase :=
    forTg_phase fun _ _ => when_phase fun _ => un_mapGroup.phase
  exact .guarded ((forTg_phase fun _ _ => ite_phase un_settleGroup.phase rfl).trans (un_intr.phase.trans
    (un_showPps.phase.trans (un_wrap.phase.trans (ite_phase (un_ppsMiss.phase.trans hu) hu)))))

theorem execPpsInTimeout_keepsPhase {k : Fin 2} {s : State} : KeepsPhase s (execPpsInTimeout k s) :=
  .guarded ((forTg_phase fun _ _ => ite_phase un_settleGroup.phase rfl).trans
    (un_showPps.phase.trans (un_ppsMiss.phase.trans (forTg_phase fun _ _ => when_phase fun _ => un_mapGroup.phase))))

theorem execCalendarUpdate_keepsPhase {s : State} : KeepsPhase s (execCalendarUpdate s) := by
  refine .guarded (un_alarmTry.phase.trans (un_alarmTry.phase.trans (un_alarmTry.phase.trans (un_alarmTry.phase.trans ?_))))
  exact un_setReg.phase.trans (un_setReg.phase.trans (un_setReg.phase.trans (un_showLeap.phase.trans un_mapTk.phase)))

theorem execTkxJudged_keepsPhase {s : State} : KeepsPhase s (execTkxJudged s) := by
  unfold execTkxJudged
  split
  · exact .stay
  · split
    · exact .next un_tkxMissed.phase
    · exact .next un_tkxFound.phase

theorem execTkxFail_keepsPhase {e : RefSeen} {fLow : Nat} {s : State} : KeepsPhase s (execTkxFail e fLow s) := by
  refine .ite ?_ .stay
  extract_lets was u v w
  have hw : w.rst.phase = s.rst.phase := un_mapTk.phase.trans (un_tkInt.phase.trans (un_setBit.phase.trans un_tkxFault.phase))
  exact .ite (.next hw) (.next (un_relockOuts.phase.trans (un_tkInt.phase.trans (un_sat.phase.trans (un_setBit.phase.trans hw)))))

theorem execLedgerSecond_keepsPhase {s : State} : KeepsPhase s (execLedgerSecond s) := by
  refine .guarded (un_mapLife.phase.trans ((when_phase fun _ => un_sat32.phase).trans ?_))
  refine (forTg_phase fun _ _ => when_phase fun _ => un_setReg.phase).trans ?_
  refine (forCh_phase fun _ _ => when_phase fun _ => un_lifeAdd.phase).trans ?_
  exact un_heatSeconds.phase.trans un_lifeAdd.phase

/-! ### Faults, snapshots and accesses of the fabric -/

theorem execFaultDetected_keepsPhase {p : Page} {i : Fin 16} {k : Nat} {ecc1 : Bool} {s : State} :
    KeepsPhase s (execFaultDetected p i k ecc1 s) := by
  refine .ite (.next un_corrected.phase) ?_
  split
  · exact .next un_detectCh.phase
  · exact .next un_detectDev.phase

theorem execCrossingFault_keepsPhase {p : Page} {e : CrossSeen} {items : Nat} {s : State} : KeepsPhase s (execCrossingFault p e items s) := by
  refine .guarded (un_drained.phase.trans (un_enterDrain.phase.trans ?_))
  split
  · exact un_detectCh.phase
  · exact un_detectDev.phase

theorem execDevResetLapse_keepsPhase {s : State} : KeepsPhase s (execDevResetLapse s) := by
  unfold execDevResetLapse
  split
  · refine .guarded ?_
    exact un_jAppend.phase
  · exact .stay

theorem execSnapTaken_keepsPhase {p : Page} {s : State} : KeepsPhase s (execSnapTaken p s) :=
  .guarded ((foldl_phase fun _ _ => un_checkBalance.phase).trans ((foldl_phase fun _ _ => un_snapShown.phase).trans
    (foldl_phase fun _ _ => un_capturePage.phase)))

theorem execRemoteTimeout_keepsPhase {s : State} : KeepsPhase s (execRemoteTimeout s) := by
  unfold execRemoteTimeout
  split
  · exact .guarded un_mailFailed.phase
  · exact .stay

theorem execMdioStdRead_keepsPhase {phy mmd : BitVec 5} {reg : BitVec 16} {s : State} : KeepsPhase s (execMdioStdRead phy mmd reg s) := by
  unfold execMdioStdRead
  extract_lets out
  split
  · exact .next rfl
  · exact .ite (.next rfl) (.ite (.next un_stdRead.phase) (.next rfl))

theorem execMdioStdWrite_keepsPhase {phy mmd : BitVec 5} {reg d : BitVec 16} {s : State} : KeepsPhase s (execMdioStdWrite phy mmd reg d s) := by
  unfold execMdioStdWrite
  split
  · exact .stay
  · exact .ite (.next un_winWrite.phase) (.ite (.next stdWrite_phase) .stay)

theorem execMdioWindowDone_keepsPhase {phy : BitVec 5} {s : State} : KeepsPhase s (execMdioWindowDone phy s) := by
  unfold execMdioWindowDone
  split
  · exact .stay
  · exact .ite .stay (.next (winRun_phase.trans un_servedFor.phase))

theorem execRemoteRequestExecute_keepsPhase {n : Ch} {s : State} : KeepsPhase s (execRemoteRequestExecute n s) := by
  unfold execRemoteRequestExecute
  dsimp only
  split
  · exact .stay
  · refine .ite .stay (.ite (.next un_remoteAnswer.phase) (.ite (.next un_remoteAnswer.phase) (.ite .stay (.ite ?_ ?_))))
    · exact .next (un_remoteDone.phase.trans (un_fabricRead.phase.trans un_servedFor.phase))
    · split <;> rename_i e
      · exact .next (un_remoteDone.phase.trans ((phase_of_pair e fabricWrite_phase).trans un_servedFor.phase))
      · exact .next ((phase_of_pair e fabricWrite_phase).trans un_servedFor.phase)

theorem execBlockReset_keepsPhase {o : Origin} {p : Page} {s : State} : KeepsPhase s (execBlockReset o p s) := by
  cases p with
  | chan n q => exact .next writeKeep_phase
  | dev q => exact .next writeKeep_phase

/-! ### Every command -/

/-- The commands that can move the phase of the system domain: the resets, and the two steps of a start (R370, R376, R377). -/
def movesPhase : Instr → Bool
  | .vaoPowerOnReset _ | .corePowerLoss _ | .resetN _ | .startUp _ | .hostPortReady | .devResetBegin => true
  | _ => false

/-- No register write and no event but a reset or a start moves the system domain (R15). -/
theorem exec_keepsPhase (c : Instr) (s : State) (h : movesPhase c = false) : KeepsPhase s (exec c s) := by
  cases c with
  | vaoPowerOnReset | corePowerLoss | resetN | startUp | hostPortReady | devResetBegin => exact nomatch h
  | registerWrite => exact .guarded fabricWrite_phase
  | devResetArm | devResetGo | channelReset | pageFenceSet | pageFenceRemove | pageViewSelWrite | intTestWrite | snapRequest
  | lockWrite | nvmwDataWrite | journalFlush | journalReadLoad | jobTdrSweep | jobCableProfileLearning | jobBist
  | jobLedgerUpdate | jobTrimRecheck | jobAbort | buserrStickyClear | remoteGo | portFenceSet | portFenceRemove | iterMaxWrite
  | fecUnitFenceSet | fecUnitFenceRemove | rxGainWrite | dfeTapsWrite | timingModeWrite | timingBwWrite | nfListenWrite
  | anEnable | anDisable | anRestart | advWrite | hlModeWrite | relayEnable | relayDisable | relayTapWrite | diagHoldWrite
  | loopbackNearDigital | loopbackNearAnalog | loopbackFarEnd | loopbackOff | testPatternSelect | srcCtrlWrite | ptpPop
  | routeLoad | routeCommit | partWrite | scheduleLoad | scheduleCommit | scheduleCommitW0 | scheduleClear | captureAck
  | captureClear | captureReadLoad | timeCaptureRequest | timeSet | timeStep | timeSetSec | taiUtcWrite | leapAdd | leapClear
  | leapSetExpiry | trendSelWrite | clkoutCtrlWrite | powerRequest | nvmPowerRequest | trimApplyEnWrite | failLogSelect
  | alarmSwLevelWrite | alarmRearm | safeCmd | trigDriverFenceSet | trigDriverFenceRemove | tgChMapWrite =>
    exact .next writeKeep_phase
  | devResetLapse => exact execDevResetLapse_keepsPhase
  | blockReset => exact execBlockReset_keepsPhase
  | postedWriteTakesEffect => exact .next (unhold_phase.trans popPosted_phase)
  | snapTaken => exact execSnapTaken_keepsPhase
  | leaseExpiry => exact .guarded un_breakLock.phase
  | tokenIssue => exact .ite .stay (.next un_mapJrnl.phase)
  | flushAgeExpiry => exact .guarded un_mapJrnl.phase
  | journalCommit => exact execJournalCommit_keepsPhase
  | archiveFetchDone => exact execArchiveFetchDone_keepsPhase
  | entryW7Read | captureReadAdvance => exact .guarded un_fabricRead.phase
  | nvmCommitStaging | nvmCommitProfileErase | nvmCommitLeapTable | nvmCommitCalendar | nvmReadBackProfile
  | nvmReadBackLeapTable => exact .guarded (takeStep_phase fun _ => un_nvmWork.phase)
  | jobWaitClears => exact .guarded (un_jobRuns.phase.trans un_setSlot.phase)
  | jobStep => exact .ite .stay (.ite (.next un_mapSlot.phase) (.next (un_runStep.phase.trans un_stepTaken.phase)))
  | deviceJobDispatch => exact .next un_devDispatch.phase
  | v2Nop | v2Read | v2Write | v2BurstRead | v2BurstWrite | portCtrlAbort | portReset | v1Nop | v1Read | v1Write =>
    exact .next frame_phase
  | portResetComplete => exact .next un_mapPort.phase
  | mdioStdRead => exact execMdioStdRead_keepsPhase
  | mdioStdWrite => exact execMdioStdWrite_keepsPhase
  | mdioWindowRegWrite | mdioWindowRead | mdioWindowWrite => exact .next un_winWrite.phase
  | mdioWindowDone => exact execMdioWindowDone_keepsPhase
  | remoteRequest => exact execRemoteRequest_keepsPhase
  | remoteRequestExecute => exact execRemoteRequestExecute_keepsPhase
  | remoteReplyReceive => exact execRemoteReplyReceive_keepsPhase
  | remoteTimeout => exact execRemoteTimeout_keepsPhase
  | orbitTransmit => exact execOrbitTransmit_keepsPhase
  | ktlFieldReceive => exact execKtlFieldReceive_keepsPhase
  | oamMessageSend => exact .ite (.ite (.next un_placeOam.phase) (.next un_mapLine.phase)) .stay
  | oamMessageReceive => exact execOamMessageReceive_keepsPhase
  | codewordReceive => exact execCodewordReceive_keepsPhase
  | codewordRelease => exact execCodewordRelease_keepsPhase
  | berWindowEnd => exact .next un_berFull.phase
  | singleEngineStart => exact .guarded (un_setSingle.phase.trans un_mapFec.phase)
  | singleEngineEnd => exact .guarded (un_setSingle.phase.trans un_engineBoundary.phase)
  | powerMeasurementUpdate => exact .guarded ((when_phase fun _ => un_receive.phase).trans un_satInt.phase)
  | shadowAdvance => exact execShadowAdvance_keepsPhase
  | sliceFault => exact .guarded un_sliceFails.phase
  | segmentMonitor => exact .guarded (foldl_phase fun _ _ => ite_phase un_segFails.phase rfl)
  | timingLockChange => exact .guarded (un_showTiming.phase.trans ((foldl_phase fun _ _ => un_trTake.phase).trans un_mapRx.phase))
  | sscModelLock => exact .guarded (un_cint.phase.trans (un_setBit.phase.trans un_mapRx.phase))
  | sscModelFail => exact .guarded (un_cint.phase.trans (un_setBit.phase.trans un_setBit.phase))
  | adaptFreezeEnd => exact .guarded (un_showAdapt.phase.trans un_mapRx.phase)
  | noiseFloorComplete => exact execNoiseFloorComplete_keepsPhase
  | negotiationComplete => exact .guarded un_negotiated.phase
  | phase1Timer => exact .ite (.ite (.next (un_enterPhase.phase.trans un_mapChan.phase)) (.next un_mapChan.phase)) .stay
  | tswReceive => exact .guarded (un_takeTsw.phase.trans (un_takeMse.phase.trans un_takeMark.phase))
  | trainingPhaseAdvance => exact .ite (.next un_nextPhase.phase) (.guarded un_phase4.phase)
  | trainingTimeout => exact execTrainingTimeout_keepsPhase
  | abortTswEnd => exact .guarded (un_startNeg.phase.trans un_mapLink.phase)
  | fastHoldExpiry => exact execFastHoldExpiry_keepsPhase
  | lpiEnter => exact .ite (.next (un_mapLine.phase.trans un_setLpi.phase)) (.guarded un_setLpi.phase)
  | lpiWake => exact .ite (.next (un_mapChan.phase.trans (un_mapLine.phase.trans un_setLpi.phase))) (.guarded un_setLpi.phase)
  | eclipseRequest => exact .guarded (un_mapEcl.phase.trans un_oamPush.phase)
  | eclipseAnnounce => exact .guarded (un_setBit.phase.trans (un_mapEcl.phase.trans un_oamPush.phase))
  | eclipseStart => exact execEclipseStart_keepsPhase
  | eclipseReceive => exact .guarded un_eclReceive.phase
  | eclipseMiss | eclipseDefer => exact .guarded (un_mapEcl.phase.trans un_sat32.phase)
  | eclipseStale => exact execEclipseStale_keepsPhase
  | hostFrameReceive => exact .next un_hostFrame.phase
  | rmXoff => exact .guarded un_xoff.phase
  | rmPauseRepeat => exact execRmPauseRepeat_keepsPhase
  | rmXon => exact .guarded (un_mapBuf.phase.trans un_sendPause.phase)
  | relayPairActivate => exact .next un_settlePair.phase
  | relayFrameForward => exact execRelayFrameForward_keepsPhase
  | relayForwardResume => exact .guarded (un_showPartner.phase.trans un_mapBuf.phase)
  | mapRefresh => exact execMapRefresh_keepsPhase
  | patternSyncChange => exact .guarded (foldl_phase fun _ _ => un_patTakes.phase)
  | capabilityMessageSend => exact .guarded (un_mapKtl.phase.trans (un_oamPush.phase.trans un_mapLine.phase))
  | infoExpiry => exact .guarded un_setInfo.phase
  | servoUpdate => exact execServoUpdate_keepsPhase
  | discrepancyTick => exact execDiscrepancyTick_keepsPhase
  | ppsInPulse => exact execPpsInPulse_keepsPhase
  | ppsInTimeout => exact execPpsInTimeout_keepsPhase
  | ppsOutPulse => exact .ite (.ite (.next un_setBit.phase) (.next un_setBit.phase)) .stay
  | ppsOutPulseEnd => exact .guarded rfl
  | ptpIngress => exact execPtpIngress_keepsPhase
  | ptpEgress => exact execPtpEgress_keepsPhase
  | cometReceive => exact execCometReceive_keepsPhase
  | cometLoading =>
    exact .guarded (un_showCmt.phase.trans (un_placeComet.phase.trans (un_placeComet.phase.trans un_expireQueue.phase)))
  | cometQueueExpiry => exact .next (un_showCmt.phase.trans (forCh_phase fun _ _ => ite_phase rfl un_expireQueue.phase))
  | cometFire => exact execCometFire_keepsPhase
  | lateReportReceive => exact execLateReportReceive_keepsPhase
  | cometInject => exact execCometInject_keepsPhase
  | pulseEnd => exact execPulseEnd_keepsPhase
  | armWindowEnd => exact execArmWindowEnd_keepsPhase
  | trigEdgeCapture => exact execTrigEdgeCapture_keepsPhase
  | captureReportReceive => exact execCaptureReportReceive_keepsPhase
  | timeCapture => exact execTimeCapture_keepsPhase
  | tkxJudgeAttempt => exact .ite .stay (.ite (.next un_mapTk.phase) (.next un_tkxMissed.phase))
  | tkxJudged => exact execTkxJudged_keepsPhase
  | tkrMeasurement => exact .guarded (un_mapTk.phase.trans (un_setBit.phase.trans un_setReg.phase))
  | tkxFail => exact execTkxFail_keepsPhase
  | coastMeasurement => exact .guarded un_mapTk.phase
  | tkxRelock => exact .guarded (un_relockOuts.phase.trans (un_tkInt.phase.trans (un_setBit.phase.trans un_mapTk.phase)))
  | calendarUpdate => exact execCalendarUpdate_keepsPhase
  | ledgerSecond => exact execLedgerSecond_keepsPhase
  | ledgerUpdatePeriod => exact .guarded (un_askLedger.phase.trans un_mapLife.phase)
  | trendSample => exact .guarded (un_askLedger.phase.trans (ite_phase (un_mapLife.phase.trans un_setReg.phase) un_setReg.phase))
  | xaJudgeAttempt => exact execXaJudgeAttempt_keepsPhase
  | xbCrossCheck => exact .guarded (un_setCross.phase.trans un_mapClk.phase)
  | xbRejudge => exact .guarded un_setXb.phase
  | fallbackExpiry => exact execFallbackExpiry_keepsPhase
  | fallbackNoLock => exact execFallbackNoLock_keepsPhase
  | referenceFail => exact execReferenceFail_keepsPhase
  | spllLossOfLock => exact .guarded un_spllLoss.phase
  | cpllLossOfLock => exact .guarded un_cpllLoss.phase
  | hpllLossOfLock => exact .guarded un_hpllLoss.phase
  | pllLockAcquired => exact execPllLockAcquired_keepsPhase
  | pllGateOpen => exact .guarded (un_gateOpens.phase.trans un_setPll.phase)
  | clkoutRampEnd => exact .guarded un_setOut.phase
  | sscChangeApply => exact execSscChangeApply_keepsPhase
  | crossingResync => exact .guarded un_mapClk.phase
  | crossingFault => exact execCrossingFault_keepsPhase
  | selfTestOfEntry => exact .guarded un_devRequest.phase
  | powerTransitionDone => exact execPowerTransitionDone_keepsPhase
  | trimEvaluation => exact .guarded un_trimEvaluate.phase
  | trimIntervalExpiry => exact .guarded un_trimAsk.phase
  | trimApplication => exact .guarded (ite_phase un_trimApplyTx.phase un_trimApplyRx.phase)
  | trimStale => exact execTrimStale_keepsPhase
  | repairRecordWrite => exact execRepairRecordWrite_keepsPhase
  | thermalSensorUpdate => exact .ite .stay (.next (foldl_phase fun _ _ => un_sense.phase))
  | faultDetected => exact execFaultDetected_keepsPhase
  | alarmPulseEnd => exact .guarded un_setAlarm.phase
  | alarmSelfFault => exact .next un_alarmSelf.phase
  | tgChangeTakesEffect => exact .guarded un_moveTg.phase
  | jtagTapReset => exact .next un_mapJtag.phase
  | jtagRegRead | jtagRegWrite => exact .next jtagScan_phase
  | orbitLockAcquired => exact .guarded (un_takeMark.phase.trans un_setOrbitLock.phase)
  | hostLaneLockChange => exact .ite .stay (.next (un_cint.phase.trans un_setBit.phase))
  | opllLossOfLock => exact .guarded (un_clkFault.phase.trans un_relockOut.phase)
  | trendFetchDone => exact execTrendFetchDone_keepsPhase
  | partnerNegotiationSignal => exact .guarded un_failTrain.phase
  | standardModeLinkUp => exact .guarded un_comeUp.phase
  | standardModeLinkDrop => exact execStandardModeLinkDrop_keepsPhase
  | standardModeLpiQuiet => exact execStandardModeLpiQuiet_keepsPhase


end Sys2Proof.Machine
end

section
/-! PROOFS. The system domain leaves ON only by its resets (R15): what a start, the resets and the second write of DEV.RESET do. -/

set_option Elab.async false

namespace Sys2Proof.Machine

open State

/-! ### A start does not put the system domain into reset -/

/-- A system domain that stands outside reset takes no START_UP. -/
theorem execStartUp_of_not_inReset {s : State} {straps : BitVec 3} (h : s.rst.phase ≠ .inReset) : execStartUp straps s = .next s :=
  if_pos (bne_iff_ne.mpr h)

theorem execHostPortReady_not_inReset {s t : State} (e : execHostPortReady s = .next t) (h : s.rst.phase ≠ .inReset) :
    t.rst.phase ≠ .inReset := by
  unfold execHostPortReady at e
  dsimp only at e
  split at e
  · obtain rfl := Host.Outcome.next.inj e
    exact ne_of_eq_of_ne ((forCh_phase fun _ _ => un_powerWritten.phase).trans un_nvmReqWritten.phase) nofun
  · obtain rfl := Host.Outcome.next.inj e
    exact h

/-! ### The resets put it there -/

theorem State.systemReset_phase {s : State} {k : StartKind} {by_ : Nat} {keep : Bool} : (s.systemReset k by_ keep).rst.phase = .inReset := by
  unfold State.systemReset
  extract_lets kept counted u locks owed rst keptRegs jrnl nvm jtag v w
  have hw : w.rst.phase = v.rst.phase := forCh_phase fun _ _ => ite_phase (un_showPwr.phase.trans un_setReg.phase) rfl
  refine owing_phase.trans ((forTg_phase fun _ _ => un_settleGroup.phase).trans ?_)
  exact un_lifeAdd.phase.trans (un_lifeStops.phase.trans hw)

theorem State.coreLoss_phase {s : State} : s.coreLoss.rst.phase = .inReset := by
  unfold State.coreLoss
  refine owing_phase.trans ((forTg_phase fun _ _ => un_settleGroup.phase).trans ?_)
  exact un_lifeAdd.phase.trans un_lifeStops.phase

/-- An act that surely happens. -/
theorem State.ifBeyond_surely {s : State} {surely never : Bool} {act : State → State} (h : surely = true) :
    s.ifBeyond surely never act = act s :=
  if_pos h

/-- An act that surely does not happen leaves the state as it is. -/
theorem State.ifBeyond_never {s : State} {surely never : Bool} {act : State → State} (hs : surely = false) (hn : never = true) :
    s.ifBeyond surely never act = s := by
  simp [State.ifBeyond, hs, hn]

/-- A rail that acts on the device lies at or below the detector's threshold with its tolerance (R363). -/
theorem State.ifRailLow_acts {s : State} {mv : Nat} {act : State → State} (h : (s.ifRailLow mv act).rst.phase ≠ s.rst.phase) : mv ≤ 610 := by
  by_contra hm
  exact h (by rw [State.ifRailLow, ifBeyond_never (decide_eq_false (by omega)) (decide_eq_true (by omega))])

/-- A pulse of RESET_N that acts on the device is no shorter than 1 µs (R362). -/
theorem execResetN_acts {s t : State} {low : Nat} (e : execResetN low s = .next t) (h : t.rst.phase ≠ s.rst.phase) : 1000 ≤ low := by
  by_contra hm
  unfold execResetN at e
  rw [ifBeyond_never (decide_eq_false (by omega)) (decide_eq_true (by omega))] at e
  cases e
  exact h rfl

/-- DEV_RESET_BEGIN acts 1 µs after the second write (R371). -/
theorem execDevResetBegin_acts {s t : State} (e : execDevResetBegin s = .next t) (h : t.rst.phase ≠ s.rst.phase) :
    ∃ o at_ keep, s.rst.go = some (o, at_, keep) ∧ at_ + us 1 ≤ s.now := by
  unfold execDevResetBegin at e
  split at e
  · rename_i o at_ keep hgo
    split at e
    · exact ⟨o, at_, keep, hgo, ‹_›⟩
    · cases e
      exact absurd rfl h
  · cases e
    exact absurd rfl h

/-- What a command that puts the system domain into reset is (R15). -/
theorem exec_into_reset {c : Instr} {s t : State} (e : exec c s = .next t) (hs : s.rst.phase ≠ .inReset) (ht : t.rst.phase = .inReset) :
    (∃ low, c = .resetN low ∧ 1000 ≤ low) ∨ (∃ mv, (c = .vaoPowerOnReset mv ∨ c = .corePowerLoss mv) ∧ mv ≤ 610)
      ∨ (c = .devResetBegin ∧ ∃ o at_ keep, s.rst.go = some (o, at_, keep) ∧ at_ + us 1 ≤ s.now) := by
  have moved : t.rst.phase ≠ s.rst.phase := fun h => hs (h.symm.trans ht)
  by_cases hc : movesPhase c = false
  · exact absurd (exec_keepsPhase c s hc t e) moved
  · cases c with
    | resetN low => exact .inl ⟨low, rfl, execResetN_acts e moved⟩
    | vaoPowerOnReset mv =>
      cases e
      exact .inr (.inl ⟨mv, .inl rfl, ifRailLow_acts moved⟩)
    | corePowerLoss mv =>
      cases e
      exact .inr (.inl ⟨mv, .inr rfl, ifRailLow_acts moved⟩)
    | devResetBegin => exact .inr (.inr ⟨rfl, execDevResetBegin_acts e moved⟩)
    | startUp straps =>
      cases (execStartUp_of_not_inReset hs).symm.trans e
      exact absurd rfl moved
    | hostPortReady => exact absurd ht (execHostPortReady_not_inReset e hs)
    | _ => exact absurd rfl hc

/-! ### The second write of DEV.RESET -/

/-- The word of the second write, with KEEP_COEF. -/
def goWord (keep : Bool) : Word := BitVec.ofNat 32 (0xA5E80002 + b2n keep * 4)

theorem goWord_keep (keep : Bool) : (goWord keep).getLsbD 2 = keep := by
  cases keep <;> rfl

/-- The second write by the origin that armed the sequence, in its time, is the step that goes (R371). -/
theorem State.resetStep_go {s : State} {o : Origin} {at_ : Nat} (keep : Bool) (ha : s.rst.armed = some (o, at_)) (hn : s.now ≤ at_ + ms 1) :
    s.resetStep o (goWord keep) = 2 := by
  have hk : keyOf (goWord keep) = 0xA5E8 ∧ (goWord keep).getLsbD 1 = true := by cases keep <;> decide
  simp only [State.resetStep, ha, hk.1, hk.2, beq_self_eq_true, Bool.true_and, decide_eq_true hn, if_true]

/-- DEV.RESET takes its word in either view (R32). -/
theorem State.sent_devReset (s : State) (o : Origin) (d : Word) : s.sent o (.dev .dev) 0x110 d 0 = d := by
  have h (old : Word) : (d &&& BitVec.allOnes 32) ||| (old &&& 0#32) = d := by
    rw [BitVec.and_zero, BitVec.or_zero, BitVec.and_allOnes]
  unfold State.sent State.sentIn
  split
  · exact h _
  · exact h _

/-- A write of DEV.RESET that is a step of the keyed sequence is not refused. -/
theorem State.writeResult_devReset {s : State} {o : Origin} {old d : Word} (h : s.resetStep o d ≠ 0) :
    (s.writeResult o (.dev .dev) 0x110 old d).ignored = false := by
  obtain ⟨r, hr, hw⟩ : ∃ r, regRow (.dev .dev) 0x110 = some r ∧ r.writable = true := ⟨_, rfl, by decide⟩
  have ht : s.devTurned o .dev 0x110 d = false := beq_false_of_ne h
  show (s.blockResult o (.dev .dev) 0x110 old d).ignored = false
  simp only [State.blockResult, hr, hw, ht, Bool.not_true, Bool.or_self, Bool.false_eq_true, if_false]

/-- The step that goes: the sequence is no longer armed, and the reset follows (R371). -/
theorem State.devWrote_go {s : State} {o : Origin} {old d : Word} (h : s.resetStep o d = 2) :
    (s.devWrote o .dev 0x110 old d).rst = { s.rst with armed := none, go := some (o, s.now, d.getLsbD 2) } := by
  unfold State.devWrote
  dsimp only
  rw [if_pos (by decide), h]
  rfl

theorem State.wrote_go {s : State} {o : Origin} {at_ : Nat} {keep fe : Bool} {old : Word} (ha : s.rst.armed = some (o, at_))
    (hn : s.now ≤ at_ + ms 1) :
    (s.wrote o (.dev .dev) 0x110 old (goWord keep) fe).rst = { s.rst with armed := none, go := some (o, s.now, keep) } := by
  refine (devWrote_go (old := old) (resetStep_go keep ha hn)).trans ?_
  rw [goWord_keep]

/-- The second write of DEV.RESET, by the origin that armed the sequence and in its time, is taken (R371). -/
theorem State.applyWrite_go {s : State} {o : Origin} {at_ : Nat} {keep posted : Bool} (ha : s.rst.armed = some (o, at_))
    (hn : s.now ≤ at_ + ms 1) :
    (s.applyWrite (wordWrite s o (.dev .dev) 0x110 (goWord keep) 0) posted).rst
      = { s.rst with armed := none, go := some (o, s.now, keep) } := by
  have taken : s.resetStep o (goWord keep) ≠ 0 := by
    rw [resetStep_go keep ha hn]
    decide
  rw [s.applyWrite_word o (.dev .dev) 0x110 _ 0 posted (by decide), sent_devReset]
  dsimp only
  rw [writeResult_devReset taken, if_neg Bool.false_ne_true, wrote_go (at_ := at_)]
  · rw [jAppend_rst, jAppend_now]
    rfl
  · rw [jAppend_rst]
    exact ha
  · rw [jAppend_now]
    exact hn

theorem execDevResetGo_takes {s : State} {o : Origin} {at_ : Nat} {keep : Bool} (ha : s.rst.armed = some (o, at_))
    (hn : s.now ≤ at_ + ms 1) (hs : s.Serves o (.dev .dev) 0x110) :
    ∃ t, execDevResetGo o keep s = .next t ∧ t.rst = { s.rst with armed := none, go := some (o, s.now, keep) } := by
  refine ⟨_, rfl, ?_⟩
  have h := s.writeKeep_serves o (.dev .dev) 0x110 (goWord keep) 0 (by decide) hs
  exact (congrArg State.rst h).trans (applyWrite_go ha hn)

/-! ### The obligation -/

/-- Each of the resets moves the system domain out of ON. -/
theorem resets_move_phase (s : State) :
    (∀ low, 10000 ≤ low → ∃ t, exec (.resetN low) s = .next t ∧ t.rst.phase = .inReset)
    ∧ (∀ mv, mv < 550 → ∃ t, exec (.vaoPowerOnReset mv) s = .next t ∧ t.rst.phase = .inReset)
    ∧ (∀ mv, mv < 550 → ∃ t, exec (.corePowerLoss mv) s = .next t ∧ t.rst.phase = .inReset)
    ∧ (∀ o at_ keep, s.rst.go = some (o, at_, keep) → at_ + us 1 ≤ s.now → ∃ t, exec .devResetBegin s = .next t ∧ t.rst.phase = .inReset) := by
  refine ⟨fun low h => ⟨_, rfl, ?_⟩, fun mv h => ⟨_, rfl, ?_⟩, fun mv h => ⟨_, rfl, ?_⟩, fun o at_ keep hgo h => ?_⟩
  · rw [ifBeyond_surely (decide_eq_true h)]
    exact systemReset_phase
  · rw [State.ifRailLow, ifBeyond_surely (decide_eq_true h)]
    rfl
  · rw [State.ifRailLow, ifBeyond_surely (decide_eq_true h)]
    exact coreLoss_phase
  · refine ⟨s.systemReset .devReset (originCode o) keep, ?_, systemReset_phase⟩
    show execDevResetBegin s = _
    unfold execDevResetBegin
    rw [hgo]
    exact if_pos h

/-- Settles O24: every command but the resets and the two steps of a start leaves the phase where it stands, and a start never puts it into reset. -/
theorem systemDomainLeavesOnOnlyByItsResets : Obligations.SystemDomainLeavesOnOnlyByItsResets := by
  unfold Obligations.SystemDomainLeavesOnOnlyByItsResets
  refine ⟨fun c s t => exec_into_reset, resets_move_phase, fun s o at_ keep ha hn hs => ?_⟩
  obtain ⟨t, e, ht⟩ := execDevResetGo_takes ha hn hs
  exact ⟨t, e, by rw [ht], by rw [ht], by rw [ht]⟩

end Sys2Proof.Machine
end

section
/-! PROOFS. A write of a header register is served at once, and one that a rule turns away changes nothing but the journal (R31, R39, R41). -/

namespace Sys2Proof.Machine

open State

/-! ### A write of a header register is served at once -/

/-- Every register's address has 24 bits (R27). -/
theorem toNat_hdr {p : Page} {off : Nat} (h : off < 0x1000) : (BitVec.ofNat 24 (hdr p off)).toNat = hdr p off := by
  refine (BitVec.toNat_ofNat _ _).trans (Nat.mod_eq_of_lt ?_)
  rcases p with p | ⟨n, p⟩ <;> cases p <;> simp only [hdr, pageBase, devBase, chOff] <;> omega

/-- An access to a header register raises no bus error: a page's fence leaves its header within reach (R29, R59). -/
theorem State.accessErr_header (s : State) (v1 write : Bool) {p : Page} {off : Nat} (h : off ≤ 0x034) (h4 : off % 4 = 0) :
    s.accessErr v1 (hdr p off) write = none := by
  have reg : hasReg v1 p off = true := by
    simp [hasReg, implemented, h, h4, show ¬ 0x100 ≤ off by omega]
  simp [State.accessErr, pageOf_hdr p off (by omega), hdr_mod p off (by omega), reg, show ¬ 0x038 ≤ off by omega,
    show off < 0x100 by omega]

/-- No header register is moon-copied: the headers lie in the clock domains of the fabric (R30). -/
theorem isMoon_header {p : Page} {off : Nat} (h : off < 0x100) : isMoon p off = false := by
  simp [isMoon, show ¬ 0x100 ≤ off by omega]

/-- No header register has the offset of a block register (R30). -/
theorem header_beq_block {off a : Nat} (h : off < 0x100) (ha : 0x100 ≤ a) : (off == a) = false := beq_false_of_ne (by omega)

/-- The header takes its data the same way in both views: view 1 maps the data of block registers alone (R32). -/
theorem view1Data_header {p : Page} {off : Nat} (old d : Word) (h : off < 0x100) : view1Data p off old d = d := by
  rcases p with p | ⟨n, p⟩ <;> cases p <;> simp (disch := decide) [view1Data, allTg, header_beq_block h]

/-- A write that keeps no bit has its data as sent (R20). -/
theorem whole_word (old d : Word) : (d &&& ~~~(0 : Word)) ||| (old &&& (0 : Word)) = d := by
  show (d &&& BitVec.allOnes 32) ||| (old &&& 0#32) = d
  rw [BitVec.and_allOnes, BitVec.and_zero, BitVec.or_zero]

/-- A write that raises no bus error reaches a register that is not moon-copied at once; the flags of a foreign write follow (R20, R39). -/
theorem State.fabricWrite_atOnce {s : State} {o : Origin} {v1 : Bool} {p : Page} {off : Nat} {d keep : Word} (h : off < 0x1000)
    (err : s.accessErr v1 (hdr p off) true = none) (hm : isMoon p off = false) :
    (s.fabricWrite o v1 (hdr p off) d keep).1
      = (s.applyWrite { origin := o, addr := hdr p off, data := d, view1 := v1, foreign := s.foreignWrite o p off, keep := keep } false).contend
          p (s.foreignWrite o p off) := by
  simp only [State.fabricWrite, err, pageOf_hdr p off h, hdr_mod p off h, hm, Bool.false_eq_true, if_false]

/-- A write of a header register by an origin that may make accesses is served at once, on every page (R20, R30). -/
theorem execRegisterWrite_header {s : State} {o : Origin} {p : Page} {off : Nat} {d : Word} (may : s.mayAccess o = true)
    (h : off ≤ 0x034) (h4 : off % 4 = 0) :
    exec (.registerWrite o (BitVec.ofNat 24 (hdr p off)) d) s = .next
      ((s.applyWrite { origin := o, addr := hdr p off, data := d, view1 := s.view1At o (hdr p off), foreign := s.foreignWrite o p off, keep := 0 } false).contend
          p (s.foreignWrite o p off)) := by
  show execRegisterWrite o _ d s = _
  simp only [execRegisterWrite, may, if_true, toNat_hdr (show off < 0x1000 by omega)]
  rw [fabricWrite_atOnce (by omega) (accessErr_header s _ _ h h4) (isMoon_header (by omega))]

/-! ### A header write that a rule turns away -/

/-- What a refused write still does concerns block registers alone. -/
theorem State.turnedAway_header {s : State} {p : Page} {off : Nat} (h : off < 0x100) : s.turnedAway p off = s := by
  simp (disch := decide) only [State.turnedAway, header_beq_block h, Bool.and_false, Bool.false_eq_true, if_false]

/-- A whole write of a header register that a rule turns away is entered with IGNORED and the data, and nothing else follows (R41). -/
theorem State.applyWrite_header_ignored {s : State} {o : Origin} {p : Page} {off : Nat} {d : Word} {v1 foreign posted : Bool} (h : off < 0x100)
    (hr : s.writeResult o p off (s.contents (hdr p off)) d = .none (s.contents (hdr p off))) :
    s.applyWrite { origin := o, addr := hdr p off, data := d, view1 := v1, foreign := foreign, keep := 0 } posted
      = s.jAppend (originCode o) (b2n foreign * fForeign + fIgnored + b2n posted * fPosted + fData)
          (hdr p off) (s.contents (hdr p off)) d := by
  simp only [State.applyWrite, pageOf_hdr p off (by omega), hdr_mod p off (by omega), whole_word, view1Data_header _ d h, ite_self, hr,
    WriteResult.none, b2n, Nat.one_mul, if_true]
  exact turnedAway_header h

/-- FENCE with a wrong KEY is turned away, on any page (R31). -/
theorem State.writeResult_fence_wrongKey (s : State) (o : Origin) (p : Page) (old : Word) {d : Word} (h : keyOf d ≠ keyFence) :
    s.writeResult o p hFence old d = .none old := by
  have hk : (keyOf d != keyFence) = true := bne_iff_ne.mpr h
  show s.headerResult o p hFence old d = _
  exact if_pos hk

/-! ### What an entry with IGNORED, and the flags of a foreign write, leave unchanged -/

/-- An entry with IGNORED or BUS_ERR changes no register but the journal's own INT_STATUS: CHANGE_SEQ does not follow it (02 Table 16). -/
theorem State.reg_jAppend_ignored (s : State) {o fl a b : Nat} {x y : Word} (hf : (fl &&& (fIgnored + fBusErr) == 0) = false)
    (hb : b ≠ hdr (.dev .jrnl) hIntStatus) : (s.jAppend o fl a x y).reg b = s.reg b := by
  simp only [State.jAppend, State.when, hf, Bool.and_false, Bool.false_eq_true, if_false]
  split
  · exact reg_setBit_ne _ _ _ hb
  · rfl

/-- A foreign write's flags stand in LOCK and INT_STATUS of its page (R39). -/
theorem State.reg_contend_ne {s : State} {p : Page} {foreign : Bool} {b : Nat}
    (hb : ¬ (foreign = true ∧ (b = hdr p hLock ∨ b = hdr p hIntStatus))) : (s.contend p foreign).reg b = s.reg b := by
  cases foreign with
  | false => rfl
  | true =>
    obtain ⟨hl, hi⟩ := not_or.mp fun h => hb ⟨rfl, h⟩
    exact (reg_setBit_ne _ _ _ hi).trans (reg_setBit_ne _ _ _ hl)

/-- What follows an entry and leaves the journal alone leaves it the newest. -/
theorem Entered.of_jrnl {s u t : State} {o a fl : Nat} {x y : Word} (h : Entered s u o a x y fl) (hj : t.jrnl = u.jrnl) :
    Entered s t o a x y fl := by
  unfold Entered State.newest at *
  rw [hj]
  exact h

/-! ### The obligation -/

/-- Settles O12: the header serves the write on every page, the key turns it away, and an entry with IGNORED moves no register but the journal's INT_STATUS. -/
theorem wrongFenceKeyChangesNothing : Obligations.WrongFenceKeyChangesNothing := by
  unfold Obligations.WrongFenceKeyChangesNothing
  intro o p d s may hk
  have he := execRegisterWrite_header (p := p) (off := hFence) (d := d) may (by decide) (by decide)
  rw [applyWrite_header_ignored (by decide) (s.writeResult_fence_wrongKey o p _ hk)] at he
  refine ⟨_, he, ?_, ?_, fun a ha => ?_⟩
  · exact (entered_jAppend s s _ _ _ _ _ rfl rfl).of_jrnl (un_contend .jrnl rfl)
  · exact un_contend.after rfl un_jAppend
  · obtain ⟨hi, hl⟩ := not_or.mp ha
    rw [reg_contend_ne hl]
    refine reg_jAppend_ignored s ?_ hi
    cases s.foreignWrite o p hFence <;> rfl

end Sys2Proof.Machine
end

section
/-! PROOFS. The window of the capture log (R307): the registers that a load writes, what they show, and that a load writes no other. -/

namespace Sys2Proof.Machine

open State

/-! ### Frames of registers -/

theorem RegFrame.mono {P Q : Nat → Prop} {s t : State} (h : RegFrame P s t) (hpq : ∀ a, P a → Q a) : RegFrame Q s t :=
  fun a ha => h a (mt (hpq a) ha)

theorem RegFrame.trans {P : Nat → Prop} {s u t : State} (h : RegFrame P s u) (k : RegFrame P u t) : RegFrame P s t :=
  fun a ha => (k a ha).trans (h a ha)

theorem RegFrame.of_regs {P : Nat → Prop} {s t : State} (h : t.regs = s.regs) : RegFrame P s t := fun a _ => by
  unfold State.reg
  rw [h]

theorem RegFrame.setReg {P : Nat → Prop} {s : State} {a : Nat} (v : Word) (h : P a) : RegFrame P s (s.setReg a v) :=
  fun _ hb => reg_setReg_ne _ _ fun e => hb (e ▸ h)

/-! ### Registers written in a row -/

section
variable {α : Type} {f : α → Nat} {v : α → Word} {l : List α}

theorem RegFrame.foldl_setReg {P : Nat → Prop} {s : State} (h : ∀ x ∈ l, P (f x)) :
    RegFrame P s (l.foldl (fun s x => s.setReg (f x) (v x)) s) := by
  induction l generalizing s with
  | nil => exact .of_regs rfl
  | cons x r ih =>
    obtain ⟨hx, hr⟩ := List.forall_mem_cons.mp h
    exact (RegFrame.setReg _ hx).trans (ih hr)

/-- Of registers written in a row, each at an address of its own, every one reads as written. -/
theorem State.reg_foldl_setReg_mem {s : State} (hs : Store.Wf resetWord s.regs) (hf : f.Injective) {x : α} (hx : x ∈ l) :
    (l.foldl (fun s x => s.setReg (f x) (v x)) s).reg (f x) = v x := by
  induction l generalizing s with
  | nil => cases hx
  | cons y r ih =>
    by_cases hr : x ∈ r
    · exact ih (regs_setReg_wf hs _ _) hr
    · obtain rfl := (List.mem_cons.mp hx).resolve_right hr
      have later : RegFrame (· ≠ f x) (s.setReg (f x) (v x)) (r.foldl (fun s x => s.setReg (f x) (v x)) (s.setReg (f x) (v x))) :=
        .foldl_setReg fun y hy e => hr (hf e ▸ hy)
      exact (later _ (not_not_intro rfl)).trans (reg_setReg_same _ hs _ _)
end

/-! ### Bits of a register -/

/-- A bit of a register is the bit of its word. -/
theorem State.bit_eq_testBit (s : State) (a i : Nat) : s.bit a i = (s.reg a).toNat.testBit i := by
  rw [Nat.testBit_eq_decide_div_mod_eq, State.bit, State.fld, bits, Nat.add_sub_cancel_left, pow_one, beq_eq_decide]

theorem testBit_bitList (l : List Bool) (i : Nat) : (bitList l).testBit i = l.getD i false := by
  induction l generalizing i with
  | nil => exact Nat.zero_testBit i
  | cons b r ih =>
    cases i with
    | zero => cases b <;> simp [bitList, b2n, Nat.testBit_zero]
    | succ i =>
      have half : (b2n b + 2 * bitList r) / 2 = bitList r := by cases b <;> simp [b2n, Nat.add_mul_div_left]
      rw [bitList, Nat.testBit_succ, half, ih, List.getD_cons_succ]

/-! ### What the window shows -/

/-- The registers of the window: RD_SEQ, STATUS and the ENTRY words (R310). -/
def capwRegs (a : Nat) : Prop := a = Reg.capwRdSeq ∨ a = Reg.capwStatus ∨ ∃ i, i < 64 ∧ a = Reg.capwEntryWord i

theorem capwRegs.bounds {a : Nat} (h : capwRegs a) : 0x21100 ≤ a ∧ a ≤ 0x212FC := by
  rcases h with h | h | ⟨i, hi, h⟩ <;> simp only [Reg.capwRdSeq, Reg.capwStatus, Reg.capwEntryWord] at h <;> omega

/-- In t the window shows the 16 entries of the log of s from q (R307). -/
def ShowsWindow (s t : State) (q : Word) : Prop :=
  t.reg Reg.capwRdSeq = q
  ∧ (∀ e : Fin 16, t.bit Reg.capwStatus e.val = (s.capAt (q + BitVec.ofNat 32 e.val)).isSome)
  ∧ ∀ (e : Fin 16) (w : Fin 4), t.reg (0x21000 + 0x200 + 16 * e.val + 4 * w.val) =
      BitVec.extractLsb' (96 - 32 * w.val) 32 ((s.capAt (q + BitVec.ofNat 32 e.val)).getD 0)

/-- The word of the window's place i. -/
def State.capwWord (s : State) (q : Word) (i : Nat) : Word :=
  BitVec.extractLsb' (96 - 32 * (i % 4)) 32 ((s.capAt (q + BitVec.ofNat 32 (i / 4))).getD 0)

/-- What the log holds depends on its entries and on WR_SEQ alone. -/
theorem State.capAt_congr {s u : State} (hc : u.cap = s.cap) (hw : u.reg Reg.capWrSeq = s.reg Reg.capWrSeq) (q : Word) :
    u.capAt q = s.capAt q := by
  unfold State.capAt
  rw [hc, hw]

/-- The window of a state with the same log. -/
theorem ShowsWindow.of_log {s u t : State} {q : Word} (h : ShowsWindow u t q) (hc : u.cap = s.cap)
    (hw : u.reg Reg.capWrSeq = s.reg Reg.capWrSeq) : ShowsWindow s t q := by
  unfold ShowsWindow at h
  simp only [capAt_congr hc hw] at h
  exact h

/-- The window shows the same as long as its registers stand. -/
theorem ShowsWindow.of_frame {P : Nat → Prop} {s u t : State} {q : Word} (h : ShowsWindow s u q) (hf : RegFrame P u t)
    (hp : ∀ a, capwRegs a → ¬ P a) : ShowsWindow s t q := by
  obtain ⟨rd, valid, words⟩ := h
  refine ⟨(hf _ (hp _ (.inl rfl))).trans rd, fun e => ?_, fun e w => ?_⟩
  · rw [← valid e, bit_eq_testBit, bit_eq_testBit, hf _ (hp _ (.inr (.inl rfl)))]
  · refine (hf _ (hp _ (.inr (.inr ⟨4 * e.val + w.val, ?_, ?_⟩)))).trans (words e w)
    · omega
    · simp only [Reg.capwEntryWord]; omega

/-! ### A load of the window -/

/-- A load writes STATUS, then the 64 words in a row. -/
theorem State.capwLoad_eq (s : State) : s.capwLoad =
    (List.range 64).foldl (fun t i => t.setReg (Reg.capwEntryWord i) (s.capwWord (s.reg Reg.capwRdSeq) i))
      (s.setReg Reg.capwStatus (BitVec.ofNat 32 (bitList ((List.range 16).map fun e => (s.capAt (s.reg Reg.capwRdSeq + BitVec.ofNat 32 e)).isSome)))) := by
  have word (q : Word) {i : Nat} (hi : i ∈ List.range 64) :
      BitVec.truncate 32 (((((List.range 16).map fun e => s.capAt (q + BitVec.ofNat 32 e)).getD (i / 4) none).getD 0) >>> (96 - 32 * (i % 4)))
        = s.capwWord q i := by
    have he : i / 4 < 16 := by have := List.mem_range.mp hi; omega
    simp only [List.getD_eq_getElem?_getD, List.getElem?_map, List.getElem?_range he, Option.map_some, Option.getD_some,
      capwWord]
    exact BitVec.eq_of_toNat_eq (by simp [BitVec.extractLsb'_toNat])
  unfold State.capwLoad
  simp only [List.map_map, Function.comp_def]
  exact List.foldl_ext _ _ _ fun t i hi => by rw [word _ hi]

theorem State.capwLoad_frame (s : State) : RegFrame (fun a => a = Reg.capwStatus ∨ ∃ i, i < 64 ∧ a = Reg.capwEntryWord i) s s.capwLoad := by
  rw [capwLoad_eq]
  exact (RegFrame.setReg _ (.inl rfl)).trans (.foldl_setReg fun i hi => .inr ⟨i, List.mem_range.mp hi, rfl⟩)

theorem capwEntryWord_injective : Function.Injective Reg.capwEntryWord := fun i j (h : 0x21200 + 4 * i = 0x21200 + 4 * j) => by omega

/-- The words leave STATUS as the load wrote it. -/
theorem State.capwLoad_status {s : State} (hs : Store.Wf resetWord s.regs) : s.capwLoad.reg Reg.capwStatus =
    BitVec.ofNat 32 (bitList ((List.range 16).map fun e => (s.capAt (s.reg Reg.capwRdSeq + BitVec.ofNat 32 e)).isSome)) := by
  have below (i : Nat) : Reg.capwEntryWord i ≠ Reg.capwStatus := by simp only [Reg.capwStatus, Reg.capwEntryWord]; omega
  rw [capwLoad_eq]
  exact (RegFrame.foldl_setReg (P := (· ≠ Reg.capwStatus)) (fun i _ => below i) _ (not_not_intro rfl)).trans (reg_setReg_same _ hs _ _)

/-- A load shows the 16 entries from RD_SEQ (R307). -/
theorem State.capwLoad_shows {s : State} (hs : Store.Wf resetWord s.regs) : ShowsWindow s s.capwLoad (s.reg Reg.capwRdSeq) := by
  refine ⟨capwLoad_frame s _ ?_, fun e => ?_, fun e w => ?_⟩
  · rintro (h | ⟨i, -, h⟩)
    · exact absurd h (by decide)
    · simp only [Reg.capwRdSeq, Reg.capwEntryWord] at h; omega
  · rw [bit_eq_testBit, capwLoad_status hs, BitVec.toNat_ofNat, Nat.testBit_mod_two_pow, testBit_bitList]
    simp [List.getD_eq_getElem?_getD, show e.val < 32 by omega]
  · have place : 0x21000 + 0x200 + 16 * e.val + 4 * w.val = Reg.capwEntryWord (4 * e.val + w.val) := by
      simp only [Reg.capwEntryWord]; omega
    rw [place, capwLoad_eq, reg_foldl_setReg_mem (regs_setReg_wf hs _ _) capwEntryWord_injective (List.mem_range.mpr (by omega)),
      capwWord, show (4 * e.val + w.val) % 4 = w.val by omega, show (4 * e.val + w.val) / 4 = e.val by omega]

/-! ### RD_SEQ written, and advanced by a read -/

theorem State.capwAdvance_frame (s : State) : RegFrame capwRegs s s.capwAdvance :=
  (RegFrame.setReg _ (.inl rfl)).trans ((capwLoad_frame _).mono fun _ h => .inr h)

/-- The advance shows the next 16 entries (R307). -/
theorem State.capwAdvance_shows {s : State} (hs : Store.Wf resetWord s.regs) : ShowsWindow s s.capwAdvance (s.reg Reg.capwRdSeq + 16) := by
  have h := capwLoad_shows (regs_setReg_wf hs Reg.capwRdSeq (s.reg Reg.capwRdSeq + 16))
  rw [reg_setReg_same _ hs] at h
  exact h.of_log rfl (reg_setReg_ne _ _ (by decide))

/-- A write of RD_SEQ is taken as it stands (R310). -/
theorem State.writeResult_capwRdSeq (s : State) (o : Origin) (old d : Word) : s.writeResult o (.dev .capw) 0x100 old d = .to d := by
  obtain ⟨r, hr, hw, hrw, hw1c, hwo⟩ : ∃ r, regRow (.dev .capw) 0x100 = some r ∧ r.writable = true ∧ r.rw = BitVec.allOnes 32 ∧ r.w1c = 0 ∧ r.wo = 0 :=
    ⟨_, rfl, by decide⟩
  have taken : r.after old d = d := by
    rw [RegRow.after, hrw, BitVec.and_allOnes, BitVec.not_allOnes, hw1c]
    show (old &&& 0#32 &&& ~~~(0#32 &&& d)) ||| d = d
    rw [BitVec.and_zero, BitVec.zero_and, BitVec.zero_or]
  show s.blockResult o (.dev .capw) 0x100 old d = _
  simp [blockResult, hr, hw, hwo, devTurned, blockNew, taken, WriteResult.to]

theorem State.storeReg_capwRdSeq (s : State) (o : Origin) (d w : Word) : s.storeReg o (.dev .capw) 0x100 d w = s.setReg Reg.capwRdSeq w := rfl

theorem State.wrote_capwRdSeq (s : State) (o : Origin) (old d : Word) (fe : Bool) : s.wrote o (.dev .capw) 0x100 old d fe = s.capwLoad := rfl

/-- A write of RD_SEQ that reaches its register: stored, entered, and the window loads (R41, R307). -/
theorem State.applyWrite_capwRdSeq (s : State) (o : Origin) (d : Word) (v1 foreign posted : Bool) :
    ∃ fl old, s.applyWrite { origin := o, addr := hdr (.dev .capw) 0x100, data := d, view1 := v1, foreign := foreign, keep := 0 } posted
      = ((s.setReg Reg.capwRdSeq d).jAppend (originCode o) fl (hdr (.dev .capw) 0x100) old d).capwLoad := by
  simp only [applyWrite, pageOf_hdr (.dev .capw) 0x100 (by decide), hdr_mod (.dev .capw) 0x100 (by decide), whole_word, view1Data, ite_self,
    writeResult_capwRdSeq, WriteResult.to, Bool.false_eq_true, if_false, storeReg_capwRdSeq, wrote_capwRdSeq]
  exact ⟨_, _, rfl⟩

/-! ### A write that takes effect at once -/

/-- A write of a register that is not moon-copied, by an origin that may make accesses, is the fabric's write alone (R35). -/
theorem State.writeKeep_atOnce {s : State} {o : Origin} {p : Page} {off : Nat} {d keep : Word} (may : s.mayAccess o = true)
    (h : off < 0x1000) (hm : isMoon p off = false) :
    s.writeKeep o (hdr p off) d keep = (s.fabricWrite o (s.view1At o (hdr p off)) (hdr p off) d keep).1 := by
  simp only [writeKeep, may, pageOf_hdr p off h, hdr_mod p off h, Option.any_some, hm, State.when, Bool.not_true, Bool.false_eq_true, if_false]

/-- The registers that the flags of a foreign write stand in (R39). -/
theorem State.contend_frame (s : State) (p : Page) (foreign : Bool) :
    RegFrame (fun a => foreign = true ∧ (a = hdr p hLock ∨ a = hdr p hIntStatus)) s (s.contend p foreign) := fun _ h => reg_contend_ne h

/-- An entry moves CHANGE_SEQ of its page and the journal's INT_STATUS alone (02 Table 16). -/
theorem State.jAppend_frame (s : State) (o fl : Nat) {p : Page} {off : Nat} (h : off < 0x1000) (x y : Word) :
    RegFrame (entryRegs p) s (s.jAppend o fl (hdr p off) x y) := by
  have hp : pageAt (hdr p off) = pageBase p := by
    rcases p with p | ⟨n, p⟩ <;> cases p <;> simp only [pageAt, hdr, pageBase, devBase, chOff] <;> omega
  intro a ha
  obtain ⟨hc, hi⟩ := not_or.mp ha
  exact reg_jAppend_ne s _ _ _ _ _ (by rw [hp]; exact hc) hi

end Sys2Proof.Machine
end

section
/-! PROOFS. Accesses to the capture window (R307): a write of RD_SEQ, a read of its last word, and a read of any of its words. -/

namespace Sys2Proof.Machine

open State

/-! ### A write of RD_SEQ -/

/-- CAPTURE_READ_LOAD where the fabric serves it: RD_SEQ stored and entered, the window loaded, and the flags of a foreign write (R39, R307). -/
theorem exec_captureReadLoad {s : State} {o : Origin} {d : Word} (may : s.mayAccess o = true)
    (err : s.accessErr (s.view1At o Reg.capwRdSeq) Reg.capwRdSeq true = none) :
    ∃ fl old, exec (.captureReadLoad o d) s = .next
      (((s.setReg Reg.capwRdSeq d).jAppend (originCode o) fl (hdr (.dev .capw) 0x100) old d).capwLoad.contend (.dev .capw)
        (s.foreignWrite o (.dev .capw) 0x100)) := by
  obtain ⟨fl, old, ha⟩ := applyWrite_capwRdSeq s o d (s.view1At o Reg.capwRdSeq) (s.foreignWrite o (.dev .capw) 0x100) false
  have he := writeKeep_atOnce (p := .dev .capw) (off := 0x100) (d := d) (keep := 0) may (by decide) (by decide)
  rw [fabricWrite_atOnce (by decide) err (by decide)] at he
  exact ⟨fl, old, congrArg Host.Outcome.next (he.trans (congrArg (State.contend · _ _) ha))⟩

/-- RD_SEQ just stored and entered: it reads as written, the log stands as it was, and no register beside the entry's moved. -/
theorem State.rdSeq_entered {s u : State} {o fl : Nat} {old d : Word} (hs : s.Canonical)
    (hu : (s.setReg Reg.capwRdSeq d).jAppend o fl (hdr (.dev .capw) 0x100) old d = u) :
    u.Canonical ∧ u.reg Reg.capwRdSeq = d ∧ Unchanged [.regs, .jrnl] s u
      ∧ RegFrame (fun a => a = Reg.capwRdSeq ∨ entryRegs (.dev .capw) a) s u := by
  subst hu
  have entered := jAppend_frame (s.setReg Reg.capwRdSeq d) o fl (p := .dev .capw) (off := 0x100) (by decide) old d
  refine ⟨(keeps_jAppend (keeps_setReg (.refl s))).canonical hs, ?_, un_jAppend.after rfl (un_setReg.after rfl (.refl _ s)), ?_⟩
  · exact (entered _ (not_or.mpr ⟨by decide, by decide⟩)).trans (reg_setReg_same _ hs.regs _ _)
  · exact (RegFrame.setReg d (.inl rfl)).trans (entered.mono fun _ => .inr)

theorem captureReadLoad_shows {s : State} {o : Origin} {d : Word} (hs : s.Canonical) (may : s.mayAccess o = true)
    (err : s.accessErr (s.view1At o Reg.capwRdSeq) Reg.capwRdSeq true = none) :
    ∃ t, exec (.captureReadLoad o d) s = .next t ∧ ShowsWindow s t d ∧ Unchanged [.regs, .jrnl] s t
      ∧ RegFrame (fun a => capwRegs a ∨ entryRegs (.dev .capw) a
          ∨ (s.foreignWrite o (.dev .capw) 0x100 = true ∧ (a = hdr (.dev .capw) hLock ∨ a = hdr (.dev .capw) hIntStatus))) s t := by
  obtain ⟨fl, old, he⟩ := exec_captureReadLoad (d := d) may err
  generalize hu : (s.setReg Reg.capwRdSeq d).jAppend (originCode o) fl (hdr (.dev .capw) 0x100) old d = u at he
  obtain ⟨canonical, rd, unchanged, stored⟩ := rdSeq_entered hs hu
  have loaded : ShowsWindow s u.capwLoad d :=
    (rd ▸ capwLoad_shows canonical.regs).of_log (unchanged .cap rfl)
      (stored _ (not_or.mpr ⟨by decide, not_or.mpr ⟨by decide, by decide⟩⟩))
  refine ⟨_, he, loaded.of_frame (contend_frame _ _ _) ?_, un_contend.after rfl (un_capwLoad.after rfl unchanged), ?_⟩
  · rintro a hw ⟨-, rfl | rfl⟩ <;> exact absurd hw.bounds (by decide)
  · refine (stored.mono ?_).trans (((capwLoad_frame u).mono ?_).trans ((contend_frame _ _ _).mono ?_))
    · exact fun a => Or.imp .inl .inl
    · exact fun a h => .inl (.inr h)
    · exact fun a h => .inr (.inr h)

/-! ### A read of the last word -/

theorem captureReadAdvance_shows {s : State} {o : Origin} (hs : s.Canonical) (may : s.mayAccess o = true)
    (err : s.accessErr (s.view1At o (Reg.capwEntryWord 63)) (Reg.capwEntryWord 63) false = none) :
    ∃ t, exec (.captureReadAdvance o) s = .next t ∧ ShowsWindow s t (s.reg Reg.capwRdSeq + 16) ∧ Unchanged [.regs] s t
      ∧ RegFrame capwRegs s t := by
  refine ⟨s.capwAdvance, ?_, capwAdvance_shows hs.regs, un_capwAdvance, capwAdvance_frame s⟩
  show execCaptureReadAdvance o s = _
  rw [execCaptureReadAdvance, if_pos may, fabricRead, err]
  rfl

/-! ### A read of one word -/

theorem capwEntryWord_eq_hdr (i : Nat) : Reg.capwEntryWord i = hdr (.dev .capw) (0x200 + 4 * i) := by
  simp only [Reg.capwEntryWord, hdr, pageBase, devBase]
  omega

theorem pageOf_capwWord {i : Nat} (hi : i < 64) : pageOf (Reg.capwEntryWord i) = some (.dev .capw) :=
  capwEntryWord_eq_hdr i ▸ pageOf_hdr (.dev .capw) _ (by omega)

/-- The ENTRY words of CAPW are registers that no snapshot holds (R310, R424). -/
theorem regRow_capwWord : ∀ i < 64, (regRow (.dev .capw) (0x200 + 4 * i)).map RegRow.held = some false := by decide

/-- A word of the window reads as stored where its page is not fenced: no snapshot holds it, it is not moon-copied, and its page has one view (R29, R32, R34, R37). -/
theorem State.fabricRead_capwWord {s : State} (o : Origin) {i : Nat} (hi : i < 64) (hf : s.fenced (.dev .capw) = false) :
    s.fabricRead o (Reg.capwEntryWord i) = (s.afterRead (Reg.capwEntryWord i), rOk, s.reg (Reg.capwEntryWord i)) := by
  have hp := pageOf_capwWord hi
  have ho : Reg.capwEntryWord i % 0x1000 = 0x200 + 4 * i := capwEntryWord_eq_hdr i ▸ hdr_mod (.dev .capw) _ (by omega)
  obtain ⟨r, hr, held⟩ := Option.map_eq_some_iff.mp (regRow_capwWord i hi)
  have err (v1 : Bool) : s.accessErr v1 (Reg.capwEntryWord i) false = none := by
    have reg : hasReg v1 (.dev .capw) (0x200 + 4 * i) = true := by
      simp [hasReg, implemented, hr, view1Absent, show (0x200 + 4 * i) % 4 = 0 by omega]
    simp [accessErr, hp, ho, hf, reg, show ¬ 0x200 + 4 * i < 0x100 by omega, regPower, pagePower]
  have read : s.readReg o (Reg.capwEntryWord i) = s.reg (Reg.capwEntryWord i) := by
    have one : s.view1 o (.dev .capw) = false := by
      cases h : originView o <;> simp [view1, h, show hasView1 (.dev .capw) = false by decide]
    have stored : s.contents (Reg.capwEntryWord i) = s.reg (Reg.capwEntryWord i) := by
      simp [contents, hp, ho, show 0x200 + 4 * i ≠ hStatus by unfold hStatus; omega, show 0x200 + 4 * i ≠ hLock by unfold hLock; omega]
    simp [readReg, hp, ho, isHeld, hr, held, regPower, pagePower, isMoon, pageAllMoon, one, stored]
  rw [fabricRead, err, read]

end Sys2Proof.Machine
end

section
/-! PROOFS. A burst read over the capture window (R64, R307): the frame, its 64 reads, and what they leave. -/

namespace Sys2Proof.Machine

open State

/-! ### What a port holds -/

theorem State.mapPort_mapPort (s : State) (p : SPort) (f g : Port → Port) : (s.mapPort p f).mapPort p g = s.mapPort p (g ∘ f) := by
  cases p <;> rfl

@[simp] theorem State.sport_mapPort (s : State) (p : SPort) (f : Port → Port) : (s.mapPort p f).sport p = f (s.sport p) := by
  cases p <;> rfl

@[simp] theorem State.reg_mapPort (s : State) (p : SPort) (f : Port → Port) (a : Nat) : (s.mapPort p f).reg a = s.reg a :=
  congrArg (Store.get resetWord · a) (un_mapPort .regs rfl)

/-- A port that stays in one page is left as by its last access there. -/
theorem State.touched_touched (s : State) (p : SPort) {a b : Nat} (h : pageOf a = pageOf b) :
    (s.touched p a).touched p b = s.touched p b := by
  cases p <;> simp only [touched, mapPort, servedFor, h]

@[simp] theorem State.reg_touched (s : State) (p : SPort) (a b : Nat) : (s.touched p a).reg b = s.reg b :=
  congrArg (Store.get resetWord · b) (un_touched .regs rfl)

@[simp] theorem State.fenced_touched (s : State) (p : SPort) (a : Nat) (q : DevPage) : (s.touched p a).fenced (.dev q) = s.fenced (.dev q) := by
  simp only [fenced, ownFence, bit, fld, reg_touched]

/-! ### A frame of nine bytes -/

theorem mosiByte_frame2 {op : Nat} (h : op < 8) (tag : BitVec 5) (a : Addr) (d : Word) (crc : Byte) :
    mosiByte (frame2 op tag a d crc) 0 = op * 32 + tag.toNat := by
  have := tag.isLt
  show (BitVec.ofNat 8 (op * 32 + tag.toNat)).toNat = _
  rw [BitVec.toNat_ofNat]
  omega

theorem mosiNum_frame2_addr (op : Nat) (tag : BitVec 5) (a : Addr) (d : Word) (crc : Byte) :
    mosiNum (frame2 op tag a d crc) 1 3 = a.toNat := by
  have := a.isLt
  simp [mosiNum, mosiByte, frame2, beBytes, List.range_succ]
  omega

theorem mosiNum_frame2_data (op : Nat) (tag : BitVec 5) (a : Addr) (d : Word) (crc : Byte) :
    mosiNum (frame2 op tag a d crc) 4 4 = d.toNat := by
  have := d.isLt
  simp [mosiNum, mosiByte, frame2, beBytes, List.range_succ]
  omega

theorem take_frame2 (op : Nat) (tag : BitVec 5) (a : Addr) (d : Word) (crc : Byte) :
    (frame2 op tag a d crc).take 9 = frame2 op tag a d crc := rfl

/-- A frame of 72 edges that a ready port hears with a right CRC is executed (R56, R59). -/
theorem State.frame_hears {s : State} {p : SPort} {m : List Byte} {low : Nat} (h : s.hears p low) (hm : spiCrc (m.take 9) = 0) :
    s.frame p 72 m low = (s.heard p 72 false low).exec2 p 0 m := by
  obtain ⟨hears, up, ready, late⟩ := h
  have hg : groupsOf 72 = some 0 := by decide
  have up' := ready
  simp only [portReady, portUp, Bool.and_eq_true, beq_iff_eq, Bool.not_eq_true'] at up'
  obtain ⟨⟨⟨phase, -⟩, unfenced⟩, -⟩ := up'
  simp [frame, hears, unfenced, phase, late, up, ready, frameEnds, hg, hm, heard, mapPort_mapPort, Function.comp_def]

/-- A BURST_READ frame of at most 64 registers (R64). -/
theorem State.exec2_burstRead (s : State) (p : SPort) (k : Nat) (tag : BitVec 5) (a : Addr) {d : Word} (crc : Byte) (h : bits d 31 6 = 0) :
    s.exec2 p k (frame2 3 tag a d crc) = s.frameBurstRead p tag a.toNat (bits d 5 0 + 1) := by
  have := tag.isLt
  have op : (3 * 32 + tag.toNat) / 32 = 3 := by omega
  have tg : BitVec.ofNat 5 ((3 * 32 + tag.toNat) % 32) = tag := BitVec.eq_of_toNat_eq (by rw [BitVec.toNat_ofNat]; omega)
  simp only [exec2, mosiByte_frame2 (show 3 < 8 by decide), mosiNum_frame2_addr, mosiNum_frame2_data, op, tg, BitVec.ofNat_toNat,
    BitVec.setWidth_eq, h, beq_self_eq_true, if_true]

/-! ### A burst over the window -/

theorem State.afterRead_capwWord (s : State) {i : Nat} (hi : i < 63) : s.afterRead (Reg.capwEntryWord i) = s := by
  have h1 : (Reg.capwEntryWord i == Reg.jrnlEntryW 7) = false := beq_false_of_ne (by simp only [Reg.capwEntryWord, Reg.jrnlEntryW]; omega)
  have h2 : (Reg.capwEntryWord i == Reg.capwEntryWord 63) = false := beq_false_of_ne (by simp only [Reg.capwEntryWord]; omega)
  rw [afterRead, h1, h2]
  rfl

/-- A burst over the words from place i to the last: the words as stored, and the window advanced by the read of the last (R64, R307). -/
theorem State.burstRead_capwWords (p : SPort) {k : Nat} : ∀ {s : State} {i : Nat}, i + k = 63 → s.fenced (.dev .capw) = false →
    s.burstRead p (Reg.capwEntryWord i) (k + 1)
      = ((s.touched p (Reg.capwEntryWord 63)).capwAdvance, (List.range' i (k + 1)).map (fun j => s.reg (Reg.capwEntryWord j)), rOk) := by
  induction k with
  | zero =>
    intro s i hi hf
    obtain rfl : i = 63 := hi
    rw [burstRead, fabricRead_capwWord (i := 63) _ (by decide) ((fenced_touched ..).trans hf), reg_touched]
    rfl
  | succ k ih =>
    intro s i hi hf
    have next : (Reg.capwEntryWord i + 4) % 2 ^ 24 = Reg.capwEntryWord (i + 1) := by simp only [Reg.capwEntryWord]; omega
    have again : (s.touched p (Reg.capwEntryWord i)).touched p (Reg.capwEntryWord 63) = s.touched p (Reg.capwEntryWord 63) :=
      touched_touched _ _ ((pageOf_capwWord (by omega)).trans (pageOf_capwWord (by decide)).symm)
    have rest := ih (s := s.touched p (Reg.capwEntryWord i)) (i := i + 1) (by omega) ((fenced_touched ..).trans hf)
    simp only [again, reg_touched] at rest
    rw [burstRead, fabricRead_capwWord (i := i) _ (by omega) ((fenced_touched ..).trans hf), afterRead_capwWord _ (by omega), next]
    dsimp only
    rw [rest, reg_touched, List.range'_succ (s := i)]
    rfl

/-! ### A burst read of the window -/

theorem State.burstCount_frame (s : State) (p : SPort) (k : Nat) : RegFrame (· = portStatReg p) s (s.burstCount p k) :=
  (RegFrame.setReg (P := (· = portStatReg p)) _ rfl).trans (.of_regs (un_mapPort .regs rfl))

theorem State.fld_burstCount {s : State} (hs : Store.Wf resetWord s.regs) (p : SPort) (k : Nat) :
    (s.burstCount p k).fld (portStatReg p) 6 0 = k % 128 := by
  have h : (s.burstCount p k).regs = (s.setFld (portStatReg p) 6 0 k).regs := un_mapPort .regs rfl
  unfold fld reg
  rw [h]
  exact fld_setFld_same s hs _ _ _ _ (by decide) (by decide)

/-- A port as a burst over the whole window leaves it: the reply shows its first word, the buffer the others (R64). -/
def windowRead (word : Nat → Word) (r : Report) (x : Port) : Port :=
  { x with unreported := some r, buf := (List.range 64).tail.map word }

/-- A burst over the whole window (R64, R307). -/
theorem State.frameBurstRead_window {s : State} (p : SPort) (tag : BitVec 5) (hf : s.fenced (.dev .capw) = false) :
    let u := (s.touched p (Reg.capwEntryWord 63)).capwAdvance.burstCount p 64
    s.frameBurstRead p tag (Reg.capwEntryWord 0) 64 =
      u.mapPort p (windowRead (fun i => s.reg (Reg.capwEntryWord i)) { u.report tag rOk (s.reg (Reg.capwEntryWord 0)) with burst := true }) := by
  rw [frameBurstRead, burstRead_capwWords p (k := 63) rfl hf]
  rfl

/-- What a burst over the whole window leaves (R64, R307). -/
structure ReadWindow (s t : State) (p : SPort) (tag : BitVec 5) : Prop where
  window : ShowsWindow s t (s.reg Reg.capwRdSeq + 16)
  reply : (t.sport p).unreported = some
    { tag := tag, result := rOk, data := s.reg (Reg.capwEntryWord 0), seq := t.seq16, burst := true, doneAt := t.now }
  words : (t.sport p).buf = (List.range 64).tail.map fun i => s.reg (Reg.capwEntryWord i)
  count : t.fld (portStatReg p) 6 0 = 64
  frame : RegFrame (fun a => capwRegs a ∨ a = portStatReg p) s t

theorem State.frameBurstRead_reads {s : State} {p : SPort} {tag : BitVec 5} (hs : s.Canonical) (hf : s.fenced (.dev .capw) = false) :
    ReadWindow s (s.frameBurstRead p tag (Reg.capwEntryWord 0) 64) p tag := by
  rw [frameBurstRead_window p tag hf]
  dsimp only
  have canonical : (s.touched p (Reg.capwEntryWord 63)).Canonical := (keeps_touched (.refl s)).canonical hs
  have shown := capwAdvance_shows canonical.regs
  have moved := capwAdvance_frame (s.touched p (Reg.capwEntryWord 63))
  have counted := burstCount_frame (s.touched p (Reg.capwEntryWord 63)).capwAdvance p 64
  have count := fld_burstCount ((keeps_capwAdvance (.refl _)).canonical canonical).regs p 64
  generalize (s.touched p (Reg.capwEntryWord 63)).capwAdvance.burstCount p 64 = u at counted count
  rw [reg_touched] at shown
  refine ⟨?_, ?_, ?_, ?_, ?_⟩
  · refine (shown.of_log (un_touched .cap rfl) (reg_touched ..)).of_frame (counted.trans (.of_regs (un_mapPort .regs rfl))) ?_
    rintro a hw rfl
    cases p <;> exact absurd hw.bounds (by decide)
  · have jrnl (f : Port → Port) : (u.mapPort p f).jrnl = u.jrnl := un_mapPort .jrnl rfl
    have now (f : Port → Port) : (u.mapPort p f).now = u.now := un_mapPort .now rfl
    rw [sport_mapPort, seq16, jrnl, now]
    rfl
  · rw [sport_mapPort]
    rfl
  · rw [fld, reg_mapPort]
    exact count
  · exact (RegFrame.of_regs (un_touched .regs rfl)).trans ((moved.mono fun _ => .inl).trans
      ((counted.mono fun _ => .inr).trans (.of_regs (un_mapPort .regs rfl))))

/-- What a port holds is no part of what a burst finds at the fabric. -/
theorem ReadWindow.of_mapPort {s t : State} {p : SPort} {tag : BitVec 5} {f : Port → Port} (h : ReadWindow (s.mapPort p f) t p tag) :
    ReadWindow s t p tag := by
  obtain ⟨window, reply, words, count, frame⟩ := h
  simp only [reg_mapPort] at window reply words
  exact ⟨window.of_log (un_mapPort .cap rfl) (reg_mapPort ..), reply, words, count, (RegFrame.of_regs (un_mapPort .regs rfl)).trans frame⟩

/-- V2_BURST_READ over the whole window (R64, R307). -/
theorem v2BurstRead_reads {s : State} {p : SPort} {tag : BitVec 5} {crc : Byte} {low : Nat} (hs : s.Canonical) (hears : s.hears p low)
    (hcrc : spiCrc (frame2 3 tag 0x021200 63 crc) = 0) (hf : s.fenced (.dev .capw) = false) :
    ∃ t, exec (.v2BurstRead p tag 0x021200 63 crc low) s = .next t ∧ ReadWindow s t p tag := by
  refine ⟨(s.heard p 72 false low).frameBurstRead p tag (Reg.capwEntryWord 0) 64, ?_, ?_⟩
  · show execV2BurstRead p tag 0x021200 63 crc low s = _
    rw [execV2BurstRead, frame_hears hears (by rw [take_frame2, hcrc]), exec2_burstRead _ _ _ _ _ _ (by decide)]
    rfl
  · refine .of_mapPort (frameBurstRead_reads ((keeps_mapPort (.refl s)).canonical hs) ?_)
    simpa only [fenced, ownFence, bit, fld, reg_mapPort] using hf

/-! ### The obligation -/

/-- Settles O54: a load writes STATUS and the 64 words in a row from the log as it is at that instant, and the read of the last word, alone or as the last of a burst, loads from RD_SEQ + 16. -/
theorem captureWindowShowsSixteenEntries : Obligations.CaptureWindowShowsSixteenEntries := by
  unfold Obligations.CaptureWindowShowsSixteenEntries
  intro s hs
  refine ⟨fun o d ⟨may, err⟩ => captureReadLoad_shows hs may err, fun o ⟨may, err⟩ => captureReadAdvance_shows hs may err, ?_⟩
  intro p tag crc low hears hcrc hf
  obtain ⟨t, e, window, reply, words, count, frame⟩ := v2BurstRead_reads hs hears hcrc hf
  exact ⟨t, e, window, reply, words, count, frame⟩

end Sys2Proof.Machine
end
